-- ==== Sys2Proof/Word.lean ====
section
/-! DEFINITION. The word types of the Y64 (R1: every register is 32 bits wide, the device is little-endian
throughout) and the plainest arithmetic on numbers: bit fields, saturation, bytes to numbers. -/

namespace Sys2Proof

/-- One register of the device (R1). -/
abbrev Word := BitVec 32

/-- One byte of memory, of a record or of a frame (R1). -/
abbrev Byte := BitVec 8

end Sys2Proof
end

