-- ==== Sys2Proof/Syntax.lean ====
section
/-! DEFINITION. The commands of the Y64, one constructor per row of the command table (spec/opcode_table.json), and the
operand types they carry. The table gives a row no bits and no operands: an operand is what the row's rule says
the command or event is told from outside (an address, a value, a byte string, a pin level, a named unit). -/

namespace Sys2Proof

/-- Who issues a weave request (Table 4.5). -/
inductive Requester where
  | tile (t : Nat)
  | mover (m c : Nat)
  | steward (k encl : Nat)
  | lse (encl : Nat)
  | fusion (encl : Nat)
  | strainer
  | pcie (encl : Nat)
  | mac (m encl : Nat)
  | loom (via encl : Nat)
  | warden
  | security
  | debug
  deriving DecidableEq, Repr

/-- An upset of stored bits met by an access: the protected unit's first local address, the data bits and the check
bits that have flipped, and whether the link ECC reports an uncorrectable transfer (three attempts, R191) or a
corrected one; `reach` is the granule an address fault leads the read to (R183). `flit`: a weave flit of the request whose
address is `unit` fails its parity at the router of this block, or (true) a flit of its response does (R583). -/
structure Upset where
  unit : Nat
  data : List Nat := []
  check : List Nat := []
  linkUe : Bool := false
  linkCe : Bool := false
  reach : Option Nat := none
  flit : Option (Nat × Bool) := none
  deriving DecidableEq, Repr

/-- The atomics of R151. -/
inductive AtomicOp where
  | fetchAdd | swap | compareSwap | minSigned | maxSigned
  deriving DecidableEq, Repr

/-- A lease and its keeper (R163, R166). -/
inductive LeaseRef where
  | commons (addr : Nat)
  | channel (m c : Nat)
  | page (pool seq : Nat)
  | remote (index : Nat)
  | barrier (group rank : Nat)
  deriving DecidableEq, Repr

/-- A lease keeper (§4.8). -/
inductive Keeper where
  | commons (k : Nat)
  | mover (m : Nat)
  | kv
  | loom
  deriving DecidableEq, Repr

/-- A party a seizure order names (R167). -/
inductive Party where
  | block (g : Nat)
  | encl (e : Nat)
  deriving DecidableEq, Repr

/-- A memory array (Table 5.1). -/
inductive ArrayRef where
  | tile (t : Nat)
  | commons (k : Nat)
  | warden
  | dram (m : Nat)
  deriving DecidableEq, Repr

/-- What the outside answers when a block of the device reads beyond it (PCIe outbound space, the Caddy port, a loom
member): the global address, the completion code of Table 0.5 and the bytes. -/
structure ExtData where
  addr : Nat
  status : Nat := 0
  data : List (BitVec 8) := []
  deriving DecidableEq, Repr

/-- How a PCIe request is completed (R675, R676). -/
inductive PcieCpl where
  | success
  | poisoned
  | unsupported
  | abort
  | retry
  deriving DecidableEq, Repr

/-- A TLP that arrives at the PCIe 5.0 port (R673, R674): a memory read or write in a BAR (in the ROOT role the offset is a local
address), the host's setting of Bus Master Enable and MSI-X Enable, or its read of a dword of the configuration space. -/
inductive PcieTlp where
  | read (bar off len : Nat)
  | write (bar off : Nat) (data : List (BitVec 8)) (poisoned : Bool)
  | config (busMaster msixOn : Bool)
  | configSticky (bits : Nat)
  | configRead (dword : Nat)
  deriving DecidableEq, Repr

/-- The command entry an operation runs for: SEQ of queue q of enclosure e (§9.3), plus 2^32 for each earlier enabling of the queue that
left entries in flight. -/
structure EntryRef where
  encl : Nat
  queue : Nat
  seq : Nat
  deriving DecidableEq, Repr

/-- Where a mode request comes from: a queue's entry, or the sideband bus (§1.2). -/
inductive ModeSource where
  | entry (r : EntryRef)
  | sideband
  deriving DecidableEq, Repr

/-- The fields of a tensor engine operation (Table 6.2). -/
structure TeOp where
  pair : Nat := 0
  aOff : Nat := 0
  bOff : Nat := 0
  aStride : Nat := 0
  bStride : Nat := 0
  kblk : Nat := 1
  acc : Nat := 0
  mode : Nat := 0
  drain : Nat := 0
  dOff : Nat := 0
  sat8 : Nat := 0
  deriving DecidableEq, Repr

/-- Number formats a vector conversion names (Table 8.8). -/
inductive VuType where
  | int4 | int8 | int32 | e4m3 | e5m2 | bf16 | fp16 | fp32
  deriving DecidableEq, Repr

/-- The vector operations of R225, by class. Compare and select act together: the lane takes `c` where the comparison
of `a` and `b` holds, else `d`. -/
inductive VuFn where
  | addI | subI | mulLo | mulHi
  | shl | shr | sar | and | or | xor
  | cmpLtI | cmpEqI | cmpLtF
  | selLtI | selEqI | selLtF
  | addF | mulF | fmaF
  | convert (src dst : VuType) (scaled sat8 : Bool)
  | exp2 | rcp | rsqrt
  | shuffle (idx : List Nat)
  | sumI | sumF | maxI | maxF
  | addI16 | subI16 | mulLo16 | mulHi16 | shl16 | shr16 | sar16 | cmpLt16 | cmpEq16 | selLt16 | selEq16
  | load (off : Nat) | store (off : Nat)
  deriving DecidableEq, Repr

/-- A vector instruction: operation, source registers and destination (§6.4). -/
structure VuOp where
  fn : VuFn
  a : Nat := 0
  b : Nat := 0
  c : Nat := 0
  d : Nat := 0
  dst : Nat := 0
  deriving DecidableEq, Repr

/-- A fill entry the kernel gives the prefetch engine: source (in the model's slot, or a global address), length, buffer and layer,
offset in the buffer. -/
structure FillSpec where
  src : Nat
  len : Nat
  buf : Nat := 0
  layer : Nat := 0
  off : Nat := 0
  inSlot : Bool := false
  deriving DecidableEq, Repr

/-- A 130-bit block of a lane (R521): its sync header and its 16 bytes as they travel. -/
structure LaneBlock where
  sync : Nat := 2
  bytes : List (BitVec 8) := []
  deriving DecidableEq, Repr

/-- One point of occupancy evidence in the ego frame at the datum time: FP64 metres, evidence in 1/16 log-odds, its
variance, and the height class. -/
structure EvPoint where
  x : Nat
  y : Nat
  e : Int
  var : Nat := 1
  h : Nat := 0
  deriving DecidableEq, Repr

/-- One detection, or one decoded track slot: contributing streams as a mask, position in the ego frame at the datum time
(FP64 metres), covariance in cm², and what the network says of the object. -/
structure Detection where
  slot : Nat := 0
  sources : Nat := 0
  arrival : Nat := 0
  cls : Nat := 0
  conf : Nat := 0
  x : Nat := 0
  y : Nat := 0
  vx : Int := 0
  vy : Int := 0
  heading : Int := 0
  len : Nat := 0
  wid : Nat := 0
  hgt : Nat := 0
  varXX : Nat := 1
  varYY : Nat := 1
  covXY : Int := 0
  varV : Nat := 0
  deriving DecidableEq, Repr

/-- The network output of one datum (§14.1): its stream, its ARRIVAL, whether it is complete, whether it carries VALIDITY
INVALID, its evidence, and the objects the stream itself saw (for the pair records of quantity TRACK). -/
structure NetOut where
  stream : Nat
  arrival : Nat
  complete : Bool := true
  invalid : Bool := false
  points : List EvPoint := []
  objects : List Detection := []
  deriving DecidableEq, Repr

/-- What reaches the fusion unit for an epoch: network outputs, merged detections (LEDGER) or decoded slots (LATENT), the
WHEEL class's speed in cm/s and yaw rate in mrad/s, whether the assignment result is there, cells of the grid buffer
that read POISONED, and whether the frame reads back as written. -/
structure FusionIn where
  nets : List NetOut := []
  detections : List Detection := []
  wheelV : Int := 0
  wheelW : Int := 0
  assigned : Bool := true
  poisoned : List Nat := []
  readBack : Bool := true
  deriving DecidableEq, Repr

/-- A member as a view lists it (§17.1, R556): node, role (1 MEMBER, 2 COORDINATOR_ELIGIBLE), TUNNEL, its tunnel address
and UDP port, and JUMBO of its MAC 1. -/
structure MemberRec where
  node : Nat
  role : Nat := 1
  tunnel : Bool := false
  addr : Nat := 0
  udp : Nat := 0
  jumbo : Bool := false
  deriving DecidableEq, Repr

/-- An ACTIVE Brikel link between two members: (node, port) at each end. -/
structure LinkRec where
  a : Nat
  ap : Nat
  b : Nat
  bp : Nat
  deriving DecidableEq, Repr

/-- What a JOIN_REQ says of the device that asks (R568): LOOM_ID, its member record, its links and the size its Brikel
group would have. -/
structure JoinRec where
  loomId : Nat
  who : MemberRec
  links : List LinkRec := []
  group : Nat := 1
  deriving DecidableEq, Repr


/-- What a collective's operator descriptor tells the engine (its format belongs to GOL, §9.8): the member's own data,
where the result goes, the size in bytes of the whole operand, element type (0 INT32, 1 FP32, 2 BF16, 3 FP16) and
operation (0 SUM, 1 MIN, 2 MAX). -/
structure CollDesc where
  src : Nat := 0
  dst : Nat := 0
  bytes : Nat := 0
  etype : Nat := 0
  op : Nat := 0
  deriving DecidableEq, Repr


/-- Partial sums of a K split that a kernel's vector unit adds on tile `tile` (R319): `parts` are the TSRAM offsets of the
blocks, each after its K block's number, `n` elements each, INT32 or FP32; the sums go to `dst`. `flips` are upsets of the
additions' paths, by element. -/
structure KSum where
  tile : Nat
  isInt : Bool := false
  n : Nat := 0
  parts : List (Nat × Nat) := []
  dst : Nat := 0
  flips : List (Nat × Nat) := []
  deriving DecidableEq, Repr

/-- The commands of the block: one constructor per row of the command table, with the operands the row needs. -/
inductive Instr where
  /-- POWER_ON_RESET (R107): VDD_AON falls below 0.72 V or first power-up; full-scope reset source. -/
  | powerOnReset
  /-- LOSS_OF_VDD_AON (R17): Loss of VDD_AON takes the device to OFF from any state. -/
  | lossOfVddAon
  /-- CORE_BOR (R107): VDD_CORE or VDD_SRAM brown-out for more than 2 µs starts a warm reset. -/
  | coreBor
  /-- IO_BOR (R107): VDD_IO18 or VDD_IO33 brown-out for more than 2 µs starts a warm reset. -/
  | ioBor
  /-- RESET_N_ASSERT (R108): A qualified low on RESET_N starts the PIN reset source. -/
  | resetNAssert (lowNs : Nat)
  /-- THERMAL_TRIP (R105): The trip sensor reads 130 °C or more and starts the THERMAL reset source. -/
  | thermalTrip
  /-- RESET_RELEASE (R111): The last reset source ends and the domains are released in the order of Table 3.7. -/
  | resetRelease (strap : Nat)
  /-- DRAM_TRAINING_DONE (R201): DRAM training of all channels ends, passing or failing. -/
  | dramTrainingDone (densities fails : List Nat)
  /-- DRAM_INIT_DONE (R202): Zero fill of every DRAM channel with good code completes. -/
  | dramInitDone
  /-- BOOT_IMAGE_LOADED (R82): The DRIVE image from the boot source is checked and applied, then the STEEP
  image is loaded; BOOT moves to PROOF or HALT. -/
  | bootImageLoaded
  /-- PROOF_COMPLETE (R21): The self-proof ends; on pass the warden waits for the epoch boundary, on failure it
  resets or halts. -/
  | proofComplete (us : Nat)
  /-- PROOF_CHECKER_TIMEOUT (R593): A proven checker does not report within 50 µs of its injection and fails. -/
  | proofCheckerTimeout (step : Nat)
  /-- RAIL_VALID_TIMEOUT (R99): A Group M or D rail is not valid 20 ms after its enable; enables lowered. -/
  | railValidTimeout (rail : Nat)
  /-- RAIL_RETRY (R99): After 100 ms the rails are requested once more. -/
  | railRetry
  /-- VID_STEP (R97): The warden moves VID_CORE by one step at most every 50 µs. -/
  | vidStep (up : Bool)
  /-- AON_XTAL_SWITCH (R95): After 1024 good crystal cycles the AON domain switches to its crystal. -/
  | aonXtalSwitch
  /-- WARDEN_WATCHDOG_EXPIRY (R114): The warden watchdog period expires without service; WATCHDOG reset. -/
  | wardenWatchdogExpiry
  /-- SOFTWARE_FULL_RESET (R115): A write of 0xA5C3 to RST_SW starts a software full reset. -/
  | softwareFullReset (who : Requester) (v : Nat)
  /-- TEMP_SAMPLE (R105): A temperature reading drives QM throttling, OVER_TEMP and the THERMAL hold release. -/
  | tempSample (readings : List Int)
  /-- POWER_CAP_CHECK (R104): Every 100 µs in STEEP the power estimate is compared with PWR_CAP. -/
  | powerCapCheck (watts : Nat)
  /-- GASKET_DRAIN (R116): GSK_CTL_g.CMD = DRAIN moves an OPEN gasket to DRAINING. -/
  | gasketDrain (who : Requester) (g : Nat)
  /-- GASKET_OPEN (R116): GSK_CTL_g.CMD = OPEN opens a SEALED gasket of a powered block out of reset. -/
  | gasketOpen (who : Requester) (g : Nat)
  /-- BLOCK_RESET (R119): A write of one to GSK_CTL_g.RESET resets block g. -/
  | blockReset (who : Requester) (g : Nat)
  /-- BLOCK_RESET_RELEASE (R119): Block reset and initialisation end and the block is released, gasket still
  SEALED. -/
  | blockResetRelease (g : Nat)
  /-- GASKET_DRAIN_COMPLETE (R116): A DRAINING gasket has nothing outstanding and becomes SEALED. -/
  | gasketDrainComplete (g : Nat)
  /-- DRAIN_TIMEOUT (R116): DRAIN_TO elapses; the gasket is forced SEALED and outstanding requests complete. -/
  | drainTimeout (g : Nat)
  /-- PARK_SAMPLE (R37): The AON domain samples PARK_A and PARK_B and updates agreement, effective PARK, hold
  and counts. -/
  | parkSample (a b : Bool)
  /-- PARK_DISC_FAULT (R39): The disagreement count exceeds T_disc and the discrepancy fault is raised and
  latched. -/
  | parkDiscFault (level : Bool)
  /-- PARK_CLEAR_READY (R41): 50 consecutive agreeing samples set CLEAR_READY for a latched fault. -/
  | parkClearReady (parked : Bool)
  /-- WAKE_IN_SAMPLE (R28): The AON domain samples WAKE_IN and classifies runs of high samples. -/
  | wakeInSample (high : Bool)
  /-- WAKE_DRIVE_INTENT (R28): The fifth consecutive high sample decides a wake with drive intent, a rouse
  trigger in STEEP and SETTLE. -/
  | wakeDriveIntent
  /-- SETTLE (R30): Mode request to go from DRIVE to STEEP through the steps of Table 1.5. -/
  | settle (src : ModeSource) (pre : Bool)
  /-- STEEP_DECLARED (R30): SETTLE steps complete and STEEP is declared with admissions open. -/
  | steepDeclared (present nvme : Bool) (speed width : Nat) (ext : List ExtData) (upsets : List Upset)
  /-- SETTLE_TIMEOUT (R31): STEEP is not declared within 1.5 s of acceptance; the device enters ROUSE. -/
  | settleTimeout
  /-- ROUSE (R32): ROUSE request, a rouse trigger that returns the device to DRIVE through Table 1.6. -/
  | rouse (src : ModeSource) (pre : Bool)
  /-- ROUSE_TIMEOUT (R34): 300 ms elapse from the trigger without DRIVE; the device enters HALT. -/
  | rouseTimeout
  /-- SERVICE_ENTER (R634): Mode request from DRIVE to SERVICE under the service authorisation guard. -/
  | serviceEnter (src : ModeSource) (pre : Bool) (ext : List ExtData) (upsets : List Upset)
  /-- STANDBY (R17): Mode request from DRIVE to STANDBY; outputs stop and rails are released. -/
  | standby (src : ModeSource) (pre : Bool) (ext : List ExtData) (upsets : List Upset)
  /-- EPOCH_BOUNDARY (R450): The TSU crosses a multiple of the epoch length; fusion, ego solve, bindings and
  waits act. -/
  | epochBoundary (ext : List ExtData) (upsets : List Upset)
  /-- IMAGE_LOAD (R81): CFG command that checks a Ferex image and stores or applies it by state and profile. -/
  | imageLoad (r : EntryRef) (ext : List ExtData) (upsets : List Upset)
  /-- ENCL_RESTART (R157): CFG command that restarts an ABORTED enclosure. -/
  | enclRestart (r : EntryRef)
  /-- LEAF_LOAD (R336): WGT command that loads a leaf file into a model slot. -/
  | leafLoad (r : EntryRef) (ext : List ExtData) (upsets : List Upset)
  /-- LEAF_LOAD_END (R338): A leaf load ends with the outcome of Table 10.6 and the slot state set. -/
  | leafLoadEnd (k : Nat) (ext : List ExtData) (upsets : List Upset)
  /-- STAGING_COMPLETE (R343): A CADDY_STREAM layer is staged and its fill entries handed to the tiles. -/
  | stagingComplete (k layer : Nat) (r : EntryRef) (fills : List (Nat × FillSpec)) (ext : List ExtData) (upsets : List Upset)
  /-- POUR (R345): WGT command that switches a model's slot pointer atomically. -/
  | pour (r : EntryRef)
  /-- EVICT (R348): WGT command that frees a slot once its bindings end. -/
  | evict (r : EntryRef)
  /-- EVICT_RELEASE (R348): A waiting EVICT finds its binding count zero and releases the slot. -/
  | evictRelease (k : Nat)
  /-- POOL_RESET (R356): KV command that formats a pool. -/
  | poolReset (r : EntryRef) (ext : List ExtData) (upsets : List Upset)
  /-- SEQ_OPEN (R367): KV command that opens a sequence with a prefix lookup. -/
  | seqOpen (r : EntryRef) (ext : List ExtData) (upsets : List Upset)
  /-- SEQ_FORK (R367): KV command that forks a child sequence from a parent's prefix. -/
  | seqFork (r : EntryRef) (ext : List ExtData) (upsets : List Upset)
  /-- SEQ_APPEND (R368): KV command that appends tokens to a sequence. -/
  | seqAppend (r : EntryRef) (ext : List ExtData) (upsets : List Upset)
  /-- APPEND_PAGES_GRANTED (R372): Freed pages meet the need of the oldest waiting append, which resumes. -/
  | appendPagesGranted (pid : Nat) (ext : List ExtData) (upsets : List Upset)
  /-- APPEND_WAIT_EXPIRY (R372): WAIT_MS elapses for a waiting append, which completes NO_SPACE. -/
  | appendWaitExpiry (pid : Nat)
  /-- SEQ_TRIM (R367): KV command that trims a sequence to KEEP tokens. -/
  | seqTrim (r : EntryRef) (ext : List ExtData) (upsets : List Upset)
  /-- SEQ_CLOSE (R367): KV command that closes a sequence and releases its pages. -/
  | seqClose (r : EntryRef) (ext : List ExtData) (upsets : List Upset)
  /-- PREFIX_QUERY (R376): KV command that looks up a prefix in the tree without committing. -/
  | prefixQuery (r : EntryRef) (ext : List ExtData) (upsets : List Upset)
  /-- JOIN (R568): LOOM command that joins the device to a loom. -/
  | join (r : EntryRef)
  /-- LEAVE (R567): LOOM command that leaves the loom. -/
  | leave (r : EntryRef)
  /-- VOTE_PROPOSE (R573): LOOM command on the coordinator that opens a Cozy vote. -/
  | votePropose (r : EntryRef)
  /-- VOTE_CAST (R573): LOOM command that casts this member's vote. -/
  | voteCast (r : EntryRef)
  /-- PROOF_RUN (R596): SAFE command that runs a commanded self-proof. -/
  | proofRun (r : EntryRef)
  /-- FAULT_CLEAR (R591): SAFE command that clears a latched active fault. -/
  | faultClear (r : EntryRef)
  /-- INJECT (R597): SAFE command that injects an error into one checker. -/
  | inject (r : EntryRef)
  /-- UPDATE (R637): SVC command that writes a checked object to the boot source. -/
  | update (r : EntryRef) (readBack : Bool) (ext : List ExtData) (upsets : List Upset)
  /-- DEBUG_OPEN (R640): SVC DIAG action that opens the debug port. -/
  | debugOpen (r : EntryRef)
  /-- FUSE_DUMP (R638): SVC DIAG action that writes the fuse fields except UDS to a buffer. -/
  | fuseDump (r : EntryRef) (ext : List ExtData) (upsets : List Upset)
  /-- ADVANCE_ROLLBACK (R638): FUSE operation that advances the rollback counter. -/
  | advanceRollback (r : EntryRef) (readBack : Bool)
  /-- REVOKE_SLOT (R638): FUSE operation that revokes a signer slot. -/
  | revokeSlot (r : EntryRef) (readBack : Bool)
  /-- PROVISION_SLOT (R638): FUSE operation that provisions a signer key. -/
  | provisionSlot (r : EntryRef) (readBack : Bool) (ext : List ExtData) (upsets : List Upset)
  /-- SERVICE_SLOT (R638): FUSE operation that lets a slot sign service authorisations. -/
  | serviceSlot (r : EntryRef) (readBack : Bool)
  /-- SEAL_DEBUG (R638): FUSE operation that seals debug permanently. -/
  | sealDebug (r : EntryRef) (readBack : Bool)
  /-- LIFECYCLE (R638): FUSE operation that advances the lifecycle. -/
  | lifecycle (r : EntryRef) (readBack : Bool)
  /-- GEMM (R316): RUN matrix operator. -/
  | gemm (r : EntryRef) (models : List Nat) (need split : Nat) (sums : List KSum)
  /-- GEMM_BIAS_ACT (R316): RUN matrix operator with bias and activation. -/
  | gemmBiasAct (r : EntryRef) (models : List Nat) (need split : Nat) (sums : List KSum)
  /-- BATCHED_GEMM (R316): RUN batched matrix operator. -/
  | batchedGemm (r : EntryRef) (models : List Nat) (need split : Nat) (sums : List KSum)
  /-- CONV2D (R316): RUN convolution operator. -/
  | conv2d (r : EntryRef) (models : List Nat) (need split : Nat) (sums : List KSum)
  /-- GROUPED_CONV (R316): RUN grouped convolution operator. -/
  | groupedConv (r : EntryRef) (models : List Nat) (need split : Nat) (sums : List KSum)
  /-- ACTIVATION (R316): RUN vector activation operator. -/
  | activation (r : EntryRef) (models : List Nat) (need : Nat)
  /-- LAYER_NORM (R316): RUN vector layer normalisation. -/
  | layerNorm (r : EntryRef) (models : List Nat) (need : Nat)
  /-- RMS_NORM (R316): RUN vector RMS normalisation. -/
  | rmsNorm (r : EntryRef) (models : List Nat) (need : Nat)
  /-- SOFTMAX (R316): RUN vector softmax. -/
  | softmax (r : EntryRef) (models : List Nat) (need : Nat)
  /-- CONVERT (R316): RUN vector conversion. -/
  | convert (r : EntryRef) (models : List Nat) (need : Nat)
  /-- QUANTIZE (R316): RUN vector quantisation. -/
  | quantize (r : EntryRef) (models : List Nat) (need : Nat)
  /-- REDUCE (R316): RUN vector reduction. -/
  | reduce (r : EntryRef) (models : List Nat) (need : Nat)
  /-- ELEMENTWISE (R316): RUN elementwise vector operator. -/
  | elementwise (r : EntryRef) (models : List Nat) (need : Nat)
  /-- PREFILL_ATTN (R386): RUN attention over many query rows of a sequence. -/
  | prefillAttn (r : EntryRef) (ext : List ExtData) (upsets : List Upset) (accFlips : List (Nat × Nat × Nat))
  /-- DECODE_ATTN (R386): RUN attention of a few query rows over a long sequence. -/
  | decodeAttn (r : EntryRef) (ext : List ExtData) (upsets : List Upset) (accFlips : List (Nat × Nat × Nat))
  /-- RETRIEVAL_ATTN (R406): RUN attention over selected pages of a very long sequence. -/
  | retrievalAttn (r : EntryRef) (ext : List ExtData) (upsets : List Upset) (accFlips : List (Nat × Nat × Nat))
  /-- PARTIAL_MERGE (R398): The merging tile folds a head's chunk partial results once all have arrived. -/
  | partialMerge (r : EntryRef) (head : Nat) (ext : List ExtData) (upsets : List Upset)
  /-- COPY (R316): RUN data-movement copy operator. -/
  | copy (r : EntryRef) (models : List Nat) (need : Nat)
  /-- TRANSPOSE (R316): RUN data-movement transpose operator. -/
  | transpose (r : EntryRef) (models : List Nat) (need : Nat)
  /-- GATHER (R316): RUN data-movement gather operator. -/
  | gather (r : EntryRef) (models : List Nat) (need : Nat)
  /-- SCATTER (R316): RUN data-movement scatter operator. -/
  | scatter (r : EntryRef) (models : List Nat) (need : Nat)
  /-- FILL (R316): RUN data-movement fill operator. -/
  | fill (r : EntryRef) (models : List Nat) (need : Nat)
  /-- ALL_REDUCE (R564): RUN collective all-reduce along the rank chain. -/
  | allReduce (r : EntryRef) (d : CollDesc) (ext : List ExtData) (upsets : List Upset)
  /-- ALL_GATHER (R564): RUN collective all-gather round the ring. -/
  | allGather (r : EntryRef) (d : CollDesc) (ext : List ExtData) (upsets : List Upset)
  /-- REDUCE_SCATTER (R564): RUN collective reduce-scatter. -/
  | reduceScatter (r : EntryRef) (d : CollDesc) (ext : List ExtData) (upsets : List Upset)
  /-- BROADCAST (R564): RUN collective broadcast from rank 0. -/
  | broadcast (r : EntryRef) (d : CollDesc) (ext : List ExtData) (upsets : List Upset)
  /-- BARRIER (R564): RUN collective barrier token up and down the chain. -/
  | barrier (r : EntryRef)
  /-- INGEST_BIND (R411): RUN command of enclosure 1 that binds sensor streams to ports and rings. -/
  | ingestBind (r : EntryRef) (ext : List ExtData) (upsets : List Upset)
  /-- FUSE_EPOCH (R447): RUN command of enclosure 1 that binds the fusion profile. -/
  | fuseEpoch (r : EntryRef) (ext : List ExtData) (upsets : List Upset)
  /-- GRID_EXPORT (R478): RUN command that copies the last committed grid to a buffer. -/
  | gridExport (r : EntryRef) (ext : List ExtData) (upsets : List Upset)
  /-- LSE_SOLVE (R487): RUN solve command for a dense problem or an EGO binding. -/
  | lseSolve (r : EntryRef) (ext : List ExtData) (upsets : List Upset)
  /-- LSE_BUNDLE (R504): RUN bundle adjustment command in STEEP. -/
  | lseBundle (r : EntryRef) (ext : List ExtData) (upsets : List Upset)
  /-- ASSIGN (R507): RUN assignment job on the assignment unit. -/
  | assign (r : EntryRef) (ext : List ExtData) (upsets : List Upset)
  /-- RUN_GRAPH (R316): RUN a compiled graph once. -/
  | runGraph (r : EntryRef) (models : List Nat) (need serial named : Nat)
  /-- RUN_GRAPH_CONT (R316): RUN a compiled graph every epoch until SETTLE, SERVICE_ENTER or reset. -/
  | runGraphCont (r : EntryRef) (models : List Nat) (need serial named : Nat)
  /-- QUEUE_DOORBELL (R295): A write of SYS_Q_TAIL rings a queue's doorbell. -/
  | queueDoorbell (who : Requester) (e q tail : Nat)
  /-- ENTRY_TAKE (R300): A steward takes a command entry when room allows and checks it. -/
  | entryTake (e q : Nat) (ext : List ExtData) (upsets : List Upset)
  /-- ENTRY_START (R303): An admitted entry starts once its WAITs and FENCE are satisfied. -/
  | entryStart (r : EntryRef) (ext : List ExtData) (upsets : List Upset)
  /-- ENTRY_COMPLETE (R302): An operation ends and its completion record is written. -/
  | entryComplete (r : EntryRef) (records : List Nat) (ext : List ExtData) (upsets : List Upset)
  /-- IRQ_TIME_EXPIRY (R306): The oldest pending record has waited TIME_US and the interrupt is raised. -/
  | irqTimeExpiry (e q : Nat)
  /-- ENTRY_BUDGET_EXPIRY (R303): An entry's BUDGET_US runs out and it completes with TIMEOUT. -/
  | entryBudgetExpiry (r : EntryRef) (iters : Nat) (ext : List ExtData) (upsets : List Upset)
  /-- QUEUE_RESUME (R297): SYS_Q_CTL.RESUME restarts a stopped queue. -/
  | queueResume (who : Requester) (e q : Nat)
  /-- QUEUE_ENABLE (R323): Setting SYS_Q_CFG.ENABLE enables a queue and resets TAKEN and COMPLETED. -/
  | queueEnable (who : Requester) (e q cfg : Nat)
  /-- QUEUE_DISABLE (R323): A write clearing ENABLE disables the queue. -/
  | queueDisable (who : Requester) (e q cfg : Nat)
  /-- COMPLETION_ACK (R306): A write of SYS_Q_CHEAD acknowledges completion records. -/
  | completionAck (who : Requester) (e q chead : Nat)
  /-- KERNEL_LAUNCH (R228): A steward launches a kernel on a tile. -/
  | kernelLaunch (t k : Nat) (r : EntryRef) (entry w0 w0Len w1 w1Len model budgetUs : Nat) (fills : List FillSpec)
  /-- TE_OPERATION (R215): A kernel issues a tensor engine operation, checked by the proof lane at drain. -/
  | teOperation (t : Nat) (op : TeOp) (upsets : List Upset) (accFlips : List (Nat × Nat))
  /-- VU_INSTRUCTION (R225): A kernel issues a vector instruction checked by the residue code. -/
  | vuInstruction (t : Nat) (op : VuOp) (upsets : List Upset) (regFlips : List (Nat × Nat × Nat)) (pathFlips : List (Nat × Nat))
  /-- FENCE (R229): Sequencer fence waits for every earlier weave request of the tile. -/
  | fence (t : Nat)
  /-- FENCE_PF (R229): Sequencer fence waits for the prefetch engine's requests. -/
  | fencePf (t : Nat)
  /-- BUFFER_SWITCH (R235): At a layer boundary the kernel waits for the next layer's fills and switches weight
  buffers. -/
  | bufferSwitch (t : Nat) (next : List FillSpec)
  /-- FILL_COMPLETE (R237): A prefetch fill entry completes, OK or with a failure code. -/
  | fillComplete (t : Nat) (ext : List ExtData) (upsets : List Upset)
  /-- KERNEL_COMPLETE (R228): A kernel ends and posts its completion to the steward. -/
  | kernelComplete (t : Nat)
  /-- KERNEL_BUDGET_EXPIRY (R230): A kernel runs past its time budget and is stopped with TIMEOUT. -/
  | kernelBudgetExpiry (t : Nat)
  /-- KERNEL_ABORT (R231): An abort from the steward stops the sequencer within 1 µs. -/
  | kernelAbort (t : Nat)
  /-- ABORT_DRAINED (R231): The last response of an aborted kernel arrives and the tile becomes IDLE. -/
  | abortDrained (t : Nat)
  /-- TILE_CNT_CLR_PROOF (R246): TILE_CNT_CLR_t.PROOF clears TILE_PROOF_CNT_t. -/
  | tileCntClrProof (t : Nat)
  /-- TILE_CNT_CLR_VU (R246): TILE_CNT_CLR_t.VU clears the residue count. -/
  | tileCntClrVu (t : Nat)
  /-- TILE_CNT_CLR_PF (R246): TILE_CNT_CLR_t.PF clears TILE_PF_STAT_t. -/
  | tileCntClrPf (t : Nat)
  /-- TILE_CNT_CLR_BANK (R246): TILE_CNT_CLR_t.BANK clears TILE_BANK_STAT_t. -/
  | tileCntClrBank (t : Nat)
  /-- WEAVE_READ (R187): A read request passes the gasket window checks and is performed at its target. -/
  | weaveRead (who : Requester) (addr len : Nat) (ext : List ExtData) (upsets : List Upset)
  /-- WEAVE_WRITE (R188): A write request passes the gasket and is performed at its target. -/
  | weaveWrite (who : Requester) (addr : Nat) (data : List Byte) (poison macUp : Bool) (ext : List ExtData) (upsets : List Upset)
  /-- WEAVE_ATOMIC (R151): An atomic request is performed on a DRAM or commons word. -/
  | weaveAtomic (who : Requester) (addr size : Nat) (op : AtomicOp) (x y : Nat) (upsets : List Upset)
  /-- WEAVE_RESPONSE (R149): A response returns to its requester and completes the request. -/
  | weaveResponse (id : Nat) (parity : Option Nat)
  /-- LEASE_ACQUIRE (R165): Lease atomic that grants a commons lease word. -/
  | leaseAcquire (who : Requester) (addr : Nat) (upsets : List Upset)
  /-- LEASE_RENEW (R165): Lease atomic that extends a held lease. -/
  | leaseRenew (who : Requester) (addr gen : Nat) (upsets : List Upset)
  /-- LEASE_RELEASE (R165): Lease atomic that ends a held lease. -/
  | leaseRelease (who : Requester) (addr gen : Nat) (upsets : List Upset)
  /-- LEASE_EXPIRY (R163): A lease reaches its expiry time and its keeper ends it. -/
  | leaseExpiry (l : LeaseRef)
  /-- SEIZURE_ORDER (R167): A lease keeper receives a seizure order on VC2, ends the named leases and
  acknowledges. -/
  | seizureOrder (k : Keeper)
  /-- SEIZURE_ACK_TIMEOUT (R606): A keeper has not acknowledged a seizure within 50 µs and is treated as
  faulty. -/
  | seizureAckTimeout (k : Keeper)
  /-- WHEEL_SLOT (R159): A new 2 µs time-wheel slot begins at every controller and slice. -/
  | wheelSlot
  /-- WEAVE_PEAK_CLR (R172): WEAVE_OUTST.PEAK_CLR sets PEAK to NOW. -/
  | weavePeakClr (who : Requester)
  /-- GSK_DENY_CLR (R175): GSK_DENY_CLR clears denial counters. -/
  | gskDenyClr (who : Requester) (mask : Nat)
  /-- WARD_REFUSE_CLR (R50): WARD_REFUSE_CLR clears refusal counters. -/
  | wardRefuseClr (who : Requester) (mask : Nat)
  /-- DISC_CLEAR (R47): WARD_PARK_CTL.DISC_CLEAR clears the latched PARK fault when CLEAR_READY. -/
  | discClear (who : Requester)
  /-- SCRUB_VISIT (R192): The patrol scrubber visits the next unit or group. -/
  | scrubVisit (array : ArrayRef) (upsets : List Upset)
  /-- CE_RATE (R195): Correctable events in one second exceed CE_THR and CE_RATE is reported. -/
  | ceRate (m : Nat)
  /-- MC_CNT_CLR (R208): MC_ECC_CTL_m.CNT_CLR clears MC_ECC_CNT_m. -/
  | mcCntClr (who : Requester) (m : Nat)
  /-- REFRESH_RATE_POLL (R203): Every 16 ms the controller polls each device's refresh-rate register. -/
  | refreshRatePoll (m rate : Nat) (hot : Bool)
  /-- ZQ_CALIBRATION (R204): Every 64 ms the channel runs ZQ latch and DQS oscillator check. -/
  | zqCalibration (m : Nat)
  /-- KEY_SLOT_LOAD (R629): The security block loads a memory key slot once earlier requests of that slot are
  performed. -/
  | keySlotLoad (k : Nat)
  /-- MOVER_LEASE_ACQUIRE (R254): MOVER_CH_LEASE ACQUIRE takes the channel lease. -/
  | moverLeaseAcquire (who : Requester) (m c : Nat)
  /-- MOVER_LEASE_RENEW (R254): MOVER_CH_LEASE RENEW extends the channel lease. -/
  | moverLeaseRenew (who : Requester) (m c gen : Nat)
  /-- MOVER_LEASE_RELEASE (R254): MOVER_CH_LEASE RELEASE ends the channel lease. -/
  | moverLeaseRelease (who : Requester) (m c gen : Nat)
  /-- MOVER_DOORBELL (R255): A write of MOVER_CH_TAIL starts the channel on its ring. -/
  | moverDoorbell (who : Requester) (m c tail : Nat)
  /-- DESCRIPTOR_START (R256): A channel reads and begins the next descriptor once ordering allows. -/
  | descriptorStart (m c : Nat) (op : Option EntryRef) (ext : List ExtData) (upsets : List Upset)
  /-- DESCRIPTOR_COMPLETE (R257): A descriptor's writes complete and its completion record is written. -/
  | descriptorComplete (m c : Nat)
  /-- MOVER_RESUME (R258): MOVER_CH_CTL.RESUME returns a STOPPED channel to IDLE. -/
  | moverResume (who : Requester) (m c : Nat)
  /-- LSE_JOB_START (R486): A ready job starts on a free LSE engine in priority order. -/
  | lseJobStart (assigner : Bool)
  /-- LSE_JOB_SUSPEND (R486): A running QM job reaches a step boundary and is suspended for a SAFETY job. -/
  | lseJobSuspend
  /-- LSE_JOB_COMPLETE (R497): A solver or assignment job ends with its outcome. -/
  | lseJobComplete (assigner : Bool) (flips : List (Nat × Nat × Nat × Nat)) (differ : Bool) (ext : List ExtData) (upsets : List Upset)
  /-- EGO_MEAS_POLL (R501): Every 10 µs the EGO job polls MEAS for the epoch. -/
  | egoMeasPoll (ext : List ExtData) (upsets : List Upset)
  /-- EGO_DEADLINE (R501): t_ref + DEADLINE_US passes without a fresh solve; the shifted record is written. -/
  | egoDeadline (ext : List ExtData) (upsets : List Upset)
  /-- LSE_CNT_CLR (R515): LSE_CNT_CLR clears LSE_CNT. -/
  | lseCntClr (who : Requester)
  /-- CSI2_FRAME_START (R414): An FS packet opens a camera frame and is time-stamped. -/
  | csi2FrameStart (port vc dt backlog : Nat)
  /-- CSI2_LONG_PACKET (R414): A long packet of the matching data type adds payload and running CRC. -/
  | csi2LongPacket (port vc dataType : Nat) (data : List (BitVec 8)) (headerOk crcOk : Bool)
  /-- CSI2_FRAME_END (R414): An FE packet closes a camera frame, which is checked and written. -/
  | csi2FrameEnd (port vc : Nat) (ext : List ExtData) (upsets : List Upset)
  /-- ETHERNET_FRAME_RX (R415): An Ethernet frame is received and routed to a lidar stream, gPTP or the owner
  ring. -/
  | ethernetFrameRx (m : Nat) (frame : List (BitVec 8)) (fcsOk : Bool) (dt backlog : Nat) (ext : List ExtData) (upsets : List Upset)
  /-- IMU_DRDY (R416): A rising edge of IMU_DRDYn is stamped and starts an SPI transfer. -/
  | imuDrdy (n dt : Nat)
  /-- IMU_TRANSFER_DONE (R416): The SPI transfer ends and the IMU datum is checked. -/
  | imuTransferDone (n : Nat) (data : List (BitVec 8)) (backlog : Nat) (ext : List ExtData) (upsets : List Upset)
  /-- CAN_FRAME_RX (R417): A CAN FD frame is received and a matching one checked as a WHEEL datum. -/
  | canFrameRx (n ident : Nat) (fd crcOk own : Bool) (data : List (BitVec 8)) (dt backlog : Nat) (ext : List ExtData) (upsets : List Upset)
  /-- STREAM_SILENT (R431): A stream writes nothing for 3 × PERIOD_US and becomes SILENT. -/
  | streamSilent (k : Nat)
  /-- PPS_IN_EDGE (R421): A PPS_IN rising edge is stamped as an offset measurement. -/
  | ppsInEdge (dt : Nat)
  /-- GPTP_SYNC_TIMER (R423): As grandmaster the device sends Sync and Follow_Up every 125 ms. -/
  | gptpSyncTimer
  /-- PDELAY_TIMER (R423): Each gPTP port sends Pdelay_Req every 1 s. -/
  | pdelayTimer
  /-- TSU_SOURCE_LOST (R420): No offset measurement arrives in time; the TSU enters HOLDOVER. -/
  | tsuSourceLost
  /-- TSU_HOLDOVER_EXPIRY (R420): HOLD_MAX_S elapses in HOLDOVER; the TSU enters EXPIRED. -/
  | tsuHoldoverExpiry
  /-- PPS_OUT_PULSE (R424): PPS_OUT rises at each whole second of the TSU. -/
  | ppsOutPulse
  /-- TSU_TIME_LO_READ (R438): A read of TSU_TIME_LO latches TSU_TIME_HI. -/
  | tsuTimeLoRead (who : Requester)
  /-- STR_CNT_CLR_PORTS (R445): STR_CNT_CLR.PORTS clears every port counter. -/
  | strCntClrPorts (who : Requester)
  /-- STR_CNT_CLR_STREAMS (R445): STR_CNT_CLR.STREAMS clears every stream counter. -/
  | strCntClrStreams (who : Requester)
  /-- FUSION_FRAME_COMMIT (R477): The fusion unit commits an epoch's output frame to its ring. -/
  | fusionFrameCommit (inp : FusionIn) (ext : List ExtData) (upsets : List Upset)
  /-- FRAME_DEADLINE (R474): t_ref + FRAME_DEADLINE_MS passes; late inputs are dropped and the frame committed. -/
  | frameDeadline (inp : FusionIn) (ext : List ExtData) (upsets : List Upset)
  /-- FU_CNT_CLR (R484): FU_CNT_CLR clears FU_CNT. -/
  | fuCntClr (who : Requester)
  /-- FAULT_REPORT (R587): The fault collector receives a report, classifies it and reacts by class. -/
  | faultReport (tagged : Bool)
  /-- SAFETY_FRAME_PERIOD (R603): A periodic safety frame is due every CAN_SAFE_PERIOD_MS. -/
  | safetyFramePeriod (busFree readBack : Bool)
  /-- SAFE_FRAME_TX_LATE (R589): A safety frame has not begun 5 ms after its due time. -/
  | safeFrameTxLate
  /-- ROM_SAFETY_FRAME (R604): After a reset the warden ROM sends safety frames at the stored period. -/
  | romSafetyFrame
  /-- FAULT_PIN_MISMATCH (R601): A FAULT pin readback disagrees for 10 µs; both latches set. -/
  | faultPinMismatch
  /-- STEWARD_HANG (R586): A steward's progress count has not advanced for 10 ms. -/
  | stewardHang (k : Nat)
  /-- CLOCK_MON_WINDOW (R584): A 10 µs clock count window ends and is compared with its expected value. -/
  | clockMonWindow (d count : Nat)
  /-- PLL_UNLOCK (R584): The root PLL lock detector reports loss of lock. -/
  | pllUnlock
  /-- VOLT_MON (R585): A rail stays outside its window for 2 µs. -/
  | voltMon (rail : Nat)
  /-- SAFE_CNT_CLR (R607): SAFE_CNT_CLR clears SAFE_CNT. -/
  | safeCntClr (who : Requester)
  /-- RANDOM_HEALTH_FAIL (R630): The entropy source fails its health test. -/
  | randomHealthFail
  /-- COMMIT_HOLD_EXPIRY (R574): HOLD_MS after sending COMMIT the coordinator begins its own Cozy entry. -/
  | commitHoldExpiry
  /-- COZY_ENTRY_COMPLETE (R101): Cozy sleep entry completes; a latched wake exits at once. -/
  | cozyEntryComplete (cycles : Nat)
  /-- COZY_EXIT_COMPLETE (R102): Cozy exit completes with arrays re-initialised and keys reloaded. -/
  | cozyExitComplete (cycles : Nat)
  /-- LOOM_READ (R558): An inbound loom READ is checked against LOOM_EXPORT windows and performed. -/
  | loomRead (via : Nat) (ext : List ExtData) (upsets : List Upset)
  /-- LOOM_WRITE (R558): An inbound loom WRITE is checked and performed. -/
  | loomWrite (via : Nat) (macUp : Bool) (ext : List ExtData) (upsets : List Upset)
  /-- LOOM_ATOMIC (R558): An inbound loom ATOMIC is checked and performed. -/
  | loomAtomic (via : Nat) (upsets : List Upset)
  /-- LOOM_MSG (R561): An inbound MSG is delivered to the enclosure's mailbox ring. -/
  | loomMsg (via : Nat) (upsets : List Upset)
  /-- LOOM_RLEASE (R563): An inbound RLEASE acquires, renews or releases a remote page lease. -/
  | loomRlease (via : Nat)
  /-- LOOM_COLL (R564): A collective chunk arrives at a reduction engine. -/
  | loomColl (r : EntryRef) (cop size count : Nat) (down : Bool) (chunk : Nat) (data : List (BitVec 8)) (poison : Bool) (token : Option Bool) (ext : List ExtData) (upsets : List Upset)
  /-- LOOM_RDATA (R560): An RDATA response completes a loom request. -/
  | loomRdata (via : Nat)
  /-- LOOM_RSTAT (R560): An RSTAT response completes a loom request. -/
  | loomRstat (via : Nat)
  /-- LOOM_REQUEST_TIMEOUT (R560): A loom request has no response within 100 ms and completes TIMEOUT. -/
  | loomRequestTimeout (tid : Nat)
  /-- ROUTE_SWITCH (R554): A new route applies once requests on the old route have completed. -/
  | routeSwitch (n : Nat)
  /-- HELLO (R552): A HELLO message on a new ACTIVE link is checked for LOOM_ID and NODE_ID. -/
  | hello (p loomId node : Nat) (tunnel : Bool)
  /-- JOIN_REQ (R568): A JOIN_REQ is forwarded to, and judged by, the coordinator. -/
  | joinReq (j : JoinRec)
  /-- JOIN_TIMEOUT (R568): No answer to a JOIN within 1 s. -/
  | joinTimeout
  /-- VIEW (R570): A new membership view is received and lost members handled. -/
  | view (seq coord : Nat) (members : List MemberRec) (links : List LinkRec) (groups : List Nat)
  /-- HEARTBEAT_TIMER (R569): The coordinator sends HEARTBEAT every HB_MS. -/
  | heartbeatTimer
  /-- HEARTBEAT (R569): A HEARTBEAT or its answer is received. -/
  | heartbeat (from_ : Nat)
  /-- HEARTBEAT_LOSS (R569): LOST_HB heartbeats are missed; a member or coordinator is declared lost. -/
  | heartbeatLoss (n : Nat) (groups : List Nat)
  /-- CLAIM (R569): A coordinator CLAIM is received and acknowledged. -/
  | claim (n : Nat)
  /-- CLAIM_WINDOW_END (R569): The 20 ms claim window ends and the lowest claimant is acknowledged. -/
  | claimWindowEnd
  /-- ELECTION_TIMEOUT (R569): No coordinator 500 ms after loss; members stop being members. -/
  | electionTimeout
  /-- LEAVE_MESSAGE (R571): A leave message is received and acts as a LEAVE. -/
  | leaveMessage (n : Nat) (groups : List Nat)
  /-- LEAVE_TIMEOUT (R567): A LEAVE completes after 100 ms without a new view. -/
  | leaveTimeout
  /-- PROPOSE (R573): A member receives PROPOSE for a Cozy vote. -/
  | propose (coord id : Nat)
  /-- VOTE_TIMEOUT (R573): VOTE_TO_MS elapses; members not cast count as no. -/
  | voteTimeout
  /-- WITHDRAW (R573): The coordinator receives a WITHDRAW and aborts or late-aborts the vote. -/
  | withdraw (n id : Nat)
  /-- COMMIT (R574): A member receives COMMIT and begins Cozy entry. -/
  | commit (id : Nat)
  /-- VOTE_ABORT (R575): A member receives ABORT of the vote. -/
  | voteAbort (id : Nat)
  /-- REMOTE_RESET (R572): A REMOTE_RESET message is received and acted on or discarded. -/
  | remoteReset (from_ loomId : Nat)
  /-- LOOM_RRESET_WRITE (R572): A write to LOOM_RRESET on the coordinator sends REMOTE_RESET. -/
  | loomRresetWrite (who : Requester) (v : Nat)
  /-- ABORT_GROUP (R566): ABORT_GROUP ends a rank's group entry. -/
  | abortGroup (group status : Nat)
  /-- LOOM_CNT_CLR (R577): LOOM_CNT_CLR clears LOOM_CNT and DROPPED. -/
  | loomCntClr (who : Requester)
  /-- TUNNEL_FRAME_RX (R555): A tunnel frame is received and accepted or discarded. -/
  | tunnelFrameRx (frame : List (BitVec 8)) (csumOk tagged : Bool)
  /-- TUNNEL_FRAME_SEND (R556): A tunnel frame is sent when full or 2 µs after its first flit. -/
  | tunnelFrameSend (k : Nat)
  /-- TUNNEL_NULL_FLIT (R556): A NULL flit is sent within 20 µs of an unanswered DATA flit. -/
  | tunnelNullFlit (k : Nat)
  /-- TUNNEL_SESSION_IDLE (R556): A session idle for IDLE_MS with empty replay closes. -/
  | tunnelSessionIdle (k : Nat)
  /-- TUNNEL_SESSION_DEAD (R557): The session ACK has not advanced for DEAD_MS; it ends as DOWN. -/
  | tunnelSessionDead (k : Nat)
  /-- DETECT_BURST (R524): Each 1 ms in DETECT the port sends a 4 µs IDLE_EXIT burst. -/
  | detectBurst (p : Nat)
  /-- PARTNER_DETECTED (R524): The partner's bursts are seen and training begins. -/
  | partnerDetected (p : Nat)
  /-- TRAINING_TIMEOUT (R524): The link is not ACTIVE 15 ms after detection and enters DOWN. -/
  | trainingTimeout (p : Nat)
  /-- FLIT_TX (R531): Each flit time the port sends a DATA, CTRL or NULL flit. -/
  | flitTx (p : Nat)
  /-- FLIT_RX (R538): A flit is received, checked, acknowledged or NAKed, and its packets delivered. -/
  | flitRx (p : Nat) (wire : List (List LaneBlock))
  /-- REPLAY_TIMEOUT (R538): REPLAY_TO passes without the ACK advancing; replay starts. -/
  | replayTimeout (p : Nat)
  /-- BLOCK_LOCK_LOSS (R527): An active lane loses block lock; the link enters RETRAIN. -/
  | blockLockLoss (p lane : Nat)
  /-- LANE_ERROR_THRESHOLD (R527): Sync errors on one lane reach LANE_ERR_THR within 1 ms. -/
  | laneErrorThreshold (p lane errs : Nat)
  /-- FLIT_SILENCE (R527): No good flit for 4 µs; the link enters RETRAIN. -/
  | flitSilence (p : Nat)
  /-- RETRAIN_CMD (R527): BLK_CTL_p.RETRAIN forces RETRAIN. -/
  | retrainCmd (p : Nat)
  /-- RETRAIN_TIMEOUT (R527): RETRAIN not done within 1 ms; the link enters DOWN. -/
  | retrainTimeout (p : Nat)
  /-- LINK_DOWN_CMD (R528): BLK_CTL_p.RESET sends the link to DOWN. -/
  | linkDownCmd (p : Nat)
  /-- DOWN_RETRY (R528): 10 ms after DOWN the port returns to DETECT unless HOLD is set. -/
  | downRetry (p : Nat)
  /-- L1_IDLE (R539): The link is idle for L1_IDLE_US and the port sends L1_REQ. -/
  | l1Idle (p : Nat)
  /-- L1_REQ_TIMEOUT (R539): L1_REQ unanswered within 10 µs. -/
  | l1ReqTimeout (p : Nat)
  /-- L1_EXIT (R539): A packet to send or IDLE_EXIT ends L1. -/
  | l1Exit (p : Nat) (relock : Bool)
  /-- SLEEP_DRAIN_TIMEOUT (R540): The replay buffer has not emptied 1 ms into SLEEP entry. -/
  | sleepDrainTimeout (p : Nat)
  /-- SLEEP_ACK_TIMEOUT (R540): No SLEEP_ACK within 0.5 ms; the port enters SLEEP anyway. -/
  | sleepAckTimeout (p : Nat)
  /-- WAKE_PATTERN_SEND (R541): BLK_WAKE_p.SEND sends one 200 µs wake pattern. -/
  | wakePatternSend (p : Nat)
  /-- BRIKEL_WAKE (R541): The wake detector registers activity on two AON samples. -/
  | brikelWake (p : Nat)
  /-- BLK_CNT_CLR (R547): BLK_CNT_CLR_p clears the port's error counters. -/
  | blkCntClr (p : Nat)
  /-- SB_ADDRESS_MATCH (R666): A START with a Map-S or Map-L address arrives; acknowledged or a wake. -/
  | sbAddressMatch (busy : Bool)
  /-- SB_WRITE_TRANSFER (R648): A sideband write transfer ends at STOP and its buffered bytes take effect. -/
  | sbWriteTransfer (large : Bool) (bytes : List Byte) (stop : Bool)
  /-- SB_READ_TRANSFER (R649): A sideband read transfer returns bytes from snapshots. -/
  | sbReadTransfer (large : Bool) (n : Nat)
  /-- SB_WAKE (R653): Sideband WAKE command, a plain wake. -/
  | sbWake
  /-- SB_NONCE (R653): Sideband NONCE command draws the service nonce. -/
  | sbNonce
  /-- SB_RESET (R653): Sideband RESET command starts the SIDEBAND reset source. -/
  | sbReset
  /-- SB_MBOX_IN_ACK (R656): Map-S MBOX.IN_ACK frees the inbound mailbox. -/
  | sbMboxInAck
  /-- SB_MODE (R658): A write of Map-S MODE selects Quiet or Brisk. -/
  | sbMode (v : Nat)
  /-- NOTIFY_ATTEMPT (R662): A Host Notify attempt starts after the bus is idle 50 µs. -/
  | notifyAttempt (ok : Bool)
  /-- SCL_LOW_TIMEOUT (R665): SCL low for more than 35 ms resets the bus interface. -/
  | sclLowTimeout (attempt : Bool)
  /-- SB_MBOX_OUT_ACK (R656): SB_MBOX_CTL.OUT_ACK frees the outbound mailbox. -/
  | sbMboxOutAck (who : Requester)
  /-- SB_MBOX_IN_POST (R656): SB_MBOX_CTL.IN_POST posts the inbound mailbox. -/
  | sbMboxInPost (who : Requester)
  /-- SB_CNT_CLR (R671): SB_CNT_CLR clears SB_CNT. -/
  | sbCntClr (who : Requester)
  /-- PCIE_INBOUND_REQUEST (R674): An inbound TLP is mapped through a BAR, tagged and forwarded or refused. -/
  | pcieInboundRequest (t : PcieTlp) (macUp : Bool) (ext : List ExtData) (upsets : List Upset)
  /-- PCIE_COMPLETION (R676): A completion for an outbound request arrives and maps to a status. -/
  | pcieCompletion (id : Nat) (c : PcieCpl) (data : List Byte)
  /-- PCIE_OUTBOUND_TIMEOUT (R676): No completion within 50 ms; TIMEOUT. -/
  | pcieOutboundTimeout (id : Nat)
  /-- PCIE_LINK_DOWN (R676): The PCIe link goes down; outstanding requests TIMEOUT. -/
  | pcieLinkDown
  /-- PCIE_HOT_RESET (R112): Hot reset or link-down as the PCIE reset source when enabled. -/
  | pcieHotReset
  /-- MSIX_UNMASK (R677): An unmasked vector with pending bit is sent. -/
  | msixUnmask (v : Nat)
  /-- PCIE_BOOT_GO (R686): PCIE_BOOT_CTL.GO posts a boot object under host push. -/
  | pcieBootGo (obj : Nat) (ext : List ExtData)
  /-- BOOT_PUSH_TIMEOUT (R686): No bundle or DRIVE post within 60 s; boot-source rules exhausted. -/
  | bootPushTimeout
  /-- WAIT_STEEP_TIMEOUT (R686): WAIT_STEEP lasts 5 s and counts as DONE. -/
  | waitSteepTimeout
  /-- PCIE_CNT_CLR (R693): PCIE_CNT_CLR clears PCIE_CNT. -/
  | pcieCntClr (who : Requester)
  /-- NVME_COMPLETION (R680): An NVMe Read completes and maps to a status. -/
  | nvmeCompletion (id : Nat) (media : Bool) (data : List Byte) (ext : List ExtData) (upsets : List Upset)
  /-- NVME_TIMEOUT (R680): No NVMe completion within 1 s. -/
  | nvmeTimeout (id : Nat)
  /-- NVME_FATAL (R680): Controller Fatal Status; commands time out and the controller is reset. -/
  | nvmeFatal
  /-- NET_TX_DOORBELL (R681): SYS_QBLK_NET_TX_TAIL posts frames for transmission. -/
  | netTxDoorbell (who : Requester) (e m tail : Nat) (up : Bool) (ext : List ExtData) (upsets : List Upset)
  /-- UART_CHARACTER_RX (R689): A character is framed, judged and stored in the receive FIFO. -/
  | uartCharacterRx (samples : List Bool)
  /-- UART_CHARACTER_TX (R687): The transmitter finishes one character from its FIFO. -/
  | uartCharacterTx
  /-- UART_DATA_WRITE (R691): A write to UART_DATA pushes a byte to the transmit FIFO. -/
  | uartDataWrite (who : Requester) (v : Nat)
  /-- UART_DATA_READ (R694): A read of UART_DATA removes the receive entry it returns. -/
  | uartDataRead (who : Requester)
  /-- UART_CFG_WRITE (R691): A change of UART_CFG empties both FIFOs and re-arms the receiver. -/
  | uartCfgWrite (who : Requester) (v : Nat)
  /-- UART_BAUD_WRITE (R687): A write of UART_BAUD sets the divisor. -/
  | uartBaudWrite (who : Requester) (v : Nat)
  /-- QUOTE (R624): SEC operation that signs an attestation quote. -/
  | quote (ext : List ExtData) (upsets : List Upset)
  /-- KEY_UNWRAP (R626): SEC operation that unwraps a model key into a handle. -/
  | keyUnwrap (ext : List ExtData) (upsets : List Upset)
  /-- KEY_DESTROY (R628): SEC operation that destroys a key handle. -/
  | keyDestroy (ext : List ExtData) (upsets : List Upset)
  /-- NONCE (R623): SEC operation that draws the service nonce. -/
  | nonce (ext : List ExtData) (upsets : List Upset)
  /-- ID_PUBKEY (R623): SEC operation that returns the identity public keys. -/
  | idPubkey (ext : List ExtData) (upsets : List Upset)
  /-- DEBUG_PORT_ACCESS (R639): A debug port request reaches register space or memory when OPEN. -/
  | debugPortAccess (addr len : Nat) (data : Option (List Byte)) (macUp : Bool) (ext : List ExtData) (upsets : List Upset)
  /-- SYS_SEAL (R703): A write of SYS_SEAL.SEAL sets the image seal. -/
  | sysSeal (who : Requester)
  /-- KV_CNT_CLR (R385): KV_CNT_CLR clears pool counters. -/
  | kvCntClr (mask : Nat)
  /-- REGISTER_WRITE (R702): A write to a register without a row of its own, judged by access code, state set
  and seal. -/
  | registerWrite (who : Requester) (key v : Nat) (aligned macUp : Bool) (ext : List ExtData) (upsets : List Upset)
  /-- LOCKSTEP_MISMATCH (R107): The lockstep comparator finds the two warden cores diverging and starts the
  SAFETY_FATAL reset source with the FAULT pins set by hardware. -/
  | lockstepMismatch
  /-- AON_XTAL_LOSS (R589): The AON crystal monitor loses the 32.768 kHz crystal after it started, raising the
  AF fault AON_XTAL. -/
  | aonXtalLoss
  /-- PCIE_LINK_UP (R686): The PCIe 5.0 x8 link comes up, setting LINK_UP and starting the 60 s host-push
  bundle wait. -/
  | pcieLinkUp (speed width : Nat)
  /-- TRAINING_SET_RECEIVED (R524): Two identical TS_A or TS_B sets arrive on a lane, advancing lane numbering,
  deskew, width choice and the move to ACTIVE. -/
  | trainingSetReceived (p lane : Nat) (set : List (BitVec 8)) (inverted : Bool) (count : Nat)
  /-- CLAIM_ACK (R569): A claimant receives acknowledgements and, once more than half of the last view's
  members have acknowledged it, becomes coordinator and issues a view. -/
  | claimAck (n : Nat) (groups : List Nat)
  /-- CAST_VOTE_RECEIVED (R573): The coordinator receives a member's yes or no vote and sends COMMIT when it
  holds a yes from every member, or ABORT on a no. -/
  | castVoteReceived (n id : Nat) (yes : Bool)
  /-- JOIN_REFUSAL (R568): The joining device receives the coordinator's refusal and its JOIN completes with
  BAD_ARG or ADMIT_REFUSED. -/
  | joinRefusal (loomIdDiffers : Bool)
  /-- BLOCK_RESET_NOT_RELEASED (R36): During ROUSE a block reset is not released within 2 ms, so a spare lent
  tile is left out or the device enters HALT. -/
  | blockResetNotReleased (g : Nat)
  /-- ZERO_FILL_COMPLETE (R633): After DRIVE is declared, the zero-fill and the tile initialisation end and the
  gaskets of the DRIVE-image QM enclosures are opened. -/
  | zeroFillComplete
  deriving DecidableEq, Repr

end Sys2Proof
end

