-- ==== Sys2Proof/WellFormed.lean ====
section
/-! DEFINITION. Well-formed commands: every operand that names a numbered unit, a register or an address names one that
exists (Tables 4.1, 4.2, 4.5, 9.1 and the unit counts of the chapters). A step runs any command; this says which are meant. -/

namespace Sys2Proof

/-- SEQ of a queue that can exist (R294, R295), with the queue's enabling above its 32 bits. -/
def EntryRef.ok (r : EntryRef) : Bool := decide (r.encl < 8 ∧ r.queue < 16)

/-- A requester of Table 4.5. -/
def Requester.ok : Requester → Bool
  | .tile t => decide (t < 64)
  | .mover m c => decide (m < 16 ∧ c < 32)
  | .steward k e => decide (k < 4 ∧ e < 8)
  | .lse e => decide (e < 8)
  | .fusion e => decide (e < 8)
  | .strainer => true
  | .pcie e => decide (e < 8)
  | .mac m e => decide (m < 3 ∧ e < 8)
  | .loom via e => decide (via < 9 ∧ e < 8)
  | .warden => true
  | .security => true
  | .debug => true

/-- A mode request's source. -/
def ModeSource.ok : ModeSource → Bool
  | .entry r => r.ok
  | .sideband => true

/-- A lease of §4.8. -/
def LeaseRef.ok : LeaseRef → Bool
  | .commons a => decide (a < 2 ^ 54)
  | .channel m c => decide (m < 16 ∧ c < 32)
  | .page p q => decide (p < 16 ∧ q < 2 ^ 12)
  | .remote i => decide (i < 2 ^ 16)
  | .barrier _ r => decide (r < 1024)

/-- A lease keeper. -/
def Keeper.ok : Keeper → Bool
  | .commons k => decide (k < 8)
  | .mover m => decide (m < 16)
  | .kv => true
  | .loom => true

/-- A memory array of Table 5.1. -/
def ArrayRef.ok : ArrayRef → Bool
  | .tile t => decide (t < 64)
  | .commons k => decide (k < 8)
  | .warden => true
  | .dram m => decide (m < 8)

/-- A collective's element type and operation are among those of §17.5. -/
def CollDesc.ok (d : CollDesc) : Bool := decide (d.etype < 4 ∧ d.op < 3)

/-- The command's operands name things that exist. -/
def Instr.wf : Instr → Bool
  | .powerOnReset => true
  | .lossOfVddAon => true
  | .coreBor => true
  | .ioBor => true
  | .resetNAssert _ => true
  | .thermalTrip => true
  | .resetRelease _ => true
  | .dramTrainingDone _ _ => true
  | .dramInitDone => true
  | .bootImageLoaded => true
  | .proofComplete _ => true
  | .proofCheckerTimeout step => decide (step < 32)
  | .railValidTimeout rail => decide (rail < 7)
  | .railRetry => true
  | .vidStep _ => true
  | .aonXtalSwitch => true
  | .wardenWatchdogExpiry => true
  | .softwareFullReset who v => who.ok && decide (v < 2 ^ 32)
  | .tempSample _ => true
  | .powerCapCheck _ => true
  | .gasketDrain who g => who.ok && decide (g < 119)
  | .gasketOpen who g => who.ok && decide (g < 119)
  | .blockReset who g => who.ok && decide (g < 119)
  | .blockResetRelease g => decide (g < 119)
  | .gasketDrainComplete g => decide (g < 119)
  | .drainTimeout g => decide (g < 119)
  | .parkSample _ _ => true
  | .parkDiscFault _ => true
  | .parkClearReady _ => true
  | .wakeInSample _ => true
  | .wakeDriveIntent => true
  | .settle src _ => src.ok
  | .steepDeclared _ _ speed _ _ _ => decide (speed < 16)
  | .settleTimeout => true
  | .rouse src _ => src.ok
  | .rouseTimeout => true
  | .serviceEnter src _ _ _ => src.ok
  | .standby src _ _ _ => src.ok
  | .epochBoundary _ _ => true
  | .imageLoad r _ _ => r.ok
  | .enclRestart r => r.ok
  | .leafLoad r _ _ => r.ok
  | .leafLoadEnd k _ _ => decide (k < 64)
  | .stagingComplete k _ r _ _ _ => decide (k < 64) && r.ok
  | .pour r => r.ok
  | .evict r => r.ok
  | .evictRelease k => decide (k < 64)
  | .poolReset r _ _ => r.ok
  | .seqOpen r _ _ => r.ok
  | .seqFork r _ _ => r.ok
  | .seqAppend r _ _ => r.ok
  | .appendPagesGranted pid _ _ => decide (pid < 16)
  | .appendWaitExpiry pid => decide (pid < 16)
  | .seqTrim r _ _ => r.ok
  | .seqClose r _ _ => r.ok
  | .prefixQuery r _ _ => r.ok
  | .join r => r.ok
  | .leave r => r.ok
  | .votePropose r => r.ok
  | .voteCast r => r.ok
  | .proofRun r => r.ok
  | .faultClear r => r.ok
  | .inject r => r.ok
  | .update r _ _ _ => r.ok
  | .debugOpen r => r.ok
  | .fuseDump r _ _ => r.ok
  | .advanceRollback r _ => r.ok
  | .revokeSlot r _ => r.ok
  | .provisionSlot r _ _ _ => r.ok
  | .serviceSlot r _ => r.ok
  | .sealDebug r _ => r.ok
  | .lifecycle r _ => r.ok
  | .gemm r _ _ _ _ => r.ok
  | .gemmBiasAct r _ _ _ _ => r.ok
  | .batchedGemm r _ _ _ _ => r.ok
  | .conv2d r _ _ _ _ => r.ok
  | .groupedConv r _ _ _ _ => r.ok
  | .activation r _ _ => r.ok
  | .layerNorm r _ _ => r.ok
  | .rmsNorm r _ _ => r.ok
  | .softmax r _ _ => r.ok
  | .convert r _ _ => r.ok
  | .quantize r _ _ => r.ok
  | .reduce r _ _ => r.ok
  | .elementwise r _ _ => r.ok
  | .prefillAttn r _ _ _ => r.ok
  | .decodeAttn r _ _ _ => r.ok
  | .retrievalAttn r _ _ _ => r.ok
  | .partialMerge r _ _ _ => r.ok
  | .copy r _ _ => r.ok
  | .transpose r _ _ => r.ok
  | .gather r _ _ => r.ok
  | .scatter r _ _ => r.ok
  | .fill r _ _ => r.ok
  | .allReduce r d _ _ => r.ok && d.ok
  | .allGather r d _ _ => r.ok && d.ok
  | .reduceScatter r d _ _ => r.ok && d.ok
  | .broadcast r d _ _ => r.ok && d.ok
  | .barrier r => r.ok
  | .ingestBind r _ _ => r.ok
  | .fuseEpoch r _ _ => r.ok
  | .gridExport r _ _ => r.ok
  | .lseSolve r _ _ => r.ok
  | .lseBundle r _ _ => r.ok
  | .assign r _ _ => r.ok
  | .runGraph r _ _ _ _ => r.ok
  | .runGraphCont r _ _ _ _ => r.ok
  | .queueDoorbell who e q tail => who.ok && decide (e < 8) && decide (q < 16) && decide (tail < 2 ^ 32)
  | .entryTake e q _ _ => decide (e < 8) && decide (q < 16)
  | .entryStart r _ _ => r.ok
  | .entryComplete r _ _ _ => r.ok
  | .irqTimeExpiry e q => decide (e < 8) && decide (q < 16)
  | .entryBudgetExpiry r _ _ _ => r.ok
  | .queueResume who e q => who.ok && decide (e < 8) && decide (q < 16)
  | .queueEnable who e q cfg => who.ok && decide (e < 8) && decide (q < 16) && decide (cfg < 2 ^ 32)
  | .queueDisable who e q cfg => who.ok && decide (e < 8) && decide (q < 16) && decide (cfg < 2 ^ 32)
  | .completionAck who e q chead => who.ok && decide (e < 8) && decide (q < 16) && decide (chead < 2 ^ 32)
  | .kernelLaunch t k r _ _ _ _ _ _ _ _ => decide (t < 64) && decide (k < 4) && r.ok
  | .teOperation t _ _ _ => decide (t < 64)
  | .vuInstruction t _ _ _ _ => decide (t < 64)
  | .fence t => decide (t < 64)
  | .fencePf t => decide (t < 64)
  | .bufferSwitch t _ => decide (t < 64)
  | .fillComplete t _ _ => decide (t < 64)
  | .kernelComplete t => decide (t < 64)
  | .kernelBudgetExpiry t => decide (t < 64)
  | .kernelAbort t => decide (t < 64)
  | .abortDrained t => decide (t < 64)
  | .tileCntClrProof t => decide (t < 64)
  | .tileCntClrVu t => decide (t < 64)
  | .tileCntClrPf t => decide (t < 64)
  | .tileCntClrBank t => decide (t < 64)
  | .weaveRead who addr _ _ _ => who.ok && decide (addr < 2 ^ 64)
  | .weaveWrite who addr _ _ _ _ _ => who.ok && decide (addr < 2 ^ 64)
  | .weaveAtomic who addr _ _ _ _ _ => who.ok && decide (addr < 2 ^ 64)
  | .weaveResponse _ _ => true
  | .leaseAcquire who addr _ => who.ok && decide (addr < 2 ^ 64)
  | .leaseRenew who addr gen _ => who.ok && decide (addr < 2 ^ 64) && decide (gen < 2 ^ 16)
  | .leaseRelease who addr gen _ => who.ok && decide (addr < 2 ^ 64) && decide (gen < 2 ^ 16)
  | .leaseExpiry l => l.ok
  | .seizureOrder k => k.ok
  | .seizureAckTimeout k => k.ok
  | .wheelSlot => true
  | .weavePeakClr who => who.ok
  | .gskDenyClr who mask => who.ok && decide (mask < 65536)
  | .wardRefuseClr who mask => who.ok && decide (mask < 2 ^ 32)
  | .discClear who => who.ok
  | .scrubVisit array _ => array.ok
  | .ceRate m => decide (m < 8)
  | .mcCntClr who m => who.ok && decide (m < 8)
  | .refreshRatePoll m _ _ => decide (m < 8)
  | .zqCalibration m => decide (m < 8)
  | .keySlotLoad k => decide (k < 9)
  | .moverLeaseAcquire who m c => who.ok && decide (m < 16) && decide (c < 32)
  | .moverLeaseRenew who m c gen => who.ok && decide (m < 16) && decide (c < 32) && decide (gen < 2 ^ 16)
  | .moverLeaseRelease who m c gen => who.ok && decide (m < 16) && decide (c < 32) && decide (gen < 2 ^ 16)
  | .moverDoorbell who m c tail => who.ok && decide (m < 16) && decide (c < 32) && decide (tail < 2 ^ 32)
  | .descriptorStart m c _ _ _ => decide (m < 16) && decide (c < 32)
  | .descriptorComplete m c => decide (m < 16) && decide (c < 32)
  | .moverResume who m c => who.ok && decide (m < 16) && decide (c < 32)
  | .lseJobStart _ => true
  | .lseJobSuspend => true
  | .lseJobComplete _ _ _ _ _ => true
  | .egoMeasPoll _ _ => true
  | .egoDeadline _ _ => true
  | .lseCntClr who => who.ok
  | .csi2FrameStart port vc _ _ => decide (port < 4) && decide (vc < 16)
  | .csi2LongPacket port vc dataType _ _ _ => decide (port < 4) && decide (vc < 16) && decide (dataType < 64)
  | .csi2FrameEnd port vc _ _ => decide (port < 4) && decide (vc < 16)
  | .ethernetFrameRx m _ _ _ _ _ _ => decide (m < 3)
  | .imuDrdy n _ => decide (n < 2)
  | .imuTransferDone n _ _ _ _ => decide (n < 2)
  | .canFrameRx n _ _ _ _ _ _ _ _ _ => decide (n < 2)
  | .streamSilent k => decide (k < 32)
  | .ppsInEdge _ => true
  | .gptpSyncTimer => true
  | .pdelayTimer => true
  | .tsuSourceLost => true
  | .tsuHoldoverExpiry => true
  | .ppsOutPulse => true
  | .tsuTimeLoRead who => who.ok
  | .strCntClrPorts who => who.ok
  | .strCntClrStreams who => who.ok
  | .fusionFrameCommit _ _ _ => true
  | .frameDeadline _ _ _ => true
  | .fuCntClr who => who.ok
  | .faultReport _ => true
  | .safetyFramePeriod _ _ => true
  | .safeFrameTxLate => true
  | .romSafetyFrame => true
  | .faultPinMismatch => true
  | .stewardHang k => decide (k < 4)
  | .clockMonWindow d _ => decide (d < 9)
  | .pllUnlock => true
  | .voltMon rail => decide (rail < 9)
  | .safeCntClr who => who.ok
  | .randomHealthFail => true
  | .commitHoldExpiry => true
  | .cozyEntryComplete _ => true
  | .cozyExitComplete _ => true
  | .loomRead via _ _ => decide (via < 9)
  | .loomWrite via _ _ _ => decide (via < 9)
  | .loomAtomic via _ => decide (via < 9)
  | .loomMsg via _ => decide (via < 9)
  | .loomRlease via => decide (via < 9)
  | .loomColl r _ _ _ _ _ _ _ _ _ _ => r.ok
  | .loomRdata via => decide (via < 9)
  | .loomRstat via => decide (via < 9)
  | .loomRequestTimeout tid => decide (tid < 2 ^ 16)
  | .routeSwitch n => decide (n < 1024)
  | .hello p _ _ _ => decide (p < 8)
  | .joinReq _ => true
  | .joinTimeout => true
  | .view _ _ _ _ _ => true
  | .heartbeatTimer => true
  | .heartbeat _ => true
  | .heartbeatLoss n _ => decide (n < 1024)
  | .claim n => decide (n < 1024)
  | .claimWindowEnd => true
  | .electionTimeout => true
  | .leaveMessage n _ => decide (n < 1024)
  | .leaveTimeout => true
  | .propose _ _ => true
  | .voteTimeout => true
  | .withdraw n _ => decide (n < 1024)
  | .commit _ => true
  | .voteAbort _ => true
  | .remoteReset _ _ => true
  | .loomRresetWrite who v => who.ok && decide (v < 2 ^ 32)
  | .abortGroup _ _ => true
  | .loomCntClr who => who.ok
  | .tunnelFrameRx _ _ _ => true
  | .tunnelFrameSend _ => true
  | .tunnelNullFlit _ => true
  | .tunnelSessionIdle _ => true
  | .tunnelSessionDead _ => true
  | .detectBurst p => decide (p < 8)
  | .partnerDetected p => decide (p < 8)
  | .trainingTimeout p => decide (p < 8)
  | .flitTx p => decide (p < 8)
  | .flitRx p wire => decide (p < 8 ∧ wire.length ≤ 4)
  | .replayTimeout p => decide (p < 8)
  | .blockLockLoss p lane => decide (p < 8) && decide (lane < 4)
  | .laneErrorThreshold p lane _ => decide (p < 8) && decide (lane < 4)
  | .flitSilence p => decide (p < 8)
  | .retrainCmd p => decide (p < 8)
  | .retrainTimeout p => decide (p < 8)
  | .linkDownCmd p => decide (p < 8)
  | .downRetry p => decide (p < 8)
  | .l1Idle p => decide (p < 8)
  | .l1ReqTimeout p => decide (p < 8)
  | .l1Exit p _ => decide (p < 8)
  | .sleepDrainTimeout p => decide (p < 8)
  | .sleepAckTimeout p => decide (p < 8)
  | .wakePatternSend p => decide (p < 8)
  | .brikelWake p => decide (p < 8)
  | .blkCntClr p => decide (p < 8)
  | .sbAddressMatch _ => true
  | .sbWriteTransfer _ _ _ => true
  | .sbReadTransfer _ _ => true
  | .sbWake => true
  | .sbNonce => true
  | .sbReset => true
  | .sbMboxInAck => true
  | .sbMode v => decide (v < 256)
  | .notifyAttempt _ => true
  | .sclLowTimeout _ => true
  | .sbMboxOutAck who => who.ok
  | .sbMboxInPost who => who.ok
  | .sbCntClr who => who.ok
  | .pcieInboundRequest _ _ _ _ => true
  | .pcieCompletion _ _ _ => true
  | .pcieOutboundTimeout _ => true
  | .pcieLinkDown => true
  | .pcieHotReset => true
  | .msixUnmask v => decide (v < 256)
  | .pcieBootGo obj _ => decide (obj < 4)
  | .bootPushTimeout => true
  | .waitSteepTimeout => true
  | .pcieCntClr who => who.ok
  | .nvmeCompletion _ _ _ _ _ => true
  | .nvmeTimeout _ => true
  | .nvmeFatal => true
  | .netTxDoorbell who e m tail _ _ _ => who.ok && decide (e < 8) && decide (m < 3) && decide (tail < 2 ^ 32)
  | .uartCharacterRx _ => true
  | .uartCharacterTx => true
  | .uartDataWrite who v => who.ok && decide (v < 4294967296)
  | .uartDataRead who => who.ok
  | .uartCfgWrite who v => who.ok && decide (v < 2 ^ 32)
  | .uartBaudWrite who v => who.ok && decide (v < 2 ^ 32)
  | .quote _ _ => true
  | .keyUnwrap _ _ => true
  | .keyDestroy _ _ => true
  | .nonce _ _ => true
  | .idPubkey _ _ => true
  | .debugPortAccess addr _ _ _ _ _ => decide (addr < 2 ^ 64)
  | .sysSeal who => who.ok
  | .kvCntClr mask => decide (mask < 65536)
  | .registerWrite who key v _ _ _ _ => who.ok && decide (key < 2 ^ 24) && decide (v < 2 ^ 32)
  | .lockstepMismatch => true
  | .aonXtalLoss => true
  | .pcieLinkUp _ width => decide (width < 32)
  | .trainingSetReceived p lane _ _ _ => decide (p < 8) && decide (lane < 4)
  | .claimAck n _ => decide (n < 1024)
  | .castVoteReceived n _ _ => decide (n < 1024)
  | .joinRefusal _ => true
  | .blockResetNotReleased g => decide (g < 119)
  | .zeroFillComplete => true


/-- The queue entry a mode request comes from. -/
def ModeSource.entry? : ModeSource → Option EntryRef
  | .entry r => some r
  | .sideband => none

/-- The queue entry a command runs for. -/
def Instr.entry? : Instr → Option EntryRef
  | .settle r _ => r.entry?
  | .rouse r _ => r.entry?
  | .serviceEnter r _ _ _ => r.entry?
  | .standby r _ _ _ => r.entry?
  | .imageLoad r _ _ => some r
  | .enclRestart r => some r
  | .leafLoad r _ _ => some r
  | .stagingComplete _ _ r _ _ _ => some r
  | .pour r => some r
  | .evict r => some r
  | .poolReset r _ _ => some r
  | .seqOpen r _ _ => some r
  | .seqFork r _ _ => some r
  | .seqAppend r _ _ => some r
  | .seqTrim r _ _ => some r
  | .seqClose r _ _ => some r
  | .prefixQuery r _ _ => some r
  | .join r => some r
  | .leave r => some r
  | .votePropose r => some r
  | .voteCast r => some r
  | .proofRun r => some r
  | .faultClear r => some r
  | .inject r => some r
  | .update r _ _ _ => some r
  | .debugOpen r => some r
  | .fuseDump r _ _ => some r
  | .advanceRollback r _ => some r
  | .revokeSlot r _ => some r
  | .provisionSlot r _ _ _ => some r
  | .serviceSlot r _ => some r
  | .sealDebug r _ => some r
  | .lifecycle r _ => some r
  | .gemm r _ _ _ _ => some r
  | .gemmBiasAct r _ _ _ _ => some r
  | .batchedGemm r _ _ _ _ => some r
  | .conv2d r _ _ _ _ => some r
  | .groupedConv r _ _ _ _ => some r
  | .activation r _ _ => some r
  | .layerNorm r _ _ => some r
  | .rmsNorm r _ _ => some r
  | .softmax r _ _ => some r
  | .convert r _ _ => some r
  | .quantize r _ _ => some r
  | .reduce r _ _ => some r
  | .elementwise r _ _ => some r
  | .prefillAttn r _ _ _ => some r
  | .decodeAttn r _ _ _ => some r
  | .retrievalAttn r _ _ _ => some r
  | .partialMerge r _ _ _ => some r
  | .copy r _ _ => some r
  | .transpose r _ _ => some r
  | .gather r _ _ => some r
  | .scatter r _ _ => some r
  | .fill r _ _ => some r
  | .allReduce r _ _ _ => some r
  | .allGather r _ _ _ => some r
  | .reduceScatter r _ _ _ => some r
  | .broadcast r _ _ _ => some r
  | .barrier r => some r
  | .ingestBind r _ _ => some r
  | .fuseEpoch r _ _ => some r
  | .gridExport r _ _ => some r
  | .lseSolve r _ _ => some r
  | .lseBundle r _ _ => some r
  | .assign r _ _ => some r
  | .runGraph r _ _ _ _ => some r
  | .runGraphCont r _ _ _ _ => some r
  | .entryStart r _ _ => some r
  | .entryComplete r _ _ _ => some r
  | .entryBudgetExpiry r _ _ _ => some r
  | .kernelLaunch _ _ r _ _ _ _ _ _ _ _ => some r
  | .loomColl r _ _ _ _ _ _ _ _ _ _ => some r
  | _ => none

end Sys2Proof
end

