-- ==== Sys2Proof/Decode.lean ====
section
/-! DEFINITION. The command table gives its rows no bits: a command reaches the block as a weave request, a queue entry, a
bus transfer, a pin or an event, and no word spells one. -/

namespace Sys2Proof

/-- The command that the `nbits` bits `w` of the command table spell: no row of the table has bits, so none.
[log 6 DEDUCED, safe] -/
def decodeTableWord (_nbits _w : Nat) : Option Instr := none

end Sys2Proof
end

