-- ==== Sys2Proof/Machine/Bits.lean ====
section
/-! DEFINITION. Bit fields [msb:lsb] (§0.5), saturating counters, modular counters, and byte strings read and
written little-endian (R1). -/

namespace Sys2Proof.Machine

/-- Bits [hi:lo] of a number. -/
def bitsOf (n hi lo : Nat) : Nat := (n >>> lo) % 2 ^ (hi + 1 - lo)

/-- Bit `i` of a number. -/
def bitOf (n i : Nat) : Bool := Nat.testBit n i

/-- A truth value as a bit. -/
def b2n (b : Bool) : Nat := if b then 1 else 0

/-- `n` with bits [hi:lo] replaced by `v`. -/
def putBits (n hi lo v : Nat) : Nat :=
  n - (bitsOf n hi lo <<< lo) + ((v % 2 ^ (hi + 1 - lo)) <<< lo)

/-- Bits [hi:lo] of a register. -/
def Field.get (w : Word) (hi lo : Nat) : Nat := bitsOf w.toNat hi lo

/-- A register with bits [hi:lo] replaced by `v`. -/
def Field.put (w : Word) (hi lo v : Nat) : Word := BitVec.ofNat 32 (putBits w.toNat hi lo v)

/-- A counter of `width` bits that saturates (the counters of the register descriptions). -/
def satAdd (width a k : Nat) : Nat := min (2 ^ width - 1) (a + k)

/-- A byte string as a number, first byte least significant (R1). -/
def leNat : List Byte → Nat
  | [] => 0
  | b :: bs => b.toNat + 256 * leNat bs

/-- A byte string as a number, first byte most significant (network order, where a rule says so). -/
def beNat (bs : List Byte) : Nat := bs.foldl (fun a b => 256 * a + b.toNat) 0

/-- The low `k` bytes of a number, least significant first (R1). -/
def leBytes : Nat → Nat → List Byte
  | 0, _ => []
  | k + 1, n => BitVec.ofNat 8 n :: leBytes k (n / 256)

/-- The low `k` bytes of a number, most significant first. -/
def beBytes (k n : Nat) : List Byte := (leBytes k n).reverse

/-- `k` bytes of a record from `off`, as a number (R1). Bytes past the end count as zero. -/
def fieldAt (bs : List Byte) (off k : Nat) : Nat := leNat ((bs.drop off).take k)

/-- `k` bytes of a record from `off`. -/
def sliceAt (bs : List Byte) (off k : Nat) : List Byte := (bs.drop off).take k

/-- A byte string with the bytes from `off` replaced by `new` (not past its end). -/
def putAt (bs : List Byte) (off : Nat) (new : List Byte) : List Byte :=
  let new' := new.take (bs.length - off)
  bs.take off ++ new' ++ bs.drop (off + new'.length)

/-- Every byte zero. -/
def allZero (bs : List Byte) : Bool := bs.all (· == 0)

/-- A two's complement number of `width` bits. -/
def toSigned (width n : Nat) : Int :=
  let m := n % 2 ^ width
  if m < 2 ^ (width - 1) then (m : Int) else (m : Int) - (2 ^ width : Nat)

/-- An integer as two's complement of `width` bits. -/
def ofSigned (width : Nat) (i : Int) : Nat := (i % ((2 ^ width : Nat) : Int)).toNat

/-- Rounded up to a multiple of `m`. -/
def roundUp (n m : Nat) : Nat := (n + m - 1) / m * m

/-- The element at `i`, or a given value past the end. -/
def at? {α : Type} (l : List α) (i : Nat) (d : α) : α := l.getD i d

/-- CRC-32C (Castagnoli, reflected polynomial 0x82F6_3B78) as R428 fixes it: initial and final value all ones. -/
def crc32cByte (crc : Nat) (b : Byte) : Nat :=
  let step (c : Nat) : Nat := if c % 2 = 1 then (c / 2) ^^^ 0x82F63B78 else c / 2
  step (step (step (step (step (step (step (step (crc ^^^ b.toNat))))))))

/-- CRC-32C over a byte string (R428). -/
def crc32c (bs : List Byte) : Nat := bs.foldl crc32cByte 0xFFFFFFFF ^^^ 0xFFFFFFFF

/-- The frame check sequence of Ethernet: CRC-32 with the reflected polynomial 0xEDB8_8320. [log 166 PRESUMED, unsafe] -/
def crc32 (bs : List Byte) : Nat :=
  let step (c : Nat) : Nat := if c % 2 = 1 then (c / 2) ^^^ 0xEDB88320 else c / 2
  let byte (c : Nat) (b : Byte) : Nat := step (step (step (step (step (step (step (step (c ^^^ b.toNat))))))))
  bs.foldl byte 0xFFFFFFFF ^^^ 0xFFFFFFFF

/-- Number of one bits among the low `w` bits. -/
def popCount : Nat → Nat → Nat
  | 0, _ => 0
  | w + 1, n => n % 2 + popCount w (n / 2)

end Sys2Proof.Machine
end

