-- ==== Sys2Proof/Machine/Aes.lean ====
section
/-! DEFINITION. AES-256-XTS (R197, R331): the block cipher of FIPS 197 with a 256-bit key and the XTS mode of IEEE 1619 over
data units of whole 16-byte blocks. A 512-bit key is 64 bytes, the data key in the first 32 and the tweak key in the last
32 (R331); a tweak is a 128-bit little-endian integer. -/

namespace Sys2Proof.Machine

namespace Aes

/-- Multiplication by x in GF(2^8) modulo x^8 + x^4 + x^3 + x + 1. -/
def xtime (a : Nat) : Nat := if 128 ≤ a then (2 * a) ^^^ 0x11B else 2 * a

/-- A product in GF(2^8), by the low `n` bits of `b`. -/
def mulBits : Nat → Nat → Nat → Nat
  | 0, _, _ => 0
  | n + 1, a, b => (if b % 2 = 1 then a else 0) ^^^ mulBits n (xtime a) (b / 2)
def mul (a b : Nat) : Nat := mulBits 8 a b

/-- The inverse in GF(2^8), with 0 for 0: the 254th power. -/
def inv (a : Nat) : Nat :=
  let a2 := mul a a
  let a4 := mul a2 a2
  let a8 := mul a4 a4
  let a16 := mul a8 a8
  let a32 := mul a16 a16
  let a64 := mul a32 a32
  let a128 := mul a64 a64
  mul a2 (mul a4 (mul a8 (mul a16 (mul a32 (mul a64 a128)))))

/-- A byte rotated left by `k`. -/
def rotl (a k : Nat) : Nat := (a * 2 ^ k) % 256 ||| a / 2 ^ (8 - k)

/-- SubBytes of one byte: the inverse and the affine map. -/
def sub (a : Nat) : Nat :=
  let b := inv a
  b ^^^ rotl b 1 ^^^ rotl b 2 ^^^ rotl b 3 ^^^ rotl b 4 ^^^ 0x63

/-- The inverse of SubBytes: the affine map undone, then the inverse. -/
def unsub (a : Nat) : Nat := inv (rotl a 1 ^^^ rotl a 3 ^^^ rotl a 6 ^^^ 0x05)

/-- The exclusive or of two byte strings. -/
def xorB (a b : List Nat) : List Nat := List.zipWith (· ^^^ ·) a b

/-- The key schedule of AES-256, word by word, latest first: word `i` of 60. -/
def expand : Nat → Nat → List (List Nat) → List (List Nat)
  | 0, _, ws => ws
  | n + 1, i, ws =>
    let t := ws.headD []
    let u :=
      if i % 8 = 0 then xorB ((t.drop 1 ++ t.take 1).map sub) [2 ^ (i / 8 - 1), 0, 0, 0]
      else if i % 8 = 4 then t.map sub else t
    expand n (i + 1) (xorB (ws.getD 7 []) u :: ws)

/-- The fifteen round keys of a 32-byte key. -/
def roundKeys (key : List Nat) : List (List Nat) :=
  let ws := (expand 52 8 ((List.range 8).map fun i => (key.drop (4 * i)).take 4).reverse).reverse
  (List.range 15).map fun r => ((ws.drop (4 * r)).take 4).flatten

/-- ShiftRows, and its inverse, on the 16 bytes of a state in column order. -/
def shiftRows (b : List Nat) : List Nat := (List.range 16).map fun i => b.getD ((i + 4 * (i % 4)) % 16) 0
def unshiftRows (b : List Nat) : List Nat := (List.range 16).map fun i => b.getD ((i + 12 * (i % 4)) % 16) 0

/-- MixColumns by a row of coefficients. -/
def mix (c : List Nat) (b : List Nat) : List Nat :=
  (List.range 16).map fun i =>
    (List.range 4).foldl (fun x j => x ^^^ mul (c.getD ((j + 4 - i % 4) % 4) 0) (b.getD (i / 4 * 4 + j) 0)) 0

/-- The rounds after the first key addition, over the remaining round keys. -/
def rounds : List (List Nat) → List Nat → List Nat
  | [], b => b
  | [k], b => xorB (shiftRows (b.map sub)) k
  | k :: ks, b => rounds ks (xorB (mix [2, 3, 1, 1] (shiftRows (b.map sub))) k)

/-- The inverse rounds: the round keys in reverse order, the first of them added already. -/
def unrounds : List (List Nat) → List Nat → List Nat
  | [], b => b
  | [k], b => xorB ((unshiftRows b).map unsub) k
  | k :: ks, b => unrounds ks (mix [14, 11, 13, 9] (xorB ((unshiftRows b).map unsub) k))

/-- One block under the round keys `ks`. -/
def encrypt (ks : List (List Nat)) (b : List Nat) : List Nat := rounds (ks.drop 1) (xorB b (ks.headD []))
def decrypt (ks : List (List Nat)) (b : List Nat) : List Nat :=
  unrounds (ks.reverse.drop 1) (xorB b (ks.reverse.headD []))

/-- The tweak of the next block: multiplication by x in GF(2^128), bytes least significant first. -/
def nextTweak (t : List Nat) : List Nat :=
  let n := 2 * t.foldr (fun b acc => b + 256 * acc) 0
  let m := if 2 ^ 128 ≤ n then (n - 2 ^ 128) ^^^ 0x87 else n
  (List.range 16).map fun i => m / 256 ^ i % 256

/-- The blocks of a data unit through the cipher `f`, each between two additions of its tweak. -/
def blocks (f : List Nat → List Nat) : Nat → List Nat → List Nat → List Nat
  | 0, _, _ => []
  | n + 1, t, d => xorB (f (xorB (d.take 16) t)) t ++ blocks f n (nextTweak t) (d.drop 16)

/-- The 64 bytes of a 512-bit key: byte 0 is its least significant byte. -/
def keyBytes (key : Nat) : List Nat := (List.range 64).map fun i => key / 256 ^ i % 256

/-- One data unit through XTS; `enc` chooses the direction. -/
def xts (enc : Bool) (key tweak : Nat) (d : List Byte) : List Byte :=
  let kb := keyBytes key
  let ks := roundKeys (kb.take 32)
  let t := encrypt (roundKeys (kb.drop 32)) ((List.range 16).map fun i => tweak / 256 ^ i % 256)
  (blocks (if enc then encrypt ks else decrypt ks) (d.length / 16) t (d.map (·.toNat))).map (BitVec.ofNat 8)

end Aes

end Sys2Proof.Machine
end

