-- ==== Sys2Proof/Machine/Crypto.lean ====
section
/-! DEFINITION. The algorithms the specification names by their standards: SHA-384 (FIPS 180-4), HMAC and HKDF over it
(RFC 2104, RFC 5869), ECDSA and ECDH on P-384 (FIPS 186), AES Key Unwrap (RFC 3394) and SipHash-2-4, as R76, R374, R622,
R624, R625 and R634 use them. [log 8 PRESUMED, unsafe] -/

namespace Sys2Proof.Machine

/-! ### SHA-384 -/

namespace Sha

/-- A word of the hash. -/
abbrev W := BitVec 64

/-- The round constants: 64 bits of the fractions of the cube roots of the first eighty primes. -/
def consts : List Nat :=
  [0x428a2f98d728ae22, 0x7137449123ef65cd, 0xb5c0fbcfec4d3b2f, 0xe9b5dba58189dbbc,
   0x3956c25bf348b538, 0x59f111f1b605d019, 0x923f82a4af194f9b, 0xab1c5ed5da6d8118,
   0xd807aa98a3030242, 0x12835b0145706fbe, 0x243185be4ee4b28c, 0x550c7dc3d5ffb4e2,
   0x72be5d74f27b896f, 0x80deb1fe3b1696b1, 0x9bdc06a725c71235, 0xc19bf174cf692694,
   0xe49b69c19ef14ad2, 0xefbe4786384f25e3, 0x0fc19dc68b8cd5b5, 0x240ca1cc77ac9c65,
   0x2de92c6f592b0275, 0x4a7484aa6ea6e483, 0x5cb0a9dcbd41fbd4, 0x76f988da831153b5,
   0x983e5152ee66dfab, 0xa831c66d2db43210, 0xb00327c898fb213f, 0xbf597fc7beef0ee4,
   0xc6e00bf33da88fc2, 0xd5a79147930aa725, 0x06ca6351e003826f, 0x142929670a0e6e70,
   0x27b70a8546d22ffc, 0x2e1b21385c26c926, 0x4d2c6dfc5ac42aed, 0x53380d139d95b3df,
   0x650a73548baf63de, 0x766a0abb3c77b2a8, 0x81c2c92e47edaee6, 0x92722c851482353b] ++
  [0xa2bfe8a14cf10364, 0xa81a664bbc423001, 0xc24b8b70d0f89791, 0xc76c51a30654be30,
   0xd192e819d6ef5218, 0xd69906245565a910, 0xf40e35855771202a, 0x106aa07032bbd1b8,
   0x19a4c116b8d2d0c8, 0x1e376c085141ab53, 0x2748774cdf8eeb99, 0x34b0bcb5e19b48a8,
   0x391c0cb3c5c95a63, 0x4ed8aa4ae3418acb, 0x5b9cca4f7763e373, 0x682e6ff3d6b2b8a3,
   0x748f82ee5defb2fc, 0x78a5636f43172f60, 0x84c87814a1f0ab72, 0x8cc702081a6439ec,
   0x90befffa23631e28, 0xa4506cebde82bde9, 0xbef9a3f7b2c67915, 0xc67178f2e372532b,
   0xca273eceea26619c, 0xd186b8c721c0c207, 0xeada7dd6cde0eb1e, 0xf57d4f7fee6ed178,
   0x06f067aa72176fba, 0x0a637dc5a2c898a6, 0x113f9804bef90dae, 0x1b710b35131c471b,
   0x28db77f523047d84, 0x32caab7b40c72493, 0x3c9ebe0a15c9bebc, 0x431d67c49c100d4c,
   0x4cc5d4becb3e42b6, 0x597f299cfc657e2a, 0x5fcb6fab3ad6faec, 0x6c44198c4a475817]

/-- The initial value: 64 bits of the fractions of the square roots of the ninth to the sixteenth prime. -/
def start : List Nat :=
  [0xcbbb9d5dc1059ed8, 0x629a292a367cd507, 0x9159015a3070dd17, 0x152fecd8f70e5939,
   0x67332667ffc00b31, 0x8eb44a8768581511, 0xdb0c2e0d64f98fa7, 0x47b5481dbefa4fa4]

/-- A rotation, and the functions of the schedule and of a round. -/
def rot (x : W) (n : Nat) : W := x.rotateRight n
def s0 (x : W) : W := rot x 1 ^^^ rot x 8 ^^^ (x >>> 7)
def s1 (x : W) : W := rot x 19 ^^^ rot x 61 ^^^ (x >>> 6)
def b0 (x : W) : W := rot x 28 ^^^ rot x 34 ^^^ rot x 39
def b1 (x : W) : W := rot x 14 ^^^ rot x 18 ^^^ rot x 41

/-- The message schedule, latest word first, `n` words longer. -/
def schedule : Nat → List W → List W
  | 0, ws => ws
  | n + 1, ws => schedule n ((s1 (ws.getD 1 0) + ws.getD 6 0 + s0 (ws.getD 14 0) + ws.getD 15 0) :: ws)

/-- One round on the eight working words a to h. -/
def round (v : List W) (k w : W) : List W :=
  match v with
  | [a, b, c, d, e, f, g, h] =>
    let t := h + b1 e + ((e &&& f) ^^^ (~~~e &&& g)) + k + w
    [t + b0 a + ((a &&& b) ^^^ (a &&& c) ^^^ (b &&& c)), a, b, c, d + t, e, f, g]
  | _ => v

/-- One 128-byte block. -/
def block (h : List W) (bs : List Byte) : List W :=
  let ws := (schedule 64 ((List.range 16).map fun i => BitVec.ofNat 64 (beNat (sliceAt bs (8 * i) 8))).reverse).reverse
  List.zipWith (· + ·) h ((consts.zip ws).foldl (fun v x => round v (BitVec.ofNat 64 x.1) x.2) h)

/-- The message with its padding: a one bit, zeros and the length in bits. -/
def pad (bs : List Byte) : List Byte :=
  bs ++ 0x80 :: List.replicate ((239 - bs.length % 128) % 128) 0 ++ beBytes 16 (8 * bs.length)

/-- The SHA-384 of a byte string, 48 bytes in the order the hash produces (R76). -/
def digest (bs : List Byte) : List Byte :=
  let m := pad bs
  let h := (List.range (m.length / 128)).foldl (fun h i => block h (sliceAt m (128 * i) 128)) (start.map (BitVec.ofNat 64))
  (h.take 6).flatMap fun x => beBytes 8 x.toNat

/-- HMAC over SHA-384. -/
def hmac (key msg : List Byte) : List Byte :=
  let k := if 128 < key.length then digest key else key
  let x (c : Byte) : List Byte := (k ++ List.replicate (128 - k.length) 0).map (· ^^^ c)
  digest (x 0x5C ++ digest (x 0x36 ++ msg))

/-- HKDF-SHA-384 for at most 48 bytes of output: one block of the expansion (R622, R625). -/
def hkdf (ikm salt info : List Byte) (len : Nat) : List Byte := (hmac (hmac salt ikm) (info ++ [0x01])).take len

end Sha

/-- The SHA-384 of a byte string as a number, first byte most significant (R76). -/
def sha384 (bs : List Byte) : Nat := beNat (Sha.digest bs)

/-! ### P-384 -/

namespace P384

/-- The field prime, the coefficient b of y² = x³ − 3x + b, the group order and the base point. -/
def prime : Nat := 2 ^ 384 - 2 ^ 128 - 2 ^ 96 + 2 ^ 32 - 1
def coeff : Nat := 0xb3312fa7e23ee7e4988e056be3f82d19181d9c6efe8141120314088f5013875ac656398d8a2ed19d2a85c8edd3ec2aef
def order : Nat := 0xffffffffffffffffffffffffffffffffffffffffffffffffc7634d81f4372ddf581a0db248b0a77aecec196accc52973
def base : Option (Nat × Nat) :=
  some (0xaa87ca22be8b05378eb1c71ef320ad746e1d3b628ba79b9859f741e082542a385502f25dbf55296c3a545e3872760ab7,
        0x3617de4a96262c6f5d9e98bf9292dc29f8f41dbd289a147ce9da3113b5f0b8c00a60b1ce1d7e819d7a431d7c90ea0e5f)

/-- A power modulo `m`, by the low `n` bits of the exponent. -/
def powBits (m : Nat) : Nat → Nat → Nat → Nat
  | 0, _, _ => 1
  | n + 1, a, e => ((if e % 2 = 1 then a else 1) * powBits m n (a * a % m) (e / 2)) % m

/-- The inverse modulo a prime `m`. -/
def inv (m a : Nat) : Nat := powBits m 384 (a % m) (m - 2)

/-- x³ − 3x + b. -/
def rhs (x : Nat) : Nat := (x * x * x + (prime - 3) * x + coeff) % prime

/-- (x, y) is a point of the curve (R626). -/
def onCurve (x y : Nat) : Bool := decide (x < prime ∧ y < prime ∧ y * y % prime = rhs x)

/-- The sum of two points; none is the neutral element. -/
def add (a b : Option (Nat × Nat)) : Option (Nat × Nat) :=
  match a, b with
  | none, q => q
  | p, none => p
  | some (x1, y1), some (x2, y2) =>
    if x1 = x2 ∧ (y1 + y2) % prime = 0 then none
    else
      let l := if x1 = x2 then ((3 * x1 * x1 + prime - 3) * inv prime (2 * y1)) % prime
        else ((y2 + prime - y1) * inv prime (x2 + prime - x1)) % prime
      let x := (l * l + 2 * prime - x1 - x2) % prime
      some (x, (l * (x1 + prime - x) + prime - y1) % prime)

/-- A multiple of a point, by the low `n` bits of the scalar. -/
def mulBits : Nat → Nat → Option (Nat × Nat) → Option (Nat × Nat)
  | 0, _, _ => none
  | n + 1, k, p => add (if k % 2 = 1 then p else none) (mulBits n (k / 2) (add p p))
def mul (k : Nat) (p : Option (Nat × Nat)) : Option (Nat × Nat) := mulBits 384 k p

/-- The public point of a private scalar (R622). -/
def publicOf (k : Nat) : Nat × Nat := (mul k base).getD (0, 0)

/-- The point a 49-byte compressed key names: 0x02 or 0x03 by the parity of y, then x; none when it is no point (R617,
Table 20.11). -/
def point (key : Nat) : Option (Nat × Nat) :=
  let (form, x) := (key / 2 ^ 384, key % 2 ^ 384)
  let y := powBits prime 384 (rhs x) ((prime + 1) / 4)
  if (form = 2 ∨ form = 3) ∧ onCurve x y then some (x, if y % 2 = form % 2 then y else prime - y) else none

/-- An ECDSA signature (r, s) over a digest verifies under a compressed key (R76, R634). -/
def verify (digest key r s : Nat) : Bool :=
  match point key with
  | none => false
  | some q =>
    let w := inv order s
    match add (mul (digest * w % order) base) (mul (r * w % order) (some q)) with
    | none => false
    | some p => decide (1 ≤ r ∧ r < order ∧ 1 ≤ s ∧ s < order ∧ p.1 % order = r)

/-- An ECDSA signature over a digest with a private scalar and a per-signature secret (R624). -/
def sign (digest key secret : Nat) : Nat × Nat :=
  let k := 1 + secret % (order - 1)
  let r := (publicOf k).1 % order
  (r, inv order k * (digest + r * key) % order)

/-- The x-coordinate of the ECDH of a private scalar and a point, 48 bytes (R625). -/
def ecdh (key x y : Nat) : List Byte := beBytes 48 (((mul key (some (x, y))).map (·.1)).getD 0)

end P384

/-! ### AES Key Unwrap (RFC 3394) -/

namespace KeyWrap

/-- One unwrap step: the integrity register and the block `i` (of eight, from 1) at count `t`. -/
def step (ks : List (List Nat)) (x : List Nat × List (List Nat)) (i t : Nat) : List Nat × List (List Nat) :=
  let a := Aes.xorB x.1 ((beBytes 8 t).map (·.toNat))
  let b := Aes.decrypt ks (a ++ x.2.getD (i - 1) [])
  (b.take 8, x.2.set (i - 1) (b.drop 8))

/-- The 64-byte key wrapped in 72 bytes under a 32-byte key, when the integrity check passes. -/
def unwrap (kek bs : List Byte) : Option (List Byte) :=
  let ks := Aes.roundKeys (kek.map (·.toNat))
  let d := bs.map (·.toNat)
  let x := (List.range 48).foldl (fun x j => step ks x (8 - j % 8) (48 - j))
    (d.take 8, (List.range 8).map fun i => (d.drop (8 + 8 * i)).take 8)
  if x.1 = List.replicate 8 0xA6 then some (x.2.flatten.map (BitVec.ofNat 8)) else none

end KeyWrap

/-! ### SipHash-2-4 -/

namespace Sip

/-- One round. -/
def round (v : List (BitVec 64)) : List (BitVec 64) :=
  match v with
  | [v0, v1, v2, v3] =>
    let a0 := v0 + v1
    let a1 := v1.rotateLeft 13 ^^^ a0
    let a2 := v2 + v3
    let a3 := v3.rotateLeft 16 ^^^ a2
    let b0 := a0.rotateLeft 32 + a3
    let b3 := a3.rotateLeft 21 ^^^ b0
    let b2 := a2 + a1
    let b1 := a1.rotateLeft 17 ^^^ b2
    [b0, b1, b2.rotateLeft 32, b3]
  | _ => v

/-- `v` with `m` added to word `i` by exclusive or. -/
def xorAt (v : List (BitVec 64)) (i : Nat) (m : BitVec 64) : List (BitVec 64) := v.set i (v.getD i 0 ^^^ m)

/-- The words of a message: eight bytes each, the last with the length in its top byte. -/
def words (bs : List Byte) : List (BitVec 64) :=
  (List.range (bs.length / 8 + 1)).map fun i =>
    BitVec.ofNat 64 (leNat (sliceAt bs (8 * i) 8) + if i = bs.length / 8 then bs.length % 256 * 2 ^ 56 else 0)

/-- SipHash-2-4 of a message under a 128-bit key, low word first (R374). -/
def hash (key : Nat) (bs : List Byte) : Nat :=
  let (k0, k1) := (BitVec.ofNat 64 key, BitVec.ofNat 64 (key / 2 ^ 64))
  let v := (words bs).foldl (fun v m => xorAt (round (round (xorAt v 3 m))) 0 m)
    [k0 ^^^ 0x736f6d6570736575, k1 ^^^ 0x646f72616e646f6d, k0 ^^^ 0x6c7967656e657261, k1 ^^^ 0x7465646279746573]
  ((round (round (round (round (xorAt v 2 0xFF))))).foldl (· ^^^ ·) 0).toNat

end Sip

end Sys2Proof.Machine
end

