-- ==== Sys2Proof/Config.lean ====
section
/-! DEFINITION. What the specification leaves open or gives only by name of an outside algorithm: constants with no
body, so that no proof can see a value of them, and a claim holds whatever they are. Each is named in the
assumption log. -/

namespace Sys2Proof.Config

/-- A fresh value nothing constrains: the `n`-th value drawn (State.freeCtr counts the draws). Used wherever the
specification gives an effect and does not state the value. -/
opaque free : Nat → Nat

/-- The SHA-384 of the boot ROM, stored in the ROM (R624, Table 20.5). -/
opaque romDigest : Nat

/-- The content of the fuses, which manufacture fixes: UDS (R617), 384 bits as a big-endian number. -/
opaque uds : Nat

/-- The device's fused link identity of Brikel port p (BLK_SELF_ID_p, R544). -/
opaque linkId : Nat → Nat

/-- 2 to the power of a 32-bit float, within the error bound stated for the vector unit. -/
opaque vuExp2 : Nat → Nat

/-- What a vector compare writes for true and for false (R225), which the specification does not state. -/
opaque vuTrue : Nat
opaque vuFalse : Nat

/-- Reciprocal of a 32-bit float, within the error bound stated for the vector unit. -/
opaque vuRcp : Nat → Nat

/-- Reciprocal square root of a 32-bit float, within the error bound stated for the vector unit. -/
opaque vuRsqrt : Nat → Nat

/-- The LSE's sine, cosine and atan2 sequences on FP64 patterns in a rounding mode (Table 8.3): the value, held to the bound of
R502 where it is used, and the flags its operations raise. -/
opaque lseSin : Nat → Nat → Nat × Nat
opaque lseCos : Nat → Nat → Nat × Nat
opaque lseAtan2 : Nat → Nat → Nat → Nat × Nat

/-- The geometric models that the assembler evaluates and the specification names without stating their formulas (§15.3, R490,
R502, R505). -/
inductive Geometry where
  /-- A BUNDLE observation: intrinsics 6, pose 6, point 3, u, v. Residual 2; Jacobians 2 × 6 (pose), 2 × 3 (point). -/
  | observe
  /-- A FEATURE: motion block 15, sensor 12, landmark 3, u, v. Residual 2; Jacobians 2 × 15, 2 × 12, 2 × 3. -/
  | feature
  /-- A LIDAR_ALIGN: two motion blocks, sensor 12, pose 6. Residual 6; Jacobians 6 × 15 twice, 6 × 12. -/
  | lidar
  /-- A preintegrated IMU factor: two motion blocks, sensor 12, gravity, four noises, Δt, then per datum its time after the first
  knot and six values. Residual 15; Jacobians 15 × 15 twice, 15 × 12; information 15 × 15. -/
  | imu
  /-- A WHEEL factor: two motion blocks, Δt, speed, yaw rate. Residual 2; Jacobians 2 × 15 twice. -/
  | wheel
  /-- A landmark from two observations: per observation motion block 15, sensor 12, u, v. Position 3. -/
  | triangulate
  /-- An attitude turned by an increment: 3, 3. Attitude 3. -/
  | turn
  /-- The rotation matrix of an attitude, row by row. -/
  | matrix
  /-- The yaw rate at a knot: motion block before, its own, Δt. -/
  | rate
  /-- IMU propagation over an epoch: motion block, sensor 12, gravity, Δt, the data as above. Forward speed and yaw rate at its
  end. -/
  | propagate
  deriving DecidableEq, Repr

/-- The values a model gives in a rounding mode, and the flags its operations raise. -/
opaque lseModel : Geometry → Nat → List Nat → List Nat × Nat

/-- The default time budget in µs of an operation, by class and OP, where the specification leaves it to the operator
(Table 9.1); none is no limit. -/
opaque defaultBudgetUs : Nat → Nat → Option Nat

end Sys2Proof.Config
end

