-- ==== Sys2Proof/Machine/Types/Base.lean ====
section
/-! DEFINITION. The names and records of chapters 0 to 5 and 23: device states, status codes, the structure image,
power, reset and gaskets, weave requests, leases, enclosures and memory channels. Every field's default is its
value at reset, as the register descriptions and Table 3.6 give it. -/

namespace Sys2Proof.Machine

/-- The ten device states (R15, Table 1.1). -/
inductive DevState where
  | off | standby | boot | proof | drive | settle | steep | rouse | service | halt
  deriving DecidableEq, Repr

/-- The state codes of Table 1.1. -/
def DevState.code : DevState → Nat
  | .off => 0 | .standby => 1 | .boot => 2 | .proof => 3 | .drive => 4
  | .settle => 5 | .steep => 6 | .rouse => 7 | .service => 8 | .halt => 9

/-- The common status codes (R7, Table 0.5), and the operator-specific codes 0x40 to 0x7F. -/
inductive Status where
  | ok | busy | badArg | notFound | noSpace | blockReset | poisoned | timeout | accessDenied | integrity
  | stale | stateRefused | admitRefused | peerLost | keyUnavailable | abortedByRouse | leaseSeized
  | op (k : Nat)      -- 0x40 + k
  deriving DecidableEq, Repr

/-- The code of a status (Table 0.5). -/
def Status.code : Status → Nat
  | .ok => 0x00 | .busy => 0x01 | .badArg => 0x02 | .notFound => 0x03 | .noSpace => 0x04
  | .blockReset => 0x05 | .poisoned => 0x06 | .timeout => 0x07 | .accessDenied => 0x08
  | .integrity => 0x09 | .stale => 0x0A | .stateRefused => 0x0B | .admitRefused => 0x0C
  | .peerLost => 0x0D | .keyUnavailable => 0x0E | .abortedByRouse => 0x0F | .leaseSeized => 0x10
  | .op k => 0x40 + k

/-- The seven command classes (§0.8), index as in WARD_REFUSE_CNT_c (R48). -/
inductive CmdClass where
  | cfg | run | wgt | kv | loom | safe | svc
  deriving DecidableEq, Repr

/-- The class index of R48. -/
def CmdClass.index : CmdClass → Nat
  | .cfg => 0 | .run => 1 | .wgt => 2 | .kv => 3 | .loom => 4 | .safe => 5 | .svc => 6

/-- The guards of WARD_REFUSE_LAST.GUARD (R49). -/
inductive Guard where
  | pair | parkHold | activeFault | noSteepImage | residentTarget | notAuthorised | noTransition
  | queuesBusy | preempted
  deriving DecidableEq, Repr

/-- The guard codes of Table 1.16. -/
def Guard.code : Guard → Nat
  | .pair => 0 | .parkHold => 1 | .activeFault => 2 | .noSteepImage => 3 | .residentTarget => 4
  | .notAuthorised => 5 | .noTransition => 6 | .queuesBusy => 7 | .preempted => 8

/-- Where a mode request comes from (WARD_REFUSE_LAST.SOURCE). -/
inductive ReqSource where
  | queue | sideband
  deriving DecidableEq, Repr

/-- The phase of a device state that runs in steps: PROOF (R21), ROUSE (Table 1.6) and SETTLE (Table 1.5). -/
inductive WardPhase where
  | none         -- no stepped work
  | selfProof    -- PROOF step 1, or the proof of ROUSE step 7 is running
  | waitEpoch    -- waiting for the next epoch boundary
  | warmUp       -- the warm-up epoch runs
  | settling     -- SETTLE steps 1 to 6
  | trapped      -- ROUSE: a step waits for a block reset that is not released (R36)
  deriving DecidableEq, Repr

/-- The warden's own state (chapter 1). PROOF_RETRY and the latched discrepancy fault lie in AON. -/
structure Ward where
  st : DevState := .boot
  prev : DevState := .off
  resident : Bool := false
  cozy : Bool := false
  proofRetry : Bool := false
  phase : WardPhase := .none
  /-- When the present ROUSE was triggered, SETTLE accepted or PROOF entered, by the model's clock. -/
  since : Nat := 0
  /-- Cozy sleep entry has completed; wake requests latched in AON (R574) and rouse triggers among them, as bits of
  WARD_TRANS_CAUSE. -/
  asleep : Bool := false
  wake : Bool := false
  rouseCauses : Nat := 0
  /-- The block ROUSE waits for (R36), plus one. -/
  waitBlock : Nat := 0
  /-- Work of R633 is still to be done once DRIVE is declared, or runs after it. -/
  zeroFill : Bool := false
  /-- Causes of triggers that lost in the present cycle (R19), recorded with the transition that follows. -/
  also : Nat := 0
  /-- The model's own: when the last transition took place, by the model's clock, plus one; 0 never. Triggers of that cycle
  share WARD_TRANS_CAUSE (R19, R44). -/
  transAt : Nat := 0
  deriving DecidableEq, Repr

/-- The PARK input and WAKE_IN (R28, R37 to R42). `fault` lies in AON. -/
structure Park where
  aRaw : Bool := false
  bRaw : Bool := false
  agree : Bool := false
  /-- Agreed value of the latest agreeing sample since reset: parked. -/
  agreed : Bool := false
  fault : Bool := false
  /-- Consecutive agreeing samples, up to 50 (R41). -/
  run : Nat := 0
  clearReady : Bool := false
  disc : Nat := 0
  hold : Nat := 0
  /-- Length of the present run of high WAKE_IN samples. -/
  wakeRun : Nat := 0
  /-- The model's own: the least sample instant (R37) at which PARK, and WAKE_IN, may be sampled next. -/
  parkNext : Nat := 0
  wakeNext : Nat := 0
  deriving DecidableEq, Repr

/-- The scopes of Table 3.6. -/
inductive Scope where
  | warm | pin | full
  deriving DecidableEq, Repr

/-- The twelve reset sources, numbered as RST_CAUSE numbers them (Table 3.5). -/
inductive ResetSource where
  | powerOn | coreBor | ioBor | pin | watchdog | safetyFatal | thermal | sideband | pcie | software
  | loomRemote | proofFail
  deriving DecidableEq, Repr

/-- The RST_CAUSE bit of a source (Table 3.5). -/
def ResetSource.bit : ResetSource → Nat
  | .powerOn => 0 | .coreBor => 1 | .ioBor => 2 | .pin => 3 | .watchdog => 4 | .safetyFatal => 5
  | .thermal => 6 | .sideband => 7 | .pcie => 8 | .software => 9 | .loomRemote => 10 | .proofFail => 11

/-- The scope of a source (Table 3.5). -/
def ResetSource.scope : ResetSource → Scope
  | .powerOn => .full | .pin => .pin | _ => .warm

/-- The steps of Table 3.7 as far as the commands tell them apart. -/
inductive BootPhase where
  | held        -- a reset source is active, or the release has not run
  | training    -- step 7: DRAM training
  | trained     -- after training, step 8 held by a thermal wait
  | initialising -- step 8: DRAM zero fill
  | imageWait   -- waiting for the DRIVE image
  | done        -- the DRIVE image is applied
  deriving DecidableEq, Repr

/-- Reset, rails and clocks (chapter 3). [log 148 DESIGN CHOICE, safe] -/
structure Power where
  phase : BootPhase := .held
  /-- The reset is at the Full or Pin scope: the strap is sampled at the release. -/
  strapDue : Bool := true
  thermalHold : Bool := false
  railMain : Bool := true
  railMem : Bool := true
  /-- Groups M and D stand within their monitor windows. -/
  railsUp : Bool := false
  railFail : Nat := 0
  railTries : Nat := 0
  vid : Nat := 10
  /-- When VID_CORE last moved, plus one; 0 never. -/
  vidAt : Nat := 0
  pllLock : Bool := false
  refOk : Bool := false
  aonXtal : Bool := false
  imgDiv : Bool := false
  throttled : Bool := false
  capThrottled : Bool := false
  wdogMs : Nat := 1000
  /-- The raw strap reading, reported on the UART when invalid (R123), in units of 0.1 mV. -/
  strapRaw : Nat := 0
  deriving DecidableEq, Repr

/-- The three gasket states (§3.5). -/
inductive GskState where
  | opened | draining | sealed
  deriving DecidableEq, Repr

/-- The gasket states' codes (Table 3.23). -/
def GskState.code : GskState → Nat
  | .opened => 0 | .draining => 1 | .sealed => 2

/-- One gasket and its block's reset and power (R116 to R120, R133, R134). The event bits, the discard count and
DRAIN_TO lie in the register file. -/
structure Gasket where
  st : GskState := .sealed
  inReset : Bool := false
  powered : Bool := false
  /-- When the present drain or reset began. -/
  since : Nat := 0
  /-- The drain timeout of a drain the warden began itself (Table 4.7 step 3), in ns; 0: GSK_CTL_g.DRAIN_TO. -/
  bound : Nat := 0
  deriving DecidableEq, Repr

/-- A record of PROFILE (R55): class 0 absent, 1 SAFETY, 2 QM. -/
structure EnclRec where
  cls : Nat := 0
  queues : Nat := 0
  stewards : Nat := 0
  deriving DecidableEq, Repr

/-- A WINDOWS item (R61). -/
structure Window where
  encl : Nat := 0
  index : Nat := 0
  target : Nat := 0
  perm : Nat := 0
  flags : Nat := 0
  base : Nat := 0
  size : Nat := 0
  deriving DecidableEq, Repr

/-- A PORTS item (R67). -/
structure Port where
  id : Nat := 0
  role : Nat := 0
  owner : Nat := 0
  options : Nat := 0
  deriving DecidableEq, Repr

/-- A POOLS item (R73). -/
structure PoolItem where
  id : Nat := 0
  owner : Nat := 0
  pageSize : Nat := 0
  storeFmt : Nat := 0
  window : Nat := 0
  pages : Nat := 0
  pageBytes : Nat := 0
  baseOffset : Nat := 0
  poolBytes : Nat := 0
  deriving DecidableEq, Repr

/-- A Ferex image, every field the warden reads (R52 to R76). -/
structure Image where
  signerSlot : Nat := 0
  securityVersion : Nat := 0
  serial : Nat := 0
  digest : List Byte := []
  profile : Nat := 1
  pairSerial : Nat := 0
  records : List EnclRec := []
  owners : List Nat := []
  lend : Nat := 0
  spare : Nat := 0
  routes : List Nat := []
  credits : List Nat := []
  vc3 : Nat := 0
  windows : List Window := []
  wheel : List Nat := []
  shares : List Nat := []
  moverCh : List Nat := []
  ports : List Port := []
  clocks : List Nat := []
  loomId : Nat := 0
  nodeId : Nat := 0
  loomRole : Nat := 0
  bpMask : Nat := 0
  tunnel : Nat := 0
  remoteReset : Nat := 0
  udpPort : Nat := 0
  pools : List PoolItem := []
  mech : Nat := 0
  tDisc : Nat := 0
  epochMs : Nat := 0
  leaseMs : Nat := 0
  wdogMs : Nat := 0
  canPeriod : Nat := 0
  canId : Nat := 0
  deriving DecidableEq, Repr

/-- Which images are in force (WARD_IMG_STAT.IN_FORCE). -/
inductive InForce where
  | none | drive | both
  deriving DecidableEq, Repr

/-- The image store and the structure in force (R80, R90). -/
structure Images where
  drive : Option Image := none
  steep : Option Image := none
  force : InForce := .none
  /-- The DRIVE image applied at boot, against which R89 judges. -/
  bootDrive : Option Image := none
  spareOut : List Nat := []
  /-- Queue registers of the DRIVE image's QM enclosures, kept through STEEP (R314). -/
  keptRegs : List (Nat × Word) := []
  /-- What R633 still has to write with zero after a ROUSE: ranges [lo, hi). -/
  fill : List (Nat × Nat) := []
  deriving DecidableEq, Repr

/-- The abort state of one enclosure record (R157, Table 4.14). -/
inductive EnclState where
  | absent | running | aborting | aborted
  deriving DecidableEq, Repr

/-- One enclosure of one image (R156, R157). WARD_ENCL_STAT_e.ABORTS lies in the register file. -/
structure Encl where
  st : EnclState := .absent
  /-- Steps 2 to 4 of Table 4.7 are done: ABORTED follows when the gaskets of its tiles are SEALED. -/
  closing : Bool := false
  deriving DecidableEq, Repr

/-- The operations of weave requests (R148, R151). -/
inductive WOp where
  | read | write | atomic
  deriving DecidableEq, Repr

/-- A request that has been performed and whose response is on its way (R149, R152). -/
structure WReq where
  id : Nat := 0
  /-- Issuing gasket (Table 3.11). -/
  src : Nat := 0
  /-- Gasket of the target block. -/
  dst : Nat := 0
  tag : Nat := 0
  vc : Nat := 0
  /-- The mover channel that issued it, plus one (R256); 0 for any other requester. -/
  chan : Nat := 0
  /-- Counted in WEAVE_OUTST.NOW: a DRAM or commons request off VC2. -/
  counted : Bool := false
  /-- It reads: its POISONED sets a kernel's POISON flag (R228). -/
  read : Bool := false
  status : Status := .ok
  data : List Byte := []
  deriving DecidableEq, Repr

/-- What the response of a completed request carried (R149), and the virtual channel it came on (Table 4.3). -/
structure WDone where
  id : Nat := 0
  src : Nat := 0
  vc : Nat := 1
  status : Status := .ok
  data : List Byte := []
  deriving DecidableEq, Repr

/-- The weave (chapter 4): outstanding requests, completed responses, the time wheel and the live leases on
commons words. -/
structure Weave where
  outst : List WReq := []
  done : List WDone := []
  nextId : Nat := 0
  peak : Nat := 0
  slot : Nat := 0
  run : Bool := false
  /-- Word addresses of live leases (R165). -/
  live : List Nat := []
  /-- Seizure orders sent and not acknowledged (R167): the keeper (0 to 7 commons slices, 8 to 23 movers, 24 KV, 25
  loom), the party (a gasket index, or 128 + an enclosure), and when the order was sent. -/
  seizures : List (Nat × Nat × Nat) := []
  deriving DecidableEq, Repr

/-- One memory channel (chapter 5). -/
structure Chan where
  trained : Bool := false
  trainFail : Bool := false
  selfRefresh : Bool := false
  linkEcc : Bool := false
  hot : Bool := false
  rawCh : Nat := 0
  /-- Times of the correctable events in the sliding second, latest first (R195). -/
  ceTimes : List Nat := []
  ceReported : Bool := false
  /-- Next group the patrol scrubber visits (R192). -/
  scrubAt : Nat := 0
  /-- Code granules whose cache entry is dirty, the latest first (R181). -/
  dirty : List Nat := []
  refreshRate : Nat := 1
  /-- The contents were lost with a reset of the controller; the granules written or read since. -/
  lost : Bool := false
  fresh : List Nat := []
  deriving DecidableEq, Repr

/-- The patrol scrubber of one SRAM array and its poison list (R186, R192). -/
structure Sram where
  listed : List Nat := []
  scrubAt : Nat := 0
  deriving DecidableEq, Repr

/-- The kinds of logged memory events (Tables 5.3, 5.4, R191). -/
inductive EccEvent where
  | ce | ue | linkUe | poisonRead | poisonMerge | poisonWrite | overflow
  deriving DecidableEq, Repr

/-- Event codes of MC_ECC_LOG2_m.TYPE (Table 5.7). -/
def EccEvent.code : EccEvent → Nat
  | .ce => 1 | .ue => 2 | .linkUe => 3 | .poisonRead => 4 | .poisonMerge => 5 | .poisonWrite => 6
  | .overflow => 7

/-- The decoded state of a protected unit (R185). -/
inductive UnitState where
  | clean | correctable (bit : Nat) | uncorrectable | poisoned
  deriving DecidableEq, Repr

end Sys2Proof.Machine
end

