-- ==== Sys2Proof/Machine/ImageCheck.lean ====
section
/-! DEFINITION. The Ferex image: its byte layout (R52 to R76), read into `Image`, and the checks of Table 2.14 in
evaluation order (R77), as functions of the bytes and of the device's present facts (R78). -/

namespace Sys2Proof.Machine

/-- A failed check: conflict code, section type, item index (R77). -/
structure ImgFail where
  code : Nat
  section_ : Nat
  item : Nat
  deriving DecidableEq, Repr

/-- The completion a conflict code carries (Table 2.14). -/
def ImgFail.status (x : ImgFail) : Status :=
  if 5 ≤ x.code ∧ x.code ≤ 8 then .integrity else .badArg

/-- The device facts the checks run against (R78). -/
structure ImgFacts where
  stepping : Nat := 0xB1
  /-- Provisioned and unrevoked signer slots with their public keys. -/
  keys : List (Nat × Nat) := []
  rollback : Nat := 0
  usable : Nat := 0
  hostPush : Bool := false
  /-- The profile the boot place demands (R82); 0 elsewhere. -/
  place : Nat := 0
  /-- The resident DRIVE image (steps 22, 23). -/
  drive : Option Image := none
  deriving DecidableEq, Repr

/-- The first failure among several checks, in order (R77: evaluation stops at the first failure). -/
def firstFail (l : List (Option ImgFail)) : Option ImgFail := l.findSome? id

/-- A failure when the condition holds. -/
def failIf (c : Bool) (code sec item : Nat) : Option ImgFail :=
  if c then some ⟨code, sec, item⟩ else none

/-- The first index below `n` at which a condition holds, reported as a failure with item `g i`. -/
def failAt (n : Nat) (c : Nat → Bool) (code sec : Nat) (g : Nat → Nat) : Option ImgFail :=
  ((List.range n).find? c).map (fun i => ⟨code, sec, g i⟩)

/-- Section lengths of Table 2.3: `some n` a fixed section of n bytes. -/
def fixedLen : Nat → Option Nat
  | 1 => some 72 | 2 => some 80 | 3 => some 16 | 5 => some 64 | 6 => some 24 | 8 => some 8
  | 9 => some 16 | 11 => some 32 | 12 => some 160 | _ => none

/-- List sections of Table 2.3: bytes per item and the largest number of items. -/
def listItem : Nat → Nat × Nat
  | 4 => (24, 128) | 7 => (4, 32) | 10 => (32, 16) | _ => (0, 0)

/-- Directory entry of section type `k` (1 to 12): ITEMS, OFFSET, LENGTH (Table 2.2). -/
def dirItems (bs : List Byte) (k : Nat) : Nat := fieldAt bs (0x40 + 16 * (k - 1) + 2) 2
/-- OFFSET of section `k`. -/
def dirOffset (bs : List Byte) (k : Nat) : Nat := fieldAt bs (0x40 + 16 * (k - 1) + 4) 4
/-- LENGTH of section `k`. -/
def dirLength (bs : List Byte) (k : Nat) : Nat := fieldAt bs (0x40 + 16 * (k - 1) + 8) 4

/-- Steps 1 to 8 for an object with the given MAGIC and length limits: an image, or a firmware bundle (R619). -/
def checkSealed (fx : ImgFacts) (magic maxLen : Nat) (image : Bool) (bs : List Byte) : Option ImgFail :=
  let len := fieldAt bs 8 4
  let resEnd := if image then 0x40 else 0x100
  let dirRes (i : Nat) : Bool := !allZero (sliceAt bs (0x40 + 16 * i + 0xC) 4)
  let sealAt := len - 160
  let slot := fieldAt bs 0xF 1
  let digest := beNat (sliceAt bs sealAt 48)
  firstFail [
    failIf (len < 0x200 || maxLen < len || len % 32 ≠ 0 || len ≠ bs.length) 1 0 8,
    failIf (fieldAt bs 0 4 ≠ magic) 2 0 0,
    failIf (fieldAt bs 4 2 ≠ 3) 3 0 4,
    failIf (fieldAt bs 6 2 ≠ 0x100) 3 0 6,
    failIf (fieldAt bs 0x14 4 = 0) 3 0 0x14,
    failAt (resEnd - 0x18) (fun i => at? bs (0x18 + i) 0 ≠ 0) 3 0 (fun i => 0x18 + i),
    if image then ((List.range 12).find? dirRes).map (fun i =>
      ⟨3, 0, 0x40 + 16 * i + 0xC +
        ((sliceAt bs (0x40 + 16 * i + 0xC) 4).findIdx (· ≠ 0))⟩) else none,
    failIf (fieldAt bs 0xC 2 ≠ 0x64) 4 0 0xC,
    failIf (fx.stepping < fieldAt bs 0xE 1) 4 0 0xE,
    failIf (!(fx.keys.any (fun k => k.1 = slot))) 5 0 0xF,
    failIf (digest ≠ sha384 (bs.take sealAt)) 6 0xC 0,
    failIf (!(P384.verify digest ((fx.keys.find? (fun k => k.1 = slot)).map (·.2) |>.getD 0)
      (fieldAt bs (sealAt + 0x30) 48) (fieldAt bs (sealAt + 0x60) 48))) 7 0xC 0x30,
    failIf (fieldAt bs 0x10 4 < fx.rollback) 8 0 0x10 ]

/-- Step 9: the directory under R53 and R54. -/
def checkDirectory (bs : List Byte) : Option ImgFail :=
  let len := fieldAt bs 8 4
  (List.range 12).findSome? fun i =>
    let k := i + 1
    let at0 := 0x40 + 16 * i
    let items := dirItems bs k
    let off := dirOffset bs k
    let sl := dirLength bs k
    let prev := if i = 0 then 0x100 else roundUp (dirOffset bs i + dirLength bs i) 64
    let want := match fixedLen k with
      | some n => n
      | none => (listItem k).1 * items
    let itemsBad := match fixedLen k with
      | some _ => decide (items ≠ 1)
      | none => decide ((listItem k).2 < items)
    firstFail [
      failIf (fieldAt bs at0 1 ≠ k) 9 0 at0,
      failIf (fieldAt bs (at0 + 1) 1 ≠ 1) 9 0 (at0 + 1),
      failIf itemsBad 9 0 (at0 + 2),
      failIf (off % 64 ≠ 0 && k ≠ 12) 9 0 (at0 + 4),
      failIf (off < prev && k ≠ 12) 9 0 (at0 + 4),
      failIf (k = 12 && (off ≠ len - 160 || off < prev || off % 64 ≠ 0)) 9 0 (at0 + 4),
      failIf ((fixedLen k).isNone && items = 0 && off ≠ prev) 9 0 (at0 + 4),
      failIf (sl ≠ want) 9 0 (at0 + 8),
      failIf (len < off + sl) 9 0 (at0 + 8) ]

/-- The bits of byte `i` of one item or fixed section that R77 calls reserved; those of MECH_ENABLE are step 21's (R582). -/
def reservedMask (k i : Nat) : Nat :=
  match k with
  | 1 => if i < 4 then (if i = 0 then 0 else 0xFF) else if i < 8 then 0
      else match (i - 8) % 8 with
        | 0 => 0 | 1 => 0 | 2 => 0xF0 | _ => 0xFF
  | 3 => if 9 ≤ i then 0xFF else 0
  | 4 => if 5 ≤ i ∧ i < 8 then 0xFF else 0
  | 9 => if 0xC ≤ i then 0xFF else 0
  | 10 => if 5 ≤ i ∧ i < 8 then 0xFF else 0
  | 11 => if i = 0xF then 0xFF else if i = 0x13 then 0x60
      else if 0x14 ≤ i then 0xFF else 0
  | 12 => if 0x90 ≤ i then 0xFF else 0
  | _ => 0

/-- Step 10: reserved fields, reserved bits and padding outside the HEADER (R77). -/
def checkReserved (bs : List Byte) : Option ImgFail :=
  let padding (sec start from_ upto : Nat) : Option ImgFail :=
    failAt (upto - from_) (fun i => at? bs (from_ + i) 0 ≠ 0) 0xA sec (fun i => from_ + i - start)
  firstFail (padding 0 0 0x100 (dirOffset bs 1) ::
    (List.range 12).map fun i =>
      let k := i + 1
      let off := dirOffset bs k
      let sl := dirLength bs k
      let step := match fixedLen k with | some n => n | none => (listItem k).1
      let hit (j : Nat) : Bool := (at? bs (off + j) 0).toNat &&& reservedMask k (j % step) ≠ 0
      let next := if k = 12 then off + sl else dirOffset bs (k + 1)
      firstFail [
        failAt sl hit 0xA k (fun j => if (fixedLen k).isSome then j else j / step),
        padding k off (off + sl) next ])

/-- The image read from its bytes by the layouts of §2.3 (defined whatever the bytes; used once steps 1 to 10 pass). -/
def readImage (bs : List Byte) : Image :=
  let sec (k : Nat) : List Byte := sliceAt bs (dirOffset bs k) (dirLength bs k)
  let bytes (l : List Byte) : List Nat := l.map (·.toNat)
  let p := sec 1
  let t := sec 2
  let w := sec 3
  let sh := sec 6
  let lo := sec 9
  let sa := sec 11
  { signerSlot := fieldAt bs 0xF 1
    securityVersion := fieldAt bs 0x10 4
    serial := fieldAt bs 0x14 4
    digest := sliceAt bs (fieldAt bs 8 4 - 160) 48
    profile := fieldAt p 0 1
    pairSerial := fieldAt p 4 4
    records := (List.range 8).map fun e =>
      { cls := fieldAt p (8 + 8 * e) 1, queues := fieldAt p (9 + 8 * e) 1, stewards := fieldAt p (10 + 8 * e) 1 }
    owners := bytes (t.take 64)
    lend := fieldAt t 0x40 8
    spare := fieldAt t 0x48 8
    routes := bytes (w.take 4)
    credits := bytes (sliceAt w 4 4)
    vc3 := fieldAt w 8 1
    windows := (List.range (dirItems bs 4)).map fun i =>
      let x := sliceAt (sec 4) (24 * i) 24
      { encl := fieldAt x 0 1, index := fieldAt x 1 1, target := fieldAt x 2 1, perm := fieldAt x 3 1,
        flags := fieldAt x 4 1, base := fieldAt x 8 8, size := fieldAt x 0x10 8 }
    wheel := bytes (sec 5)
    shares := bytes (sh.take 8)
    moverCh := (List.range 8).map fun e => fieldAt sh (8 + 2 * e) 2
    ports := (List.range (dirItems bs 7)).map fun i =>
      let x := sliceAt (sec 7) (4 * i) 4
      { id := fieldAt x 0 1, role := fieldAt x 1 1, owner := fieldAt x 2 1, options := fieldAt x 3 1 }
    clocks := bytes (sec 8)
    loomId := fieldAt lo 0 4
    nodeId := fieldAt lo 4 2
    loomRole := fieldAt lo 6 1
    bpMask := fieldAt lo 7 1
    tunnel := fieldAt lo 8 1
    remoteReset := fieldAt lo 9 1
    udpPort := fieldAt lo 0xA 2
    pools := (List.range (dirItems bs 10)).map fun i =>
      let x := sliceAt (sec 10) (32 * i) 32
      { id := fieldAt x 0 1, owner := fieldAt x 1 1, pageSize := fieldAt x 2 1, storeFmt := fieldAt x 3 1,
        window := fieldAt x 4 1, pages := fieldAt x 8 4, pageBytes := fieldAt x 0xC 4,
        baseOffset := fieldAt x 0x10 8, poolBytes := fieldAt x 0x18 8 }
    mech := fieldAt sa 0 8
    tDisc := fieldAt sa 8 2
    epochMs := fieldAt sa 0xA 1
    leaseMs := fieldAt sa 0xB 1
    wdogMs := fieldAt sa 0xC 2
    canPeriod := fieldAt sa 0xE 1
    canId := fieldAt sa 0x10 4 }

/-- The record of enclosure `e`. -/
def Image.encl (m : Image) (e : Nat) : EnclRec := m.records.getD e {}
/-- Enclosure `e` is present in the image. -/
def Image.present (m : Image) (e : Nat) : Bool := (m.encl e).cls ≠ 0
/-- Owner of tile `t`: 0xF unassigned. -/
def Image.owner (m : Image) (t : Nat) : Nat := m.owners.getD t 0xF
/-- The windows of enclosure `e`. -/
def Image.windowsOf (m : Image) (e : Nat) : List Window := m.windows.filter (·.encl = e)
/-- The PORTS item of a port, when listed. -/
def Image.port (m : Image) (id : Nat) : Option Port := m.ports.find? (·.id = id)
/-- First byte past a window. -/
def Window.top (w : Window) : Nat := w.base + w.size
/-- READ, WRITE, ATOMIC and LOOM_EXPORT permissions (Table 2.7). -/
def Window.can (w : Window) (bit : Nat) : Bool := bitOf w.perm bit
/-- ENCRYPT. -/
def Window.encrypted (w : Window) : Bool := bitOf w.flags 0
/-- SHARED. -/
def Window.shared (w : Window) : Bool := bitOf w.flags 1
/-- Two windows overlap. -/
def Window.meets (a b : Window) : Bool := decide (a.base < b.top) && decide (b.base < a.top)
/-- The window covers [a, a + n). -/
def Window.covers (w : Window) (a n : Nat) : Bool := decide (w.base ≤ a) && decide (a + n ≤ w.top)

/-- Step 11: PROFILE values and enclosure classes (R55, R56), and the boot place of R82. -/
def checkProfile (fx : ImgFacts) (m : Image) : Option ImgFail :=
  firstFail ([
    failIf (m.profile ≠ 1 && m.profile ≠ 2) 0xB 1 0,
    failIf (fx.place ≠ 0 && m.profile ≠ fx.place) 0xB 1 0,
    failIf (m.profile = 1 && m.pairSerial ≠ 0) 0xB 1 4 ] ++
    (List.range 8).map fun e =>
      let r := m.encl e
      let need : Bool := if m.profile = 1 then (if e < 2 then r.cls = 1 else r.cls = 0 || r.cls = 2)
        else (if e < 2 then r.cls = 0 else r.cls = 0 || r.cls = 2)
      firstFail [
        failIf (decide (2 < r.cls)) 0xB 1 (8 + 8 * e),
        failIf (!need) 0xC 1 (8 + 8 * e),
        failIf (if r.cls = 0 then r.queues ≠ 0 else r.queues = 0 || 16 < r.queues) 0xB 1 (9 + 8 * e),
        failIf (if r.cls = 0 then r.stewards ≠ 0 else r.stewards % 16 = 0) 0xB 1 (10 + 8 * e) ])

/-- Step 12: TILEMAP owners and the lend and spare masks (R57, R58). -/
def checkTilemap (m : Image) : Option ImgFail :=
  let badOwner (t : Nat) : Bool :=
    let o := m.owner t
    16 ≤ o || (o ≠ 0xF && (o = 0 || 7 < o || (!m.present o && !(m.profile = 2 && o = 1))))
  let spareOk (t : Nat) : Bool := !bitOf m.spare t || bitOf m.lend t
  let spareOwner (t : Nat) : Bool := !bitOf m.spare t || m.owner t = 1 || m.owner t = 0xF
  firstFail [
    failAt 64 badOwner 0xD 2 id,
    failIf ((List.range 8).any fun e => e ≠ 0 && m.present e && !(m.owners.contains e)) 0xD 2 0,
    failIf (m.profile = 2 && m.lend ≠ 0) 0xE 2 0x40,
    if m.profile = 2 then failIf (m.spare ≠ 0) 0xE 2 0x48
    else failIf (!((List.range 64).all spareOk) || !((List.range 64).all spareOwner)) 0xE 2 0x48 ]

/-- Step 13: WEAVE (R59, R60 except the pairing clause). -/
def checkWeave (m : Image) : Option ImgFail :=
  let r (v : Nat) := m.routes.getD v 0
  let c (v : Nat) := m.credits.getD v 0
  let sumTo (v : Nat) : Nat := ((List.range (v + 1)).map c).sum
  firstFail [
    failAt 4 (fun v => 1 < r v || (v = 1 && r 1 ≠ r 0) || (v = 2 && r 2 ≠ 0)) 0xF 3 id,
    failAt 4 (fun v => c v < 2 || 24 < c v || (v = 2 && c 2 < 4) || 32 < sumTo v || (v = 3 && sumTo 3 ≠ 32)) 0xF 3 (4 + ·),
    failIf (m.profile = 1 && m.vc3 ≠ 0) 0xF 3 8 ]

/-- Register blocks that Table 23.1 marks system-only, the reserved indices among them (R697). -/
def systemOnlyBlock (b : Nat) : Bool := !(decide (0x20 ≤ b ∧ b < 0x30) || decide (0x38 ≤ b ∧ b < 0x80))

/-- The window touches the security private space or a system-only register block (R62); one of SIZE 0 is judged as the point
BASE, inside a range strictly. [log 158 DESIGN CHOICE, unsafe] -/
def Window.forbidden (w : Window) : Bool :=
  (decide (w.base < 0x1401000000) && decide (0x1400000000 < w.top)) ||
  (List.range 256).any fun b => systemOnlyBlock b &&
    decide (w.base < 0x1200000000 + (b + 1) * 0x10000) && decide (0x1200000000 + b * 0x10000 < w.top)

/-- The window lies wholly inside the range of its TARGET (R62, Table 4.1). -/
def Window.inTarget (w : Window) (m : Image) (usable : Nat) : Bool :=
  match w.target with
  | 0 => decide (w.top ≤ usable)
  | 1 => decide (0x1000000000 ≤ w.base) && decide (w.top ≤ 0x1002000000)
  | 2 => -- only tiles of the window's own enclosure, each 2 MiB at the foot of its stride
      decide (0x1100000000 ≤ w.base) && decide (w.top ≤ 0x1140000000) &&
      decide ((w.base - 0x1100000000) % 0x1000000 + w.size ≤ 0x200000) &&
      decide (m.owner ((w.base - 0x1100000000) / 0x1000000) = w.encl)
  | 3 => decide (0x1200000000 ≤ w.base) && decide (w.top ≤ 0x1201000000)
  | 4 => (decide (0x1300000000 ≤ w.base) && decide (w.top ≤ 0x1400000000))
  | _ => false

/-- R62's clauses in the order listed, with R61's value ranges first. -/
def windowFormat (m : Image) (usable k : Nat) (w : Window) : Bool :=
  let prev := m.windows.getD (k - 1) {}
  let unit := if w.target = 3 then 0x10000 else 0x1000
  decide (w.encl < 8) && m.present w.encl && decide (w.index < 16) && decide (w.target < 5) &&
  decide (w.perm < 16) && decide (w.flags < 4) && decide (w.base < 2 ^ 54) && decide (w.size ≠ 0) &&
  (k = 0 || decide (prev.encl * 256 + prev.index < w.encl * 256 + w.index)) &&
  decide (w.base % unit = 0) && decide (w.size % unit = 0) && w.inTarget m usable && decide (w.perm ≠ 0) &&
  (!w.encrypted || w.target = 0) && ((!w.can 2 && !w.can 3) || w.can 0) &&
  !(m.profile = 1 && w.can 3)

/-- R63 between two windows of one image: they may stand beside each other. -/
def windowsAgree (m : Image) (a b : Window) : Bool :=
  !a.meets b || (a.encl ≠ b.encl && a.shared && b.shared && a.target = b.target && a.base = b.base &&
    a.size = b.size && a.encrypted == b.encrypted && !(a.can 1 && b.can 1) &&
    !(a.can 1 && (m.encl a.encl).cls = 1 && (m.encl b.encl).cls = 2) &&
    !(b.can 1 && (m.encl b.encl).cls = 1 && (m.encl a.encl).cls = 2))

/-- Step 14: the windows, item by item (R61 to R63). -/
def checkWindows (fx : ImgFacts) (m : Image) : Option ImgFail :=
  (List.range m.windows.length).findSome? fun k =>
    let w := m.windows.getD k {}
    firstFail [
      failIf (w.encl ≠ 0 && w.forbidden) 0x12 4 k,
      failIf (!windowFormat m fx.usable k w) 0x10 4 k,
      failIf (!((m.windows.take k).all (windowsAgree m w))) 0x11 4 k ]

/-- Step 15: WHEEL (R64). -/
def checkWheel (m : Image) : Option ImgFail :=
  let bad (i : Nat) : Bool :=
    let o := m.wheel.getD i 0xF
    16 ≤ o || (if m.profile = 1 then o ≠ 0xF && (m.encl o).cls ≠ 1 else o ≠ 0xF)
  firstFail [
    failAt 64 bad 0x13 5 id,
    failIf (m.profile = 1 && !(m.wheel.contains 0 && m.wheel.contains 1)) 0x13 5 0 ]

/-- Step 16: SHARES (R66), element by element; in a STEEP image the fields of enclosures 0 and 1 are zero and the sums include
enclosure 0's DRIVE values. -/
def checkShares (fx : ImgFacts) (m : Image) : Option ImgFail :=
  let drive : Bool := m.profile = 1
  let sh (e : Nat) := m.shares.getD e 0
  let ch (e : Nat) := m.moverCh.getD e 0
  let base (g : Image → Nat) : Nat := if m.profile = 2 then (fx.drive.map g).getD 0 else 0
  let shareTo (e : Nat) : Nat := base (·.shares.getD 0 0) + ((List.range (e + 1)).map sh).sum
  let chanTo (e : Nat) : Nat := base (·.moverCh.getD 0 0) + ((List.range (e + 1)).map ch).sum
  firstFail [
    failAt 8 (fun e => (drive && (decide (sh e = 0) == m.present e)) || (!drive && e < 2 && sh e ≠ 0) || 64 < shareTo e) 0x14 6 id,
    failAt 8 (fun e => (drive && e = 0 && ch 0 < 16) || (!drive && e < 2 && ch e ≠ 0) || 512 < chanTo e) 0x14 6
      (fun e => 8 + 2 * e) ]

/-- The roles of Table 2.9 for a port in a profile; empty where the table reads "Not listed". -/
def portRoles (profile id : Nat) : List Nat :=
  if profile = 1 then
    if id = 0x00 then [1, 2] else if id = 0x10 then [1] else if id = 0x12 then [1, 4]
    else if 0x20 ≤ id ∧ id ≤ 0x23 then [1] else if id = 0x28 ∨ id = 0x29 then [1]
    else if id = 0x30 ∨ id = 0x31 then [1, 2, 3] else if id = 0x50 then [1] else []
  else
    if id = 0x01 then [1] else if id = 0x11 then [2, 3] else if 0x40 ≤ id ∧ id ≤ 0x47 then [1] else []

/-- A PORTS item's OPTIONS byte keeps the reserved bits and codes of Tables 13.1 and 22.1 and of R517 clear. -/
def portOptionsOk (p : Port) : Bool :=
  let o := p.options
  if p.id = 0x00 then decide (o < 8) && decide (bitsOf o 2 1 ≠ 3) && !(p.role = 2 && o % 2 = 1)
  else if p.id = 0x01 then decide (o < 2)
  else if p.id = 0x10 then decide (o < 4)
  else if p.id = 0x11 then decide (o < 4) && decide (o % 2 = 0)
  else if p.id = 0x12 then (if p.role = 1 then decide (o < 4) else decide (o = 0))
  else if 0x20 ≤ p.id ∧ p.id ≤ 0x23 then decide (o < 16) && decide (bitsOf o 1 0 ≠ 3) && decide (bitsOf o 3 2 ≠ 3)
  else if p.id = 0x28 ∨ p.id = 0x29 then decide (o < 8) && decide (bitsOf o 1 0 ≠ 3)
  else if p.id = 0x30 ∨ p.id = 0x31 then decide (o < 16) && decide (bitsOf o 1 0 < 2) && decide (bitsOf o 3 2 ≠ 3)
  else decide (o = 0)

/-- Sensor ports (R68). -/
def isSensorPort (p : Port) : Bool :=
  p.id = 0x10 || (p.id = 0x12 && p.role = 1) || decide (0x20 ≤ p.id ∧ p.id ≤ 0x31)

/-- A CAN FD item that carries the safety frame (R68). -/
def Port.carriesSafety (p : Port) : Bool := (p.id = 0x30 || p.id = 0x31) && (p.role = 2 || p.role = 3)

/-- Step 17: PORTS (R67 to R69). -/
def checkPorts (fx : ImgFacts) (m : Image) : Option ImgFail :=
  let n := m.ports.length
  let at' (k : Nat) : Port := m.ports.getD k {}
  let one (k : Nat) : Option ImgFail :=
    let p := at' k
    let owner : Bool := m.present p.owner && (!isSensorPort p || p.owner = 1)
    firstFail [
      failIf (portRoles m.profile p.id = []) 0x15 7 k,
      failIf (k ≠ 0 && p.id ≤ (at' (k - 1)).id) 0x15 7 k,
      failIf (!((portRoles m.profile p.id).contains p.role)) 0x15 7 k,
      failIf (p.id = 0 && p.role = 2 && fx.hostPush) 0x16 7 k,
      failIf (!owner) 0x17 7 k,
      failIf (!portOptionsOk p) 0x15 7 k,
      failIf (p.carriesSafety && (m.ports.take k).any Port.carriesSafety) 0x15 7 k ]
  firstFail [
    (List.range n).findSome? one,
    failIf (m.profile = 1 && (m.port 0).isNone) 0x15 7 n,
    failIf (m.profile = 1 && !(m.ports.any Port.carriesSafety)) 0x15 7 n ]

/-- The allowed dividers of Table 3.1, in the order of R70. -/
def allowedDivs : List (List Nat) :=
  [[4, 5, 6, 8], [4, 5, 6, 8], [5, 6, 8, 10], [6], [8], [8], [16], [64]]

/-- Step 18: CLOCKS (R70, R93: the WEAVE divider is never larger than the CORE divider). -/
def checkClocks (m : Image) : Option ImgFail :=
  failAt 8 (fun i => !((allowedDivs.getD i []).contains (m.clocks.getD i 0)) ||
    (i = 1 && decide (m.clocks.getD 0 0 < m.clocks.getD 1 0))) 0x18 8 id

/-- Step 19: LOOM (R72). -/
def checkLoom (m : Image) : Option ImgFail :=
  let lists (p : Nat) : Bool := (m.port (0x40 + p)).isSome
  let depot : Bool := ((m.port 0x11).map (fun x => decide (x.role = 3))).getD false
  if m.profile = 1 then
    firstFail [ failIf (m.loomId ≠ 0) 0x19 9 0, failIf (m.nodeId ≠ 0) 0x19 9 4, failIf (m.loomRole ≠ 0) 0x19 9 6,
      failIf (m.bpMask ≠ 0) 0x19 9 7, failIf (m.tunnel ≠ 0) 0x19 9 8, failIf (m.remoteReset ≠ 0) 0x19 9 9,
      failIf (m.udpPort ≠ 0) 0x19 9 0xA ]
  else
    firstFail [ failIf (m.loomId = 0) 0x19 9 0, failIf (0x3FF < m.nodeId) 0x19 9 4,
      failIf (m.loomRole ≠ 1 && m.loomRole ≠ 2) 0x19 9 6,
      failIf ((List.range 8).any (fun p => bitOf m.bpMask p != lists p)) 0x19 9 7,
      failIf (1 < m.tunnel || (decide (m.tunnel = 1) != depot)) 0x19 9 8,
      failIf (1 < m.remoteReset) 0x19 9 9,
      failIf (if m.tunnel = 1 then m.udpPort < 1024 else m.udpPort ≠ 0) 0x19 9 0xA ]

/-- The byte range of a pool in local memory (R74). -/
def poolSpan (m : Image) (p : PoolItem) : Nat × Nat :=
  let w := ((m.windowsOf p.owner).find? (·.index = p.window)).getD {}
  (w.base + p.baseOffset, w.base + p.baseOffset + p.poolBytes)

/-- Step 20: POOLS (R73, R74). -/
def checkPools (m : Image) : Option ImgFail :=
  failAt m.pools.length (fun k =>
    let p := m.pools.getD k {}
    let w := (m.windowsOf p.owner).find? (·.index = p.window)
    let wOk := (w.map (fun x => x.target = 0 && x.can 0 && x.can 1 && decide (p.baseOffset + p.poolBytes ≤ x.size))).getD false
    let fresh := (m.pools.take k).all fun q =>
      q.id ≠ p.id && (q.owner ≠ p.owner || q.window ≠ p.window ||
        decide (p.baseOffset + p.poolBytes ≤ q.baseOffset) || decide (q.baseOffset + q.poolBytes ≤ p.baseOffset))
    m.profile = 1 || 16 ≤ p.id || (m.encl p.owner).cls ≠ 2 || 1 < p.pageSize || 3 < p.storeFmt || !wOk ||
    p.pages = 0 || 0xFFFFFF < p.pages || p.pageBytes = 0 || p.pageBytes % 64 ≠ 0 || p.baseOffset % 0x1000 ≠ 0 ||
    p.poolBytes < p.pages * p.pageBytes || !fresh) 0x1A 10 id

/-- The mandatory mechanism bits of Table 18.2 (bits 0 to 20). -/
def mechMandatory : Nat := 2 ^ 21 - 1

/-- A bit of MECH_ENABLE that Table 18.2 reserves is set (bits 21 to 31 and 34 to 63). -/
def mechReserved (m : Image) : Bool := m.mech % 2 ^ 32 / 2 ^ 21 ≠ 0 || m.mech / 2 ^ 34 ≠ 0

/-- Step 21: SAFETY ranges and mandatory mechanisms (R75, R582). [log 158 DESIGN CHOICE, unsafe] -/
def checkSafety (m : Image) : Option ImgFail :=
  if m.profile = 1 then
    firstFail [
      failIf (m.mech % 2 ^ 21 ≠ mechMandatory) 0x1C 11 0,
      failIf (mechReserved m) 0x1B 11 0,
      failIf (m.tDisc < 20 || 500 < m.tDisc) 0x1B 11 8,
      failIf (m.epochMs < 25 || 100 < m.epochMs || m.epochMs % 5 ≠ 0) 0x1B 11 0xA,
      failIf (m.leaseMs < 1 || 100 < m.leaseMs) 0x1B 11 0xB,
      failIf (m.wdogMs < 10 || 1000 < m.wdogMs) 0x1B 11 0xC,
      failIf (m.canPeriod < 10 || 100 < m.canPeriod) 0x1B 11 0xE,
      failIf (!bitOf m.canId 31 && 0x7FF < m.canId % 2 ^ 29) 0x1B 11 0x10 ]
  else
    firstFail [
      failIf (m.mech % 2 ^ 21 ≠ 0 || mechReserved m) 0x1B 11 0,
      failIf (m.tDisc ≠ 0) 0x1B 11 8, failIf (m.epochMs ≠ 0) 0x1B 11 0xA,
      failIf (m.leaseMs < 1 || 100 < m.leaseMs) 0x1B 11 0xB,
      failIf (m.wdogMs ≠ 0) 0x1B 11 0xC, failIf (m.canPeriod ≠ 0) 0x1B 11 0xE,
      failIf (m.canId ≠ 0) 0x1B 11 0x10 ]

/-- Steps 1 to 21 of Table 2.14 over the delivered bytes (R77, R81). -/
def checkImage (fx : ImgFacts) (bs : List Byte) : Option ImgFail :=
  let m := readImage bs
  firstFail [ checkSealed fx 0x31585246 0x40000 true bs, checkDirectory bs, checkReserved bs, checkProfile fx m,
    checkTilemap m, checkWeave m, checkWindows fx m, checkWheel m, checkShares fx m, checkPorts fx m,
    checkClocks m, checkLoom m, checkPools m, checkSafety m ]

/-- The firmware bundle of R619: steps 1 to 8 with its own MAGIC and length range. -/
def checkBundle (fx : ImgFacts) (bs : List Byte) : Option ImgFail :=
  checkSealed fx 0x31425746 0x200000 false bs

/-- Step 22: pairing with the resident DRIVE image (R86, R60, R70). -/
def checkPair (d m : Image) : Option ImgFail :=
  firstFail [ failIf (m.pairSerial ≠ d.serial) 0x1D 1 4,
    failAt 4 (fun v => m.routes.getD v 0 ≠ d.routes.getD v 0) 0x1D 3 id,
    failAt 4 (fun v => m.credits.getD v 0 ≠ d.credits.getD v 0) 0x1D 3 (4 + ·),
    failAt 8 (fun i => m.clocks.getD i 0 ≠ d.clocks.getD i 0) 0x1D 8 id ]

/-- Step 23: no reference to resident resources (R85, R58). -/
def checkResident (d m : Image) : Option ImgFail :=
  firstFail [
    failAt 64 (fun t => m.owner t ≠ 0xF && (!bitOf d.lend t || m.owner t = 1)) 0x1E 2 id,
    failAt m.windows.length (fun k => d.windows.any fun x => decide (x.encl < 2) && x.meets (m.windows.getD k {})) 0x1E 4 id ]

/-- Offset of the first field of PROFILE record `e` in which two records differ. -/
def recordAt (e : Nat) (a b : EnclRec) : Nat :=
  8 + 8 * e + (if a.cls ≠ b.cls then 0 else if a.queues ≠ b.queues then 1 else 2)

/-- Step 24: a re-image changes only what belongs to the named enclosures (R87). BP_MASK and TUNNEL, which R72 ties to the
ports, follow them. [log 158 DESIGN CHOICE, unsafe] -/
def checkReimage (mask : Nat) (old m : Image) : Option ImgFail :=
  let named (e : Nat) : Bool := e < 8 && bitOf mask e
  let keepW (l : List Window) := l.filter (fun w => !named w.encl)
  let keepP (l : List Port) := l.filter (fun p => !named p.owner)
  let keepPool (l : List PoolItem) := l.filter (fun p => !named p.owner)
  firstFail [
    failIf (m.pairSerial ≠ old.pairSerial) 0x1F 1 4,
    failAt 8 (fun e => !named e && m.encl e ≠ old.encl e) 0x1F 1 (fun e => recordAt e (m.encl e) (old.encl e)),
    failAt 64 (fun t => m.owner t ≠ old.owner t &&
      !((named (m.owner t) || m.owner t = 0xF) && (named (old.owner t) || old.owner t = 0xF))) 0x1F 2 id,
    failAt 8 (fun e => !named e && bitOf m.vc3 e != bitOf old.vc3 e) 0x1F 3 (fun _ => 8),
    failIf (keepW m.windows ≠ keepW old.windows) 0x1F 4
      ((List.range m.windows.length).find? (fun k => !named (m.windows.getD k {}).encl &&
        !(old.windows.contains (m.windows.getD k {}))) |>.getD m.windows.length),
    failAt 8 (fun e => !named e && m.shares.getD e 0 ≠ old.shares.getD e 0) 0x1F 6 id,
    failAt 8 (fun e => !named e && m.moverCh.getD e 0 ≠ old.moverCh.getD e 0) 0x1F 6 (8 + 2 * ·),
    failIf (keepP m.ports ≠ keepP old.ports) 0x1F 7
      ((List.range m.ports.length).find? (fun k => !named (m.ports.getD k {}).owner &&
        !(old.ports.contains (m.ports.getD k {}))) |>.getD m.ports.length),
    failIf (m.loomId ≠ old.loomId) 0x1F 9 0, failIf (m.nodeId ≠ old.nodeId) 0x1F 9 4,
    failIf (m.loomRole ≠ old.loomRole) 0x1F 9 6, failIf (m.remoteReset ≠ old.remoteReset) 0x1F 9 9,
    failIf (m.udpPort ≠ old.udpPort) 0x1F 9 0xA,
    failIf (keepPool m.pools ≠ keepPool old.pools) 0x1F 10
      ((List.range m.pools.length).find? (fun k => !named (m.pools.getD k {}).owner &&
        !(old.pools.contains (m.pools.getD k {}))) |>.getD m.pools.length),
    failIf (m.mech ≠ old.mech) 0x1F 11 0, failIf (m.leaseMs ≠ old.leaseMs) 0x1F 11 0xB ]

/-- Step 25: the fields fixed since boot (R89). -/
def checkLive (b m : Image) : Option ImgFail :=
  firstFail [
    failIf (m.encl 0 ≠ b.encl 0) 0x20 1 (recordAt 0 (m.encl 0) (b.encl 0)),
    failAt 4 (fun v => m.routes.getD v 0 ≠ b.routes.getD v 0) 0x20 3 id,
    failAt 4 (fun v => m.credits.getD v 0 ≠ b.credits.getD v 0) 0x20 3 (4 + ·),
    failIf (m.vc3 ≠ b.vc3) 0x20 3 8,
    failIf (m.windowsOf 0 ≠ b.windowsOf 0) 0x20 4
      ((List.range m.windows.length).find? (fun k => decide ((m.windows.getD k {}).encl = 0) &&
        !(b.windows.contains (m.windows.getD k {}))) |>.getD 0),
    failAt 64 (fun i => (m.wheel.getD i 0xF = 0) != (b.wheel.getD i 0xF = 0)) 0x20 5 id,
    failIf (m.shares.getD 0 0 ≠ b.shares.getD 0 0) 0x20 6 0,
    failIf (m.moverCh.getD 0 0 ≠ b.moverCh.getD 0 0) 0x20 6 8,
    failIf ((m.port 0).map (·.role) ≠ (b.port 0).map (·.role)) 0x20 7 0,
    failAt 8 (fun i => m.clocks.getD i 0 ≠ b.clocks.getD i 0) 0x20 8 id ]

end Sys2Proof.Machine
end

