-- ==== Sys2Proof/Machine/SMap.lean ====
section
/-! DEFINITION. Sparse maps: a list of (key, value) pairs in one canonical form, keys strictly rising and no
entry equal to what an unlisted key reads as. Memory, the register file and every numbered family of units are
held in this form, so that equal contents are equal data. -/

namespace Sys2Proof.Machine

variable {α : Type}

/-- The value at key `k`; `d` is what an unlisted key reads as. -/
def SMap.get (d : α) : List (Nat × α) → Nat → α
  | [], _ => d
  | (k, v) :: m, i => if k = i then v else SMap.get d m i

/-- The map with no entry for key `i`. -/
def SMap.erase : List (Nat × α) → Nat → List (Nat × α)
  | [], _ => []
  | (k, v) :: m, i => if k = i then SMap.erase m i else (k, v) :: SMap.erase m i

/-- The map with an entry put at its place in the rising order. -/
def SMap.insert : List (Nat × α) → Nat → α → List (Nat × α)
  | [], i, x => [(i, x)]
  | (k, v) :: m, i, x => if i < k then (i, x) :: (k, v) :: m
      else if k = i then (i, x) :: m else (k, v) :: SMap.insert m i x

/-- Writing key `i`: writing the value an unlisted key reads as removes the entry. -/
def SMap.set [DecidableEq α] (d : α) (m : List (Nat × α)) (i : Nat) (x : α) : List (Nat × α) :=
  if x = d then SMap.erase m i else SMap.insert m i x

/-- Changing the value at key `i`. -/
def SMap.modify [DecidableEq α] (d : α) (m : List (Nat × α)) (i : Nat) (f : α → α) : List (Nat × α) :=
  SMap.set d m i (f (SMap.get d m i))

/-- The keys rise strictly from above `lo`. -/
def SMap.risesFrom : Nat → List (Nat × α) → Bool
  | _, [] => true
  | lo, (k, _) :: m => decide (lo ≤ k) && SMap.risesFrom (k + 1) m

/-- The canonical form: keys strictly rising, no entry equal to `d`. -/
def SMap.wf [DecidableEq α] (d : α) (m : List (Nat × α)) : Bool :=
  SMap.risesFrom 0 m && m.all (fun e => decide (e.2 ≠ d))

end Sys2Proof.Machine
end

