-- ==== Sys2Proof/Machine/RegTable.lean ====
section
/-! DEFINITION. Every register of the device (R696, Table 23.5): its place, its reset value, the states in which it
accepts writes (R701), and its fields with their access codes (R3). A register is keyed by
block index × 0x1_0000 + offset. -/

namespace Sys2Proof.Machine

/-- The access codes of Table 0.4. -/
inductive Acc where
  | rw | ro | w1c | w1s | wo | rwl
  deriving DecidableEq, Repr

/-- The writable-state phrases of Table 23.2. -/
inductive WSet where
  | all | dss | ss | steep | boot | bootProof | rwl | none
  deriving DecidableEq, Repr

/-- One field of a register: bits, access, the values a write may carry, and its own state set where the header
line gives it one. -/
structure Fld where
  hi : Nat
  lo : Nat
  acc : Acc
  min : Nat := 0
  max : Nat := 2 ^ 32
  own : Option WSet := none
  /-- The one value of a WO field whose named action is other than no effect, where there is only one (R731). -/
  key : Option Nat := none
  deriving DecidableEq, Repr

/-- One register family: base key, two strides with counts, reset value, state set and fields. -/
structure RegRow where
  name : String
  base : Nat
  n1 : Nat := 1
  s1 : Nat := 0
  n2 : Nat := 1
  s2 : Nat := 0
  reset : Nat := 0
  wset : WSet := .none
  flds : List Fld := []
  deriving DecidableEq, Repr

/-- A field description. -/
def fd (hi lo : Nat) (acc : Acc) : Fld := { hi := hi, lo := lo, acc := acc }

/-- A field description with the range of values a write may carry. -/
def fdr (hi lo : Nat) (acc : Acc) (mn mx : Nat) : Fld := { hi := hi, lo := lo, acc := acc, min := mn, max := mx }

/-- SYS, WARD, CLK, PWR, RST and GSK (§23 Registers, Tables 1.10 to 1.17, 2.16, 2.17, 3.13 to 3.23, 4.13 to 4.15). -/
def regRows0 : List RegRow := [
  { name := "SYS_ID", base := 0x000000, reset := 0x21B10064, flds := [fd 31 0 .ro] },
  { name := "SYS_ERR", base := 0x000004, wset := .all, flds := [fd 0 0 .w1c, fd 1 1 .w1c, fd 2 2 .w1c] },
  { name := "SYS_ERR_LOG", base := 0x000008, wset := .all, flds := [fd 28 0 .ro, fd 31 31 .w1c] },
  { name := "SYS_SEAL", base := 0x000010, wset := .bootProof, flds := [fd 0 0 .w1s, fd 2 1 .ro] },
  { name := "WARD_STATE", base := 0x010100, reset := 2, flds := [fd 13 0 .ro] },
  { name := "WARD_TRANS_CAUSE", base := 0x010104, flds := [fd 12 0 .ro] },
  { name := "WARD_TRANS_TIME", base := 0x010108, flds := [fd 31 0 .ro] },
  { name := "WARD_PARK_STAT", base := 0x010110, flds := [fd 27 0 .ro] },
  { name := "WARD_PARK_CTL", base := 0x010114, reset := 0x00640000, wset := .dss,
    flds := [fd 0 0 .w1s, fd 24 16 .ro] },
  { name := "WARD_REFUSE_CNT_c", base := 0x010120, n1 := 7, s1 := 4, flds := [fd 15 0 .ro] },
  { name := "WARD_REFUSE_LAST", base := 0x010140, flds := [fd 14 0 .ro] },
  { name := "WARD_REFUSE_CLR", base := 0x010144, wset := .all, flds := [fd 6 0 .wo] },
  { name := "WARD_IMG_STAT", base := 0x010200, flds := [fd 13 0 .ro] },
  { name := "WARD_IMG_ERR", base := 0x010204, flds := [fd 29 0 .ro] },
  { name := "WARD_IMG_SERIAL_D", base := 0x010208, flds := [fd 31 0 .ro] },
  { name := "WARD_IMG_SERIAL_S", base := 0x01020C, flds := [fd 31 0 .ro] },
  { name := "WARD_LEASE_STAT", base := 0x010300, flds := [fd 25 0 .ro] },
  { name := "WARD_ENCL_STAT_e", base := 0x010320, n1 := 8, s1 := 4, flds := [fd 2 0 .ro, fd 31 16 .ro] },
  { name := "CLK_DIV_LO", base := 0x020000, reset := 0x060A0808, flds := [fd 31 0 .ro] },
  { name := "CLK_DIV_HI", base := 0x020004, reset := 0x40100808, flds := [fd 31 0 .ro] },
  { name := "CLK_STAT", base := 0x020010, flds := [fd 3 0 .ro] },
  { name := "PWR_STAT", base := 0x030000, reset := 0x6A, flds := [fd 11 0 .ro] },
  { name := "PWR_TEMP", base := 0x030004, flds := [fd 12 0 .ro] },
  { name := "PWR_TEMP_THR", base := 0x030008, reset := 0x73, wset := .dss, flds := [fdr 7 0 .rw 85 124] },
  { name := "PWR_CAP", base := 0x03000C, reset := 0x5F, wset := .ss, flds := [fdr 7 0 .rw 40 95] },
  { name := "RST_CAUSE", base := 0x040000, reset := 1, wset := .all,
    flds := (List.range 12).map (fun i => fd i i .w1c) },
  { name := "RST_SNAP", base := 0x040004, flds := [fd 6 0 .ro] },
  { name := "RST_STRAP", base := 0x040010, flds := [fd 12 0 .ro] },
  { name := "RST_SW", base := 0x040020, wset := .all,
    flds := [{ hi := 31, lo := 0, acc := .wo, key := some 0xA5C3 }] },
  { name := "GSK_CTL_g", base := 0x050000, n1 := 119, s1 := 4, reset := 0x3200, wset := .dss,
    flds := [fd 1 0 .wo, fd 4 4 .w1s, fdr 15 8 .rw 1 255] },
  { name := "GSK_STAT_g", base := 0x050400, n1 := 119, s1 := 4, reset := 2, wset := .dss,
    flds := [fd 3 0 .ro, fd 8 8 .w1c, fd 9 9 .w1c, fd 31 16 .ro] },
  { name := "GSK_DENY_CNT_e", base := 0x050800, n1 := 8, s1 := 4, flds := [fd 15 0 .ro] },
  { name := "GSK_DENY_LOG0", base := 0x050840, flds := [fd 31 0 .ro] },
  { name := "GSK_DENY_LOG1", base := 0x050844, flds := [fd 31 0 .ro] },
  { name := "GSK_DENY_LOG2", base := 0x050848, wset := .dss, flds := [fd 15 0 .ro, fd 31 31 .w1c] },
  { name := "GSK_DENY_CLR", base := 0x050850, wset := .dss, flds := [fd 7 0 .wo] } ]

/-- SEC, SAFE, WEAVE, KV and LOOM (Tables 20.13, 18.11, 4.10 to 4.12, 5.10, 5.11, 11.11, 17.8). -/
def regRows1 : List RegRow := [
  { name := "SEC_STAT", base := 0x060000, flds := [fd 22 0 .ro] },
  { name := "SEC_DEV_ID_LO", base := 0x060008, flds := [fd 31 0 .ro] },
  { name := "SEC_DEV_ID_HI", base := 0x06000C, flds := [fd 31 0 .ro] },
  { name := "SEC_REQ_LO", base := 0x060010, wset := .dss, flds := [fd 31 6 .rw] },
  { name := "SEC_REQ_HI", base := 0x060014, wset := .dss, flds := [fd 31 0 .rw] },
  { name := "SEC_REQ_CTL", base := 0x060018, wset := .all, flds := [fd 3 0 .rw, fd 31 31 .w1s] },
  { name := "SEC_REQ_STAT", base := 0x06001C, wset := .all, flds := [fd 0 0 .ro, fd 1 1 .w1c, fd 15 8 .ro] },
  { name := "SEC_HANDLES", base := 0x060020, flds := [fd 8 0 .ro] },
  { name := "SAFE_STAT", base := 0x070000, reset := 1, flds := [fd 3 0 .ro] },
  { name := "SAFE_ACTIVE", base := 0x070004, flds := [fd 7 0 .ro] },
  { name := "SAFE_FATAL_ID", base := 0x070010, wset := .dss, flds := [fd 28 0 .ro, fd 31 31 .w1c] },
  { name := "SAFE_FATAL_T_LO", base := 0x070014, flds := [fd 31 0 .ro] },
  { name := "SAFE_FATAL_T_HI", base := 0x070018, flds := [fd 31 0 .ro] },
  { name := "SAFE_PROOF_STAT", base := 0x070020, flds := [fd 7 0 .ro, fd 31 16 .ro] },
  { name := "SAFE_CNT", base := 0x070024, flds := [fd 31 0 .ro] },
  { name := "SAFE_TXCFG0", base := 0x070030, flds := [fd 31 0 .ro] },
  { name := "SAFE_TXCFG1", base := 0x070034, flds := [fd 15 0 .ro] },
  { name := "SAFE_CNT_CLR", base := 0x0700F0, wset := .dss, flds := [fd 0 0 .wo] },
  { name := "WEAVE_CFG", base := 0x080000, flds := [fd 3 0 .ro, fd 15 8 .ro] },
  { name := "WEAVE_CREDIT", base := 0x080004, reset := 0x06040A0C,
    flds := [fd 4 0 .ro, fd 12 8 .ro, fd 20 16 .ro, fd 28 24 .ro] },
  { name := "WEAVE_WHEEL", base := 0x080010, reset := 0xF00, flds := [fd 5 0 .ro, fd 12 8 .ro] },
  { name := "WEAVE_OUTST", base := 0x080020, wset := .dss, flds := [fd 12 0 .ro, fd 28 16 .ro, fd 31 31 .wo] },
  { name := "WEAVE_CMN_ECC_CNT_k", base := 0x080100, n1 := 8, s1 := 8, wset := .dss,
    flds := [fd 24 0 .ro, fd 25 25 .w1c] },
  { name := "WEAVE_CMN_ECC_LOG_k", base := 0x080104, n1 := 8, s1 := 8, wset := .dss,
    flds := [fd 29 0 .ro, fd 31 31 .w1c] },
  { name := "KV_POOL_STAT_i", base := 0x090000, n1 := 16, s1 := 0x20, flds := [fd 31 0 .ro] },
  { name := "KV_POOL_FREE_i", base := 0x090004, n1 := 16, s1 := 0x20, flds := [fd 23 0 .ro] },
  { name := "KV_POOL_CACHED_i", base := 0x090008, n1 := 16, s1 := 0x20, flds := [fd 23 0 .ro] },
  { name := "KV_POOL_CNT_i", base := 0x09000C, n1 := 16, s1 := 0x20, flds := [fd 31 0 .ro] },
  { name := "KV_POOL_SHARE_i", base := 0x090010, n1 := 16, s1 := 0x20, flds := [fd 31 0 .ro] },
  { name := "KV_CNT_CLR", base := 0x090400, wset := .ss, flds := [fd 15 0 .wo] },
  { name := "LOOM_STAT", base := 0x0A0000, flds := [fd 12 0 .ro, fd 25 16 .ro] },
  { name := "LOOM_VIEW_SEQ", base := 0x0A0004, flds := [fd 31 0 .ro] },
  { name := "LOOM_CFG", base := 0x0A0008, reset := 0x010A050A, wset := .steep,
    flds := [fdr 7 0 .rw 1 100, fdr 11 8 .rw 2 15, fdr 23 16 .rw 1 255, fd 24 24 .rw] },
  { name := "LOOM_ROUTE_SEL", base := 0x0A0010, wset := .steep, flds := [fd 9 0 .rw] },
  { name := "LOOM_ROUTE", base := 0x0A0014, reset := 0xF, flds := [fd 5 0 .ro, fd 25 16 .ro] },
  { name := "LOOM_VOTE_STAT", base := 0x0A0020, wset := .steep, flds := [fd 2 0 .ro, fd 3 3 .w1c, fd 31 16 .ro] },
  { name := "LOOM_CNT", base := 0x0A0024, flds := [fd 31 0 .ro] },
  { name := "LOOM_TUN_ADDR", base := 0x0A0030, n1 := 4, s1 := 4, wset := .steep, flds := [fd 31 0 .rw] },
  { name := "LOOM_TUN_CFG", base := 0x0A0040, reset := 0x00323264, wset := .steep,
    flds := [fdr 7 0 .rw 1 255, fdr 15 8 .rw 1 255, fdr 23 16 .rw 5 255] },
  { name := "LOOM_TUN_STAT", base := 0x0A0044, flds := [fd 6 0 .ro, fd 31 16 .ro] },
  { name := "LOOM_RRESET", base := 0x0A0050, wset := .steep,
    flds := [{ hi := 9, lo := 0, acc := .wo, key := some 1024 }, { hi := 31, lo := 16, acc := .wo, key := some 0xB7E1 }] },
  { name := "LOOM_CNT_CLR", base := 0x0A00F0, wset := .ss, flds := [fd 0 0 .wo] } ]

/-- TSU, STR, FU, LSE, SB, UART and PCIE (Tables 13.10 to 13.13, 14.9, 14.10, 15.12, 15.13, 21.8, 22.6, 22.7). -/
def regRows2 : List RegRow := [
  { name := "TSU_TIME_LO", base := 0x0B0000, flds := [fd 31 0 .ro] },
  { name := "TSU_TIME_HI", base := 0x0B0004, flds := [fd 31 0 .ro] },
  { name := "TSU_STAT", base := 0x0B0010, flds := [fd 4 0 .ro, fd 31 16 .ro] },
  { name := "TSU_CFG", base := 0x0B0014, reset := 0x00010A00, wset := .rwl,
    flds := [fd 1 0 .rwl, fd 2 2 .rwl, fd 3 3 .rwl, fdr 15 8 .rwl 1 60, fd 16 16 .rwl] },
  { name := "TSU_OFFSET", base := 0x0B0018, flds := [fd 31 0 .ro] },
  { name := "TSU_RATE", base := 0x0B001C, flds := [fd 31 0 .ro] },
  { name := "STR_PORT_LAT_p", base := 0x0C0040, n1 := 2, s1 := 4, wset := .rwl, flds := [fd 15 0 .rwl, fd 31 16 .rwl] },
  { name := "STR_PORT_CNT_p", base := 0x0C0080, n1 := 10, s1 := 4, flds := [fd 31 0 .ro] },
  { name := "STR_STREAM_STAT_s", base := 0x0C0100, n1 := 32, s1 := 0x10, flds := [fd 8 0 .ro, fd 23 16 .ro] },
  { name := "STR_STREAM_CNT_s", base := 0x0C0104, n1 := 32, s1 := 0x10, flds := [fd 31 0 .ro] },
  { name := "STR_STREAM_WIDX_s", base := 0x0C0108, n1 := 32, s1 := 0x10, flds := [fd 31 0 .ro] },
  { name := "STR_STREAM_LAST_s", base := 0x0C010C, n1 := 32, s1 := 0x10, flds := [fd 31 0 .ro] },
  { name := "STR_CNT_CLR", base := 0x0C0300, wset := .dss, flds := [fd 0 0 .wo, fd 1 1 .wo] },
  { name := "STR_TX_STAT", base := 0x0C0310, flds := [fd 15 0 .ro] },
  { name := "FU_STAT", base := 0x0D0000, flds := [fd 5 0 .ro, fd 15 8 .ro] },
  { name := "FU_CAUSES", base := 0x0D0004, flds := [fd 11 0 .ro] },
  { name := "FU_EPOCH", base := 0x0D0008, flds := [fd 31 0 .ro] },
  { name := "FU_CNT", base := 0x0D0010, flds := [fd 31 0 .ro] },
  { name := "FU_CNT_CLR", base := 0x0D0014, wset := .dss, flds := [fd 0 0 .wo] },
  { name := "LSE_STAT", base := 0x0E0000, flds := [fd 8 0 .ro, fd 23 16 .ro] },
  { name := "LSE_CNT", base := 0x0E0010, flds := [fd 31 0 .ro] },
  { name := "LSE_CHK_LOG", base := 0x0E0014, wset := .dss, flds := [fd 14 0 .ro, fd 31 31 .w1c] },
  { name := "LSE_CHK_CTL", base := 0x0E0018, reset := 3, wset := .rwl, flds := [fd 2 0 .rwl] },
  { name := "LSE_CNT_CLR", base := 0x0E00F0, wset := .dss, flds := [fd 0 0 .wo] },
  { name := "SB_STATUS", base := 0x0F0000, wset := .all,
    flds := [fd 0 0 .w1c, fd 1 1 .w1c, fd 2 2 .ro, fd 3 3 .w1c, fd 4 4 .w1c, fd 5 5 .w1c] },
  { name := "SB_CTL", base := 0x0F0004, reset := 1, wset := .dss, flds := [fd 0 0 .rw, fd 15 8 .rw] },
  { name := "SB_MBOX_STAT", base := 0x0F0010, flds := [fd 1 0 .ro] },
  { name := "SB_MBOX_CTL", base := 0x0F0014, wset := .dss, flds := [fd 0 0 .w1s, fd 1 1 .w1s] },
  { name := "SB_CNT", base := 0x0F0020, flds := [fd 31 0 .ro] },
  { name := "SB_MBOX_OUT_w", base := 0x0F0040, n1 := 8, s1 := 4, flds := [fd 31 0 .ro] },
  { name := "SB_MBOX_IN_w", base := 0x0F0060, n1 := 8, s1 := 4, wset := .dss, flds := [fd 31 0 .rw] },
  { name := "SB_CNT_CLR", base := 0x0F00F0, wset := .dss, flds := [fd 0 0 .wo] },
  { name := "UART_BAUD", base := 0x100000, reset := 0x3641, wset := .all, flds := [fdr 23 0 .rw 512 0xFFFFFF] },
  { name := "UART_CFG", base := 0x100004, wset := .all, flds := [fd 1 0 .rw] },
  { name := "UART_DATA", base := 0x100008, wset := .all, flds := [fd 7 0 .wo] },
  { name := "UART_STAT", base := 0x10000C, wset := .all,
    flds := [fd 6 0 .ro, fd 14 8 .ro, fd 16 16 .w1c, fd 17 17 .w1c, fd 18 18 .w1c] },
  { name := "UART_CNT", base := 0x100010, flds := [fd 31 0 .ro] },
  { name := "PCIE_STAT", base := 0x110000, reset := 1, flds := [fd 9 0 .ro] },
  { name := "PCIE_CNT", base := 0x110008, flds := [fd 31 0 .ro] },
  { name := "PCIE_OUT_LO_r", base := 0x110010, n1 := 8, s1 := 8, wset := .dss, flds := [fd 31 28 .rw] },
  { name := "PCIE_OUT_HI_r", base := 0x110014, n1 := 8, s1 := 8, wset := .dss, flds := [fd 31 0 .rw] },
  { name := "PCIE_IN_LO_e", base := 0x110050, n1 := 8, s1 := 8, wset := .dss, flds := [fd 31 12 .rw] },
  { name := "PCIE_IN_HI_e", base := 0x110054, n1 := 8, s1 := 8, wset := .dss, flds := [fd 21 0 .rw, fd 31 31 .rw] },
  { name := "PCIE_CNT_CLR", base := 0x1100F0, wset := .dss, flds := [fd 0 0 .wo] },
  { name := "PCIE_BOOT_ADDR_LO", base := 0x110100, wset := .boot, flds := [fd 31 0 .rw] },
  { name := "PCIE_BOOT_ADDR_HI", base := 0x110104, wset := .boot, flds := [fd 31 0 .rw] },
  { name := "PCIE_BOOT_LEN", base := 0x110108, wset := .boot, flds := [fd 31 0 .rw] },
  { name := "PCIE_BOOT_CTL", base := 0x11010C, wset := .boot, flds := [fd 1 0 .rw, fd 31 31 .w1s] },
  { name := "PCIE_BOOT_STAT", base := 0x110110, flds := [fd 2 0 .ro, fd 15 8 .ro, fd 18 16 .ro] },
  { name := "PCIE_CADDY", base := 0x110200, flds := [fd 6 0 .ro, fd 31 16 .ro] } ]

/-- MC m, MOVER m, BLK p, SYS_Q e and TILE t (Tables 5.6 to 5.9, 7.6 to 7.9, 16.9 to 16.12, 9.10, 10.8, 10.9, 17.9,
22.8, 6.5 to 6.10, 8.11, 5.10, 5.11). -/
def regRows3 : List RegRow := [
  { name := "MC_STAT_m", base := 0x180000, n1 := 8, s1 := 0x10000, flds := [fd 4 0 .ro, fd 12 8 .ro, fd 31 16 .ro] },
  { name := "MC_ECC_CNT_m", base := 0x180100, n1 := 8, s1 := 0x10000, flds := [fd 31 0 .ro] },
  { name := "MC_ECC_LOG0_m", base := 0x180110, n1 := 8, s1 := 0x10000, flds := [fd 31 0 .ro] },
  { name := "MC_ECC_LOG1_m", base := 0x180114, n1 := 8, s1 := 0x10000, flds := [fd 21 0 .ro] },
  { name := "MC_ECC_LOG2_m", base := 0x180118, n1 := 8, s1 := 0x10000, wset := .dss, flds := [fd 22 0 .ro, fd 31 31 .w1c] },
  { name := "MC_ECC_CTL_m", base := 0x180120, n1 := 8, s1 := 0x10000, reset := 0x00400008, wset := .rwl,
    flds := [fdr 5 0 .rwl 1 48, fdr 23 16 .rwl 1 255,
      { hi := 31, lo := 31, acc := .wo, own := some .dss }] },
  { name := "MOVER_STAT_m", base := 0x200000, n1 := 16, s1 := 0x10000, flds := [fd 8 0 .ro, fd 31 16 .ro] },
  { name := "MOVER_CH_LEASE", base := 0x201000, n1 := 16, s1 := 0x10000, n2 := 32, s2 := 0x40, wset := .dss,
    flds := [fd 12 0 .ro, fd 14 13 .wo, fd 31 16 .rw] },
  { name := "MOVER_CH_STATE", base := 0x201004, n1 := 16, s1 := 0x10000, n2 := 32, s2 := 0x40, reset := 3,
    flds := [fd 4 0 .ro, fd 27 8 .ro] },
  { name := "MOVER_CH_RING_LO", base := 0x201008, n1 := 16, s1 := 0x10000, n2 := 32, s2 := 0x40, wset := .dss, flds := [fd 31 6 .rw] },
  { name := "MOVER_CH_RING_HI", base := 0x20100C, n1 := 16, s1 := 0x10000, n2 := 32, s2 := 0x40, wset := .dss, flds := [fd 31 0 .rw] },
  { name := "MOVER_CH_CMPL_LO", base := 0x201010, n1 := 16, s1 := 0x10000, n2 := 32, s2 := 0x40, wset := .dss, flds := [fd 31 3 .rw] },
  { name := "MOVER_CH_CMPL_HI", base := 0x201014, n1 := 16, s1 := 0x10000, n2 := 32, s2 := 0x40, wset := .dss, flds := [fd 31 0 .rw] },
  { name := "MOVER_CH_RINGCFG", base := 0x201018, n1 := 16, s1 := 0x10000, n2 := 32, s2 := 0x40, reset := 4, wset := .dss,
    flds := [fdr 3 0 .rw 4 12] },
  { name := "MOVER_CH_TAIL", base := 0x20101C, n1 := 16, s1 := 0x10000, n2 := 32, s2 := 0x40, wset := .dss, flds := [fd 11 0 .rw] },
  { name := "MOVER_CH_CTL", base := 0x201020, n1 := 16, s1 := 0x10000, n2 := 32, s2 := 0x40, wset := .dss, flds := [fd 0 0 .w1s] },
  { name := "BLK_CTL_p", base := 0x300000, n1 := 8, s1 := 0x10000, reset := 0x10040000, wset := .steep,
    flds := [fd 0 0 .w1s, fd 1 1 .w1s, fd 2 2 .rw, fd 3 3 .rw, fd 15 8 .rw, fdr 19 16 .rw 1 15, fdr 31 24 .rw 1 255] },
  { name := "BLK_STAT_p", base := 0x300004, n1 := 8, s1 := 0x10000, flds := [fd 14 0 .ro, fd 26 16 .ro] },
  { name := "BLK_PEER_p", base := 0x300008, n1 := 8, s1 := 0x10000, flds := [fd 3 0 .ro] },
  { name := "BLK_PEER_ID_p", base := 0x30000C, n1 := 8, s1 := 0x10000, flds := [fd 31 0 .ro] },
  { name := "BLK_ERR_p", base := 0x300010, n1 := 8, s1 := 0x10000, flds := [fd 31 0 .ro] },
  { name := "BLK_ERR2_p", base := 0x300014, n1 := 8, s1 := 0x10000, flds := [fd 31 0 .ro] },
  { name := "BLK_LANE_p", base := 0x300018, n1 := 8, s1 := 0x10000, flds := [fd 31 0 .ro] },
  { name := "BLK_WAKE_p", base := 0x30001C, n1 := 8, s1 := 0x10000, wset := .steep, flds := [fd 0 0 .w1s, fd 1 1 .w1c, fd 31 16 .ro] },
  { name := "BLK_SELF_ID_p", base := 0x300024, n1 := 8, s1 := 0x10000, flds := [fd 31 0 .ro] },
  { name := "BLK_CNT_CLR_p", base := 0x3000F0, n1 := 8, s1 := 0x10000, wset := .ss, flds := [fd 0 0 .wo] },
  { name := "SYS_QBLK_CFG", base := 0x380000, n1 := 8, s1 := 0x10000, wset := .all, flds := [fd 7 0 .rw] },
  { name := "SYS_QBLK_WGT", base := 0x380004, n1 := 8, s1 := 0x10000, wset := .dss, flds := [fd 3 0 .rw, fd 4 4 .rw] },
  { name := "SYS_QBLK_WSTAT", base := 0x380008, n1 := 8, s1 := 0x10000, flds := [fd 31 0 .ro] },
  { name := "SYS_QBLK_MBOX_LO", base := 0x380010, n1 := 8, s1 := 0x10000, wset := .steep, flds := [fd 31 8 .rw] },
  { name := "SYS_QBLK_MBOX_HI", base := 0x380014, n1 := 8, s1 := 0x10000, wset := .steep, flds := [fd 31 0 .rw] },
  { name := "SYS_QBLK_MBOX_CFG", base := 0x380018, n1 := 8, s1 := 0x10000, reset := 4, wset := .steep,
    flds := [fdr 3 0 .rw 4 12, fd 31 31 .rw] },
  { name := "SYS_QBLK_MBOX_TAIL", base := 0x38001C, n1 := 8, s1 := 0x10000, flds := [fd 31 0 .ro] },
  { name := "SYS_QBLK_MBOX_HEAD", base := 0x380020, n1 := 8, s1 := 0x10000, wset := .steep, flds := [fd 31 0 .rw] },
  { name := "SYS_QBLK_NET_RX_LO_m", base := 0x380040, n1 := 8, s1 := 0x10000, n2 := 3, s2 := 0x40, wset := .dss, flds := [fd 31 14 .rw] },
  { name := "SYS_QBLK_NET_RX_HI_m", base := 0x380044, n1 := 8, s1 := 0x10000, n2 := 3, s2 := 0x40, wset := .dss, flds := [fd 31 0 .rw] },
  { name := "SYS_QBLK_NET_CFG_m", base := 0x380048, n1 := 8, s1 := 0x10000, n2 := 3, s2 := 0x40, reset := 0x44, wset := .dss,
    flds := [fdr 3 0 .rw 4 12, fdr 7 4 .rw 4 12, fd 31 31 .rw] },
  { name := "SYS_QBLK_NET_RX_TAIL_m", base := 0x38004C, n1 := 8, s1 := 0x10000, n2 := 3, s2 := 0x40, flds := [fd 31 0 .ro] },
  { name := "SYS_QBLK_NET_RX_HEAD_m", base := 0x380050, n1 := 8, s1 := 0x10000, n2 := 3, s2 := 0x40, wset := .dss, flds := [fd 31 0 .rw] },
  { name := "SYS_QBLK_NET_TX_LO_m", base := 0x380054, n1 := 8, s1 := 0x10000, n2 := 3, s2 := 0x40, wset := .dss, flds := [fd 31 14 .rw] },
  { name := "SYS_QBLK_NET_TX_HI_m", base := 0x380058, n1 := 8, s1 := 0x10000, n2 := 3, s2 := 0x40, wset := .dss, flds := [fd 31 0 .rw] },
  { name := "SYS_QBLK_NET_TX_TAIL_m", base := 0x38005C, n1 := 8, s1 := 0x10000, n2 := 3, s2 := 0x40, wset := .dss, flds := [fd 31 0 .rw] },
  { name := "SYS_QBLK_NET_TX_HEAD_m", base := 0x380060, n1 := 8, s1 := 0x10000, n2 := 3, s2 := 0x40, flds := [fd 31 0 .ro] },
  { name := "SYS_QBLK_NET_DROP_m", base := 0x380064, n1 := 8, s1 := 0x10000, n2 := 3, s2 := 0x40, flds := [fd 31 0 .ro] },
  { name := "SYS_Q_RING_LO", base := 0x380100, n1 := 8, s1 := 0x10000, n2 := 16, s2 := 0x40, wset := .all, flds := [fd 31 6 .rw] },
  { name := "SYS_Q_RING_HI", base := 0x380104, n1 := 8, s1 := 0x10000, n2 := 16, s2 := 0x40, wset := .all, flds := [fd 31 0 .rw] },
  { name := "SYS_Q_CMPL_LO", base := 0x380108, n1 := 8, s1 := 0x10000, n2 := 16, s2 := 0x40, wset := .all, flds := [fd 31 5 .rw] },
  { name := "SYS_Q_CMPL_HI", base := 0x38010C, n1 := 8, s1 := 0x10000, n2 := 16, s2 := 0x40, wset := .all, flds := [fd 31 0 .rw] },
  { name := "SYS_Q_CFG", base := 0x380110, n1 := 8, s1 := 0x10000, n2 := 16, s2 := 0x40, reset := 4, wset := .all,
    flds := [fdr 3 0 .rw 4 12, fd 5 4 .rw, fd 31 31 .rw] },
  { name := "SYS_Q_TAIL", base := 0x380114, n1 := 8, s1 := 0x10000, n2 := 16, s2 := 0x40, wset := .all, flds := [fd 11 0 .rw] },
  { name := "SYS_Q_HEAD", base := 0x380118, n1 := 8, s1 := 0x10000, n2 := 16, s2 := 0x40, flds := [fd 31 0 .ro] },
  { name := "SYS_Q_CHEAD", base := 0x38011C, n1 := 8, s1 := 0x10000, n2 := 16, s2 := 0x40, wset := .all, flds := [fd 31 0 .rw] },
  { name := "SYS_Q_DONE", base := 0x380120, n1 := 8, s1 := 0x10000, n2 := 16, s2 := 0x40, flds := [fd 31 0 .ro] },
  { name := "SYS_Q_STAT", base := 0x380124, n1 := 8, s1 := 0x10000, n2 := 16, s2 := 0x40, flds := [fd 8 0 .ro, fd 23 16 .ro] },
  { name := "SYS_Q_IRQ", base := 0x380128, n1 := 8, s1 := 0x10000, n2 := 16, s2 := 0x40, reset := 0x101, wset := .all,
    flds := [fd 7 0 .rw, fdr 15 8 .rw 1 255, fd 31 16 .rw] },
  { name := "SYS_Q_CTL", base := 0x38012C, n1 := 8, s1 := 0x10000, n2 := 16, s2 := 0x40, wset := .all, flds := [fd 0 0 .w1s] },
  { name := "SYS_WSLOT_s", base := 0x380800, n1 := 8, s1 := 0x10000, n2 := 64, s2 := 4, flds := [fd 13 0 .ro, fd 31 16 .ro] },
  { name := "TILE_STAT_t", base := 0x400000, n1 := 64, s1 := 0x10000, flds := [fd 2 0 .ro, fd 6 4 .ro, fd 11 8 .ro] },
  { name := "TILE_PROOF_CNT_t", base := 0x400010, n1 := 64, s1 := 0x10000, flds := [fd 31 0 .ro] },
  { name := "TILE_PROOF_LOG_t", base := 0x400014, n1 := 64, s1 := 0x10000, wset := .dss, flds := [fd 28 0 .ro, fd 31 31 .w1c] },
  { name := "TILE_PROOF_CTL_t", base := 0x400018, n1 := 64, s1 := 0x10000, reset := 2, wset := .rwl, flds := [fd 2 0 .rwl] },
  { name := "TILE_VU_RES_t", base := 0x400020, n1 := 64, s1 := 0x10000, wset := .dss, flds := [fd 24 0 .ro, fd 31 31 .w1c] },
  { name := "TILE_PF_STAT_t", base := 0x400030, n1 := 64, s1 := 0x10000, flds := [fd 31 0 .ro] },
  { name := "TILE_BANK_STAT_t", base := 0x400040, n1 := 64, s1 := 0x10000, flds := [fd 31 0 .ro] },
  { name := "TILE_FP_SUM_t", base := 0x400050, n1 := 64, s1 := 0x10000, wset := .dss,
    flds := fd 7 0 .ro :: (List.range 8).map (fun i => fd (16 + i) (16 + i) .w1c) },
  { name := "TILE_CNT_CLR_t", base := 0x4000F0, n1 := 64, s1 := 0x10000, wset := .dss, flds := [fd 0 0 .wo, fd 1 1 .wo, fd 2 2 .wo, fd 3 3 .wo] },
  { name := "TILE_ECC_CNT_t", base := 0x400F00, n1 := 64, s1 := 0x10000, wset := .dss, flds := [fd 24 0 .ro, fd 25 25 .w1c] },
  { name := "TILE_ECC_LOG_t", base := 0x400F04, n1 := 64, s1 := 0x10000, wset := .dss, flds := [fd 29 0 .ro, fd 31 31 .w1c] } ]

/-- Every register family of the device (Table 23.5). -/
def regRows : List RegRow := regRows0 ++ regRows1 ++ regRows2 ++ regRows3

/-- Whether a register family holds the register with this key. -/
def RegRow.covers (r : RegRow) (k : Nat) : Bool :=
  let i := if r.s1 = 0 then 0 else (k - r.base) / r.s1
  let rest := if r.s1 = 0 then k - r.base else (k - r.base) % r.s1
  let j := if r.s2 = 0 then 0 else rest / r.s2
  Nat.ble r.base k && (Nat.ble k (r.base + (r.n1 - 1) * r.s1 + (r.n2 - 1) * r.s2)
    && decide (i < r.n1 ∧ j < r.n2 ∧ k = r.base + i * r.s1 + j * r.s2))

/-- The description of the register at a key, when the key names one (R697). -/
def regRow (k : Nat) : Option RegRow := regRows.find? (·.covers k)

/-- The reset value of the register at a key; an unnamed offset reads zero (R697). [log 10 DESIGN CHOICE, unsafe] -/
def regReset (k : Nat) : Word := match regRow k with
  | some r => BitVec.ofNat 32 r.reset
  | none => 0

/-- Which device states a phrase of Table 23.2 names (RWL fields are judged by R4 instead). -/
def WSet.has : WSet → DevState → Bool
  | .all, .off => false
  | .all, .standby => false
  | .all, _ => true
  | .dss, s => s == .drive || s == .steep || s == .service
  | .ss, s => s == .steep || s == .service
  | .steep, s => s == .steep
  | .boot, s => s == .boot
  | .bootProof, s => s == .boot || s == .proof
  | .rwl, _ => false
  | .none, _ => false

end Sys2Proof.Machine
end

