-- ==== Sys2Proof/Machine/Types/Compute.lean ====
section
/-! DEFINITION. The records of chapters 6 and 7: tiles, their engines and kernels, mover channels and descriptors. -/

namespace Sys2Proof.Machine

/-- TILE_STAT_t.STATE (Table 6.5); OFF is a powered-down tile (R239). -/
inductive TileSt where
  | idle | running | stalled | aborting
  deriving DecidableEq, Repr

/-- The codes of Table 6.5. -/
def TileSt.code : TileSt → Nat
  | .idle => 1 | .running => 2 | .stalled => 3 | .aborting => 4

/-- One fill entry of the prefetch queue (R234): source, length, buffer (0 W0, 1 W1) and layer. -/
structure Fill where
  src : Nat := 0
  len : Nat := 0
  buf : Nat := 0
  layer : Nat := 0
  off : Nat := 0
  deriving DecidableEq, Repr

/-- A launch record as far as the manual gives it (§6.5, R234): launching steward and entry, entry point, enclosure,
time budget, the two weight buffers, and the model slot resolved at launch (R238). -/
structure Launch where
  steward : Nat := 0
  encl : Nat := 0
  queue : Nat := 0
  seq : Nat := 0
  entry : Nat := 0
  budgetUs : Nat := 0
  w0 : Nat := 0
  w1 : Nat := 0
  w0Len : Nat := 0
  w1Len : Nat := 0
  /-- Model slot resolved at launch, plus one; 0 none. -/
  slot : Nat := 0
  /-- Where that slot's weights lie, as the kernel reads the pointer at launch (R238). -/
  slotBase : Nat := 0
  since : Nat := 0
  deriving DecidableEq, Repr

/-- One accumulator bank (R218, R221): 2048 accumulators row-major, the k-steps since the last clear, the proof
accumulators, the largest exponents of the operands and whether any of them was infinite or NaN.
[log 13 DESIGN CHOICE, unsafe] -/
structure Bank where
  acc : List Nat := []
  cols : List Nat := []
  rows : List Nat := []
  corner : Nat := 0
  kSteps : Nat := 0
  expA : Int := -1000
  expB : Int := -1000
  special : Bool := false
  pair : Nat := 0
  /-- SAT8 of the operation that filled the bank (R290). -/
  sat8 : Bool := false
  deriving DecidableEq, Repr

/-- One tile: its sequencer, tensor engine, vector registers and prefetch engine (chapter 6).
[log 13 DESIGN CHOICE, unsafe] -/
structure Tile where
  st : TileSt := .idle
  poison : Bool := false
  proofErr : Bool := false
  residue : Bool := false
  pfLate : Bool := false
  launch : Option Launch := none
  bank0 : Bank := {}
  bank1 : Bank := {}
  /-- Vector registers: register r, lane l at 64 r + l. -/
  vregs : List (Nat × Nat) := []
  /-- The residues modulo 3 held with them (R226). -/
  vres : List (Nat × Nat) := []
  /-- TSRAM lines that hold a drained bank, by line, and vector registers loaded from such lines: 1 + SAT8 of the operation that
  filled the bank (R290). -/
  satLines : List (Nat × Nat) := []
  vsat : List (Nat × Nat) := []
  /-- The prefetch queue, oldest first, and the layer the TE reads now. -/
  fills : List Fill := []
  layer : Nat := 0
  /-- Requests a FENCE waits for (R229). -/
  fence : List Nat := []
  /-- Fill entries a FENCE_PF still waits for. -/
  fencePf : Nat := 0
  /-- Layers whose fill ended with a code that ends the kernel at the switch (R237). -/
  fillFail : List (Nat × Status) := []
  /-- A code that ends the kernel (R230, R231, R237). -/
  code : Option Status := none
  /-- Drains of the running kernel. -/
  drains : Nat := 0
  /-- Drains compared since the counter was cleared (counted in units of 1024). -/
  compared : Nat := 0
  stallFrom : Nat := 0
  stalled : Nat := 0
  /-- The last kernel's completion as posted to its steward. -/
  posted : Option Status := none
  deriving DecidableEq, Repr

/-- The states of a mover channel (Table 7.8); UNASSIGNED is the absence of an assignment. -/
inductive ChanSt where
  | idle | running | stopped
  deriving DecidableEq, Repr

/-- The codes of Table 7.8. -/
def ChanSt.code : ChanSt → Nat
  | .idle => 0 | .running => 1 | .stopped => 2

/-- A lease with the fields of Table 4.8 (R166). -/
structure Lease where
  held : Bool := false
  broken : Bool := false
  seized : Bool := false
  encl : Nat := 0
  gsk : Nat := 0
  gen : Nat := 0
  /-- Expiry on the model's clock. -/
  until_ : Nat := 0
  deriving DecidableEq, Repr

/-- A descriptor that has begun and not yet completed: its outcome so far (R257). -/
structure Running where
  tag : Nat := 0
  flags : Nat := 0
  status : Status := .ok
  poison : Bool := false
  units : Nat := 0
  /-- The operation it serves (R311, R312). -/
  op : Option EntryRef := none
  deriving DecidableEq, Repr

/-- One mover channel (R252 to R259). `encl` is its enclosure plus one; 0 unassigned. -/
structure MChan where
  encl : Nat := 0
  lease : Lease := {}
  st : ChanSt := .idle
  head : Nat := 0
  lastStatus : Nat := 0
  cur : Option Running := none
  deriving DecidableEq, Repr

end Sys2Proof.Machine
end

