-- ==== Sys2Proof/Machine/Types/Host.lean ====
section
/-! DEFINITION. The records of chapter 22: the PCIe 5.0 port with its message vectors and host push, the Caddy root
port, the boot flash, the UART and the frames of the network rings. -/

namespace Sys2Proof.Machine

/-- An outbound PCIe request that awaits its completion (R676). -/
structure PcieReq where
  id : Nat := 0
  addr : Nat := 0
  write : Bool := false
  since : Nat := 0
  deriving DecidableEq, Repr

/-- The states of PCIE_BOOT_STAT (Table 22.6). -/
inductive PushSt where
  | idle | waitBundle | reading | waitDrive | waitSteep | done | failed
  deriving DecidableEq, Repr

/-- The codes of PCIE_BOOT_STAT.STATE. -/
def PushSt.code : PushSt → Nat
  | .idle => 0 | .waitBundle => 1 | .reading => 2 | .waitDrive => 3 | .waitSteep => 4 | .done => 5 | .failed => 6

/-- The PCIe 5.0 × 8 port (R672 to R678, R686). -/
structure Pcie where
  linkUp : Bool := false
  speed : Nat := 0
  width : Nat := 0
  /-- Bus Master Enable and MSI-X Enable of the configuration space. -/
  busMaster : Bool := false
  msixOn : Bool := false
  /-- The sticky bits of the configuration space, as one number (Table 3.5). [log 157 DESIGN CHOICE, unsafe] -/
  sticky : Nat := 0
  /-- The MSI-X table of BAR4, 16 bytes an entry; an unlisted byte reads as the entry's reset (masked). -/
  table : List (Nat × Byte) := []
  /-- The pending bit array, and the messages sent, oldest first. -/
  pend : List Nat := []
  sent : List Nat := []
  outst : List PcieReq := []
  /-- How the latest inbound request was completed to its requester, with its data; none for a posted write. -/
  cpl : Option PcieCpl := none
  cplData : List Byte := []
  push : PushSt := .idle
  attempts : Nat := 0
  /-- The object awaited has been posted (R686). -/
  tried : Bool := false
  result : Nat := 0
  /-- When the link came up, and when the present wait of host push began. -/
  upSince : Nat := 0
  waitSince : Nat := 0
  deriving DecidableEq, Repr

/-- An NVMe read that awaits its completion (R341, R680), of `units` LBAs from `lba`: the header of a slot's leaf, or at most
128 KiB of one of its segments from unit `part`. -/
structure NvmeReq where
  id : Nat := 0
  slot : Nat := 0
  /-- Segment index plus one; 0 the header. -/
  seg : Nat := 0
  part : Nat := 0
  nsid : Nat := 0
  lba : Nat := 0
  units : Nat := 0
  since : Nat := 0
  deriving DecidableEq, Repr

/-- The Caddy root port (R679, R680). -/
structure Caddy where
  present : Bool := false
  ready : Bool := false
  speed : Nat := 0
  width : Nat := 0
  outst : List NvmeReq := []
  /-- Reads that were outstanding when ROUSE disabled the port: their data will be discarded at the sealed gasket (Table 1.7). -/
  orphans : List Nat := []
  nextId : Nat := 0
  resets : Nat := 0
  /-- Time of the last fatal status, plus one; 0 none. -/
  fatalAt : Nat := 0
  deriving DecidableEq, Repr

/-- One entry of the UART's receive FIFO (R691). -/
structure UartEntry where
  data : Nat := 0
  pe : Bool := false
  fe : Bool := false
  brk : Bool := false
  deriving DecidableEq, Repr

/-- The UART (R687 to R692). -/
structure Uart where
  rx : List UartEntry := []
  tx : List Nat := []
  /-- Consecutive high samples the line must show before a start is detected: none, one after a low stop bit (Table
  22.5), sixteen after a change of UART_CFG or UART_BAUD (R691). -/
  needHigh : Nat := 0
  /-- Samples of the line that the receiver has not used yet (R688, R689). -/
  line : List Bool := []
  /-- Characters the transmitter has sent, oldest first. -/
  out : List Nat := []
  /-- The raw reading of an invalid strap, in 0.1 mV, as the UART reports it (R123). [log 157 DESIGN CHOICE, unsafe] -/
  raw : Option Nat := none
  deriving DecidableEq, Repr

end Sys2Proof.Machine
end

