-- ==== Sys2Proof/Machine/Types/Ingest.lean ====
section
/-! DEFINITION. The records of chapter 13: the time-stamp unit with its gPTP ports, the stream contexts of the Strainer,
data that are being received, and the epoch summaries. -/

namespace Sys2Proof.Machine

/-- The rate value at the nominal 2.5 ns per INGEST cycle, with 32 fraction bits (R419). -/
def nominalRate : Nat := 10737418240

/-- The state of the protocol on one Ethernet port that carries gPTP (R423). -/
structure GptpPort where
  /-- The latest Sync: its sequence number plus one, and its stamp. -/
  syncSeq : Nat := 0
  syncAt : Nat := 0
  /-- The sync interval of the master in ns. -/
  interval : Nat := 125000000
  /-- The peer-delay exchange: sequence number, and the stamps t1 (sent) and t4 (response received), t2 (from the
  response), with the measured mean delay. -/
  seq : Nat := 0
  t1 : Nat := 0
  t2 : Nat := 0
  t4 : Nat := 0
  delay : Nat := 0
  txSeq : Nat := 0
  deriving DecidableEq, Repr

/-- A gPTP message the device sends: port, message type, sequence number, and the time it carries. -/
structure GptpMsg where
  port : Nat := 0
  kind : Nat := 0
  seq : Nat := 0
  time : Nat := 0
  deriving DecidableEq, Repr

/-- The time-stamp unit (§13.5). `st` is the code of Table 13.7. -/
structure Tsu where
  time : Nat := 0
  frac : Nat := 0
  rate : Nat := nominalRate
  st : Nat := 0
  /-- Source in use: 0 none, 1 gPTP, 2 PPS. -/
  src : Nat := 0
  /-- Consecutive measurements within ±1 µs, up to 8. -/
  good : Nat := 0
  /-- Times of the last gPTP and the last PPS measurement, and of the last PPS edge, plus one; 0 none. -/
  lastPtp : Nat := 0
  lastPps : Nat := 0
  lastEdge : Nat := 0
  holdSince : Nat := 0
  offset : Int := 0
  /-- The half of the time latched by a read of TSU_TIME_LO, plus one; 0 none. -/
  latch : Nat := 0
  /-- TSU time at which the present PPS_OUT pulse falls. -/
  ppsUntil : Nat := 0
  /-- Capture at Cozy entry: the TSU and the model's clock. -/
  cozyTime : Nat := 0
  cozyFrom : Nat := 0
  /-- The next periodic messages of R423, on the model's clock. -/
  syncDue : Nat := 0
  pdelayDue : Nat := 0
  ptp0 : GptpPort := {}
  ptp1 : GptpPort := {}
  /-- Messages sent, oldest first. -/
  sent : List GptpMsg := []
  deriving DecidableEq, Repr

/-- A stream record (Table 13.3). Kinds: 1 CAMERA, 2 LIDAR, 3 IMU, 4 WHEEL. -/
structure StreamRec where
  stream : Nat := 0
  port : Nat := 0
  kind : Nat := 0
  sel : Nat := 0
  mtch : Nat := 0
  dataId : Nat := 0
  maxGap : Nat := 0
  periodUs : Nat := 0
  latMin : Nat := 0
  latMax : Nat := 0
  maxLen : Nat := 0
  base : Nat := 0
  slots : Nat := 0
  slotBytes : Nat := 0
  deriving DecidableEq, Repr

/-- The summary of one stream over an epoch (R432): data written, the LOST sum, discards by outcome code, and whether
the stream was SILENT at the boundary. -/
structure Summary where
  written : Nat := 0
  lost : Nat := 0
  discards : List (Nat × Nat) := []
  silent : Bool := false
  deriving DecidableEq, Repr

/-- A stream context (R411 to R413, R430 to R432). -/
structure Stream where
  bound : Option StreamRec := none
  initial : Bool := true
  last : Nat := 0
  resync : Nat := 0
  /-- Counter of the latest OUT_OF_SEQ datum. -/
  prevBad : Nat := 0
  widx : Nat := 0
  silent : Bool := false
  lastWrite : Nat := 0
  outcome : Nat := 0
  acc : Summary := {}
  closed : Summary := {}
  /-- ARRIVAL, SENDER_TIME and TIMEBASE of the latest written datum, and of every datum written since the boundary. -/
  arrivals : List Nat := []
  deriving DecidableEq, Repr

/-- A camera frame that is open on (port, virtual channel) (R414): its stamp, its long packets so far with their data types, oldest
first, whether a code of the port failed, and whether the queue of R429 was full. -/
structure Camera where
  arrival : Nat := 0
  lines : List (Nat × List Byte) := []
  bad : Bool := false
  overrun : Bool := false
  opened : Bool := false
  deriving DecidableEq, Repr

/-- The Strainer (chapter 13). `outbound` holds the counters of R434 by DATA_ID. -/
structure Strainer where
  streams : List (Nat × Stream) := []
  /-- A binding that awaits its epoch boundary (R412). -/
  bind : Option (EntryRef × List StreamRec) := none
  /-- Open camera frames, by 16 × port + virtual channel. -/
  cameras : List (Nat × Camera) := []
  /-- IMU transfers in progress: stamp plus one by SPI controller. -/
  imu : List (Nat × Nat) := []
  outbound : List (Nat × Nat) := []
  deriving DecidableEq, Repr

end Sys2Proof.Machine
end

