-- ==== Sys2Proof/Machine/Types/Kv.lean ====
section
/-! DEFINITION. The records of chapter 11: KV pools, their geometry, list heads and waiting appends. Sequence records,
page records, buckets, page lists and token stores lie in memory (Tables 11.3 to 11.5). -/

namespace Sys2Proof.Machine

/-- Pool states (Table 11.1). -/
inductive PoolSt where
  | absent | unformatted | ready | broken
  deriving DecidableEq, Repr

/-- The codes of Table 11.11. -/
def PoolSt.code : PoolSt → Nat
  | .absent => 0 | .unformatted => 1 | .ready => 2 | .broken => 3

/-- An append that waits for pages (R372): its entry, sequence record, need and arrival; `attn` marks the fused append
of an attention operator. -/
structure Waiter where
  r : EntryRef
  idx : Nat := 0
  need : Nat := 0
  since : Nat := 0
  attn : Bool := false
  deriving DecidableEq, Repr

/-- A pool as the stewards hold it: the geometry of the last POOL_RESET, the prefix key, the heads and counts of the
free and the cached list (the pool header of Table 11.3, internal to the stewards), and the waiting appends. -/
structure Pool where
  st : PoolSt := .absent
  layers : Nat := 0
  heads : Nat := 0
  dim : Nat := 0
  headroom : Nat := 0
  walk : Nat := 0
  retain : Bool := false
  waitMs : Nat := 0
  floor : Nat := 0
  key : Nat := 0
  freeHead : Nat := 0xFFFFFF
  nFree : Nat := 0
  cacheHead : Nat := 0xFFFFFF
  cacheTail : Nat := 0xFFFFFF
  nCached : Nat := 0
  opens : Nat := 0
  waits : List Waiter := []
  deriving DecidableEq, Repr

/-- One page an append writes (Table 11.8): its list index, the page that receives the rows, the page it replaces
(copy on write), whether it was newly allocated, the row range and the token IDs of the rows. -/
structure AppPage where
  i : Nat := 0
  g : Nat := 0
  old : Option Nat := none
  fresh : Bool := false
  lo : Nat := 0
  hi : Nat := 0
  toks : List Byte := []
  deriving DecidableEq, Repr

/-- The partial result of one chunk for one query row and head (§12.2): m, l and o as FP32 patterns. -/
structure Partial where
  head : Nat := 0
  row : Nat := 0
  chunk : Nat := 0
  m : Nat := 0
  l : Nat := 0
  o : List Nat := []
  deriving DecidableEq, Repr

/-- An attention operator whose partial results wait for their merge (R398), with its fused append not yet committed
(R389). -/
structure Attn where
  r : EntryRef
  pid : Nat := 0
  idx : Nat := 0
  append : Nat := 0
  share : Bool := false
  plan : List AppPage := []
  heads : Nat := 0
  group : Nat := 0
  dim : Nat := 0
  rows : Nat := 0
  out : Nat := 0
  outFp32 : Bool := false
  rowBytes : Nat := 0
  slice : Nat := 0
  gather : Bool := false
  /-- R380: the walk is Walk S. -/
  walkS : Bool := false
  tiles : List Nat := []
  parts : List Partial := []
  merged : List Nat := []
  deriving DecidableEq, Repr

end Sys2Proof.Machine
end

