-- ==== Sys2Proof/Machine/Types/Link.lean ====
section
/-! DEFINITION. The records of chapter 16: link states, the link layer of a port or tunnel session (sequence numbers,
replay buffer, credits, packets in transit) and the Brikel port. -/

namespace Sys2Proof.Machine

/-- Link states (Table 16.4). -/
inductive LState where
  | disabled | detect | train | active | retrain | l1 | sleep | down
  deriving DecidableEq, Repr

/-- Codes of BLK_STAT_p.LSTATE (Table 16.4). -/
def LState.code : LState → Nat
  | .disabled => 0 | .detect => 1 | .train => 2 | .active => 3 | .retrain => 4 | .l1 => 5 | .sleep => 6 | .down => 7

/-- A link packet (R532): its link VC (0 LREQ, 1 LRSP, 2 LMGT) and its body. -/
structure Pkt where
  lvc : Nat := 0
  body : List Byte := []
  deriving DecidableEq, Repr

/-- The transmitter's side of one link VC (R534): packets waiting, dwords consumed, credit limit in 64-byte units. -/
structure LvcTx where
  q : List Pkt := []
  consumed : Nat := 0
  limit : Nat := 240
  deriving DecidableEq, Repr

/-- The receiver's side of one link VC (R534, R535): buffer size in units, dwords received and freed, the limit last
sent to the partner, packets held for the loom layer. -/
structure LvcRx where
  cap : Nat := 240
  got : Nat := 0
  freed : Nat := 0
  told : Nat := 240
  buf : List Pkt := []
  deriving DecidableEq, Repr

/-- Link-layer state (R526, R529 to R538). -/
structure LinkLayer where
  /-- SEQ of the next new DATA flit, and the SEQ expected from the partner. -/
  seq : Nat := 0
  rxSeq : Nat := 0
  /-- The replay buffer: SEQ and payload of unacknowledged DATA flits, oldest first. -/
  unacked : List (Nat × List Byte) := []
  /-- How many of the newest flits of the replay buffer are still to be sent again. -/
  resend : Nat := 0
  /-- A NAK is pending: NAK is set in each flit sent. -/
  nak : Bool := false
  /-- Replays since the ACK last advanced, and the time from which REPLAY_TO counts. -/
  replays : Nat := 0
  ackAt : Nat := 0
  tx : List LvcTx := [{}, {}, { limit := 16 }]
  rx : List LvcRx := [{}, {}, { cap := 16, told := 16 }]
  /-- What is left of the packet in transmission. -/
  cur : List Byte := []
  /-- Position in the round of R533: 0 and 1 LRSP, 2 LREQ. -/
  round : Nat := 0
  /-- The link VC whose limit was sent last. -/
  cvc : Nat := 2
  /-- The packet in reception: link VC, bytes still missing, bytes so far. -/
  part : Option (Nat × Nat × List Byte) := none
  /-- Power messages waiting (§16.9). -/
  ctrl : List Nat := []
  deriving DecidableEq, Repr

/-- Steps of the SLEEP handshake (R540). -/
inductive SleepStep where
  | none | draining | waitAck
  deriving DecidableEq, Repr

/-- A Brikel port. The error counters and BLK_CTL_p lie in the register file, BLK_WAKE_p.SEEN in AON. -/
structure Brikel where
  st : LState := .disabled
  /-- When the present link state was entered. -/
  since : Nat := 0
  width : Nat := 0
  /-- Physical lanes on which a set has been received: physical lane → logical lane number plus one. -/
  lanes : List (Nat × Nat) := []
  polarity : Nat := 0
  /-- Logical lanes the partner reported usable, and physical lanes left out of USABLE (R527). -/
  peerUsable : Nat := 0
  leftOut : Nat := 0
  /-- Consecutive TS_B sets by physical lane. -/
  tsb : List (Nat × Nat) := []
  /-- Step 7 of Table 16.5 has been reached: the first good flit makes the link ACTIVE. -/
  ready : Bool := false
  /-- The link-layer state is new, so FRESH is sent; the partner sent FRESH. -/
  fresh : Bool := true
  peerFresh : Bool := false
  /-- BLK_PEER_p and BLK_PEER_ID_p. -/
  peerValid : Bool := false
  peerPort : Nat := 0
  peerId : Nat := 0
  /-- PORT and LINK_ID at the last ACTIVE (R526), 8 × id + port, plus one. -/
  lastPeer : Nat := 0
  link : LinkLayer := {}
  /-- HELLO of the partner (R552): taken, its node and TUNNEL; `barred` when only HELLO may pass. -/
  hello : Bool := false
  barred : Bool := false
  peerNode : Nat := 0
  peerTunnel : Bool := false
  /-- Time of the last good flit, of the last packet sent, and of an unanswered L1_REQ plus one. -/
  goodAt : Nat := 0
  sentAt : Nat := 0
  l1ReqAt : Nat := 0
  sleep : SleepStep := .none
  sleepAt : Nat := 0
  /-- The last flit sent, and detection bursts sent. -/
  flit : List Byte := []
  bursts : Nat := 0
  /-- Scramblers by logical lane (R521), flits since the last SKIP block, the blocks last sent on each active lane, SKIP blocks
  the elastic buffer has taken out, and when the next flit may start, in sixteenths of a nanosecond (R523). -/
  txScr : List Nat := List.replicate 4 0
  rxScr : List Nat := List.replicate 4 0
  flits : Nat := 0
  wire : List (List LaneBlock) := []
  skips : Nat := 0
  nextTx : Nat := 0
  deriving DecidableEq, Repr

end Sys2Proof.Machine
end

