-- ==== Sys2Proof/Machine/Types/Loom.lean ====
section
/-! DEFINITION. The records of chapter 17: members and views, loom-bound requests, tunnel sessions, remote page leases,
collectives and the Cozy vote. -/

namespace Sys2Proof.Machine

/-- LOOM_STAT.MSTATE (Table 17.8). -/
inductive MState where
  | none | member | coordinator | electing
  deriving DecidableEq, Repr

/-- Codes of LOOM_STAT.MSTATE. -/
def MState.code : MState → Nat
  | .none => 0 | .member => 1 | .coordinator => 2 | .electing => 3

/-- LOOM_VOTE_STAT.VSTATE (Table 17.8). -/
inductive VState where
  | none | opened | committed | aborted
  deriving DecidableEq, Repr

/-- Codes of LOOM_VOTE_STAT.VSTATE. -/
def VState.code : VState → Nat
  | .none => 0 | .opened => 1 | .committed => 2 | .aborted => 3

/-- A membership view (§17.1): its number, the coordinator, the members and the Brikel links between them. -/
structure View where
  seq : Nat := 0
  coord : Nat := 0
  members : List MemberRec := []
  links : List LinkRec := []
  deriving DecidableEq, Repr

/-- A loom-bound request that awaits its response (R537, R560): `via` is the port (0 to 7) or 16 plus the session. -/
structure LReq where
  tid : Nat := 0
  /-- The weave request it is for, and its issuing gasket. -/
  wid : Nat := 0
  src : Nat := 0
  encl : Nat := 0
  node : Nat := 0
  via : Nat := 0
  opc : Nat := 0
  since : Nat := 0
  /-- Set while it waits for its route (R554) or a session (R556): the packet not yet sent. -/
  held : Option Pkt := none
  deriving DecidableEq, Repr

/-- A tunnel session (R556). -/
structure Session where
  peer : Nat := 0
  gen : Nat := 0
  peerGen : Nat := 0
  link : LinkLayer := {}
  /-- When a packet last passed. -/
  packetAt : Nat := 0
  /-- A DATA flit has been received and not yet acknowledged by a flit sent. -/
  answerDue : Bool := false
  deriving DecidableEq, Repr

/-- A remote page lease at this member's keeper (R563). -/
structure RLease where
  base : Nat := 0
  size : Nat := 0
  /-- Window enclosure, holder's node, LEASE_MS, GEN; held until the expiry, or how it ended. -/
  encl : Nat := 0
  node : Nat := 0
  ms : Nat := 0
  gen : Nat := 0
  held : Bool := false
  broken : Bool := false
  seized : Bool := false
  expiry : Nat := 0
  deriving DecidableEq, Repr

/-- A collective in progress on this member (R564): its entry, operator, rank, group and descriptor; the chunks passed
upward and downward; the barrier lease held at the next rank while it waits (R566). -/
structure Coll where
  r : EntryRef
  op : Nat := 0
  rank : Nat := 0
  size : Nat := 1
  group : Nat := 0
  desc : CollDesc := {}
  /-- A slice lies in this many rows, `stride` bytes apart (the gather of attention rows, R402). -/
  rows : Nat := 1
  stride : Nat := 0
  up : Nat := 0
  down : Nat := 0
  fpsum : Nat := 0
  poison : Bool := false
  /-- The own slice lies in the destination already (R402). -/
  inPlace : Bool := false
  /-- All ranks are present and agree (R320, Table 9.9): data passes. -/
  go : Bool := false
  leaseHeld : Bool := false
  expiry : Nat := 0
  deriving DecidableEq, Repr

/-- A management or collective message this member has sent (Table 17.3 gives management opcodes no layout). -/
inductive LoomMsg where
  | hello (port : Nat)
  | joinReq (dest : Nat)
  | joinForward (dest node : Nat)
  | joinAnswer (dest status : Nat)
  | view (dest seq : Nat)
  | heartbeat (dest : Nat)
  | heartbeatAnswer (dest : Nat)
  | claim (dest : Nat)
  | claimAck (dest : Nat)
  | leave (dest : Nat)
  | propose (dest id : Nat)
  | cast (dest id : Nat) (yes : Bool)
  | withdraw (dest id : Nat)
  | commit (dest id : Nat)
  | abort (dest id : Nat)
  | remoteReset (dest : Nat)
  | abortGroup (group rank status : Nat)
  | collReady (group rank : Nat) (down : Bool) (op size count : Nat) (agree : Bool)
  | coll (group rank : Nat) (down : Bool) (chunk : Nat) (data : List Byte) (poison : Bool)
  deriving DecidableEq, Repr

/-- The Cozy vote as this member sees it (R573 to R575). -/
structure Vote where
  st : VState := .none
  id : Nat := 0
  ownCast : Bool := false
  ownYes : Bool := false
  withdrawn : Bool := false
  /-- The coordinator's: who has cast yes, the proposer's entry, the time-out and when COMMIT was sent. -/
  yes : List Nat := []
  entry : Option EntryRef := none
  since : Nat := 0
  toMs : Nat := 1000
  holdSince : Nat := 0
  holding : Bool := false
  deriving DecidableEq, Repr

/-- The loom layer (chapter 17). The counters and LOOM_CFG lie in the register file. -/
structure Loom where
  st : MState := .none
  view : View := {}
  /-- Nodes that were in a view since this device joined (R549). -/
  seen : List Nat := []
  outst : List LReq := []
  nextTid : Nat := 0
  /-- A JOIN, and a LEAVE, that waits: its entry and since when. -/
  joining : Option (EntryRef × Nat) := none
  leaving : Option (EntryRef × Nat) := none
  /-- JOIN_REQs a coordinator delays while a vote is open. -/
  delayed : List JoinRec := []
  /-- Heartbeats unanswered or missed, by node. -/
  missed : List (Nat × Nat) := []
  beatAt : Nat := 0
  lostAt : Nat := 0
  /-- Claimants heard, the first of them when, and the acknowledgements of the own claim. -/
  claims : List Nat := []
  claimAt : Nat := 0
  acks : List Nat := []
  acked : Bool := false
  vote : Vote := {}
  nextVote : Nat := 0
  sessions : List (Nat × Session) := []
  /-- SESSION_GEN last used. -/
  gens : Nat := 0
  leases : List RLease := []
  colls : List Coll := []
  sent : List LoomMsg := []
  /-- Tunnel frames sent, oldest first: peer and bytes of the UDP payload. -/
  frames : List (Nat × List Byte) := []
  /-- When the latest exit from Cozy sleep ended, plus one (R576). -/
  exitAt : Nat := 0
  deriving DecidableEq, Repr

end Sys2Proof.Machine
end

