-- ==== Sys2Proof/Machine/Types/Safe.lean ====
section
/-! DEFINITION. The records of chapters 9 and 18: fault identifiers and reports, the safety mechanisms' running state,
command queues with the entries in flight, and completion endings. -/

namespace Sys2Proof.Machine

/-- The faults of Table 18.4. -/
inductive FaultId where
  | parkDisc | overTemp | ceRate | dramHot | aonXtal | proofCmd | stewardHang | safeFrameTx
  | memUe | poisonOverflow | wardenUe
  | proofMismatch | vuResidue | lseChecksum | assignMismatch
  | partition | weaveParity | e2eTx | fusionL4
  | clockMon | pllUnlock | wardClock | voltMon | lockstep | wardenWdog | faultPin
  | bootFault | proofFail | rouseTimeout
  | unnamed (code : Nat)    -- an SF event that Table 18.4 gives no identifier (R606)
  deriving DecidableEq, Repr

/-- The identifiers of Table 18.4. -/
def FaultId.code : FaultId → Nat
  | .parkDisc => 0x01 | .overTemp => 0x02 | .ceRate => 0x03 | .dramHot => 0x04 | .aonXtal => 0x05
  | .proofCmd => 0x06 | .stewardHang => 0x07 | .safeFrameTx => 0x08
  | .memUe => 0x10 | .poisonOverflow => 0x11 | .wardenUe => 0x12
  | .proofMismatch => 0x20 | .vuResidue => 0x21 | .lseChecksum => 0x22 | .assignMismatch => 0x23
  | .partition => 0x30 | .weaveParity => 0x31 | .e2eTx => 0x40 | .fusionL4 => 0x41
  | .clockMon => 0x50 | .pllUnlock => 0x51 | .wardClock => 0x52 | .voltMon => 0x53 | .lockstep => 0x54
  | .wardenWdog => 0x55 | .faultPin => 0x56
  | .bootFault => 0x60 | .proofFail => 0x61 | .rouseTimeout => 0x62
  | .unnamed n => n % 2 ^ 16

/-- The fault classes of Table 18.3. -/
inductive FaultClass where
  | sf | sr | ea | af | lg
  deriving DecidableEq, Repr

/-- What a report carries for its attribution (R588): an enclosure tag, the scrubber's tag with the unit's address, an
array or unit by its gasket, or nothing (a monitor report). -/
inductive Attr where
  | tag (encl : Nat)
  | scrub (addr : Nat)
  | block (g : Nat)
  | device
  deriving DecidableEq, Repr

/-- A fault report on its way to the fault collector (R194, R223, R583 …). `gsk` is the reporting block, `unit` the
compute unit of R590 (0 to 63 tile, 64 LSE solver, 65 assignment unit); a report of a memory array names its event and the
unit's address (R194). -/
structure Report where
  fault : FaultId
  attr : Attr := .device
  gsk : Nat := 118
  unit : Nat := 0
  event : Option EccEvent := none
  addr : Option Nat := none
  deriving DecidableEq, Repr

/-- A proof that is running: a commanded one (with its entry), or of PROOF, or of ROUSE step 7 (R594 to R596). -/
structure ProofRun where
  scope : Nat := 0
  entry : Option EntryRef := none
  since : Nat := 0
  /-- The first step whose checker failed; 0 none. -/
  fail : Nat := 0
  deriving DecidableEq, Repr

/-- An injection that awaits its checker's report (R593, R597): mechanism bit, target and entry. -/
structure Injection where
  mech : Nat := 0
  target : Nat := 0
  r : EntryRef
  since : Nat := 0
  deriving DecidableEq, Repr

/-- The running state of the safety mechanisms (chapter 18). The latched registers lie in the register file. -/
structure Safe where
  /-- Reports on VC2 that the collector has not received yet, oldest first. -/
  reports : List Report := []
  /-- The two FAULT latches at the fault level (R601); AON. -/
  latchP : Bool := true
  latchN : Bool := true
  /-- Time of the last compute report of each unit (R590), plus one; 0 never. -/
  computeAt : List (Nat × Nat) := []
  /-- Times of MEM_UE reports of enclosure 1 in DRIVE (Table 18.4). -/
  memUeAt : List Nat := []
  proof : Option ProofRun := none
  inject : Option Injection := none
  /-- Safety frames: the payload that waits for the bus with the time it fell due, whether it has been reported late, when
  the latest frame fell due, the last frame begun and when (R603: possibly a moment still to come), and frames begun
  since reset. -/
  waiting : Option (Nat × List Byte) := none
  late : Bool := false
  dueAt : Nat := 0
  lastFrame : List Byte := []
  lastBegin : Nat := 0
  sent : Nat := 0
  txOk : Bool := false
  /-- Safety frames are scheduled by the warden (R603) or by its ROM (R604). -/
  running : Bool := false
  rom : Bool := false
  /-- Frames paused after the LAST frame (R603). -/
  paused : Bool := false
  deriving DecidableEq, Repr

/-- How an operation ended (R302, R309, R310, R312). -/
structure Ending where
  status : Status := .ok
  validity : Nat := 0
  fpsum : Nat := 0
  skipped : Bool := false
  part : Bool := false
  result : Nat := 0
  /-- The entry failed a check of Table 9.2 (DURATION_US zero). -/
  unchecked : Bool := false
  deriving DecidableEq, Repr

/-- A completed entry that later WAITs may name (R303, R309). -/
structure Past where
  seq : Nat := 0
  status : Status := .ok
  validity : Nat := 0
  deriving DecidableEq, Repr

/-- A valid WAIT of an entry (R303): the queue and SEQ it names, the queue's enabling it names it under, and the completion
when that has come. -/
structure Wait where
  queue : Nat := 0
  seq : Nat := 0
  life : Nat := 0
  done : Option Past := none
  deriving DecidableEq, Repr

/-- A command entry a steward has taken and not yet completed (R295 to R304). -/
structure Entry where
  /-- SEQ, plus 2^32 for each earlier enabling of the queue that left entries in flight (R295, R323). -/
  seq : Nat := 0
  bytes : List Byte := []
  takenNs : Nat := 0
  started : Bool := false
  startNs : Nat := 0
  /-- Gathered while it runs: validity of its kernels and jobs, flags, whether output was written. -/
  validity : Nat := 0
  fpsum : Nat := 0
  wrote : Bool := false
  poisoned : Bool := false
  /-- Set when it has ended and its record is still to be written. -/
  ending : Option Ending := none
  endNs : Nat := 0
  /-- Slots the batch is bound to (R344). -/
  bound : List Nat := []
  /-- Tiles the steward has placed the operator on (R318), as a mask. -/
  tiles : Nat := 0
  /-- How the steward splits a matrix operator across them (R319): 1 along M, 2 along N, 3 along K. -/
  split : Nat := 0
  /-- Its WAITs, and whether the time from its taking counts against BUDGET_US (R303). -/
  waits : List Wait := []
  early : Bool := false
  deriving DecidableEq, Repr

/-- The steward's side of one command queue; the page's writable registers lie in the register file. -/
structure Queue where
  taken : Nat := 0
  /-- Enablings that left entries of earlier ones in flight. -/
  life : Nat := 0
  completed : Nat := 0
  stopped : Bool := false
  lastStatus : Nat := 0
  flight : List Entry := []
  past : List Past := []
  /-- Pending NOTIFY records: (completion index, time it was written). -/
  notify : List (Nat × Nat) := []
  /-- The queue may raise its interrupt (R306); CHEAD has been written since it last did. -/
  armed : Bool := true
  acked : Bool := false
  raised : Nat := 0
  deriving DecidableEq, Repr

end Sys2Proof.Machine
end

