-- ==== Sys2Proof/Machine/Types/Sec.lean ====
section
/-! DEFINITION. The records of chapters 20 and 21: fuses, the security block, the debug port and the sideband bus. -/

namespace Sys2Proof.Machine

/-- The fuse array (Table 20.1). Public keys as the numbers their 49 bytes spell, first byte most significant; 0 not
provisioned. UDS is Config.uds. [log 11 DESIGN CHOICE, unsafe] -/
structure Fuses where
  /-- LIFECYCLE: 0 TEST, 1 FIELD, 2 RETIRED. -/
  life : Nat := 0
  deviceId : Nat := 0
  keys : List Nat := [0, 0, 0, 0]
  revoked : Nat := 0
  service : Nat := 0
  /-- Number of blown ROLLBACK bits. -/
  rollback : Nat := 0
  debugSealed : Bool := false
  deriving DecidableEq, Repr

/-- A SEC request that GO has started (R623): OP and buffer. -/
structure SecReq where
  op : Nat := 0
  buf : Nat := 0
  deriving DecidableEq, Repr

/-- The security block (chapter 20). The request registers lie in the register file. -/
structure Sec where
  fuses : Fuses := {}
  /-- DIAG DEBUG_OPEN has opened debug since the reset (R640). -/
  opened : Bool := false
  /-- NONCEs of the last 16 quotes, latest first (R624), and the service nonce. -/
  quotes : List (List Byte) := []
  svcNonce : Option (List Byte) := none
  /-- PERMS of the accepted service record (R635). -/
  perms : Nat := 0
  /-- DIGEST, SECURITY_VERSION and signer of the running bundle. -/
  fwDigest : List Byte := []
  fwVersion : Nat := 0
  fwSigner : Nat := 0
  /-- Key slots whose load waits under R199; the entropy source has failed its health test (R630). -/
  loads : List Nat := []
  rngFail : Bool := false
  running : Option SecReq := none
  /-- STATUS of the last request. -/
  status : Status := .ok
  /-- The nine memory key slots (R198): 0 no key loaded, else the 512-bit key plus one; and the DRIVE keys of slots 2 to 8 while
  they stand saved in warden SRAM (R631). -/
  slots : List Nat := []
  saved : Option (List Nat) := none
  /-- The GEN each handle index had last (R627). -/
  gens : List (Nat × Nat) := []
  deriving DecidableEq, Repr

/-- The sideband interface (chapter 21). SB_CTL, SB_CNT and the W1C bits of SB_STATUS lie in the register file; MODE
lies in AON. -/
structure Sideband where
  sPtr : Nat := 0
  lPtr : Nat := 0
  /-- The snapshot of a multi-byte field: its first address (Map-L from 0x1_0000) and bytes (R649). -/
  snap : Option (Nat × List Byte) := none
  cmdStatus : Nat := 0
  cmdInfo : Nat := 0
  cmdSeq : Nat := 0
  /-- A command taken and not yet completed; the last one taken has completed. -/
  cmdOpen : Option Nat := none
  cmdDone : Bool := false
  notifyEn : Nat := 0x41
  pend : Nat := 0
  /-- MODE: Brisk. -/
  brisk : Bool := false
  win : Nat := 0
  outBox : List Byte := List.replicate 32 0
  inBox : List Byte := List.replicate 32 0
  outFull : Bool := false
  inFull : Bool := false
  /-- The service authorisation record (Map-L 0x0400). -/
  record : List Byte := List.replicate 160 0
  /-- Addresses are not acknowledged before this time (R660). -/
  busyUntil : Nat := 0
  /-- A notify sequence runs, with its failed attempts; the bytes of the last attempt. -/
  notifying : Bool := false
  fails : Nat := 0
  lastNotify : List Byte := []
  /-- The bytes the last read transfer returned. -/
  lastRead : List Byte := []
  deriving DecidableEq, Repr

end Sys2Proof.Machine
end

