-- ==== Sys2Proof/Machine/Types/Solve.lean ====
section
/-! DEFINITION. The records of chapters 14 and 15: LSE jobs, the EGO binding with its knots, and the fusion unit with its
profile, judgements, tracks and grid. -/

namespace Sys2Proof.Machine

/-- What a job of the LSE is. -/
inductive JobKind where
  | dense | ego | bundle | assign
  deriving DecidableEq, Repr

/-- A job of the LSE (R486): its entry (EGO: none runs for it), enclosure and descriptor. -/
structure Job where
  r : EntryRef
  kind : JobKind := .dense
  desc : List Byte := []
  since : Nat := 0
  deriving DecidableEq, Repr

/-- A factor record's header (Table 15.4) and payload. -/
structure FactorRec where
  type : Nat := 0
  flags : Nat := 0
  rdim : Nat := 0
  wshift : Int := 0
  vars : List Nat := []
  payload : List Byte := []
  deriving DecidableEq, Repr

/-- A datum of a Strainer ring as the assembler takes it (R490): stream, KIND of the stream, time, first 24 payload bytes. -/
structure EgoDatum where
  stream : Nat := 0
  kind : Nat := 0
  t : Nat := 0
  bytes : List Byte := []
  deriving DecidableEq, Repr

/-- A knot of the EGO window (Tables 15.8 and 15.11): T, then FP64 X, Y, YAW, body speeds VX and VY, YAWRATE, Z, ROLL, PITCH,
KSTATE (0 SOLVED, 1 SHIFTED, 2 PRIOR), and the motion block: position, attitude, velocity, gyro bias, accelerometer bias. -/
structure Knot where
  t : Nat := 0
  x : Nat := 0
  y : Nat := 0
  yaw : Nat := 0
  vx : Nat := 0
  vy : Nat := 0
  w : Nat := 0
  z : Nat := 0
  roll : Nat := 0
  pitch : Nat := 0
  ks : Nat := 2
  blk : List Nat := List.replicate 15 0
  deriving DecidableEq, Repr

/-- Where the EGO job stands in its epoch (Table 15.9). -/
inductive EgoPhase where
  | idle | polling | solving
  deriving DecidableEq, Repr

/-- The PRIOR factor (R490): whitened residual `rows` × (x − `at'`) − `y` over the window's unknowns. -/
structure Prior where
  rows : List (List Nat) := []
  y : List Nat := []
  at' : List Nat := []
  deriving DecidableEq, Repr

/-- The EGO binding (R498 to R503): descriptor, parameter block, window from the oldest knot, calibration values, reuse
count, and the epoch it solves. -/
structure Ego where
  desc : List Byte := []
  param : List Byte := []
  knots : List Knot := []
  cal : List Nat := []
  reuse : Nat := 0
  phase : EgoPhase := .idle
  epoch : Nat := 0
  /-- ESTATE of the last record, its IMU_V and IMU_W, and its epoch plus one (0 none). -/
  estate : Nat := 0
  imuV : Nat := 0x7FC00000
  imuW : Nat := 0x7FC00000
  recEpoch : Nat := 0
  /-- Factor types that entered this epoch, as the INPUTS mask, and the flags of its operations. -/
  inputs : Nat := 0
  flags : Nat := 0
  /-- The factor records of MEAS and the ring data of the window. -/
  recs : List FactorRec := []
  data : List EgoDatum := []
  /-- Prior covariance (diagonal) of the newest knot, which grows by Q × E at every shift (R502). -/
  cov : List Nat := List.replicate 15 0
  /-- The prior from the knots that have left, and A and g of the factors of the oldest knot at the last solution. -/
  prior : Option Prior := none
  sys : Option (List (List Nat) × List Nat) := none
  /-- The WSHIFT of WHEEL factors in the epoch solved, and the one set for the epoch in progress (R466, R490). -/
  wshift : Int := 0
  wnext : Int := 0
  deriving DecidableEq, Repr

/-- The LSE (§15.1). -/
structure Lse where
  ready : List Job := []
  solver : Option Job := none
  suspended : Option Job := none
  assigner : Option Job := none
  bind : Option (Job × List Byte) := none
  ego : Option Ego := none
  deriving DecidableEq, Repr

/-- A track (R467, Table 14.8). Positions in mm in the grid frame's axes from the navigation origin, `slot` under LATENT.
TSTATE: 0 TENTATIVE, 1 CONFIRMED, 2 COASTING. -/
structure Track where
  id : Nat := 0
  slot : Nat := 0
  st : Nat := 0
  flags : Nat := 0
  cls : Nat := 0
  conf : Nat := 0
  age : Nat := 0
  hits : Nat := 0
  misses : Nat := 0
  x : Int := 0
  y : Int := 0
  vx : Int := 0
  vy : Int := 0
  heading : Int := 0
  len : Nat := 0
  wid : Nat := 0
  hgt : Nat := 0
  varXX : Nat := 0
  varYY : Nat := 0
  covXY : Int := 0
  varV : Nat := 0
  sources : Nat := 0
  deriving DecidableEq, Repr

/-- The judgement of one stream (R460, R464): consecutive empty epochs, LOST, SUSPECT and its clean epochs. -/
structure Verdict where
  empty : Nat := 0
  lost : Bool := false
  suspect : Bool := false
  clean : Nat := 0
  /-- The status of R461 as last reported. -/
  status : Nat := 0
  deriving DecidableEq, Repr

/-- The judgement of one pair record (R465). -/
structure PairSt where
  bad : Nat := 0
  persist : Bool := false
  clean : Nat := 0
  deriving DecidableEq, Repr

/-- The fusion unit (chapter 14). -/
structure Fusion where
  profile : Option (List Byte) := none
  bind : Option (EntryRef × List Byte) := none
  /-- The epoch that has ended and whose frame is to be committed, and whether it is a warm-up epoch. -/
  due : Option Nat := none
  warm : Bool := false
  /-- The next epoch under the profile is a warm-up epoch (R479). -/
  warmNext : Bool := false
  restart : Bool := false
  grid : List (Nat × Nat) := []
  /-- The grid of the last committed frame, as the frame shows it. -/
  shown : List (Nat × Nat) := []
  cellU : Int := 0
  cellV : Int := 0
  verdicts : List (Nat × Verdict) := []
  pairs : List (Nat × PairSt) := []
  slipRun : Nat := 0
  slip : Bool := false
  slipClean : Nat := 0
  level : Nat := 0
  exitCnt : Nat := 0
  causes : Nat := 0
  lastEpoch : Nat := 0
  /-- Validity byte of the last committed frame; 0x13 when none since reset. -/
  validity : Nat := 0x13
  committed : Bool := false
  tracks : List Track := []
  nextId : Nat := 1
  /-- Ring data not yet used, by stream (R457). -/
  unused : List (Nat × List Nat) := []
  /-- The class mask given to the network (R468): streams whose input is masked. -/
  masked : Nat := 0
  deriving DecidableEq, Repr

end Sys2Proof.Machine
end

