-- ==== Sys2Proof/Machine/Types/Weights.lean ====
section
/-! DEFINITION. The records of chapter 10: models, slots, and a leaf load in progress. -/

namespace Sys2Proof.Machine

/-- Slot states (Table 10.1). -/
inductive SlotSt where
  | empty | loading | ready | inForce | lost
  deriving DecidableEq, Repr

/-- The codes of Table 10.9. -/
def SlotSt.code : SlotSt → Nat
  | .empty => 0 | .loading => 1 | .ready => 2 | .inForce => 3 | .lost => 4

/-- One segment of a leaf (Table 10.3), with the place R337 gives it: 0 DRAM, 1 peer tier, 2 Caddy. -/
structure Segment where
  first : Nat := 0
  units : Nat := 0
  bytes : Nat := 0
  layer : Nat := 0
  cls : Nat := 0
  dst : Nat := 0
  tier : Nat := 0
  deriving DecidableEq, Repr

/-- A load in progress (R336): its entry, locator, key handle, and how far it has come. -/
structure Load where
  encl : Nat := 0
  queue : Nat := 0
  seq : Nat := 0
  kind : Nat := 0
  tierMode : Nat := 0
  nsid : Nat := 0
  source : Nat := 0
  tierBase : Nat := 0
  tierBytes : Nat := 0
  limit : Nat := 0
  handle : Nat := 0
  /-- The header has been read, checked and placed. -/
  placed : Bool := false
  bodyUnits : Nat := 0
  unitsDone : Nat := 0
  /-- The segment, and the unit of it, that the next NVMe read fetches (R341). -/
  curSeg : Nat := 0
  curUnit : Nat := 0
  /-- Indices of segments written. -/
  done : List Nat := []
  fail : Option Status := none
  since : Nat := 0
  /-- Waits for one of the four running loads to end. -/
  waits : Bool := false
  deriving DecidableEq, Repr

/-- One slot (R325, R354): its memory in the weight window (base, bytes), staging ring, tier. -/
structure Slot where
  st : SlotSt := .empty
  base : Nat := 0
  size : Nat := 0
  ring : Nat := 0
  ringBytes : Nat := 0
  ringPos : Nat := 0
  tiered : Bool := false
  tierMode : Nat := 0
  bindings : Nat := 0
  /-- The remote lease of a PEER tier (R342): the borrowed region, 0 none. -/
  lease : Nat := 0
  segs : List Segment := []
  /-- Source and key handle, for the staging of CADDY_STREAM layers (R343). -/
  source : Nat := 0
  handle : Nat := 0
  load : Option Load := none
  deriving DecidableEq, Repr

/-- One model (R324): its owner, enclosure plus one or, for a STEEP enclosure, plus nine (0 unowned); and its in-force slot
plus one (0 none). -/
structure Model where
  owner : Nat := 0
  ptr : Nat := 0
  deriving DecidableEq, Repr

/-- A key handle of the security block (R332, R626, R627): its enclosure with the image that enclosure is of (as a model's
owner), key identifier and model key. -/
structure Handle where
  id : Nat := 0
  encl : Nat := 0
  owner : Nat := 0
  keyId : Nat := 0
  key : Nat := 0
  deriving DecidableEq, Repr

/-- A waiting EVICT (R348). -/
structure Evict where
  encl : Nat := 0
  queue : Nat := 0
  seq : Nat := 0
  slot : Nat := 0
  deriving DecidableEq, Repr

end Sys2Proof.Machine
end

