-- ==== Sys2Proof/Machine/State.lean ====
section
/-! DEFINITION. The state of the block: everything the specification gives the Y64, as plain data, with the queue of
commands that wait; the reasons a step can stop; the state right after reset. -/

namespace Sys2Proof.Machine

/-- The reasons a command stops the block. The specification gives every command an effect or a status code in
every state, so no command raises one: the type is empty. [log 4 DEDUCED, safe] -/
inductive Fault where
  deriving DecidableEq, Repr

/-- The reasons a command is not run. -/
inductive Refusal where
  /-- Raised by exec's arm of a command that has no meaning yet (safe: nothing is claimed of it). -/
  | notModelled (mnemonic : String)
  deriving DecidableEq, Repr

/-- The state of the Y64. Sparse maps (lists of numbered entries) hold the numbered units; an absent entry reads as
the unit's reset value. -/
structure State where
  /-- Commands waiting, first in, first out. -/
  pending : List Instr := []
  /-- The model's own: how many free values have been drawn. -/
  freeCtr : Nat := 0
  /-- The model's own: nanoseconds since power-on, by which durations and lease expiries are reckoned. -/
  upNs : Nat := 0
  /-- The code and the data with which the latest register request of a command completed (R149, R704). -/
  resp : Status := .ok
  respData : Nat := 0
  /-- The register file: registers whose home is no other field, by block × 0x1_0000 + offset. -/
  regs : List (Nat × Word) := []
  /-- Stored bytes by local address (Table 4.1). -/
  mem : List Host.Cell := []
  /-- Syndromes of protected units whose check value does not match, by local address of the unit (R182 to R185). -/
  synd : List (Nat × Nat) := []
  /-- The memory key, plus one, under which an encrypted DRAM granule is held, by its local address (R197). -/
  keyed : List (Nat × Nat) := []
  /-- Register writes of blocks' engines on their way: requester, key and value, oldest first (R149). -/
  regDue : List (Requester × Nat × Nat) := []
  ward : Ward := {}
  park : Park := {}
  power : Power := {}
  img : Images := {}
  gsk : List (Nat × Gasket) := []
  /-- Enclosures of the DRIVE image and of the STEEP image (R157). -/
  enclD : List (Nat × Encl) := []
  enclS : List (Nat × Encl) := []
  weave : Weave := {}
  chans : List (Nat × Chan) := []
  tileRam : List (Nat × Sram) := []
  cmnRam : List (Nat × Sram) := []
  /-- Usable DRAM bytes U once trained (R179). -/
  usable : Nat := 0
  safe : Safe := {}
  tiles : List (Nat × Tile) := []
  /-- Signals of mover channels to their holders that are stewards or tiles, not yet consumed, oldest first (R307): the
  holder's gasket, the mover and the channel. -/
  moverEvents : List (Nat × Nat × Nat) := []
  /-- Mover channels, channel c of mover m at 32 m + c. -/
  movers : List (Nat × MChan) := []
  models : List (Nat × Model) := []
  slots : List (Nat × Slot) := []
  evicts : List Evict := []
  handles : List Handle := []
  /-- Command queues, queue q of enclosure e at 16 e + q. -/
  queues : List (Nat × Queue) := []
  /-- Whose turn a steward's round robin has come to (R298): by 8 × steward + 4 × class + PRIO, the queue served last, at
  16 e + q, plus one. -/
  turns : List (Nat × Nat) := []
  /-- Queues of the DRIVE image's QM enclosures, kept through STEEP (R314). -/
  keptQueues : List (Nat × Queue) := []
  /-- KV pools by POOL_ID (R355). -/
  pools : List (Nat × Pool) := []
  /-- Attention operators between their chunks and their commit (R389, R398). -/
  attns : List Attn := []
  pcie : Pcie := {}
  caddy : Caddy := {}
  uart : Uart := {}
  /-- Stored bytes of the boot flash (R682); an unlisted byte is erased. -/
  nor : List (Nat × Byte) := []
  /-- Frames the MACs sent from their transmit rings, oldest first: MAC and frame. -/
  netSent : List (Nat × List Byte) := []
  tsu : Tsu := {}
  str : Strainer := {}
  lse : Lse := {}
  fusion : Fusion := {}
  /-- Brikel ports 0 to 7. -/
  ports : List (Nat × Brikel) := []
  loom : Loom := {}
  sec : Sec := {}
  sb : Sideband := {}
  /-- Bytes the debug access port has been answered with (R639). -/
  debugData : List Byte := []
  deriving DecidableEq, Repr

/-- The state right after power-on: the POWER_ON source is active, every register holds its reset value, nothing is
in memory and no command waits. [log 11 DESIGN CHOICE, unsafe] -/
def State.reset : State := {}

/-- The outcome of a command. -/
abbrev Out := Host.Outcome State Fault Refusal

end Sys2Proof.Machine
end

