-- ==== Sys2Proof/Machine/Ops.lean ====
section
/-! DEFINITION. The named operations every meaning is written with: the register file, memory and its error code,
free values, refusals, error capture, and which image holds in the present state. -/

namespace Sys2Proof.Machine

/-! ### Registers by name (Table 23.5) -/

namespace Reg
def sysErr : Nat := 0x000004
def sysErrLog : Nat := 0x000008
def sysSeal : Nat := 0x000010
def transCause : Nat := 0x010104
def transTime : Nat := 0x010108
def refuseCnt (c : Nat) : Nat := 0x010120 + 4 * c
def refuseLast : Nat := 0x010140
def refuseClr : Nat := 0x010144
def parkCtl : Nat := 0x010114
def imgStat : Nat := 0x010200
def imgErr : Nat := 0x010204
def leaseStat : Nat := 0x010300
def enclStat (e : Nat) : Nat := 0x010320 + 4 * e
def clkDivLo : Nat := 0x020000
def clkDivHi : Nat := 0x020004
def pwrTemp : Nat := 0x030004
def pwrTempThr : Nat := 0x030008
def pwrCap : Nat := 0x03000C
def rstCause : Nat := 0x040000
def rstSnap : Nat := 0x040004
def rstStrap : Nat := 0x040010
def rstSw : Nat := 0x040020
def gskCtl (g : Nat) : Nat := 0x050000 + 4 * g
def gskStat (g : Nat) : Nat := 0x050400 + 4 * g
def denyCnt (e : Nat) : Nat := 0x050800 + 4 * e
def denyLog0 : Nat := 0x050840
def denyLog1 : Nat := 0x050844
def denyLog2 : Nat := 0x050848
def denyClr : Nat := 0x050850
def weaveCfg : Nat := 0x080000
def weaveCredit : Nat := 0x080004
def weaveOutst : Nat := 0x080020
def cmnEccCnt (k : Nat) : Nat := 0x080100 + 8 * k
def cmnEccLog (k : Nat) : Nat := 0x080104 + 8 * k
def mcEccCnt (m : Nat) : Nat := 0x180100 + 0x10000 * m
def mcEccLog0 (m : Nat) : Nat := 0x180110 + 0x10000 * m
def mcEccLog1 (m : Nat) : Nat := 0x180114 + 0x10000 * m
def mcEccLog2 (m : Nat) : Nat := 0x180118 + 0x10000 * m
def mcEccCtl (m : Nat) : Nat := 0x180120 + 0x10000 * m
def tileProofCnt (t : Nat) : Nat := 0x400010 + 0x10000 * t
def tileProofLog (t : Nat) : Nat := 0x400014 + 0x10000 * t
def tileProofCtl (t : Nat) : Nat := 0x400018 + 0x10000 * t
def tileVuRes (t : Nat) : Nat := 0x400020 + 0x10000 * t
def tilePfStat (t : Nat) : Nat := 0x400030 + 0x10000 * t
def tileBankStat (t : Nat) : Nat := 0x400040 + 0x10000 * t
def tileFpSum (t : Nat) : Nat := 0x400050 + 0x10000 * t
def tileCntClr (t : Nat) : Nat := 0x4000F0 + 0x10000 * t
def kvCnt (i : Nat) : Nat := 0x09000C + 0x20 * i
def kvShare (i : Nat) : Nat := 0x090010 + 0x20 * i
def kvCntClr : Nat := 0x090400
def pcieCnt : Nat := 0x110008
def moverStat (m : Nat) : Nat := 0x200000 + 0x10000 * m
def moverPage (m c : Nat) : Nat := 0x201000 + 0x10000 * m + 0x40 * c
def qblk (e : Nat) : Nat := 0x380000 + 0x10000 * e
def qpage (e q : Nat) : Nat := 0x380100 + 0x10000 * e + 0x40 * q
def safeActive : Nat := 0x070004
def safeFatalId : Nat := 0x070010
def safeFatalT (i : Nat) : Nat := 0x070014 + 4 * i
def safeProofStat : Nat := 0x070020
def safeCnt : Nat := 0x070024
def safeTxcfg (i : Nat) : Nat := 0x070030 + 4 * i
def blkWake (p : Nat) : Nat := 0x30001C + 0x10000 * p
def tileEccCnt (t : Nat) : Nat := 0x400F00 + 0x10000 * t
def tileEccLog (t : Nat) : Nat := 0x400F04 + 0x10000 * t
end Reg

namespace State

/-! ### The register file -/

/-- The register at a key, as the file holds it. -/
def reg (s : State) (k : Nat) : Word := SMap.get (regReset k) s.regs k

/-- Writing the register at a key. -/
def setReg (s : State) (k : Nat) (w : Word) : State := { s with regs := SMap.set (regReset k) s.regs k w }

/-- Field [hi:lo] of a register. -/
def fld (s : State) (k hi lo : Nat) : Nat := Field.get (s.reg k) hi lo

/-- Writing field [hi:lo] of a register. -/
def setFld (s : State) (k hi lo v : Nat) : State := s.setReg k (Field.put (s.reg k) hi lo v)

/-- Adding to a saturating counter field. -/
def bumpBy (s : State) (k hi lo n : Nat) : State := s.setFld k hi lo (satAdd (hi + 1 - lo) (s.fld k hi lo) n)

/-- One event on a saturating counter field. -/
def bump (s : State) (k hi lo : Nat) : State := s.bumpBy k hi lo 1

/-! ### Free values -/

/-- Draw one free value. [log 7 DESIGN CHOICE, safe] -/
def draw (s : State) : Nat × State := (Config.free s.freeCtr, { s with freeCtr := s.freeCtr + 1 })

/-- `n` free bytes. [log 7 DESIGN CHOICE, safe] -/
def drawBytes (s : State) (n : Nat) : List Byte × State :=
  (leBytes n (Config.free s.freeCtr), { s with freeCtr := s.freeCtr + 1 })

/-! ### Memory -/

/-- What an address holds when nothing has written it: zero, as the initialisations of R102, R103, R119 and R202
leave every array. [log 9 DESIGN CHOICE, unsafe] -/
def memDefault : Byte := 0

/-- One stored byte. -/
def rd (s : State) (a : Nat) : Byte := SMap.get memDefault s.mem a

/-- Storing one byte. -/
def wr (s : State) (a : Nat) (b : Byte) : State := { s with mem := SMap.set memDefault s.mem a b }

/-- `n` stored bytes from `a`. -/
def rdBytes (s : State) (a : Nat) : Nat → List Byte
  | 0 => []
  | n + 1 => s.rd a :: s.rdBytes (a + 1) n

/-- A stored little-endian number of `n` bytes (R1). -/
def rdNat (s : State) (a n : Nat) : Nat := leNat (s.rdBytes a n)

/-- Storing bytes from `a`. -/
def wrBytes (s : State) (a : Nat) : List Byte → State
  | [] => s
  | b :: bs => (s.wr a b).wrBytes (a + 1) bs

/-- Storing a little-endian number of `n` bytes (R1). -/
def wrNat (s : State) (a n v : Nat) : State := s.wrBytes a (leBytes n v)

/-- An address range of the arrays cleared to zero with good code: its bytes, syndromes and keys go. -/
def zeroRange (s : State) (lo hi : Nat) : State :=
  { s with mem := s.mem.filter (fun c => decide (c.1 < lo ∨ hi ≤ c.1))
           synd := s.synd.filter (fun c => decide (c.1 < lo ∨ hi ≤ c.1))
           keyed := s.keyed.filter (fun c => decide (c.1 < lo ∨ hi ≤ c.1)) }

/-! ### Numbered units -/

def gasket (s : State) (g : Nat) : Gasket := SMap.get {} s.gsk g
def setGasket (s : State) (g : Nat) (x : Gasket) : State := { s with gsk := SMap.set {} s.gsk g x }
def modGasket (s : State) (g : Nat) (f : Gasket → Gasket) : State := s.setGasket g (f (s.gasket g))
def chan (s : State) (m : Nat) : Chan := SMap.get {} s.chans m
def setChan (s : State) (m : Nat) (x : Chan) : State := { s with chans := SMap.set {} s.chans m x }
def modChan (s : State) (m : Nat) (f : Chan → Chan) : State := s.setChan m (f (s.chan m))
def tram (s : State) (t : Nat) : Sram := SMap.get {} s.tileRam t
def setTram (s : State) (t : Nat) (x : Sram) : State := { s with tileRam := SMap.set {} s.tileRam t x }
def cram (s : State) (k : Nat) : Sram := SMap.get {} s.cmnRam k
def setCram (s : State) (k : Nat) (x : Sram) : State := { s with cmnRam := SMap.set {} s.cmnRam k x }

def tile (s : State) (t : Nat) : Tile := SMap.get {} s.tiles t
def setTile (s : State) (t : Nat) (x : Tile) : State := { s with tiles := SMap.set {} s.tiles t x }
def modTile (s : State) (t : Nat) (f : Tile → Tile) : State := s.setTile t (f (s.tile t))
def mchan (s : State) (m c : Nat) : MChan := SMap.get {} s.movers (32 * m + c)
def setMchan (s : State) (m c : Nat) (x : MChan) : State := { s with movers := SMap.set {} s.movers (32 * m + c) x }
def modMchan (s : State) (m c : Nat) (f : MChan → MChan) : State := s.setMchan m c (f (s.mchan m c))
def model (s : State) (m : Nat) : Model := SMap.get {} s.models m
def setModel (s : State) (m : Nat) (x : Model) : State := { s with models := SMap.set {} s.models m x }
def slot (s : State) (k : Nat) : Slot := SMap.get {} s.slots k
def setSlot (s : State) (k : Nat) (x : Slot) : State := { s with slots := SMap.set {} s.slots k x }
def handle (s : State) (id : Nat) : Option Handle := s.handles.find? (·.id = id)
def modSlot (s : State) (k : Nat) (f : Slot → Slot) : State := s.setSlot k (f (s.slot k))
def queue (s : State) (e q : Nat) : Queue := SMap.get {} s.queues (16 * e + q)
def setQueue (s : State) (e q : Nat) (x : Queue) : State := { s with queues := SMap.set {} s.queues (16 * e + q) x }
def kvPool (s : State) (i : Nat) : Pool := SMap.get {} s.pools i
def setKvPool (s : State) (i : Nat) (x : Pool) : State := { s with pools := SMap.set {} s.pools i x }

/-! ### Fault reports -/

/-- A fault report is sent to the fault collector on VC2 (R194, R587); FAULT_REPORT is its receipt.
[log 33 DESIGN CHOICE, unsafe] -/
def post (s : State) (r : Report) : State :=
  { s with safe := { s.safe with reports := s.safe.reports ++ [r] } }

/-! ### The images in force -/

/-- The DRIVE image in force. -/
def driveImg (s : State) : Option Image := if s.img.force = .none then none else s.img.drive
/-- The STEEP image in force. -/
def steepImg (s : State) : Option Image := if s.img.force = .both then s.img.steep else none

/-- The image that holds the record of enclosure `e` in the present state (R154). -/
def imgOf (s : State) (e : Nat) : Option Image :=
  match s.img.force with
  | .none => none
  | .drive => s.img.drive
  | .both => if e < 2 then s.img.drive else s.img.steep

/-- The record of enclosure `e` in force. -/
def enclRec (s : State) (e : Nat) : EnclRec := ((s.imgOf e).map (·.encl e)).getD {}
/-- Enclosure `e` is present. -/
def present (s : State) (e : Nat) : Bool := (s.enclRec e).cls ≠ 0
/-- Enclosure `e` is of class SAFETY. -/
def isSafety (s : State) (e : Nat) : Bool := (s.enclRec e).cls = 1
/-- Enclosure `e` is of class QM. -/
def isQm (s : State) (e : Nat) : Bool := (s.enclRec e).cls = 2

/-- The windows in force for enclosure `e` (R154). -/
def windowsOf (s : State) (e : Nat) : List Window := ((s.imgOf e).map (·.windowsOf e)).getD []

/-- OWNER_t in force: from the STEEP image for a tile that has been lent (Table 4.5); 0xF unassigned. -/
def tileOwner (s : State) (t : Nat) : Nat :=
  match s.img.force with
  | .none => 0xF
  | .drive => (s.img.drive.map (·.owner t)).getD 0xF
  | .both =>
    match s.img.drive with
    | none => 0xF
    | some d =>
      if bitOf d.lend t then (s.img.steep.map (·.owner t)).getD 0xF
      else if d.owner t = 1 then 1 else 0xF

/-- The PORTS item in force for a port (R68). -/
def portOf (s : State) (id : Nat) : Option Port :=
  match s.img.force with
  | .none => none
  | .drive => s.img.drive.bind (·.port id)
  | .both => (s.img.steep.bind (·.port id)).or (s.img.drive.bind (·.port id))

/-- NODE_ID in force (R139). -/
def nodeId (s : State) : Nat := match s.steepImg with
  | some m => m.nodeId
  | none => 0

/-- LEASE_MS of the image that holds the enclosure's record (R163). [log 51 DESIGN CHOICE, unsafe] -/
def leaseNs (s : State) (e : Nat) : Nat := ((s.imgOf e).map (·.leaseMs)).getD 0 * 1000000

/-- EPOCH_MS of the DRIVE image in force, in ns. -/
def epochNs (s : State) : Nat := ((s.driveImg).map (·.epochMs)).getD 50 * 1000000

/-- The enclosures of the image that serves the present state. -/
def enclSt (s : State) (e : Nat) : Encl :=
  if s.img.force = .both ∧ 2 ≤ e then SMap.get {} s.enclS e else SMap.get {} s.enclD e
def setEncl (s : State) (e : Nat) (x : Encl) : State :=
  if s.img.force = .both ∧ 2 ≤ e then { s with enclS := SMap.set {} s.enclS e x }
  else { s with enclD := SMap.set {} s.enclD e x }

/-- What a model records of its owner: enclosure `e` of the DRIVE image, or of the STEEP image in force (Table 10.7).
[log 91 DESIGN CHOICE, unsafe] -/
def ownerTag (s : State) (e : Nat) : Nat := if s.img.force = .both ∧ 2 ≤ e then e + 9 else e + 1

/-- A model whose slots may be used in the present state (Table 10.7): those of the DRIVE image's enclosures not in
STEEP. -/
def ownerUsable (s : State) (owner : Nat) : Bool := if s.img.force = .both then decide (9 ≤ owner) else true

/-! ### Messages to the host (R677) -/

/-- Byte `i` of the MSI-X table; an entry is masked until it is written (Vector Control bit 0 set).
[log 141 PRESUMED, unsafe] -/
def msixByte (s : State) (i : Nat) : Byte := SMap.get (if i % 16 = 12 then 1 else 0) s.pcie.table i

/-- The vector is masked in the table. -/
def msixMasked (s : State) (v : Nat) : Bool := (s.msixByte (16 * v + 12)).toNat % 2 = 1

/-- The port is in the ROOT role: the DRIVE image in force sets it. -/
def pcieRoot (s : State) : Bool := ((s.portOf 0).map (·.role)) == some 2

/-- An interrupt of the device (R677): sent, held pending, or dropped in the ROOT role. -/
def raise (s : State) (v : Nat) : State :=
  if s.pcieRoot then s.bump Reg.pcieCnt 31 24
  else if s.pcie.busMaster && s.pcie.msixOn && !s.msixMasked (v % 256) then
    { s with pcie := { s.pcie with sent := s.pcie.sent ++ [v % 256] } }
  else if s.pcie.pend.contains (v % 256) then s
  else { s with pcie := { s.pcie with pend := s.pcie.pend ++ [v % 256] } }

/-- The code and the data of a register request's response. [log 5 DESIGN CHOICE, safe] -/
def respond (s : State) (st : Status) (data : Nat) : State := { s with resp := st, respData := data }

/-! ### States and refusals -/

/-- Register space answers (R700): the device is not in OFF, STANDBY, Cozy sleep or reset. -/
def answers (s : State) : Bool :=
  !(s.ward.st == .off) && !(s.ward.st == .standby) && !s.ward.cozy && !(s.power.phase == .held)

/-- Table 1.3: the state accepts commands of the class. -/
def accepts (st : DevState) (c : CmdClass) : Bool :=
  match st, c with
  | .drive, .cfg => true | .drive, .run => true | .drive, .wgt => true | .drive, .safe => true
  | .steep, .cfg => true | .steep, .run => true | .steep, .wgt => true | .steep, .kv => true
  | .steep, .loom => true | .steep, .safe => true
  | .service, .cfg => true | .service, .run => true | .service, .wgt => true | .service, .kv => true
  | .service, .safe => true | .service, .svc => true
  | _, _ => false

/-- A refusal (R23, R49): counted for its class and recorded. [log 18 DESIGN CHOICE, unsafe] -/
def refuse (s : State) (c : CmdClass) (src : ReqSource) (g : Guard) (encl : Nat) : State :=
  (s.bump (Reg.refuseCnt c.index) 15 0).setReg Reg.refuseLast
    (BitVec.ofNat 32 (s.ward.st.code + c.index * 16 + b2n (src == .sideband) * 128 + g.code * 256
      + (encl % 8) * 4096))

/-- SYS_ERR bit `kind` - 1 set, and SYS_ERR_LOG captured when it holds nothing (R708, R709). Kinds: 1 LOCKED_WRITE,
2 BAD_ACCESS, 3 STATE_WRITE. -/
def sysErr (s : State) (kind key tag : Nat) : State :=
  let s1 := s.setFld Reg.sysErr (kind - 1) (kind - 1) 1
  if s.fld Reg.sysErrLog 31 31 = 1 then s1
  else s1.setReg Reg.sysErrLog
    (BitVec.ofNat 32 (key % 0x10000 + (key / 0x10000 % 256) * 0x10000 + (tag % 8) * 0x1000000
      + kind * 0x8000000 + 0x80000000))

/-- The image seal (R703). -/
def sealSet (s : State) : Bool := s.fld Reg.sysSeal 0 0 = 1

/-- R4: RWL fields accept writes. -/
def rwlOpen (s : State) : Bool :=
  ((s.ward.st == .boot || s.ward.st == .proof) && !s.sealSet) || s.ward.st == .service

/-- A write of one to an action field of register `k` (W1S or WO) by enclosure 0: performed when the state set of the
register's header admits it, else STATE_WRITE (R702); no effect where register space does not answer (R700). -/
def action (s : State) (k : Nat) (w : WSet) (f : State → State) : State :=
  if !s.answers then s
  else if w.has s.ward.st then f s
  else s.sysErr 3 k 0

/-- An event of Host Notify (R661): its bit becomes pending; an enabled one starts a sequence, or joins the one that runs.
[log 140 DEDUCED, unsafe] -/
def sbEvent (s : State) (i : Nat) : State :=
  let b := s.sb
  let go := bitOf b.notifyEn i && !b.notifying && s.fld Reg.rstStrap 12 12 = 0
  { s with sb := { b with pend := b.pend ||| 2 ^ i, notifying := b.notifying || go, fails := if go then 0 else b.fails } }

/-- The sideband interface is busy for at most `ns` from now (Table 21.5). [log 27 DESIGN CHOICE, safe] -/
def sbBusy (s : State) (ns : Nat) : State :=
  { s with sb := { s.sb with busyUntil := max s.sb.busyUntil (s.upNs + ns) } }

/-- The last transition took place in the present cycle: no time has passed since (R19, R44).
[log 15 DESIGN CHOICE, unsafe] -/
def sameCycle (s : State) : Bool := decide (s.ward.transAt = s.upNs + 1)

/-- Causes of triggers that the present cycle has already brought (R19, R44): those of requests that lost, and those of a
transition of this cycle. [log 15 DESIGN CHOICE, unsafe] -/
def cycleCauses (s : State) : Nat := s.ward.also ||| (if s.sameCycle then s.fld Reg.transCause 11 0 else 0)

/-- A transition of the device (R16, R44): the causes detected in its cycle overwrite WARD_TRANS_CAUSE, the state left
stands in PREV, stepped work ends; outside STEEP no power cap acts (R104). -/
def goto (s : State) (st : DevState) (causes : Nat) : State :=
  { s with ward := { s.ward with st := st, prev := s.ward.st, phase := .none, also := 0, transAt := s.upNs + 1 }
           power := { s.power with capThrottled := false } }
    |>.setReg Reg.transCause (BitVec.ofNat 32 (causes ||| s.cycleCauses)) |>.sbEvent 0 |>.sbBusy 2000000

/-- A trigger that no transition follows is recorded: in the cycle of the last transition with its own bit (R19, R44), later
in ROUSE with its bit and ABSORBED (R20). -/
def absorb (s : State) (causes : Nat) : State :=
  s.setReg Reg.transCause (BitVec.ofNat 32 ((s.reg Reg.transCause).toNat ||| causes ||| (if s.sameCycle then 0 else 0x1000)))

end State

/-- Bits of WARD_TRANS_CAUSE (Table 1.11). -/
def causeBit : Nat → Nat := fun i => 2 ^ i

/-! ### Address map (Table 4.1) -/

/-- What an address of this device names. -/
inductive Place where
  | dram (m : Nat)          -- below U, in channel m (R136)
  | commons (k : Nat)
  | tsram (t : Nat)
  | regs (b : Nat)
  | pcieOut
  | caddyOut
  | secPrivate
  | unmapped
  deriving DecidableEq, Repr

/-- The channel of a DRAM address (R136). -/
def dramChannel (a : Nat) : Nat := bitsOf a 10 8 ^^^ bitsOf a 19 17

/-- The place of a local address (R135). -/
def placeOf (usable a : Nat) : Place :=
  if a < 0x1000000000 then (if a < usable then .dram (dramChannel a) else .unmapped)
  else if a < 0x1002000000 then .commons ((a - 0x1000000000) / 0x400000)
  else if a < 0x1100000000 then .unmapped
  else if a < 0x1140000000 then
    (if (a - 0x1100000000) % 0x1000000 < 0x200000 then .tsram ((a - 0x1100000000) / 0x1000000) else .unmapped)
  else if a < 0x1200000000 then .unmapped
  else if a < 0x1201000000 then .regs ((a - 0x1200000000) / 0x10000)
  else if a < 0x1300000000 then .unmapped
  else if a < 0x1380000000 then .pcieOut
  else if a < 0x1400000000 then .caddyOut
  else if a < 0x1401000000 then .secPrivate
  else .unmapped

/-- The register block's gasket (Table 23.1). -/
def blockGasket (b : Nat) : Nat :=
  if b = 0x06 then 117 else if b = 0x0B ∨ b = 0x0C then 102 else if b = 0x0D then 101 else if b = 0x0E then 100
  else if b = 0x0F ∨ b = 0x10 then 116 else if b = 0x11 then 111
  else if 0x18 ≤ b ∧ b < 0x20 then 72 + (b - 0x18)
  else if 0x20 ≤ b ∧ b < 0x30 then 80 + (b - 0x20)
  else if 0x30 ≤ b ∧ b < 0x38 then 103 + (b - 0x30)
  else if 0x40 ≤ b ∧ b < 0x80 then b - 0x40 else 118

/-- The gasket of a place's block (Table 3.11). -/
def Place.gasket : Place → Nat
  | .dram m => 72 + m
  | .commons k => 64 + k
  | .tsram t => t
  | .regs b => blockGasket b
  | .pcieOut => 111
  | .caddyOut => 112
  | .secPrivate => 117
  | .unmapped => 127

/-- The first address of tile t's TSRAM, and of commons slice k. -/
def tileBase (t : Nat) : Nat := 0x1100000000 + t * 0x1000000
def commonsBase (k : Nat) : Nat := 0x1000000000 + k * 0x400000

end Sys2Proof.Machine
end

