-- ==== Sys2Proof/Machine/RegStore.lean ====
section
/-! DEFINITION. A register write field by field (R2 to R5, R701, R702, R731): which fields it acts on, which of them
the present state and the image seal admit, and what is stored. -/

namespace Sys2Proof.Machine

/-- R731: the write of `v` acts on the field, whose stored value is `old`. -/
def Fld.acts (f : Fld) (old v : Nat) : Bool :=
  match f.acc with
  | .rw => v ≠ old
  | .rwl => v ≠ old
  | .w1c => v ≠ 0
  | .w1s => v ≠ 0
  | .wo => match f.key with
    | some k => v = k
    | none => v ≠ 0
  | .ro => false

/-- The value lies in the range the register's description gives (a value outside has no effect). -/
def Fld.inRange (f : Fld) (v : Nat) : Bool := decide (f.min ≤ v) && decide (v ≤ f.max)

namespace State

/-- The field's own rule admits the write now (R4, R701, R702); `free`: the writer is not subject to state sets.
[log 86 DEDUCED, unsafe] -/
def admitsField (s : State) (r : RegRow) (f : Fld) (free : Bool) : Bool :=
  match f.acc with
  | .rwl => s.rwlOpen
  | .ro => false
  | _ => free || (f.own.getD r.wset).has s.ward.st

/-- What a write leaves of one field: its stored bits, given that it is admitted. W1S and WO fields store nothing.
[log 86 DEDUCED, unsafe] -/
def storeField (w : Word) (f : Fld) (v : Nat) : Word :=
  match f.acc with
  | .rw => if f.inRange v then Field.put w f.hi f.lo v else w
  | .rwl => if f.inRange v then Field.put w f.hi f.lo v else w
  | .w1c => Field.put w f.hi f.lo (Field.get w f.hi f.lo - (Field.get w f.hi f.lo &&& v))
  | _ => w

/-- The outcome of a write to one register: the word stored, the W1S and WO bits that act, and which of LOCKED_WRITE
and STATE_WRITE it raises. -/
def judgeWrite (s : State) (r : RegRow) (old v : Word) (free : Bool := false) : Word × Nat × Bool × Bool :=
  r.flds.foldl (fun (acc : Word × Nat × Bool × Bool) f =>
    let o := Field.get old f.hi f.lo
    let n := Field.get v f.hi f.lo
    if !f.acts o n then acc
    else if s.admitsField r f free then
      (storeField acc.1 f n,
       (if f.acc == .w1s || f.acc == .wo then acc.2.1 ||| (n <<< f.lo) else acc.2.1), acc.2.2.1, acc.2.2.2)
    else if f.acc == .ro then acc
    else if f.acc == .rwl then (acc.1, acc.2.1, true, acc.2.2.2)
    else (acc.1, acc.2.1, acc.2.2.1, true)) (old, 0, false, false)

/-- A register write by a requester with the tag: stored fields, SYS_ERR bits (R708), and the action bits that act.
Offsets no description names take nothing (R697). `free`: the warden or the security block writes (R702). -/
def regStore (s : State) (k : Nat) (v : Word) (tag : Nat) (free : Bool := false) : State × Nat :=
  match regRow k with
  | none => (s, 0)
  | some r =>
    let (w, act, locked, refused) := s.judgeWrite r (s.reg k) v free
    let s1 := s.setReg k w
    let s2 := if locked then s1.sysErr 1 k tag else s1
    let s3 := if refused then s2.sysErr 3 k tag else s2
    (s3, act)

end State
end Sys2Proof.Machine
end

