-- ==== Sys2Proof/Machine/Sight.lean ====
section
/-! DEFINITION. What the state shows without being changed: the looks that a register read takes at the units whose
fields are registers too, and the graph of the loom that LOOM_ROUTE reads. -/

namespace Sys2Proof.Machine

namespace Entry
/-- CLASS, OP, FLAGS, TAG, BUDGET_US and ARGS (Table 9.1). -/
def cls (x : Entry) : Nat := fieldAt x.bytes 0 1
def op (x : Entry) : Nat := fieldAt x.bytes 1 1
def flags (x : Entry) : Nat := fieldAt x.bytes 2 2
def tag (x : Entry) : Nat := fieldAt x.bytes 4 4
def waitWord (x : Entry) (i : Nat) : Nat := fieldAt x.bytes (8 + 8 * i) 8
def budgetUs (x : Entry) : Nat := fieldAt x.bytes 0x18 4
/-- `n` bytes of ARGS from `off`, as a number. -/
def arg (x : Entry) (off n : Nat) : Nat := fieldAt x.bytes (0x20 + off) n
/-- FLAGS bits NOTIFY, FENCE, RUN_ON_FAIL and RESULT_HDR. -/
def notify (x : Entry) : Bool := bitOf x.flags 0
def fence (x : Entry) : Bool := bitOf x.flags 1
def runOnFail (x : Entry) : Bool := bitOf x.flags 2
def resultHdr (x : Entry) : Bool := bitOf x.flags 3
/-- The class of a CLASS byte. -/
def cmdClass (x : Entry) : Option CmdClass :=
  match x.cls with
  | 0 => some .cfg | 1 => some .run | 2 => some .wgt | 3 => some .kv | 4 => some .loom | 5 => some .safe
  | 6 => some .svc | _ => none
/-- A RUN entry that the steward carries out by kernels on tiles it places it on (R316, R318): the matrix, vector and data
movement families and the graphs. [log 68 PRESUMED, unsafe] -/
def byKernels (x : Entry) : Bool := x.cls == 1 && (decide (x.op < 0x20) || x.op / 16 == 3 || x.op / 16 == 7)
/-- The valid WAITs of an entry: (queue, SEQ). -/
def waitWords (x : Entry) : List (Nat × Nat) :=
  [0, 1].filterMap fun i =>
    let w := x.waitWord i
    if bitOf w 63 then some (bitsOf w 35 32, w % 2 ^ 32) else none
end Entry

/-- One direction of a link: from `u` out of its port `p` to `v`. -/
structure Edge where
  u : Nat
  p : Nat
  v : Nat
  deriving DecidableEq, Repr

/-- Both directions of a list of links. -/
def edgesOf (l : List LinkRec) : List Edge :=
  l.flatMap fun (x : LinkRec) => [{ u := x.a, p := x.ap, v := x.b : Edge }, { u := x.b, p := x.bp, v := x.a : Edge }]

/-- The nodes reached from `seen` in at most `n` rounds. -/
def grow (es : List Edge) : Nat → List Nat → List Nat
  | 0, seen => seen
  | n + 1, seen =>
    let new := (es.filter fun e => seen.contains e.u && !seen.contains e.v).map (·.v)
    grow es n (seen ++ new.eraseDups)

/-- The Brikel group of a node (R548). -/
def groupOf (es : List Edge) (n : Nat) : List Nat := grow es 16 [n]

/-- The lowest of a list of nodes. -/
def lowest (l : List Nat) : Option Nat := l.foldl (fun m x => some (match m with | none => x | some y => min x y)) none

/-- The round in which breadth-first search from the root reaches a node: its level below the root.
[log 122 DESIGN CHOICE, unsafe] -/
def levelOf (es : List Edge) (root n : Nat) : Nat := ((List.range 17).find? fun k => (grow es k [root]).contains n).getD 17

/-- The link from `u` to `v` leads up: towards the root, or between equals towards the lower NODE_ID.
[log 122 DESIGN CHOICE, unsafe] -/
def isUp (es : List Edge) (root u v : Nat) : Bool :=
  let a := levelOf es root u
  let b := levelOf es root v
  decide (b < a) || (decide (a = b) && decide (v < u))

/-- An up*/down* path of at most `n` links leads from `u` to `t`; `down` after a down link. -/
def reaches (es : List Edge) (root t : Nat) : Nat → Bool → Nat → Bool
  | 0, _, u => u == t
  | n + 1, down, u => u == t || es.any fun e =>
      e.u == u && (let up := isUp es root u e.v; (!down || !up) && reaches es root t n (down || !up) e.v)

/-- The port of the first link of the shortest up*/down* path of at most four links (R551), the lowest port among equals. -/
def firstPort (es : List Edge) (root u t : Nat) : Option Nat :=
  (List.range 4).findSome? fun k =>
    (List.range 8).find? fun p => es.any fun e =>
      e.u == u && e.p == p && reaches es root t k (!isUp es root u e.v) e.v

/-- Where packets for a node go (R551): a Brikel port, the tunnel to a peer, or nowhere. -/
inductive Route where
  | port (p : Nat)
  | tunnel (peer : Nat)
  | none
  deriving DecidableEq, Repr

namespace Brikel

/-- USABLE of this side: the logical lanes on which sets have been received and that are not left out (Table 16.3,
R527). -/
def usable (b : Brikel) : Nat :=
  ((List.range 4).filter (fun l => !bitOf b.leftOut l && b.lanes.any (fun e => e.1 = l))).foldl
    (fun m l => m ||| 2 ^ (SMap.get 1 b.lanes l - 1)) 0

/-- R525: width and active logical lanes for the lanes usable on both sides; width 0 when there are none. -/
def widthOf (both : Nat) : Nat × Nat :=
  if both % 16 = 15 then (4, 15)
  else if both % 4 = 3 then (2, 3)
  else if both / 4 % 4 = 3 then (2, 12)
  else match (List.range 4).find? (bitOf both) with
    | some l => (1, 2 ^ l)
    | none => (0, 0)

/-- Logical lanes in use once the partner's USABLE is known. -/
def active (b : Brikel) : Nat × Nat := widthOf (b.usable &&& b.peerUsable)

/-- Physical lanes active (BLK_STAT_p.LANES). -/
def physical (b : Brikel) : Nat :=
  (List.range 4).foldl (fun m l =>
    if !bitOf b.leftOut l && b.lanes.any (fun e => e.1 = l) && bitOf b.active.2 (SMap.get 1 b.lanes l - 1) then m + 2 ^ l
    else m) 0

end Brikel

/-- The method of a fusion profile (Table 14.1). -/
def Prof.method (p : List Byte) : Nat := fieldAt p 0 1

/-- Fills whose requests the prefetch engine issues: the front of its 16 entries, up to the first of a layer whose buffer has not
been released (R234, R235). -/
def issuedFills (x : Tile) : List Fill := (x.fills.take 16).takeWhile fun f => decide (f.layer ≤ x.layer + 1)

/-- The requests those fills hold of the tile's 64: at most 48 (R234). -/
def fillReqs (x : Tile) : Nat := min 48 ((issuedFills x).map fun f => (f.len + 255) / 256).sum

namespace State

/-- An IMAGE_LOAD has started and not ended (R84, R90): LOAD reads 1 until the command that carries the bytes, checks and
applies the image. [log 42 DESIGN CHOICE, unsafe] -/
def imageLoading (s : State) : Bool :=
  s.queues.any fun (q : Nat × Queue) => q.2.flight.any fun y => y.cls = 0 && y.op = 0x10 && y.started && y.ending.isNone

/-- An active fault is latched (§1.2). -/
def anyActive (s : State) : Bool := s.park.fault || decide ((s.reg Reg.safeActive).toNat ≠ 0)

/-- Effective PARK (R38). -/
def parked (s : State) : Bool := !s.park.fault && s.park.agreed

/-- The debug port's state: 0 CLOSED, 1 OPEN, 2 SEALED. -/
def debugState (s : State) : Nat :=
  if s.sec.fuses.life ≠ 1 ∨ s.sec.opened then 1 else if s.sec.fuses.debugSealed then 2 else 0

/-- SLOT_PROV: provisioned signer slots. -/
def slotProv (s : State) : Nat := (List.range 4).foldl (fun n i => n + b2n (s.sec.fuses.keys.getD i 0 ≠ 0) * 2 ^ i) 0

/-- SEC_STAT (Table 20.13). -/
def secStat (s : State) : Nat :=
  let f := s.sec.fuses
  f.life % 4 + s.debugState * 4 + s.slotProv * 0x10 + f.revoked % 16 * 0x100 + f.service % 16 * 0x1000
    + f.rollback % 128 * 0x10000

def bport (s : State) (p : Nat) : Brikel := SMap.get {} s.ports p

/-- The port carries the role LOOM in the STEEP image in force (R516). -/
def isLoomPort (s : State) (p : Nat) : Bool :=
  ((s.steepImg.bind (·.port (0x40 + p))).map (·.role)) == some 1

/-- The member record of a node in the present view. -/
def memberRec (s : State) (n : Nat) : Option MemberRec := s.loom.view.members.find? (·.node = n)

/-- Node n is in the present view. -/
def inView (s : State) (n : Nat) : Bool := (s.memberRec n).isSome

/-- A port that carries loom packets: ACTIVE, HELLO taken, not barred (R552). -/
def portCarries (s : State) (p : Nat) : Bool :=
  let b := s.bport p
  b.st == .active && b.hello && !b.barred

/-- The links this device has now. -/
def ownLinks (s : State) : List LinkRec :=
  ((List.range 8).filter s.portCarries).map fun p => { a := s.nodeId, ap := p, b := (s.bport p).peerNode, bp := (s.bport p).peerPort }

/-- The links of the view, with this device's own as they are now. -/
def linkEdges (s : State) : List Edge :=
  edgesOf (s.loom.view.links.filter (fun l => l.a ≠ s.nodeId ∧ l.b ≠ s.nodeId) ++ s.ownLinks)

/-- The own TUNNEL (R551). -/
def ownTunnel (s : State) : Bool := decide ((s.steepImg.map (·.tunnel)).getD 0 = 1)

/-- The lowest-NODE_ID member of a group whose TUNNEL is 1. -/
def gatewayOf (s : State) (g : List Nat) : Option Nat :=
  lowest (g.filter fun n => ((s.memberRec n).map (·.tunnel)).getD false)

/-- The route to a node (R551). [log 122 DESIGN CHOICE, unsafe] -/
def routeTo (s : State) (n : Nat) : Route :=
  let es := s.linkEdges
  let mine := groupOf es s.nodeId
  let root := (lowest mine).getD s.nodeId
  let beyond (t : Nat) : Route := match firstPort es root s.nodeId t with
    | some p => .port p
    | none => .none
  if !s.inView n then .none
  else if mine.contains n then beyond n
  else if s.ownTunnel then
    (if ((s.memberRec n).map (·.tunnel)).getD false then .tunnel n
     else match s.gatewayOf (groupOf es n) with
      | some g => .tunnel g
      | none => .none)
  else match s.gatewayOf mine with
    | some g => beyond g
    | none => .none

/-- Requests that have been sent and await a response. -/
def liveReqs (s : State) : List LReq := s.loom.outst.filter (·.held.isNone)

/-- Tracker entries in use at a port (R537). -/
def trackerUse (s : State) (via : Nat) : Nat := (s.liveReqs.filter (·.via = via)).length

/-- A step of the TSU is permitted (Table 13.9). -/
def stepOk (s : State) : Bool :=
  match s.ward.st with
  | .boot => true
  | .proof => s.ward.phase == .selfProof
  | .settle => !(s.ward.phase == .waitEpoch)
  | .steep => true
  | .rouse => !(s.ward.phase == .warmUp)
  | .service => true
  | _ => false

def stream (s : State) (k : Nat) : Stream := SMap.get {} s.str.streams k

/-- The epoch in progress is one that fusion and the EGO job work on: in DRIVE, in the warm-up epoch of ROUSE (R479), and the
last one of DRIVE that SETTLE step 2 completes. -/
def epochLives (s : State) : Bool :=
  s.ward.st == .drive || (s.ward.st == .rouse && s.ward.phase == .warmUp)
    || (s.ward.st == .settle && s.ward.phase == .waitEpoch)

/-- Fusion runs (R479). -/
def fuseRuns (s : State) : Bool := s.fusion.profile.isSome && s.epochLives

/-- MOVER_CH_LEASE as read (Table 7.7). -/
def leaseWord (l : Lease) : Nat :=
  b2n l.held + 2 * b2n l.broken + 4 * b2n l.seized + (l.encl % 8) * 8 + (l.gsk % 128) * 0x40 + (l.gen % 2 ^ 16) * 2 ^ 16

/-- Outstanding weave requests of one channel of a mover (R256). -/
def chanOutst (s : State) (m c : Nat) : Nat := (s.weave.outst.filter fun q => q.src = 80 + m && q.chan = c + 1).length

/-- Outstanding weave requests of a mover. -/
def moverOutst (s : State) (m : Nat) : Nat := (s.weave.outst.filter (·.src = 80 + m)).length

def qCfg (e q : Nat) : Nat := Reg.qpage e q + 0x10

/-- ENABLE. -/
def qOn (s : State) (e q : Nat) : Bool := s.fld (qCfg e q) 31 31 = 1

/-- The model a slot belongs to is owned by the enclosure. -/
def slotOwner (s : State) (k : Nat) : Nat := (s.model (k / 2)).owner

end State
end Sys2Proof.Machine
end

