-- ==== Sys2Proof/Machine/LoomSend.lean ====
section
/-! DEFINITION. How a loom packet leaves (§17.2, §17.3): the loom header, the transmit side of a link, tunnel sessions, and the
link a route leads over. -/

namespace Sys2Proof.Machine

/-- The fields of the loom header. -/
structure LHdr where
  dst : Nat := 0
  src : Nat := 0
  opc : Nat := 0
  encl : Nat := 0
  hops : Nat := 0
  tid : Nat := 0
  status : Nat := 0
  size : Nat := 0
  addr : Nat := 0
  deriving DecidableEq, Repr

/-- The 16 bytes of a header. -/
def LHdr.bytes (h : LHdr) : List Byte :=
  leBytes 4 (h.dst % 1024 + (h.src % 1024) * 2 ^ 10 + (h.opc % 64) * 2 ^ 20 + (h.encl % 8) * 2 ^ 26 + (h.hops % 8) * 2 ^ 29)
    ++ leBytes 4 (h.tid % 2 ^ 16 + (h.status % 256) * 2 ^ 16 + (h.size % 256) * 2 ^ 24) ++ leBytes 8 (h.addr % 2 ^ 64)

/-- The header a packet body begins with. -/
def LHdr.read (b : List Byte) : LHdr :=
  let w0 := fieldAt b 0 4
  let w1 := fieldAt b 4 4
  { dst := bitsOf w0 9 0, src := bitsOf w0 19 10, opc := bitsOf w0 25 20, encl := bitsOf w0 28 26, hops := bitsOf w0 31 29,
    tid := bitsOf w1 15 0, status := bitsOf w1 23 16, size := bitsOf w1 31 24, addr := fieldAt b 8 8 }

/-- Opcodes of Table 17.3. -/
def opcRead : Nat := 0x01
def opcWrite : Nat := 0x02
def opcAtomic : Nat := 0x03
def opcMsg : Nat := 0x04
def opcRlease : Nat := 0x05
def opcRdata : Nat := 0x20
def opcRstat : Nat := 0x21

/-- A packet: header and data, padded to whole dwords. -/
def lpkt (lvc : Nat) (h : LHdr) (data : List Byte) : Pkt :=
  let d := data ++ List.replicate (roundUp data.length 4 - data.length) 0
  { lvc := lvc, body := h.bytes ++ d }

namespace LinkLayer

def txOf (x : LinkLayer) (l : Nat) : LvcTx := x.tx.getD l {}
def rxOf (x : LinkLayer) (l : Nat) : LvcRx := x.rx.getD l {}
def setTx (x : LinkLayer) (l : Nat) (y : LvcTx) : LinkLayer := { x with tx := x.tx.set l y }
def setRx (x : LinkLayer) (l : Nat) (y : LvcRx) : LinkLayer := { x with rx := x.rx.set l y }

/-- A link layer with receive buffers of the given sizes (Table 16.7, R556) and state reset (R526). -/
def fresh (q p m : Nat) : LinkLayer :=
  { tx := [{ limit := q }, { limit := p }, { limit := m }],
    rx := [{ cap := q, told := q }, { cap := p, told := p }, { cap := m, told := m }] }

/-- A packet is given to the transmitter. -/
def push (x : LinkLayer) (p : Pkt) : LinkLayer :=
  let t := x.txOf p.lvc
  x.setTx p.lvc { t with q := t.q ++ [p] }

end LinkLayer

namespace State

def setBport (s : State) (p : Nat) (x : Brikel) : State := { s with ports := SMap.set {} s.ports p x }
def modBport (s : State) (p : Nat) (f : Brikel → Brikel) : State := s.setBport p (f (s.bport p))

def session (s : State) (k : Nat) : Option Session := (s.loom.sessions.find? (·.1 = k)).map (·.2)
def setSession (s : State) (k : Nat) (x : Session) : State :=
  { s with loom := { s.loom with sessions := s.loom.sessions.map fun e => if e.1 = k then (k, x) else e } }
def dropSession (s : State) (k : Nat) : State :=
  { s with loom := { s.loom with sessions := s.loom.sessions.filter (·.1 ≠ k) } }

/-- The link layer of a port (0 to 7) or of tunnel session `via` - 16. -/
def linkOf (s : State) (via : Nat) : Option LinkLayer :=
  if via < 8 then some (s.bport via).link else (s.session (via - 16)).map (·.link)

def setLink (s : State) (via : Nat) (x : LinkLayer) : State :=
  if via < 8 then s.modBport via fun b => { b with link := x }
  else match s.session (via - 16) with
    | some y => s.setSession (via - 16) { y with link := x }
    | none => s

/-- A packet is given to a link for transmission. -/
def sendPkt (s : State) (via : Nat) (p : Pkt) : State :=
  match s.linkOf via with
  | none => s
  | some x =>
    let t := s.setLink via (x.push p)
    if via < 8 then t.modBport via fun b => { b with sentAt := t.upNs }
    else match t.session (via - 16) with
      | some y => t.setSession (via - 16) { y with packetAt := t.upNs }
      | none => t

/-- The session with a peer. [log 122 DESIGN CHOICE, unsafe] -/
def sessionWith (s : State) (peer : Nat) : Option Nat := (s.loom.sessions.find? (fun e => e.2.peer = peer)).map (·.1)

/-- Opening a session: the lowest free of 64, with a new SESSION_GEN. -/
def openSession (s : State) (peer : Nat) : Option (Nat × State) :=
  match s.sessionWith peer with
  | some k => some (k, s)
  | none => match (List.range 64).find? (fun k => (s.session k).isNone) with
    | none => none
    | some k =>
      let x : Session := { peer := peer, gen := (s.loom.gens + 1) % 2 ^ 32, link := .fresh 64 64 8, packetAt := s.upNs }
      some (k, { s with loom := { s.loom with gens := (s.loom.gens + 1) % 2 ^ 32, sessions := s.loom.sessions ++ [(k, x)] } })

/-- The link a route leads over: a port, or 16 + a session, opened at its first packet; none while 64 are open. -/
def viaOf (s : State) : Route → Option (Nat × State)
  | .port p => some (p, s)
  | .tunnel n => (s.openSession n).map fun x => (16 + x.1, x.2)
  | .none => none

end State
end Sys2Proof.Machine
end

