-- ==== Sys2Proof/Machine/Mem.lean ====
section
/-! DEFINITION. The protected arrays (chapter 5): columns and syndromes, decoding, what a read, a write, a partial
write and an atomic do to a unit in each state, poison lists, logs, counts and reports. -/

namespace Sys2Proof.Machine

/-! ### Codes (R182, R183) -/

/-- The `w`-bit values of weight 3 in ascending order. -/
def weight3 (w : Nat) : List Nat :=
  (List.range w).flatMap fun a => (List.range a).flatMap fun b => (List.range b).map fun c => 2 ^ a + 2 ^ b + 2 ^ c

/-- Columns of the 64 data bits of an SRAM word (R182). -/
def sramColumns : List Nat := weight3 8 ++ [0x1F, 0x2F, 0x37, 0x3B, 0x3D, 0x3E, 0x4F, 0x57]

/-- Columns of the 256 data bits of a DRAM granule (R183). -/
def dramColumns : List Nat := (weight3 16).take 256

/-- The column of fold bit `k` (R183). -/
def foldColumn (k : Nat) : Nat := (1 <<< k) ||| (1 <<< (k + 1))

/-- What one array's code is made of: unit bytes, check bits, columns, poison pattern. -/
structure Code where
  bytes : Nat
  checks : Nat
  columns : List Nat
  poison : Nat

/-- The code of the SRAM arrays. -/
def sramCode : Code := { bytes := 8, checks := 8, columns := sramColumns, poison := 0xFF }
/-- The code of DRAM. -/
def dramCode : Code := { bytes := 32, checks := 16, columns := dramColumns, poison := 0xFFFF }

/-- The stored bit whose column is the syndrome: data bits first, then check bits, numbered on (Table 5.2). -/
def Code.bitFor (c : Code) (synd : Nat) : Option Nat :=
  match c.columns.findIdx? (· == synd) with
  | some i => some i
  | none => ((List.range c.checks).find? (fun j => (1 <<< j) == synd)).map (· + 8 * c.bytes)

/-- Decoding a syndrome (R185, Table 5.2): `listed` is row 1, `dram` chooses the last column. -/
def Code.decode (c : Code) (dram listed : Bool) (synd : Nat) : UnitState :=
  if listed then .poisoned
  else if synd = 0 then .clean
  else match c.bitFor synd with
    | some b => .correctable b
    | none =>
      if dram ∧ (synd = c.poison ∨ (c.bitFor (synd ^^^ c.poison)).isSome) then .poisoned
      else .uncorrectable

/-- The code of a place that is a memory array. -/
def Place.code : Place → Code
  | .dram _ => dramCode
  | _ => sramCode

/-- The place is DRAM. -/
def Place.isDram : Place → Bool
  | .dram _ => true
  | _ => false

/-- The place is one of the three memories behind the weave. -/
def Place.isArray : Place → Bool
  | .dram _ => true
  | .commons _ => true
  | .tsram _ => true
  | _ => false

/-! ### DRAM placement (R180) -/

/-- Channel data offset D of a local DRAM address. -/
def dramOffset (a : Nat) : Nat := (a / 0x800) * 256 + a % 256
/-- Data granule index G. -/
def dramGranule (a : Nat) : Nat := dramOffset a / 32
/-- Channel byte address of the data granule. -/
def dramPlaceOf (a : Nat) : Nat := 512 * (dramGranule a / 15) + 32 * (dramGranule a % 15)
/-- Channel byte address of the granule's two code bytes. -/
def dramCodePlaceOf (a : Nat) : Nat := 512 * (dramGranule a / 15) + 480 + 2 * (dramGranule a % 15)
/-- The address fold F (R183). -/
def dramFold (a : Nat) : Nat := bitsOf (dramGranule a) 13 0 ^^^ bitsOf (dramGranule a) 27 14
/-- What a read adds to the syndrome when it reaches granule `v` in place of `u`: the columns of the fold bits in which the two
differ (R183). -/
def foldSynd (u v : Nat) : Nat :=
  let f := dramFold u ^^^ dramFold v
  (List.range 14).foldl (fun x k => if bitOf f k then x ^^^ foldColumn k else x) 0

namespace State

/-! ### One unit's syndrome, list entry and upsets -/

/-- Syndrome of the unit at `u` (its first address). -/
def syndOf (s : State) (u : Nat) : Nat := SMap.get 0 s.synd u
def setSynd (s : State) (u x : Nat) : State := { s with synd := SMap.set 0 s.synd u x }

/-- The poison list of an SRAM array, and the first address its word indices count from. -/
def listOf (s : State) : Place → List Nat
  | .tsram t => (s.tram t).listed
  | .commons k => (s.cram k).listed
  | _ => []
def setListOf (s : State) (p : Place) (l : List Nat) : State := match p with
  | .tsram t => (s.setTram t { s.tram t with listed := l }).setFld (Reg.tileEccCnt t) 24 20 l.length
  | .commons k => (s.setCram k { s.cram k with listed := l }).setFld (Reg.cmnEccCnt k) 24 20 l.length
  | _ => s

/-- Word index of an SRAM unit in its array. -/
def wordIndex (p : Place) (u : Nat) : Nat := match p with
  | .tsram t => (u - tileBase t) / 8
  | .commons k => (u - commonsBase k) / 8
  | _ => 0

/-- Capacity of an array's poison list (R186). -/
def listCap : Place → Nat
  | .tsram _ => 8
  | .commons _ => 16
  | _ => 0

/-- An SRAM array's list is full: OVERFLOW is set and reported (R186, R194). -/
def arrayOverflow (s : State) (p : Place) (u : Nat) : State := match p with
  | .tsram t => (s.setFld (Reg.tileEccCnt t) 25 25 1).post
      { fault := .poisonOverflow, attr := .block t, gsk := t, event := some .overflow, addr := some u }
  | .commons k => (s.setFld (Reg.cmnEccCnt k) 25 25 1).post
      { fault := .poisonOverflow, attr := .block (64 + k), gsk := 64 + k, event := some .overflow, addr := some u }
  | _ => s

/-- A data write updates its code in the channel's cache of 64 code granules; the oldest entry leaves a full cache (R181).
[log 57 DESIGN CHOICE, unsafe] -/
def touchCode (s : State) (p : Place) (u : Nat) : State :=
  match p with
  | .dram m =>
    let k := dramGranule u / 15
    s.modChan m fun c => { c with dirty := (k :: c.dirty.filter (· ≠ k)).take 64 }
  | _ => s

/-- Poisoning a unit (R184, R186): the check value takes the poison pattern, an SRAM word enters the list, and with
the list full OVERFLOW is set and reported. -/
def poisonUnit (s : State) (p : Place) (u : Nat) : State :=
  let s1 := s.setSynd u p.code.poison
  if p.isDram then s1.touchCode p u
  else
    let w := wordIndex p u
    let l := s1.listOf p
    if l.contains w then s1
    else if l.length < listCap p then s1.setListOf p (l ++ [w])
    else s1.arrayOverflow p u

/-! ### Encryption of granules (R197 to R199) -/

/-- The key a DRAM granule's stored bytes stand under, plus one; 0 where they are held as they lie in the array. A granule under
a key is held as what it decrypts to under that key. -/
def keyedAt (s : State) (u : Nat) : Nat := SMap.get 0 s.keyed u
def setKeyed (s : State) (u key : Nat) : State := { s with keyed := SMap.set 0 s.keyed u key }

/-- A granule's bytes as the controller sees them through a key (R197): as held under the same key, else what lies in the array
decrypted under this one. -/
def viewAs (s : State) (u key : Nat) (n : Nat) : List Byte :=
  let k := s.keyedAt u
  let d := s.rdBytes u n
  if k = key then d
  else
    let c := if k = 0 then d else Aes.xts true (k - 1) (u / 32) d
    if key = 0 then c else Aes.xts false (key - 1) (u / 32) c

/-- The granule is held as it looks through the key: nothing in the array changes. -/
def rekey (s : State) (p : Place) (u key : Nat) : State :=
  if !p.isDram ∨ s.keyedAt u = key then s else (s.wrBytes u (s.viewAs u key 32)).setKeyed u key

/-- A unit written with good code: syndrome zero, list entry gone (R186). -/
def goodUnit (s : State) (p : Place) (u : Nat) : State :=
  let s2 := s.setSynd u 0
  let l := s2.listOf p
  if l.contains (wordIndex p u) then s2.setListOf p (l.erase (wordIndex p u)) else s2

/-- Flip data bit `i` of the unit at `u`. -/
def flipBit (s : State) (u i : Nat) : State :=
  s.wr (u + i / 8) (s.rd (u + i / 8) ^^^ BitVec.ofNat 8 (2 ^ (i % 8)))

/-- The stored bits of a unit take an upset: each flipped bit changes the syndrome by its column (§5.3). The code covers the
bits in the array, ciphertext where the granule is encrypted (R197). -/
def applyUpset (s : State) (p : Place) (x : Upset) : State :=
  let s := if x.data.isEmpty then s else s.rekey p x.unit 0
  let s1 := x.data.foldl (fun t i =>
    if i < 8 * p.code.bytes then (t.flipBit x.unit i).setSynd x.unit (t.syndOf x.unit ^^^ p.code.columns.getD i 0)
    else t) s
  let s2 := x.check.foldl (fun t j =>
    if j < p.code.checks then t.setSynd x.unit (t.syndOf x.unit ^^^ (1 <<< j)) else t) s1
  match p with
  | .dram m => if x.linkCe then s2.bump (Reg.mcEccCnt m) 31 24 else s2
  | _ => s2

/-- The decoded state of the unit at `u` (R185); `linkUe` is R191's third failed attempt. -/
def unitState (s : State) (p : Place) (u : Nat) (linkUe : Bool) : UnitState :=
  if linkUe ∧ p.isDram then .uncorrectable
  else p.code.decode p.isDram ((s.listOf p).contains (wordIndex p u)) (s.syndOf u)

/-! ### Counting, capture and reports (R194 to R196, R206 to R211) -/

/-- One second, in ns. -/
def second : Nat := 1000000000

/-- Capture in a log register pair: an uncorrectable-class event overwrites a CE, a CE only an empty log (R196). -/
def captures (valid : Bool) (heldType : Nat) (e : EccEvent) : Bool :=
  !valid || (heldType == 1 && e != .ce)

/-- A correctable event in the sliding window of its channel (R195): re-armed when the count had fallen to half. -/
def ceEvent (s : State) (m : Nat) : State :=
  let c := s.chan m
  let live := c.ceTimes.filter (fun t => s.upNs < t + second)
  let thr := s.fld (Reg.mcEccCtl m) 23 16
  let rep := c.ceReported && !(2 * live.length ≤ thr)
  s.setChan m { c with ceTimes := (s.upNs :: live).take 512, ceReported := rep }

/-- An event at the unit `u` is counted and captured, and one that is not correctable is reported with the array, the unit address,
the event and the request's enclosure tag (0xF scrubber) (R194). -/
def logEvent (s : State) (p : Place) (u : Nat) (tag : Nat) (e : EccEvent) : State :=
  let synd := s.syndOf u
  let attr : Attr := if tag = 0xF then .scrub u else .tag tag
  let s1 := match p with
    | .dram m =>
      let c1 := if e == .ce then (s.bump (Reg.mcEccCnt m) 15 0).ceEvent m
        else if e == .ue || e == .linkUe then s.bump (Reg.mcEccCnt m) 23 16 else s
      if captures (c1.fld (Reg.mcEccLog2 m) 31 31 = 1) (c1.fld (Reg.mcEccLog2 m) 18 16) e then
        ((c1.setReg (Reg.mcEccLog0 m) (BitVec.ofNat 32 u)).setReg (Reg.mcEccLog1 m) (BitVec.ofNat 32 (bitsOf u 53 32))).setReg
          (Reg.mcEccLog2 m) (BitVec.ofNat 32 (synd % 0x10000 + e.code * 0x10000 + (tag % 16) * 0x80000 + 0x80000000))
      else c1
    | .tsram t => sramEvent s (Reg.tileEccCnt t) (Reg.tileEccLog t) (wordIndex p u) synd e
    | .commons k => sramEvent s (Reg.cmnEccCnt k) (Reg.cmnEccLog k) (wordIndex p u) synd e
    | _ => s
  if e == .ce then s1 else s1.post { fault := .memUe, attr := attr, gsk := p.gasket, event := some e, addr := some u }
where
  /-- The counters and the log of an SRAM array (Tables 5.10, 5.11). -/
  sramEvent (s : State) (cnt log w synd : Nat) (e : EccEvent) : State :=
    let c1 := if e == .ce then s.bump cnt 11 0 else if e == .ue then s.bump cnt 19 12 else s
    if captures (c1.fld log 31 31 = 1) (c1.fld log 21 19) e then
      c1.setReg log (BitVec.ofNat 32 (w % 0x80000 + e.code * 0x80000 + (synd % 256) * 0x400000 + 0x80000000))
    else c1

/-! ### Reads (Table 5.3) -/

/-- A correctable unit is corrected and written back. -/
def correctUnit (s : State) (p : Place) (u bit : Nat) : State :=
  let s1 := if bit < 8 * p.code.bytes then (s.rekey p u 0).flipBit u bit else s
  (s1.setSynd u 0).touchCode p u

/-- The event name of an uncorrectable unit found by an access. -/
def ueEvent (linkUe : Bool) (p : Place) : EccEvent := if linkUe ∧ p.isDram then .linkUe else .ue

/-- A read of one whole unit through a key (Table 5.3): the bytes, whether it returns POISONED, and the state after. -/
def readUnit (s : State) (p : Place) (u key tag : Nat) (linkUe : Bool) : List Byte × Bool × State :=
  let n := p.code.bytes
  match s.unitState p u linkUe with
  | .clean => (s.viewAs u key n, false, s)
  | .correctable b =>
    let s1 := (s.logEvent p u tag .ce).correctUnit p u b
    (s1.viewAs u key n, false, s1)
  | .uncorrectable => (leBytes n 0, true, (s.logEvent p u tag (ueEvent linkUe p)).poisonUnit p u)
  | .poisoned => (leBytes n 0, true, s.logEvent p u tag .poisonRead)

/-- A read that an address fault leads to granule `v` (R183): it finds that granule's bits, and a syndrome that differs by the
fold columns. -/
def reached (s : State) (u v : Nat) : State :=
  ((s.wrBytes u (s.viewAs v 0 32)).setKeyed u 0).setSynd u (s.syndOf v ^^^ foldSynd u v)

/-- The granule that the access reaches in place of the one at `u`. [log 16 DESIGN CHOICE, safe] -/
def reachAt (p : Place) (ups : List Upset) (u : Nat) : Option Nat :=
  if p.isDram then (ups.find? fun x => x.unit == u && x.reach.isSome).bind (·.reach) else none

/-- The unit as a read-modify-write finds it. -/
def found (s : State) (p : Place) (ups : List Upset) (u : Nat) : State :=
  match reachAt p ups u with
  | none => s
  | some v => s.reached u (v / 32 * 32)

/-- A read of one unit, reaching what the access reaches: a clean read changes nothing. -/
def readUnitAt (s : State) (p : Place) (ups : List Upset) (u key tag : Nat) (linkUe : Bool) : List Byte × Bool × State :=
  let t := s.found p ups u
  let (d, b, t1) := t.readUnit p u key tag linkUe
  (d, b, if t.unitState p u linkUe = .clean then s else t1)

/-- The units that [a, a + len) touches, by first address. -/
def unitsOf (n a len : Nat) : List Nat :=
  if len = 0 then [] else (List.range ((a + len - 1) / n - a / n + 1)).map (fun i => (a / n + i) * n)

/-- Granules of a channel whose contents were lost (Table 3.10) hold free data and a free check value until they are
written; what they hold is settled when they are first touched. [log 58 DESIGN CHOICE, safe] -/
def settleLost (s : State) (p : Place) (us : List Nat) : State :=
  match p with
  | .dram m =>
    if !(s.chan m).lost then s
    else us.foldl (fun t u =>
      if (t.chan m).fresh.contains u then t
      else
        let (d, t1) := t.drawBytes 32
        let (x, t2) := t1.draw
        (((t2.wrBytes u d).setKeyed u 0).setSynd u (x % 0x10000)).modChan m fun c => { c with fresh := u :: c.fresh }) s
  | _ => s

/-- Every upset of the access that falls in this array's units. [log 16 DESIGN CHOICE, safe] -/
def applyUpsets (s : State) (p : Place) (us : List Nat) (ups : List Upset) : State :=
  ups.foldl (fun t x => if us.contains x.unit then t.applyUpset p x else t) (s.settleLost p us)

/-- Whether the access meets a failed link transfer at the unit. -/
def linkUeAt (ups : List Upset) (u : Nat) : Bool := ups.any (fun x => x.unit == u && x.linkUe)

/-- A read of `len` bytes of one array from `a` (R187), through the key of the request's slot (0 none): status, data, which
bytes came from a POISONED unit, and the state after. -/
def memReadP (s : State) (a len key tag : Nat) (ups : List Upset) : Status × List Byte × List Bool × State :=
  let p := placeOf s.usable a
  let n := p.code.bytes
  let us := unitsOf n a len
  let s1 := s.applyUpsets p us ups
  let (d, bad, s2) := us.foldl (fun (acc : List Byte × List Bool × State) u =>
    let (d, b, t) := acc.2.2.readUnitAt p ups u key tag (linkUeAt ups u)
    (acc.1 ++ d, acc.2.1 ++ List.replicate n b, t)) ([], [], s1)
  let m := (bad.drop (a % n)).take len
  (if m.any id then .poisoned else .ok, (d.drop (a % n)).take len, m, s2)

/-- The read without the poison mask. -/
def memRead (s : State) (a len key tag : Nat) (ups : List Upset) : Status × List Byte × State :=
  let (st, d, _, s1) := s.memReadP a len key tag ups
  (st, d, s1)

/-! ### Writes and atomics (Table 5.4) -/

/-- New bytes are merged into a unit that the controller has decrypted, and the whole is encrypted again (R188, R197). -/
def merge (s : State) (p : Place) (u key a : Nat) (bs : List Byte) : State := (s.rekey p u key).wrBytes a bs

/-- A write of `bs` from `a` into the unit at `u` through a key, whole or partial, plain or with the poison flag (Table 5.4). -/
def writeUnit (s : State) (p : Place) (u key a : Nat) (bs : List Byte) (pw : Bool) (tag : Nat) (linkUe : Bool) :
    Bool × State :=
  let whole := a = u ∧ bs.length = p.code.bytes
  if whole then
    let s0 := s.wrBytes a bs
    let s1 := (if p.isDram then s0.setKeyed u key else s0).goodUnit p u
    if pw then (false, (s1.poisonUnit p u).logEvent p u tag .poisonWrite) else (false, s1)
  else
    let put (t : State) : State := t.merge p u key a bs
    match s.unitState p u linkUe, pw with
    | .clean, false => (false, put s)
    | .correctable b, false => (false, put ((s.logEvent p u tag .ce).correctUnit p u b))
    | .uncorrectable, _ => (!pw, (put (s.logEvent p u tag (ueEvent linkUe p))).poisonUnit p u)
    | .poisoned, false => (true, (put (s.logEvent p u tag .poisonMerge)).setSynd u p.code.poison)
    | .clean, true => (false, ((put s).poisonUnit p u).logEvent p u tag .poisonWrite)
    | .correctable b, true =>
      (false, ((put ((s.logEvent p u tag .ce).correctUnit p u b)).poisonUnit p u).logEvent p u tag .poisonWrite)
    | .poisoned, true => (false, ((put s).setSynd u p.code.poison).logEvent p u tag .poisonWrite)

/-- A write of bytes to one array from `a`, unit by unit (R188): a unit that receives a poisoned byte is written as a
poison write (R189, R267). A whole unit is written unread. -/
def memWriteP (s : State) (a : Nat) (bs : List Byte) (mask : List Bool) (key tag : Nat) (ups : List Upset) :
    Status × State :=
  let p := placeOf s.usable a
  let n := p.code.bytes
  let us := unitsOf n a bs.length
  let s1 := s.applyUpsets p us ups
  let (bad, s2) := us.foldl (fun (acc : Bool × State) u =>
    let lo := max a u
    let hi := min (a + bs.length) (u + n)
    let pw := ((mask.drop (lo - a)).take (hi - lo)).any id
    let t0 := if hi - lo = n then acc.2 else acc.2.found p ups u
    let (b, t) := t0.writeUnit p u key lo (sliceAt bs (lo - a) (hi - lo)) pw tag (linkUeAt ups u)
    (acc.1 || b, t.touchCode p u)) (false, s1)
  (if bad then .poisoned else .ok, s2)

/-- A write of bytes that are all plain, or all poisoned. -/
def memWrite (s : State) (a : Nat) (bs : List Byte) (pw : Bool) (key tag : Nat) (ups : List Upset) : Status × State :=
  s.memWriteP a bs (List.replicate bs.length pw) key tag ups

/-- An atomic finds its unit (last rows of Table 5.4): performed on a clean or corrected unit, otherwise POISONED.
`f` answers the status, the response data and the new word if it is written. -/
def memAtomic (s : State) (a size key tag : Nat) (ups : List Upset) (f : Nat → Status × List Byte × Option Nat) :
    Status × List Byte × State :=
  let p := placeOf s.usable a
  let u := a / p.code.bytes * p.code.bytes
  let s1 := s.applyUpsets p [u] ups
  let go (t : State) : Status × List Byte × State :=
    let (st, resp, new) := f (leNat (sliceAt (t.viewAs u key p.code.bytes) (a - u) size))
    (st, resp, match new with
      | some v => (t.merge p u key a (leBytes size v)).touchCode p u
      | none => t)
  let t := s1.found p ups u
  match t.unitState p u (linkUeAt ups u) with
  | .clean => go t
  | .correctable b => go ((t.logEvent p u tag .ce).correctUnit p u b)
  | .uncorrectable =>
    (.poisoned, [], (t.logEvent p u tag (ueEvent (linkUeAt ups u) p)).poisonUnit p u)
  | .poisoned => (.poisoned, [], t.logEvent p u tag .poisonRead)

end State

/-- The five atomics of R151 on words of `size` bytes: the new word. -/
def atomicResult (op : AtomicOp) (size old x y : Nat) : Option Nat :=
  let w := 8 * size
  match op with
  | .fetchAdd => some ((old + x) % 2 ^ w)
  | .swap => some (x % 2 ^ w)
  | .compareSwap => if old = x % 2 ^ w then some (y % 2 ^ w) else none
  | .minSigned => if toSigned w x < toSigned w old then some (x % 2 ^ w) else none
  | .maxSigned => if toSigned w old < toSigned w x then some (x % 2 ^ w) else none

end Sys2Proof.Machine
end

