-- ==== Sys2Proof/Machine/RegView.lean ====
section
/-! DEFINITION. What a register reads as (Table 23.5): the register file's word, with the fields whose home is another
part of the state put in their places, and the two reads that change state (R438, R694). -/

namespace Sys2Proof.Machine

/-- Fields of a word: (low bit, width, value). -/
def fields (l : List (Nat × Nat × Nat)) : Word :=
  BitVec.ofNat 32 (l.foldl (fun n f => n + f.2.2 % 2 ^ f.2.1 * 2 ^ f.1) 0)

/-- A value that saturates at the largest of its width. -/
def satTo (w v : Nat) : Nat := min v (2 ^ w - 1)

namespace State

/-- WARD_STATE (Table 1.10). -/
def viewWard (s : State) : Word :=
  fields [(0, 4, s.ward.st.code), (4, 4, s.ward.prev.code), (8, 1, b2n s.img.drive.isSome), (9, 1, b2n s.img.steep.isSome),
    (10, 1, b2n s.ward.resident), (11, 1, b2n s.ward.cozy), (12, 1, b2n s.ward.proofRetry), (13, 1, b2n s.anyActive)]

/-- WARD_PARK_STAT (Table 1.13). -/
def viewPark (s : State) : Word :=
  let p := s.park
  fields [(0, 1, b2n p.aRaw), (1, 1, b2n p.bRaw), (2, 1, b2n p.agree), (3, 1, b2n s.parked), (4, 1, b2n p.fault),
    (5, 1, b2n (p.fault && p.clearReady)), (6, 10, satTo 10 p.disc), (16, 12, satTo 12 p.hold)]

/-- The warden block. [log 49 DESIGN CHOICE, unsafe] -/
def viewWarden (s : State) (off : Nat) (w : Word) : Word :=
  if off = 0x100 then s.viewWard
  else if off = 0x110 then s.viewPark
  else if off = 0x200 then
    Field.put (Field.put (Field.put w 6 5 (match s.img.force with | .none => 0 | .drive => 1 | .both => 2)) 13 7
      (satTo 7 s.img.spareOut.length)) 1 0 (b2n s.imageLoading)
  else if off = 0x208 then BitVec.ofNat 32 ((s.img.drive.map (·.serial)).getD 0)
  else if off = 0x20C then BitVec.ofNat 32 ((s.img.steep.map (·.serial)).getD 0)
  else if 0x320 ≤ off ∧ off < 0x340 then
    let e := (off - 0x320) / 4
    let x := s.enclSt e
    if s.present e then
      Field.put (Field.put w 1 0 (match x.st with | .absent => 1 | .running => 1 | .aborting => 2 | .aborted => 3)) 2 2
        (b2n (s.isSafety e))
    else w
  else w

/-- CLK_STAT and PWR_STAT (Tables 3.17, 3.18). -/
def viewClk (s : State) : Word :=
  fields [(0, 1, b2n s.power.pllLock), (1, 1, b2n s.power.refOk), (2, 1, b2n s.power.aonXtal), (3, 1, b2n s.power.imgDiv)]
def viewPwr (s : State) : Word :=
  fields [(0, 5, s.power.vid), (5, 1, b2n s.power.railMain), (6, 1, b2n s.power.railMem), (7, 1, b2n s.power.thermalHold),
    (8, 4, s.power.railFail)]

/-- GSK_STAT_g (Table 3.23). -/
def viewGsk (s : State) (g : Nat) (w : Word) : Word :=
  let x := s.gasket g
  Field.put w 3 0 (x.st.code + 4 * b2n x.inReset + 8 * b2n x.powered)

/-- The security block (Table 20.13). [log 10 DESIGN CHOICE, unsafe] -/
def viewSec (s : State) (off : Nat) (w : Word) : Word :=
  if off = 0 then BitVec.ofNat 32 s.secStat
  else if off = 8 then BitVec.ofNat 32 s.sec.fuses.deviceId
  else if off = 0xC then BitVec.ofNat 32 (s.sec.fuses.deviceId / 2 ^ 32)
  else if off = 0x1C then Field.put (Field.put w 0 0 (b2n s.sec.running.isSome)) 15 8 s.sec.status.code
  else if off = 0x20 then BitVec.ofNat 32 (min 256 s.handles.length)
  else w

/-- SAFE_STAT (Table 18.11). -/
def viewSafe (s : State) : Word :=
  fields [(0, 1, b2n (s.safe.latchP || s.safe.latchN)), (1, 1, b2n (s.ward.st == .halt)), (2, 1, b2n s.safe.proof.isSome),
    (3, 1, b2n s.safe.txOk)]

/-- The owner of a wheel slot (R64, R162): in STEEP enclosure 0 keeps its slots and every other slot is free. -/
def slotOf (s : State) (n : Nat) : Nat :=
  let o := ((s.driveImg.map (·.wheel)).getD []).getD n 0xF
  if !s.weave.run ∨ (s.img.force = .both ∧ o ≠ 0) then 0xF else o

/-- The weave block (Tables 4.11, 4.12). -/
def viewWeave (s : State) (off : Nat) (w : Word) : Word :=
  let now := (s.weave.outst.filter (·.counted)).length
  if off = 0x10 then
    fields [(0, 6, s.weave.slot), (8, 4, s.slotOf s.weave.slot), (12, 1, b2n s.weave.run)]
  else if off = 0x20 then Field.put (Field.put w 12 0 (satTo 13 now)) 28 16 (satTo 13 s.weave.peak)
  else w

/-- The KV block (Table 11.11, R383). -/
def viewKv (s : State) (off : Nat) (w : Word) : Word :=
  let i := off / 0x20
  let p := s.kvPool i
  let it := (((s.steepImg.map (·.pools)).getD []) ++ ((s.driveImg.map (·.pools)).getD [])).find? (·.id = i)
  if 0x200 ≤ off then w
  else if off % 0x20 = 0 then
    fields [(0, 2, p.st.code), (2, 1, (it.map (·.pageSize)).getD 0), (3, 2, (it.map (·.storeFmt)).getD 0), (5, 2, p.walk),
      (7, 1, b2n p.retain), (8, 13, p.opens), (21, 11, satTo 11 p.waits.length)]
  else if off % 0x20 = 4 then BitVec.ofNat 32 (p.nFree % 2 ^ 24)
  else if off % 0x20 = 8 then BitVec.ofNat 32 (p.nCached % 2 ^ 24)
  else w

/-- LOOM_ROUTE for the node LOOM_ROUTE_SEL names (R551). -/
def viewRoute (s : State) : Word :=
  let n := s.fld 0x0A0010 9 0
  let r := s.routeTo n
  let g : Option Nat :=
    if (groupOf s.linkEdges s.nodeId).contains n then none
    else if s.ownTunnel then (match r with | .tunnel p => if p = n then none else some p | _ => none)
    else s.gatewayOf (groupOf s.linkEdges s.nodeId)
  fields [(0, 4, match r with | .port p => p | .tunnel _ => 8 | .none => 15), (4, 1, b2n (s.inView n)),
    (5, 1, b2n (g.isSome && r != .none)), (16, 10, if r = .none then 0 else g.getD 0)]

/-- The loom block (Table 17.8). -/
def viewLoom (s : State) (off : Nat) (w : Word) : Word :=
  let l := s.loom
  if off = 0 then fields [(0, 2, l.st.code), (2, 11, if l.st = .none then 0 else l.view.members.length), (16, 10, l.view.coord)]
  else if off = 4 then BitVec.ofNat 32 l.view.seq
  else if off = 0x14 then s.viewRoute
  else if off = 0x20 then
    fields [(0, 2, l.vote.st.code), (2, 1, b2n l.vote.ownYes), (3, 1, Field.get w 3 3), (16, 16, l.vote.id)]
  else if off = 0x44 then Field.put w 6 0 (satTo 7 l.sessions.length)
  else w

/-- The TSU block (Tables 13.10, 13.11, R438, R441). [log 102 DESIGN CHOICE, unsafe; 107 DESIGN CHOICE, unsafe] -/
def viewTsu (s : State) (off : Nat) (w : Word) : Word :=
  let t := s.tsu
  if off = 0 then BitVec.ofNat 32 t.time
  else if off = 4 then BitVec.ofNat 32 (if t.latch = 0 then t.time / 2 ^ 32 else t.latch - 1)
  else if off = 0x10 then
    fields [(0, 2, t.st), (2, 2, t.src), (4, 1, b2n s.stepOk),
      (16, 16, if 2 ≤ t.st then satTo 16 ((s.upNs - t.holdSince) / 1000000000) else 0)]
  else if off = 0x18 then BitVec.ofInt 32 (max (-2147483647) (min 2147483647 t.offset))
  else if off = 0x1C then BitVec.ofInt 32 ((((t.rate : Int) - nominalRate) * 1000000000).tdiv nominalRate)
  else w

/-- The stream registers of the Strainer (Table 13.12). -/
def viewStr (s : State) (off : Nat) (w : Word) : Word :=
  if off < 0x100 ∨ 0x300 ≤ off then w
  else
    let x := s.stream ((off - 0x100) / 0x10)
    if off % 0x10 = 0 then
      fields [(0, 1, b2n x.bound.isSome), (1, 1, b2n x.silent), (2, 4, x.outcome), (6, 3, (x.bound.map (·.kind)).getD 0),
        (16, 8, (x.bound.map (·.port)).getD 0)]
    else if off % 0x10 = 8 then BitVec.ofNat 32 x.widx
    else if off % 0x10 = 0xC then BitVec.ofNat 32 x.last
    else w

/-- The fusion unit's and the LSE's status (Tables 14.9, 15.12, R482). -/
def viewFu (s : State) (off : Nat) (w : Word) : Word :=
  let f := s.fusion
  if off = 0 then
    fields [(0, 3, f.level), (3, 1, (f.profile.map fun p => Prof.method p % 2).getD 0), (4, 1, b2n f.profile.isSome),
      (5, 1, b2n s.fuseRuns), (8, 8, satTo 8 f.exitCnt)]
  else if off = 4 then BitVec.ofNat 32 (f.causes % 0x1000)
  else if off = 8 then BitVec.ofNat 32 f.lastEpoch
  else w
def viewLse (s : State) (off : Nat) (w : Word) : Word :=
  let x := s.lse
  if off = 0 then
    fields [(0, 2, if x.solver.isNone then 0 else if x.suspended.isSome then 2 else 1), (2, 1, b2n x.assigner.isSome),
      (3, 3, (x.solver.map (·.r.encl)).getD 0), (6, 1, b2n x.ego.isSome), (7, 2, (x.ego.map (·.estate)).getD 0),
      (16, 8, satTo 8 ((x.ego.map (·.reuse)).getD 0))]
  else w

/-- The sideband block (Table 21.8, R669, R670). -/
def viewSb (s : State) (off : Nat) (w : Word) : Word :=
  let b := s.sb
  if off = 0 then Field.put w 2 2 (b2n b.cmdDone)
  else if off = 0x10 then fields [(0, 1, b2n b.outFull), (1, 1, b2n b.inFull)]
  else if 0x40 ≤ off ∧ off < 0x60 then BitVec.ofNat 32 (fieldAt b.outBox (off - 0x40) 4)
  else if 0x60 ≤ off ∧ off < 0x80 then BitVec.ofNat 32 (fieldAt b.inBox (off - 0x60) 4)
  else w

/-- The UART and the PCIe block (Tables 22.6, 22.7). -/
def viewUart (s : State) (off : Nat) (w : Word) : Word :=
  if off = 0xC then Field.put (Field.put w 6 0 (satTo 7 s.uart.rx.length)) 14 8 (satTo 7 s.uart.tx.length)
  else if off = 8 then
    (match s.uart.rx with
     | [] => 0
     | e :: _ => fields [(0, 8, e.data), (8, 1, b2n e.pe), (9, 1, b2n e.fe), (10, 1, b2n e.brk), (31, 1, 1)])
  else w
def viewPcie (s : State) (off : Nat) (w : Word) : Word :=
  if off = 0 then
    fields [(0, 2, if s.pcieRoot then 2 else 1), (2, 3, s.pcie.speed), (5, 4, s.pcie.width), (9, 1, b2n s.pcie.linkUp)]
  else if off = 0x110 then fields [(0, 3, s.pcie.push.code), (8, 8, s.pcie.result), (16, 3, s.pcie.attempts)]
  else if off = 0x200 then
    fields [(0, 1, b2n s.caddy.present), (1, 1, b2n s.caddy.ready), (2, 2, s.caddy.speed), (4, 3, s.caddy.width),
      (16, 16, satTo 16 s.caddy.resets)]
  else w

/-- A memory controller's status (Table 5.9). -/
def viewMc (s : State) (m off : Nat) (w : Word) : Word :=
  let c := s.chan m
  if off = 0 then
    fields [(0, 1, b2n c.trained), (1, 1, b2n c.trainFail), (2, 1, b2n c.selfRefresh), (3, 1, b2n c.linkEcc), (4, 1, b2n c.hot),
      (8, 5, c.rawCh), (16, 16, s.usable / 2 ^ 20)]
  else w

/-- A mover's status, and its channels' leases and states (Tables 7.6 to 7.8). -/
def viewMover (s : State) (m off : Nat) (w : Word) : Word :=
  if off = 0 then Field.put w 8 0 (min 256 (s.moverOutst m))
  else if 0x1000 ≤ off ∧ off < 0x1800 then
    let x := s.mchan m ((off - 0x1000) / 0x40)
    if off % 0x40 = 0 then BitVec.ofNat 32 (leaseWord x.lease)
    else if off % 0x40 = 4 then
      fields [(0, 2, if x.encl = 0 then 3 else x.st.code), (2, 3, x.encl - 1), (8, 8, x.lastStatus), (16, 12, x.head)]
    else w
  else w

/-- A Brikel port (Table 16.10, R544). [log 10 DESIGN CHOICE, unsafe] -/
def viewBlk (s : State) (p off : Nat) (w : Word) : Word :=
  let b := s.bport p
  if off = 4 then
    fields [(0, 3, b.st.code), (3, 3, b.width), (6, 4, b.physical),
      (10, 1, b2n (b.lanes.any fun (l : Nat × Nat) => decide (l.1 + 1 ≠ l.2))), (11, 4, b.polarity),
      (16, 11, min 1024 (s.trackerUse p))]
  else if off = 8 then fields [(0, 3, b.peerPort), (3, 1, b2n b.peerValid)]
  else if off = 0xC then BitVec.ofNat 32 b.peerId
  else if off = 0x24 then BitVec.ofNat 32 (Config.linkId p)
  else w

/-- A queue block: queue pages and weight slots (Tables 9.10, 10.9). -/
def viewQblk (s : State) (e off : Nat) (w : Word) : Word :=
  if 0x100 ≤ off ∧ off < 0x500 then
    let q := (off - 0x100) / 0x40
    let x := s.queue e q
    let o := (off - 0x100) % 0x40
    if o = 0x18 then BitVec.ofNat 32 x.taken
    else if o = 0x20 then BitVec.ofNat 32 x.completed
    else if o = 0x24 then
      fields [(0, 2, if x.stopped then 2 else b2n (s.qOn e q)), (2, 7, min 64 x.flight.length), (16, 8, x.lastStatus)]
    else w
  else if 0x800 ≤ off ∧ off < 0x900 then
    let k := (off - 0x800) / 4
    let x := s.slot k
    if s.slotOwner k ≠ 0 ∧ s.slotOwner k = s.ownerTag e then
      fields [(0, 3, x.st.code), (3, 1, 1),
        (4, 7, match x.st, x.load with | .loading, some l => (if l.bodyUnits = 0 then 0 else min 100 (100 * l.unitsDone / l.bodyUnits)) | _, _ => 0),
        (11, 1, b2n x.tiered), (12, 2, x.tierMode), (16, 16, satTo 16 x.bindings)]
    else 0
  else w

/-- TILE_STAT_t (Table 6.5). -/
def viewTile (s : State) (t off : Nat) (w : Word) : Word :=
  if off = 0 then
    let x := s.tile t
    fields [(0, 3, if (s.gasket t).powered then x.st.code else 0), (4, 3, if s.tileOwner t = 0xF then 0 else s.tileOwner t), (8, 1, b2n x.poison), (9, 1, b2n x.proofErr),
      (10, 1, b2n x.residue), (11, 1, b2n x.pfLate)]
  else w

/-- What the register at a key reads as: an offset that no description names, and a field that cannot be read, reads
zero (R3, R697). -/
def regView (s : State) (k : Nat) : Word :=
  let b := k / 0x10000
  let off := k % 0x10000
  let w := s.reg k
  match regRow k with
  | none => 0
  | some _ =>
    if b = 0x01 then s.viewWarden off w
    else if b = 0x02 ∧ off = 0x10 then s.viewClk
    else if b = 0x03 ∧ off = 0 then s.viewPwr
    else if b = 0x05 ∧ 0x400 ≤ off ∧ off < 0x800 then s.viewGsk ((off - 0x400) / 4) w
    else if b = 0x06 then s.viewSec off w
    else if b = 0x07 ∧ off = 0 then s.viewSafe
    else if b = 0x08 then s.viewWeave off w
    else if b = 0x09 then s.viewKv off w
    else if b = 0x0A then s.viewLoom off w
    else if b = 0x0B then s.viewTsu off w
    else if b = 0x0C then s.viewStr off w
    else if b = 0x0D then s.viewFu off w
    else if b = 0x0E then s.viewLse off w
    else if b = 0x0F then s.viewSb off w
    else if b = 0x10 then s.viewUart off w
    else if b = 0x11 then s.viewPcie off w
    else if 0x18 ≤ b ∧ b < 0x20 then s.viewMc (b - 0x18) off w
    else if 0x20 ≤ b ∧ b < 0x30 then s.viewMover (b - 0x20) off w
    else if 0x30 ≤ b ∧ b < 0x38 then s.viewBlk (b - 0x30) off w
    else if 0x38 ≤ b ∧ b < 0x40 then s.viewQblk (b - 0x38) off w
    else if 0x40 ≤ b ∧ b < 0x80 then s.viewTile (b - 0x40) off w
    else w

/-- A read of the register: its word, and what the read does (R438: TSU_TIME_LO latches the high half, TSU_TIME_HI uses the
latch; R694: UART_DATA removes the oldest entry). -/
def regRead (s : State) (k : Nat) : Word × State :=
  (s.regView k,
    if k = 0x0B0000 then { s with tsu := { s.tsu with latch := s.tsu.time / 2 ^ 32 + 1 } }
    else if k = 0x0B0004 then { s with tsu := { s.tsu with latch := 0 } }
    else if k = 0x100008 then { s with uart := { s.uart with rx := s.uart.rx.drop 1 } }
    else s)

end State
end Sys2Proof.Machine
end

