-- ==== Sys2Proof/Machine/Access.lean ====
section
/-! DEFINITION. Requests on the weave: enclosure tags, memory windows, denials and partition faults (§4.6), the
gaskets they pass (R116, R117), and accesses of the blocks' own engines, which are sequences of requests of at most
256 bytes (R148). -/

namespace Sys2Proof.Machine

/-- The status of a code of Table 0.5 or Table 9.9; a code of neither, which no sender produces (R317), counts as no response.
[log 159 DESIGN CHOICE, unsafe] -/
def Status.ofCode (n : Nat) : Status :=
  match n with
  | 0x00 => .ok | 0x01 => .busy | 0x02 => .badArg | 0x03 => .notFound | 0x04 => .noSpace | 0x05 => .blockReset
  | 0x06 => .poisoned | 0x07 => .timeout | 0x08 => .accessDenied | 0x09 => .integrity | 0x0A => .stale
  | 0x0B => .stateRefused | 0x0C => .admitRefused | 0x0D => .peerLost | 0x0E => .keyUnavailable
  | 0x0F => .abortedByRouse | 0x10 => .leaseSeized
  | _ =>
    if [0x40, 0x48, 0x49, 0x50, 0x51, 0x52, 0x58, 0x60, 0x68, 0x69, 0x6A, 0x70, 0x71].contains n then .op (n - 0x40) else .timeout

/-- Precedence of a terminating condition (R10, Table 0.6). -/
def Status.rank : Status → Nat
  | .abortedByRouse => 1 | .leaseSeized => 2 | .blockReset => 3 | .peerLost => 4 | .accessDenied => 5
  | .poisoned => 6 | .integrity => 7 | .timeout => 8 | .ok => 10 | _ => 9

/-- The code carried when two conditions end one operation (R10). -/
def Status.worse (a b : Status) : Status :=
  if a = .ok then b else if b = .ok then a
  else if a.rank < b.rank then a else if b.rank < a.rank then b
  else if a.code ≤ b.code then a else b

namespace State

/-- The issuing gasket of a requester (Table 3.11). [log 55 DESIGN CHOICE, unsafe] -/
def gskOf : Requester → Nat
  | .tile t => t
  | .mover m _ => 80 + m
  | .steward k _ => 96 + k
  | .lse _ => 100
  | .fusion _ => 101
  | .strainer => 102
  | .pcie _ => 111
  | .mac m _ => 113 + m
  | .loom via _ => if via < 8 then 103 + via else 114
  | .warden => 118
  | .security => 117
  | .debug => 118

/-- The enclosure tag the gasket gives a request (R153, Table 4.5); 0xF where there is none. -/
def tagOf (s : State) : Requester → Nat
  | .tile t => s.tileOwner t
  | .mover m c => (s.mchan m c).encl - 1
  | .steward _ e => e
  | .lse e => e
  | .fusion e => e
  | .strainer => 1
  | .pcie e => e
  | .mac _ e => e
  | .loom _ e => e
  | .warden => 0
  | .security => 0
  | .debug => 0

/-- The requester is not window-checked (Table 4.5, R639). -/
def unchecked : Requester → Bool
  | .warden => true
  | .security => true
  | .debug => true
  | _ => false

/-- Bit of WINDOWS.PERM an operation needs (Table 2.7): READ, WRITE, ATOMIC. -/
def permBit : WOp → Nat
  | .read => 0 | .write => 1 | .atomic => 2

/-- GSK_DENY_LOG2.OP of an operation. -/
def opCode : WOp → Nat
  | .read => 0 | .write => 1 | .atomic => 2

/-- The node field and the local part of a global address (R139). -/
def nodeOf (a : Nat) : Nat := a / 2 ^ 54 % 1024
def localOf (a : Nat) : Nat := a % 2 ^ 54

/-- The request is loom-bound (R139). -/
def loomBound (s : State) (a : Nat) : Bool := nodeOf a ≠ s.nodeId

/-- Register block of a local address, when it names register space. -/
def blockAt (a : Nat) : Option Nat :=
  match placeOf 0 a with
  | .regs b => some b
  | _ => none

/-- What the issuing gasket answers (R154, Table 4.6): none when the request passes, else the reason. -/
def windowCheck (s : State) (who : Requester) (op : WOp) (addr len : Nat) : Option Nat :=
  let tag := s.tagOf who
  let a := localOf addr
  if s.loomBound addr then
    if s.ward.st = .steep ∧ bitOf ((s.steepImg.map (·.vc3)).getD 0) tag ∧ !unchecked who then none else some 3
  else if unchecked who then (if placeOf s.usable a = .unmapped then some 2 else none)
  else if placeOf s.usable a = .secPrivate then some 1
  else if (match blockAt a with | some b => systemOnlyBlock b && decide (tag ≠ 0) | none => false) then some 1
  else if placeOf s.usable a = .unmapped then some 2
  else
    let ws := (s.windowsOf tag).filter (·.covers a len)
    if ws = [] then some 4
    else if ws.any (·.can (permBit op)) then none
    else some 5

/-- A partition fault on a tag's enclosure (R156): reported, and a QM enclosure is ABORTING from then on; nothing more
for an enclosure that is aborting or aborted already. -/
def raisePartition (s : State) (tag gsk : Nat) : State :=
  let en := s.enclSt tag
  if en.st = .aborting || en.st = .aborted then s
  else
    let s1 := s.post { fault := .partition, attr := .tag tag, gsk := gsk }
    if s1.isQm tag then s1.setEncl tag { en with st := .aborting } else s1

/-- A denial (R155, R156, R138): counted for its tag, captured when the log is free, and a partition fault raised
unless the requester is the warden or the security block. -/
def deny (s : State) (tag gsk op reason addr : Nat) (fault : Bool) : State :=
  let s1 := s.bump (Reg.denyCnt (tag % 8)) 15 0
  let s2 := if s1.fld Reg.denyLog2 31 31 = 1 then s1
    else ((s1.setReg Reg.denyLog0 (BitVec.ofNat 32 addr)).setReg Reg.denyLog1 (BitVec.ofNat 32 (addr / 2 ^ 32))).setReg
      Reg.denyLog2 (BitVec.ofNat 32 (tag % 8 + (gsk % 128) * 8 + (op % 4) * 0x400 + (reason % 16) * 0x1000 + 0x80000000))
  if fault then s2.raisePartition tag gsk else s2

/-- A response arrives at its requester's gasket: the request leaves the tracker. A SEALED gasket discards and counts it
(R117). A tile's fence no longer waits for it, and a code other than OK is its kernel's, POISONED of a read as the sticky
flag (R228, R229). -/
def respDone (s : State) (q : WReq) (st : Status) (d : List Byte) : State :=
  let gone := s.weave.outst.filter (·.id ≠ q.id)
  if (s.gasket q.src).st = .sealed then
    { s with weave := { s.weave with outst := gone } }.bump (Reg.gskStat q.src) 31 16
  else
    let t := { s with weave := { s.weave with
      outst := gone, done := s.weave.done ++ [{ id := q.id, src := q.src, vc := if q.vc = 2 then 2 else 1, status := st, data := d }] } }
    if q.src < 64 then
      t.modTile q.src fun x =>
        { x with fence := x.fence.filter (· ≠ q.id)
                 poison := x.poison || (x.st == .running || x.st == .stalled) && st == .poisoned && q.read
                 code := if (x.st == .running || x.st == .stalled) && st != .ok && !(st == .poisoned && q.read)
                   then some ((x.code.getD .ok).worse st) else x.code }
    else t

/-- The response of a closed target gasket (R116, R117): none when it is OPEN. -/
def gasketAnswer (s : State) (g : Nat) : Option Status :=
  let x := s.gasket g
  match x.st with
  | .opened => none
  | .draining => some .busy
  | .sealed => some (if x.inReset || !x.powered then .blockReset else .busy)

/-- The class check of a register block on a request that has passed its windows (R698, R308, R253): true admits. -/
def classAdmits (s : State) (b off tag : Nat) : Bool :=
  if 0x38 ≤ b ∧ b < 0x40 then
    let e := b - 0x38
    let page := if 0x100 ≤ off ∧ off < 0x500 then (off - 0x100) / 0x40 < (s.enclRec e).queues else true
    tag == e && page
  else if 0x20 ≤ b ∧ b < 0x30 then
    let m := b - 0x20
    if 0x1000 ≤ off ∧ off < 0x1800 then (s.mchan m ((off - 0x1000) / 0x40)).encl == tag + 1
    else tag == 0
  else if 0x40 ≤ b ∧ b < 0x80 then tag == 0 || s.tileOwner (b - 0x40) == tag
  else tag == 0

/-- A class refusal (R698): counted and captured with reason 6, a partition fault on the tag, FOREIGN at a mover. -/
def classRefuse (s : State) (who : Requester) (op : WOp) (b addr : Nat) : State :=
  let s1 := if 0x20 ≤ b ∧ b < 0x30 then s.bump (0x200000 + 0x10000 * (b - 0x20)) 31 16 else s
  s1.deny (s1.tagOf who) (gskOf who) (opCode op) 6 addr true

/-- The warden's view of a block: its registers answer while it is powered and out of reset (R699).
[log 56 DESIGN CHOICE, unsafe] -/
def regsAnswer (s : State) (b : Nat) : Bool :=
  let g := blockGasket b
  decide (116 ≤ g) || ((s.gasket g).powered && !(s.gasket g).inReset)

/-! ### Limits at the issuing gasket (R116, R152) -/

/-- The limit of a requester (Table 4.4); none for the warden, the security block and the MACs. -/
def issueLimit : Requester → Option Nat
  | .tile _ => some 64
  | .mover _ _ => some 256
  | .steward _ _ => some 32
  | .lse _ => some 128
  | .fusion _ => some 64
  | .strainer => some 128
  | .pcie _ => some 256
  | .loom _ _ => some 256
  | _ => none

/-- A tile's sequencer issues a request: its kernel runs and no fence holds it; the prefetch engine's share leaves it the rest of
the tile's requests (R229, R231, R234, R235). -/
def tileHolds (s : State) (t : Nat) : Bool :=
  let x := s.tile t
  x.st != .running || !x.fence.isEmpty || x.fencePf != 0
    || decide (64 ≤ (s.weave.outst.filter (·.src = t)).length + fillReqs x)

/-- The requester stalls: its gasket is not OPEN, it is at its limit, a tile's sequencer is held, or enclosure 1 is resident, which
issues nothing in STEEP (R162). -/
def stalls (s : State) (who : Requester) : Bool :=
  let g := gskOf who
  (decide (g < 116) && (s.gasket g).st != .opened)
    || (match issueLimit who with
        | some n => decide (n ≤ (s.weave.outst.filter (·.src = g)).length)
        | none => false)
    || (match who with | .tile t => s.tileHolds t | _ => false)
    || (s.ward.st == .steep && !unchecked who && s.tagOf who == 1)

/-! ### Lease words of commons past their time (R163) -/

/-- The commons slice of an address. -/
def sliceOf (a : Nat) : Nat := (a - 0x1000000000) / 0x400000

/-- The slice's µs count (Table 4.8). -/
def sliceUs (s : State) : Nat := s.upNs / 1000 % 2 ^ 32

/-- A lease word whose lease has ended by expiry or seizure. -/
def endedWord (w : Nat) (seized : Bool) : Nat := w / 8 * 8 + 2 + 4 * b2n seized

/-- The lease on a commons word ends (R163, R167): the word is an ordinary word again. -/
def endCommons (s : State) (a : Nat) (seized : Bool) : State :=
  let t := s.wrNat a 8 (endedWord (s.rdNat a 8) seized)
  { t with weave := { t.weave with live := t.weave.live.filter (· ≠ a) } }

/-- When the lease of a live commons word expires, by the model's clock: EXPIRY is at most 2^31 µs ahead.
[log 51 DESIGN CHOICE, unsafe] -/
def commonsExpiry (s : State) (a : Nat) : Nat :=
  let d := (bitsOf (s.rdNat a 8) 63 32 + 2 ^ 32 - s.sliceUs) % 2 ^ 32
  if d < 2 ^ 31 then (s.upNs / 1000 + d) * 1000 else s.upNs

/-- Leases whose expiry lies before the present cycle are ended before a seizure reaches them (§4.8 Corner cases). -/
def commonsGone (s : State) : State :=
  s.weave.live.foldl (fun t a => if t.commonsExpiry a < t.upNs then t.endCommons a false else t) s

/-- Leases of commons words past their expiry are ended before anything else looks at them (R163). -/
def commonsTick (s : State) : State :=
  s.weave.live.foldl (fun t a => if t.commonsExpiry a ≤ t.upNs then t.endCommons a false else t) s

/-! ### Requests to register space (R698, R699) -/

/-- The local address of a register key. -/
def regAddr (k : Nat) : Nat := 0x1200000000 + k

/-- The global address of a register key on this device (R139). -/
def regAt (s : State) (k : Nat) : Nat := regAddr k + s.nodeId * 2 ^ 54

/-- What stops a register request before the register sees it (R154, R698, R699, R700, R6): the code of its response and
the state with the denial, or none when it reaches the register. `aligned` is R6's check. [log 56 DESIGN CHOICE, unsafe] -/
def regGate (s : State) (who : Requester) (op : WOp) (k : Nat) (aligned : Bool) : Option (Status × State) :=
  let b := k / 0x10000
  if !s.answers then some (.timeout, s)
  else match s.windowCheck who op (s.regAt (k / 4 * 4)) 4 with
  | some r => some (.accessDenied, s.deny (s.tagOf who) (gskOf who) (opCode op) r (s.regAt k) (!unchecked who))
  | none =>
    if !s.classAdmits b (k % 0x10000) (s.tagOf who) then some (.accessDenied, s.classRefuse who op b (s.regAt k))
    else if !aligned then some (.badArg, s.sysErr 2 k (s.tagOf who))
    else if !s.regsAnswer b then some (.blockReset, s)
    else none

/-! ### What the outside answers -/

/-- A read that leaves the device: the answer the outside gives for these bytes, TIMEOUT when it gives none within
the bound (R300). [log 16 DESIGN CHOICE, safe] -/
def extRead (ext : List ExtData) (addr len : Nat) : Status × List Byte :=
  match ext.find? (fun x => decide (x.addr ≤ addr ∧ addr + len ≤ x.addr + x.data.length) || (x.addr = addr ∧ x.status ≠ 0)) with
  | none => (.timeout, [])
  | some x =>
    if x.status = 0 then (.ok, sliceAt x.data (addr - x.addr) len)
    else (Status.ofCode x.status, if Status.ofCode x.status = .poisoned then List.replicate len 0 else [])

/-- What the outside answers to a write that leaves the device: OK unless `ext` answers its address with a failure. -/
def extWrite (ext : List ExtData) (addr : Nat) : Status :=
  match ext.find? (fun x => x.addr = addr ∧ x.status ≠ 0) with
  | some x => Status.ofCode x.status
  | none => .ok

/-- An engine's loom-bound request on its way (R139, R140, R549, R551): refused where its node is in no view or has no route,
else a packet on VC3 to the link the routing table selects. Its response is the operand's, taken in the same command; one
that denies it raises the partition fault on its enclosure (R550). [log 16 DESIGN CHOICE, safe; 155 DESIGN CHOICE, unsafe] -/
def loomEngine (s : State) (who : Requester) (opc addr len : Nat) (d : List Byte) (answer : Status × List Byte) :
    Status × List Byte × State :=
  let node := nodeOf addr
  if !s.inView node then (if s.loom.seen.contains node then .peerLost else .notFound, [], s)
  else if s.routeTo node = .none then (.peerLost, [], s)
  else
    let h : LHdr := { dst := node, src := s.nodeId, opc := opc, encl := s.tagOf who, tid := s.loom.nextTid, size := len - 1,
                      addr := localOf addr }
    let t := match s.viaOf (s.routeTo node) with
      | none => s
      | some (via, u) => ({ u with loom := { u.loom with nextTid := (u.loom.nextTid + 1) % 2 ^ 16 } }).sendPkt via (lpkt 0 h d)
    (answer.1, answer.2,
      if answer.1 = .accessDenied then (t.bump (Reg.denyCnt (s.tagOf who % 8)) 15 0).raisePartition (s.tagOf who) (gskOf who) else t)

/-- An engine's request through the PCIe 5.0 port while its link is down ends with TIMEOUT and is counted (R676). -/
def pcieEngine (s : State) (answer : Status × List Byte) : Status × List Byte × State :=
  if s.pcie.linkUp then (answer.1, answer.2, s) else (.timeout, [], s.bump Reg.pcieCnt 15 8)

/-- A DRAM or commons request of an engine stands in the trackers while it is served: PEAK counts it (R152, R172). -/
def countPeak (s : State) (who : Requester) (p : Place) : State :=
  if unchecked who || !decide (64 ≤ p.gasket ∧ p.gasket < 80) then s
  else { s with weave := { s.weave with peak := max s.weave.peak ((s.weave.outst.filter (·.counted)).length + 1) } }

/-! ### Memory keys (R198) -/

/-- The key slot of an encrypted window (R198). -/
def slotOfWindow (w : Window) : Nat := if w.shared then 8 else w.encl

/-- The key, plus one, of the slot that the issuing gasket attaches to a request from the window that passes it; 0 where that
window is not encrypted. The warden, the security block and the debug port act as enclosure 0. [log 37 DESIGN CHOICE, unsafe] -/
def slotKey (s : State) (who : Requester) (a len : Nat) : Nat :=
  match (s.windowsOf (s.tagOf who)).find? (·.covers a len) with
  | some w => if w.encrypted then s.sec.slots.getD (slotOfWindow w) 0 else 0
  | none => 0

/-- A block of memory that a block of the device fills with zero through a requester's window. -/
def zeroThrough (s : State) (who : Requester) (lo hi : Nat) : State :=
  let t := s.zeroRange lo hi
  let k := s.slotKey who lo (hi - lo)
  if k = 0 then t else (unitsOf 32 lo (hi - lo)).foldl (fun u g => u.setKeyed g k) t

/-! ### The security block's private space (R137) -/

/-- The security block's private space holds bytes of its own, which only the warden and the security block reach; what the
block keeps there the specification does not lay out. [log 156 DESIGN CHOICE, unsafe] -/
def privRead (s : State) (a len : Nat) : Status × List Byte × State := (.ok, s.rdBytes a len, s)
def privWrite (s : State) (a : Nat) (bs : List Byte) : State := s.wrBytes a bs

/-! ### One request and runs of requests -/

/-- The bytes of an answer with the mask of those that are poisoned: all of a POISONED answer (R189). -/
def masked (x : Status × List Byte × State) : Status × List Byte × List Bool × State :=
  (x.1, x.2.1, List.replicate x.2.1.length (x.1 == .poisoned), x.2.2)

/-- The flit fault that the request at `addr` meets, if any. -/
def flitOf (ups : List Upset) (addr : Nat) : Option (Nat × Bool) :=
  (ups.find? fun u => u.flit.isSome && u.unit == addr).bind (·.flit)

/-- A packet with a parity error is discarded and the detecting router reports it, attributed by the packet's tag; the untagged
requesters' packets count as enclosure 0's (R583, R588). -/
def flitLost (s : State) (tag router : Nat) : State :=
  s.post { fault := .weaveParity, attr := .tag tag, gsk := router % 119 }

/-- A read request past its gasket: the target gasket, then the array, the register or the outside. Answers the status, the
data and which of its bytes are poisoned. -/
def passRead (s : State) (who : Requester) (addr len : Nat) (ext : List ExtData) (ups : List Upset) :
    Status × List Byte × List Bool × State :=
  let a := localOf addr
  if s.loomBound addr then masked (s.loomEngine who opcRead addr len [] (extRead ext addr len))
  else
    let p := placeOf s.usable a
    match p with
    | .regs _ =>
      (match s.regGate who .read (a - 0x1200000000) (decide (len = 4 ∧ a % 4 = 0)) with
       | some (st, t) => masked (st, [], t)
       | none => let (w, t) := s.regRead (a - 0x1200000000); masked (.ok, leBytes 4 w.toNat, t))
    | .secPrivate => masked (s.privRead a len)
    | _ =>
      match s.gasketAnswer p.gasket with
      | some st => masked (st, [], s)
      | none =>
        if p.isArray then (s.commonsTick.countPeak who p).memReadP a len (s.slotKey who a len) (s.tagOf who) ups
        else if p = .pcieOut then masked (s.pcieEngine (extRead ext addr len))
        else masked ((extRead ext addr len).1, (extRead ext addr len).2, s)

/-- One read request by a block's engine: window check, then its way over the weave. -/
def requestP (s : State) (who : Requester) (addr len : Nat) (ext : List ExtData) (ups : List Upset) :
    Status × List Byte × List Bool × State :=
  match s.windowCheck who .read addr len with
  | some r => (.accessDenied, [], [], s.deny (s.tagOf who) (gskOf who) (if r = 3 then 3 else 0) r addr (!unchecked who))
  | none =>
    match flitOf ups addr with
    | some (r, false) => (.integrity, [], [], s.flitLost (s.tagOf who) r)
    | some (r, true) => (.integrity, [], [], (s.passRead who addr len ext ups).2.2.2.flitLost (s.tagOf who) r)
    | none => s.passRead who addr len ext ups

/-- A write request past its gasket. A register write is on its way until the next command that looks at registers.
[log 155 DESIGN CHOICE, unsafe] -/
def passWrite (s : State) (who : Requester) (addr : Nat) (bs : List Byte) (mask : List Bool) (ext : List ExtData)
    (ups : List Upset) : Status × State :=
  let a := localOf addr
  if s.loomBound addr then
    let (st, _, t) := s.loomEngine who opcWrite addr bs.length bs (extWrite ext addr, [])
    (st, t)
  else
    let p := placeOf s.usable a
    match p with
    | .regs _ =>
      (match s.regGate who .write (a - 0x1200000000) (decide (bs.length = 4 ∧ a % 4 = 0)) with
       | some (st, t) => (st, t)
       | none => (.ok, { s with regDue := s.regDue ++ [(who, a - 0x1200000000, leNat bs)] }))
    | .secPrivate => (.ok, s.privWrite a bs)
    | _ =>
      match s.gasketAnswer p.gasket with
      | some st => (st, s)
      | none =>
        if p.isArray then
          let t := s.commonsTick.countPeak who p
          if (match p with | .commons _ => t.weave.live.any (fun w => decide (a < w + 8 ∧ w < a + bs.length)) | _ => false)
          then (.busy, t)
          else t.memWriteP a bs mask (s.slotKey who a bs.length) (s.tagOf who) ups
        else if p = .pcieOut then
          let (st, _, t) := s.pcieEngine (extWrite ext addr, [])
          (st, t)
        else (extWrite ext addr, s)

/-- One write request by a block's engine, with the bytes that are poisoned. -/
def requestWriteP (s : State) (who : Requester) (addr : Nat) (bs : List Byte) (mask : List Bool) (ext : List ExtData)
    (ups : List Upset) : Status × State :=
  match s.windowCheck who .write addr bs.length with
  | some r => (.accessDenied, s.deny (s.tagOf who) (gskOf who) (if r = 3 then 3 else 1) r addr (!unchecked who))
  | none =>
    match flitOf ups addr with
    | some (r, false) => (.integrity, s.flitLost (s.tagOf who) r)
    | some (r, true) => (.integrity, (s.passWrite who addr bs mask ext ups).2.flitLost (s.tagOf who) r)
    | none => s.passWrite who addr bs mask ext ups

/-- The requests a run of bytes splits into: (address, length) pieces inside 256-byte blocks (R148). `fuel` bounds the
number of pieces. -/
def pieces : Nat → Nat → Nat → List (Nat × Nat)
  | 0, _, _ => []
  | fuel + 1, a, n =>
    if n = 0 then []
    else
      let k := min n (256 - a % 256)
      (a, k) :: pieces fuel (a + k) (n - k)

/-- The pieces of [a, a + n). -/
def split (a n : Nat) : List (Nat × Nat) := pieces (n / 256 + 2) a n

/-- A run of reads: stops at the first code that is neither OK nor POISONED; POISONED data is zero (Table 5.3). -/
def readRunP (s : State) (who : Requester) (addr n : Nat) (ext : List ExtData) (ups : List Upset) :
    Status × List Byte × List Bool × State :=
  (split addr n).foldl (fun (acc : Status × List Byte × List Bool × State) x =>
    if acc.1 = .ok ∨ acc.1 = .poisoned then
      let (st, d, m, t) := acc.2.2.2.requestP who x.1 x.2 ext ups
      (acc.1.worse st, acc.2.1 ++ d, acc.2.2.1 ++ m, t)
    else acc) (.ok, [], [], s)

/-- A run of reads without the poison mask. -/
def readRun (s : State) (who : Requester) (addr n : Nat) (ext : List ExtData) (ups : List Upset) :
    Status × List Byte × State :=
  let (st, d, _, t) := s.readRunP who addr n ext ups
  (st, d, t)

/-- A run of writes, stopping at the first code that is neither OK nor POISONED. -/
def writeRunP (s : State) (who : Requester) (addr : Nat) (bs : List Byte) (mask : List Bool) (ext : List ExtData)
    (ups : List Upset) : Status × State :=
  (split addr bs.length).foldl (fun (acc : Status × State) x =>
    if acc.1 = .ok ∨ acc.1 = .poisoned then
      let (st, t) := acc.2.requestWriteP who x.1 (sliceAt bs (x.1 - addr) x.2) ((mask.drop (x.1 - addr)).take x.2) ext ups
      (acc.1.worse st, t)
    else acc) (.ok, s)

/-- A run of writes of plain bytes. -/
def writeRun (s : State) (who : Requester) (addr : Nat) (bs : List Byte) (ext : List ExtData) (ups : List Upset) :
    Status × State :=
  s.writeRunP who addr bs (List.replicate bs.length false) ext ups

end State
end Sys2Proof.Machine
end

