-- ==== Sys2Proof/Machine/Entry.lean ====
section
/-! DEFINITION. Command entries in flight (§9.3, §9.5): their fields, finding and changing one, how an operation ends,
and what a kernel or job of it contributes. -/

namespace Sys2Proof.Machine

/-- A common code that permits a successor (R309): OK, POISONED, STALE. -/
def Status.permits (s : Status) : Bool := s == .ok || s == .poisoned || s == .stale

namespace State

/-- The steward that serves an enclosure: the lowest its STEWARDS field names. [log 128 DESIGN CHOICE, unsafe] -/
def stewardOf (s : State) (e : Nat) : Requester :=
  .steward (((List.range 4).find? (bitOf (s.enclRec e).stewards)).getD 0) e

/-- The entry in flight with this SEQ. -/
def entry (s : State) (r : EntryRef) : Option Entry := (s.queue r.encl r.queue).flight.find? (·.seq = r.seq)

/-- Change the entry in flight with this SEQ. -/
def modEntry (s : State) (r : EntryRef) (f : Entry → Entry) : State :=
  let x := s.queue r.encl r.queue
  s.setQueue r.encl r.queue { x with flight := x.flight.map fun y => if y.seq = r.seq then f y else y }

/-- An operation ends: its first end stands (R302); a code from the same cycle is combined by the caller (R10). -/
def endEntry (s : State) (r : EntryRef) (e : Ending) : State :=
  s.modEntry r fun y => if y.ending.isSome then y else { y with ending := some e, endNs := s.upNs }

/-- The validity of a RUN completion from its own code (R310): INVALID unless OK or STALE, STALE when STALE. -/
def ownValidity (st : Status) : Nat := if st = .ok then 0 else if st = .stale then 2 else 3

/-- An entry ends with a code and RESULT; the validity and flags gathered so far are carried (R310, R312). -/
def finish (s : State) (r : EntryRef) (st : Status) (result : Nat) : State :=
  match s.entry r with
  | none => s
  | some y =>
    s.endEntry r { status := st, result := result, fpsum := y.fpsum,
                   validity := if y.cls = 1 then max y.validity (ownValidity st) else 0,
                   part := y.wrote && !st.permits }

/-- A kernel or job of an operation contributes its code, validity and flags (R310, R311, R312): a code other than
OK, POISONED and STALE ends the operation. -/
def contribute (s : State) (r : EntryRef) (st : Status) (validity fp : Nat) (wrote : Bool) : State :=
  let s1 := s.modEntry r fun y =>
    { y with validity := max y.validity validity, fpsum := y.fpsum ||| fp, wrote := y.wrote || wrote,
             poisoned := y.poisoned || st == .poisoned }
  if st.permits then s1 else s1.finish r st 0

/-- The queue numbers of an enclosure (at most 16). -/
def queueIds : List Nat := List.range 16

/-- Every entry of an enclosure that is in flight and has not ended ends with a code. -/
def endAll (s : State) (e : Nat) (st : Status) : State :=
  queueIds.foldl (fun t q =>
    let x := t.queue e q
    t.setQueue e q { x with flight := x.flight.map fun y =>
      if y.ending.isSome then y
      else { y with ending := some { status := st, fpsum := y.fpsum, part := y.wrote,
                                     validity := if y.cls = 1 then 3 else 0 }, endNs := t.upNs } }) s

/-- ARGS-level view of a started entry of a class and operation: what an operation row runs for. -/
def running (s : State) (r : EntryRef) (cls op : Nat) : Option Entry :=
  match s.entry r with
  | some y => if y.started ∧ y.ending.isNone ∧ y.cls = cls ∧ y.op = op then some y else none
  | none => none

end State
end Sys2Proof.Machine
end

