-- ==== Sys2Proof/Machine/Operands.lean ====
section
/-! DEFINITION. Number formats (§8.1) and how they are read: floating formats with their special encodings, integers,
element types and the places of elements in each layout (§7.1, §7.2). -/

namespace Sys2Proof.Machine

/-- A floating format of Table 8.1. `ieee`: an all-ones exponent holds infinities and NaNs; otherwise (E4M3) only the
pattern with every bit below the sign set is a NaN. -/
structure Fmt where
  expBits : Nat
  fracBits : Nat
  ieee : Bool := true
  deriving DecidableEq, Repr

def e4m3 : Fmt := { expBits := 4, fracBits := 3, ieee := false }
def e5m2 : Fmt := { expBits := 5, fracBits := 2 }
def fp16 : Fmt := { expBits := 5, fracBits := 10 }
def bf16 : Fmt := { expBits := 8, fracBits := 7 }
def fp32 : Fmt := { expBits := 8, fracBits := 23 }
def fp64 : Fmt := { expBits := 11, fracBits := 52 }

namespace Fmt
/-- Width in bits. -/
def width (f : Fmt) : Nat := 1 + f.expBits + f.fracBits
/-- Exponent bias (Table 8.1). -/
def bias (f : Fmt) : Nat := 2 ^ (f.expBits - 1) - 1
/-- Exponent of the smallest normal value. -/
def emin (f : Fmt) : Int := 1 - (f.bias : Int)
/-- The pattern of the largest finite value without its sign (Table 8.1). -/
def maxPat (f : Fmt) : Nat := if f.ieee then (2 ^ f.expBits - 1) * 2 ^ f.fracBits - 1 else 2 ^ (f.expBits + f.fracBits) - 2
/-- The pattern of +∞. -/
def infPat (f : Fmt) : Nat := (2 ^ f.expBits - 1) * 2 ^ f.fracBits
/-- The canonical NaN (Table 8.1). -/
def nanPat (f : Fmt) : Nat := if f.ieee then f.infPat + 2 ^ (f.fracBits - 1) else 2 ^ (f.expBits + f.fracBits) - 1
/-- The pattern of a sign on top of a magnitude pattern. -/
def withSign (f : Fmt) (neg : Bool) (n : Nat) : Nat := n + b2n neg * 2 ^ (f.width - 1)
end Fmt

/-- What a floating pattern stands for: a NaN, an infinity, or (-1)^neg × mant × 2^exp exactly. -/
inductive Fp where
  | nan (signalling : Bool)
  | inf (neg : Bool)
  | fin (neg : Bool) (mant : Nat) (exp : Int)
  deriving DecidableEq, Repr

/-- Reading a pattern of a format (R272, R274). -/
def Fmt.read (f : Fmt) (n : Nat) : Fp :=
  let neg := bitOf n (f.width - 1)
  let e := bitsOf n (f.width - 2) f.fracBits
  let frac := n % 2 ^ f.fracBits
  if f.ieee ∧ e = 2 ^ f.expBits - 1 then
    if frac = 0 then .inf neg else .nan (!bitOf frac (f.fracBits - 1))
  else if !f.ieee ∧ n % 2 ^ (f.width - 1) = f.nanPat then .nan false
  else if e = 0 then .fin neg frac (f.emin - f.fracBits)
  else .fin neg (2 ^ f.fracBits + frac) ((e : Int) - f.bias - f.fracBits)

/-- The value is zero. -/
def Fp.isZero : Fp → Bool
  | .fin _ 0 _ => true
  | _ => false

/-- The value is a NaN. -/
def Fp.isNan : Fp → Bool
  | .nan _ => true
  | _ => false

/-- The value is a NaN or an infinity. -/
def Fp.isSpecial : Fp → Bool
  | .nan _ => true
  | .inf _ => true
  | _ => false

/-- The sign of a value. -/
def Fp.neg? : Fp → Bool
  | .nan _ => false
  | .inf n => n
  | .fin n _ _ => n

/-- The value with its sign flipped. -/
def Fp.negate : Fp → Fp
  | .nan q => .nan q
  | .inf n => .inf !n
  | .fin n m e => .fin (!n) m e

/-- The unbiased exponent of a finite value, zero and subnormals counting as the format's minimum normal exponent
(R221). -/
def Fmt.exponentOf (f : Fmt) : Fp → Int
  | .fin _ m e => if m = 0 then f.emin else max f.emin ((Nat.log2 m : Int) + e)
  | _ => f.emin

/-! ### Element types and layouts (§7.1, §7.2) -/

/-- Element size in bits (R247, Table 7.1). -/
def elemBits (etype : Nat) : Nat :=
  match etype % 16 with
  | 0 => 4 | 4 => 16 | 5 => 16 | 6 => 32 | 7 => 32 | _ => 8

/-- The layouts of Table 7.2; code 3 is handled as LINEAR. -/
inductive Layout where
  | linear | blocked | panel
  deriving DecidableEq, Repr

def Layout.ofCode (n : Nat) : Layout :=
  match n % 4 with
  | 1 => .blocked | 2 => .panel | _ => .linear

/-- Offset of element (r, c) of an R × C plane, in half bytes (R248, R249): `es` bits an element, row stride `s`. -/
def elemOffset (l : Layout) (rows cols es s r c : Nat) : Nat :=
  let cb := (cols + 63) / 64
  let kt := (rows + 63) / 64
  match l with
  | .linear => 2 * r * s + c * (es / 4)
  | .blocked => 2 * (((r / 32) * cb + c / 64) * 256 * es) + ((r % 32) * 64 + c % 64) * (es / 4)
  | .panel => 2 * (((c / 64) * kt + r / 64) * 512 * es) + ((r % 64) * 64 + c % 64) * (es / 4)

/-- Bytes of a padded plane (Table 7.2); 0 for LINEAR, which has no padded extent. -/
def paddedBytes (l : Layout) (rows cols es : Nat) : Nat :=
  match l with
  | .linear => 0
  | .blocked => (rows + 31) / 32 * ((cols + 63) / 64) * 256 * es
  | .panel => (rows + 63) / 64 * ((cols + 63) / 64) * 512 * es

end Sys2Proof.Machine
end

