-- ==== Sys2Proof/Machine/Flags.lean ====
section
/-! DEFINITION. Rounding and flags (chapter 8): correctly rounded results in every format, the LSE's operations with
the flag byte of Table 8.4, the tensor engine's and the vector unit's arithmetic with the summary flags of Table 8.7. -/

namespace Sys2Proof.Machine

/-- The rounding modes of Table 8.3. -/
inductive Rnd where
  | rne | rtz | rup | rdn
  deriving DecidableEq, Repr

def Rnd.ofCode (n : Nat) : Rnd :=
  match n % 4 with
  | 0 => .rne | 1 => .rtz | 2 => .rup | _ => .rdn

/-- `m` / 2^`sh` rounded to an integer in a mode; `neg` is the sign of the value. -/
def shiftRound (md : Rnd) (neg : Bool) (m : Nat) (sh : Int) : Nat :=
  if sh ≤ 0 then m * 2 ^ (-sh).toNat
  else
    let k := sh.toNat
    let q := m / 2 ^ k
    let rem := m % 2 ^ k
    let half := 2 ^ (k - 1)
    let up := match md with
      | .rne => decide (half < rem) || (decide (rem = half) && decide (q % 2 = 1))
      | .rtz => false
      | .rup => !neg && decide (rem ≠ 0)
      | .rdn => neg && decide (rem ≠ 0)
    q + b2n up

/-- A shift of `m` by `sh` places loses no one bit. -/
def shiftExact (m : Nat) (sh : Int) : Bool := decide (sh ≤ 0) || decide (m % 2 ^ sh.toNat = 0)

/-- What rounding an exact nonzero value yields: the pattern, and the events of R276 and R277. -/
structure Rounded where
  pat : Nat
  overflow : Bool := false
  tiny : Bool := false
  inexact : Bool := false
  deriving DecidableEq, Repr

/-- The pattern of r × 2^q with p = fracBits + 1 significant bits at most (r may be 2^p after a carry). -/
def Fmt.pack (f : Fmt) (r : Nat) (q : Int) : Nat :=
  if r < 2 ^ f.fracBits then r
  else if r = 2 ^ (f.fracBits + 1) then (q + 1 + f.fracBits + f.bias).toNat * 2 ^ f.fracBits
  else (q + f.fracBits + f.bias).toNat * 2 ^ f.fracBits + (r - 2 ^ f.fracBits)

/-- Rounding (-1)^neg × m × 2^e, m ≠ 0, to a format with full subnormals (R275 to R277): tininess after rounding with
an unbounded exponent; overflow judged on the same rounding. An overflow in a format without infinities delivers its
NaN. -/
def Fmt.round (f : Fmt) (md : Rnd) (neg : Bool) (m : Nat) (e : Int) : Rounded :=
  let msb : Int := (Nat.log2 m : Int) + e
  let q0 : Int := msb - f.fracBits
  let r0 := shiftRound md neg m (q0 - e)
  let msb0 : Int := if r0 = 2 ^ (f.fracBits + 1) then msb + 1 else msb
  let q1 := max q0 (f.emin - f.fracBits)
  let r1 := shiftRound md neg m (q1 - e)
  let exact := shiftExact m (q1 - e)
  let topExp : Int := if f.ieee then f.bias else (f.bias : Int) + 1
  let beyond := decide (topExp < msb0) || (!f.ieee && decide (msb0 = topExp) && decide (r0 = 2 ^ (f.fracBits + 1) - 1))
  if beyond then
    let toInf := match md with
      | .rne => true | .rtz => false | .rup => !neg | .rdn => neg
    { pat := f.withSign neg (if toInf then (if f.ieee then f.infPat else f.nanPat) else f.maxPat)
      overflow := true, inexact := true }
  else { pat := f.withSign neg (f.pack r1 q1), tiny := decide (msb0 < f.emin), inexact := !exact }

/-- The pattern of a zero of a sign. -/
def Fmt.zero (f : Fmt) (neg : Bool) : Nat := f.withSign neg 0

/-- Flag byte bits of Table 8.4. -/
def flNV : Nat := 1
def flDZ : Nat := 2
def flOF : Nat := 4
def flUF : Nat := 8
def flNX : Nat := 16

/-- The flags of a rounding (R277): UF only when tiny and inexact. -/
def Rounded.flags (r : Rounded) : Nat :=
  (if r.overflow then flOF else 0) + (if r.tiny && r.inexact then flUF else 0) + (if r.inexact then flNX else 0)

/-- An exact sum m × 2^e of two signed terms: sign and magnitude at the lower exponent. -/
def exactSum (na : Bool) (ma : Nat) (ea : Int) (nb : Bool) (mb : Nat) (eb : Int) : Int × Int :=
  let e := min ea eb
  let va : Int := (ma * 2 ^ (ea - e).toNat : Nat)
  let vb : Int := (mb * 2 ^ (eb - e).toNat : Nat)
  ((if na then -va else va) + (if nb then -vb else vb), e)

/-! ### LSE operations (R279 to R283) -/

/-- The result of an LSE operation with its flags. -/
structure LseRes where
  pat : Nat
  flags : Nat := 0
  deriving DecidableEq, Repr

/-- A rounded result with flags, or the exact zero of a sign. -/
def lseRound (f : Fmt) (md : Rnd) (v : Int) (e : Int) (zeroNeg : Bool) : LseRes :=
  if v = 0 then { pat := f.zero zeroNeg }
  else
    let r := f.round md (decide (v < 0)) v.natAbs e
    { pat := r.pat, flags := r.flags }

/-- NV with the canonical NaN (R281). -/
def lseNV : LseRes := { pat := fp64.nanPat, flags := flNV }
/-- The canonical NaN with no flag (R281). -/
def lseNan : LseRes := { pat := fp64.nanPat }

/-- One of the operands is a signalling NaN. -/
def anySnan (l : List Fp) : Bool := l.any fun x => match x with
  | .nan true => true
  | _ => false

/-- Sign of an exact zero sum (R278): of like signs theirs, of opposite signs + but − in RDN. -/
def zeroSign (md : Rnd) (na nb : Bool) : Bool := if na = nb then na else decide (md = .rdn)

/-- Add in binary64. -/
def lseAdd (md : Rnd) (x y : Nat) : LseRes :=
  let a := fp64.read x
  let b := fp64.read y
  if anySnan [a, b] then lseNV
  else match a, b with
    | .nan _, _ => lseNan
    | _, .nan _ => lseNan
    | .inf n, .inf k => if n = k then { pat := fp64.withSign n fp64.infPat } else lseNV
    | .inf n, _ => { pat := fp64.withSign n fp64.infPat }
    | _, .inf n => { pat := fp64.withSign n fp64.infPat }
    | .fin na ma ea, .fin nb mb eb =>
      let (v, e) := exactSum na ma ea nb mb eb
      lseRound fp64 md v e (zeroSign md na nb)

/-- Subtract in binary64: the sum with the second sign flipped; NaN operands are judged as they are. -/
def lseSub (md : Rnd) (x y : Nat) : LseRes := lseAdd md x (y ^^^ 2 ^ 63)

/-- Multiply in binary64. -/
def lseMul (md : Rnd) (x y : Nat) : LseRes :=
  let a := fp64.read x
  let b := fp64.read y
  if anySnan [a, b] then lseNV
  else match a, b with
    | .nan _, _ => lseNan
    | _, .nan _ => lseNan
    | .inf n, .inf k => { pat := fp64.withSign (n != k) fp64.infPat }
    | .inf n, .fin k m _ => if m = 0 then lseNV else { pat := fp64.withSign (n != k) fp64.infPat }
    | .fin k m _, .inf n => if m = 0 then lseNV else { pat := fp64.withSign (n != k) fp64.infPat }
    | .fin na ma ea, .fin nb mb eb =>
      let m := ma * mb
      lseRound fp64 md (if na != nb then -(m : Int) else m) (ea + eb) (na != nb)

/-- Fused multiply-add in binary64, one rounding (R279). -/
def lseFma (md : Rnd) (x y z : Nat) : LseRes :=
  let a := fp64.read x
  let b := fp64.read y
  let c := fp64.read z
  let infZero := match a, b with
    | .inf _, .fin _ m _ => decide (m = 0)
    | .fin _ m _, .inf _ => decide (m = 0)
    | _, _ => false
  if anySnan [a, b, c] || infZero then lseNV
  else if a.isNan || b.isNan || c.isNan then lseNan
  else
    let np := a.neg? != b.neg?
    match a, b, c with
    | .fin _ ma ea, .fin _ mb eb, .fin nc mc ec =>
      let (v, e) := exactSum np (ma * mb) (ea + eb) nc mc ec
      lseRound fp64 md v e (zeroSign md np nc)
    | .fin _ _ _, .fin _ _ _, .inf n => { pat := fp64.withSign n fp64.infPat }
    | _, _, .inf n => if n = np then { pat := fp64.withSign n fp64.infPat } else lseNV
    | _, _, _ => { pat := fp64.withSign np fp64.infPat }

/-- An exact quotient as an integer of many more bits than any format holds, with a last bit that stands for any
remainder. -/
def stickyDiv (ma mb : Nat) : Nat × Int :=
  let k := Nat.log2 mb + 130
  let n := ma * 2 ^ k
  (2 * (n / mb) + b2n (decide (n % mb ≠ 0)), -((k : Int) + 1))

/-- Divide in binary64. -/
def lseDiv (md : Rnd) (x y : Nat) : LseRes :=
  let a := fp64.read x
  let b := fp64.read y
  if anySnan [a, b] then lseNV
  else match a, b with
    | .nan _, _ => lseNan
    | _, .nan _ => lseNan
    | .inf _, .inf _ => lseNV
    | .inf n, .fin k _ _ => { pat := fp64.withSign (n != k) fp64.infPat }
    | .fin k _ _, .inf n => { pat := fp64.zero (n != k) }
    | .fin na ma ea, .fin nb mb eb =>
      let neg := na != nb
      if mb = 0 then (if ma = 0 then lseNV else { pat := fp64.withSign neg fp64.infPat, flags := flDZ })
      else if ma = 0 then { pat := fp64.zero neg }
      else
        let (m, e) := stickyDiv ma mb
        lseRound fp64 md (if neg then -(m : Int) else m) (ea - eb + e) neg

/-- Integer square root by bits, from bit `k` down: the largest r with r² ≤ n among those built on `acc`. -/
def sqrtBits (n : Nat) : Nat → Nat → Nat
  | 0, acc => if (acc + 1) * (acc + 1) ≤ n then acc + 1 else acc
  | k + 1, acc =>
    let r := acc + 2 ^ (k + 1)
    sqrtBits n k (if r * r ≤ n then r else acc)

/-- The integer square root of a number of at most 512 bits. -/
def isqrt (n : Nat) : Nat := sqrtBits n 256 0

/-- Square root in binary64. -/
def lseSqrt (md : Rnd) (x : Nat) : LseRes :=
  match fp64.read x with
  | .nan sn => if sn then lseNV else lseNan
  | .inf n => if n then lseNV else { pat := fp64.infPat }
  | .fin n m e =>
    if m = 0 then { pat := fp64.zero n }
    else if n then lseNV
    else
      -- an even exponent and many more bits than the format holds
      let sh : Nat := if e % 2 = 0 then 200 else 201
      let big := m * 2 ^ sh
      let r := isqrt big
      let m' := 2 * r + b2n (decide (r * r ≠ big))
      lseRound fp64 md (m' : Int) ((e - sh) / 2 - 1) false

/-- Conversion of a binary64 value to binary32. -/
def lseToF32 (md : Rnd) (x : Nat) : LseRes :=
  match fp64.read x with
  | .nan sn => { pat := fp32.nanPat, flags := if sn then flNV else 0 }
  | .inf n => { pat := fp32.withSign n fp32.infPat }
  | .fin n m e => lseRound fp32 md (if n then -(m : Int) else m) e n

/-- Conversion of a binary64 value to a signed integer of `w` bits (R281). -/
def lseToInt (w : Nat) (md : Rnd) (x : Nat) : LseRes :=
  let top : Int := (2 ^ (w - 1) : Nat) - 1
  let bot : Int := -(2 ^ (w - 1) : Nat)
  match fp64.read x with
  | .nan _ => { pat := 0, flags := flNV }
  | .inf n => { pat := ofSigned w (if n then bot else top), flags := flNV }
  | .fin n m e =>
    let r := shiftRound md n m (-e)
    let v : Int := if n then -(r : Int) else r
    if top < v then { pat := ofSigned w top, flags := flNV }
    else if v < bot then { pat := ofSigned w bot, flags := flNV }
    else { pat := ofSigned w v, flags := if shiftExact m (-e) then 0 else flNX }

/-- The exact conversion of a binary32 value to binary64. -/
def lseFromF32 (x : Nat) : LseRes :=
  match fp32.read x with
  | .nan sn => { pat := fp64.nanPat, flags := if sn then flNV else 0 }
  | .inf n => { pat := fp64.withSign n fp64.infPat }
  | .fin n m e => lseRound fp64 .rne (if n then -(m : Int) else m) e n

/-- The exact conversion of an INT32 to binary64. -/
def lseFromInt (w x : Nat) : LseRes := lseRound fp64 .rne (toSigned w x) 0 false

/-- The order of two finite or infinite values: less, and unordered for NaNs (R279). -/
def Fp.lt? (a b : Fp) : Option Bool :=
  match a, b with
  | .nan _, _ => none
  | _, .nan _ => none
  | .inf n, .inf k => some (n && !k)
  | .inf n, .fin _ _ _ => some n
  | .fin _ _ _, .inf k => some (!k)
  | .fin na ma ea, .fin nb mb eb => some (decide ((exactSum na ma ea (!nb) mb eb).1 < 0))

/-! ### Summary flags (Table 8.7) -/

def smINVALID : Nat := 1
def smNAN_IN : Nat := 2
def smDIV_ZERO : Nat := 4
def smOVERFLOW : Nat := 8
def smFLUSH : Nat := 16
def smSATURATED : Nat := 32
def smINT_WRAP : Nat := 64

/-! ### The LSE's sine, cosine and atan2 (R502) -/

/-- The terms of an alternating series in fixed point with `p` places: from term `t`, each next one is −t y² / (k (k + d)),
`n` of them. -/
def seriesSum (p d : Nat) (y2 : Int) : Nat → Nat → Int → Int
  | 0, _, _ => 0
  | n + 1, k, t => t + seriesSum p d y2 n (k + 2) (-(t * y2 / 2 ^ p) / ((k * (k + d) : Nat) : Int))

/-- `n` doublings of an angle given by its sine and cosine in fixed point with `p` places. -/
def doubleAngle (p : Nat) : Nat → Int × Int → Int × Int
  | 0, sc => sc
  | n + 1, (s, c) => doubleAngle p n (2 * s * c / 2 ^ p, 2 * c * c / 2 ^ p - 2 ^ p)

/-- Sine and cosine of (-1)^neg × m × 2^e as numbers over 2^p, their error below 2^-100: the series of an angle below 2^-7,
doubled. -/
def sinCosOf (neg : Bool) (m : Nat) (e : Int) : (Int × Int) × Nat :=
  let k := ((Nat.log2 m : Int) + e + 8).toNat
  let p := 4 * k + 200
  let sh : Int := e - k + p
  let y : Int := if 0 ≤ sh then (m * 2 ^ sh.toNat : Nat) else (m / 2 ^ (-sh).toNat : Nat)
  let y2 := y * y / 2 ^ p
  let (s, c) := doubleAngle p k (seriesSum p 1 y2 16 2 y, seriesSum p 1 y2 16 1 (2 ^ p))
  ((if neg then -s else s, c), p)

/-- atan of y / 2^200, 0 ≤ y ≤ 2^200, over 2^200: three halvings of the angle, then the series. -/
def atanOf (y : Int) : Int :=
  let half (t : Int) : Int := t * 2 ^ 200 / (2 ^ 200 + (isqrt (2 ^ 400 + t * t).toNat : Int))
  let t := half (half (half y))
  let t2 := t * t / 2 ^ 200
  8 * ((List.range 60).foldr (fun k acc => (2 ^ 200 : Int) / ((2 * k + 1 : Nat) : Int) - acc * t2 / 2 ^ 200) 0 * t / 2 ^ 200)

/-- π over 2^200: 4 atan 1. -/
def piFix : Int := 4 * atanOf (2 ^ 200)

/-- atan2 of two finite values, not both zero, over 2^200. -/
def atan2Of (ny : Bool) (my : Nat) (ey : Int) (nx : Bool) (mx : Nat) (ex : Int) : Int :=
  let e := min ey ex
  let y := my * 2 ^ (ey - e).toNat
  let x := mx * 2 ^ (ex - e).toNat
  let a : Int := if y ≤ x then atanOf ((y * 2 ^ 200 / x : Nat) : Int) else piFix / 2 - atanOf ((x * 2 ^ 200 / y : Nat) : Int)
  let b := if nx then piFix - a else a
  if ny then -b else b

/-- A pattern lies within 2^-48 of v / 2^p. -/
def nearAbs (pat : Nat) (v : Int) (p : Nat) : Bool :=
  match fp64.read pat with
  | .fin n m e =>
    let d := exactSum n m e (decide (0 < v)) v.natAbs (-(p : Int))
    decide ((exactSum false d.1.natAbs d.2 true 1 (-48)).1 ≤ 0)
  | _ => false

/-- The sequence's value where it lies within 2^-48 of v / 2^p, else v / 2^p rounded. [log 60 DESIGN CHOICE, safe] -/
def heldAbs (md : Rnd) (x : Nat × Nat) (v : Int) (p : Nat) : LseRes :=
  { pat := if nearAbs (x.1 % 2 ^ 64) v p then x.1 % 2 ^ 64 else (lseRound fp64 md v (-(p : Int)) false).pat
    flags := x.2 % 32 }

/-- A rounding mode's code (Table 8.3). -/
def Rnd.code : Rnd → Nat
  | .rne => 0 | .rtz => 1 | .rup => 2 | .rdn => 3

/-- The LSE's sine: a NaN gives a NaN, an infinity is invalid. -/
def lseSin (md : Rnd) (x : Nat) : LseRes :=
  match fp64.read x with
  | .nan sn => if sn then lseNV else lseNan
  | .inf _ => lseNV
  | .fin n m e => let ((s, _), p) := sinCosOf n m e; heldAbs md (Config.lseSin md.code x) s p

/-- The LSE's cosine. -/
def lseCos (md : Rnd) (x : Nat) : LseRes :=
  match fp64.read x with
  | .nan sn => if sn then lseNV else lseNan
  | .inf _ => lseNV
  | .fin n m e => let ((_, c), p) := sinCosOf n m e; heldAbs md (Config.lseCos md.code x) c p

/-- The LSE's atan2 of (y, x); for infinities and two zeros the sequence's own value. -/
def lseAtan2 (md : Rnd) (y x : Nat) : LseRes :=
  match fp64.read y, fp64.read x with
  | .nan a, .nan b => if a || b then lseNV else lseNan
  | .nan a, _ => if a then lseNV else lseNan
  | _, .nan b => if b then lseNV else lseNan
  | .fin ny my ey, .fin nx mx ex =>
    if my = 0 ∧ mx = 0 then { pat := (Config.lseAtan2 md.code y x).1 % 2 ^ 64, flags := (Config.lseAtan2 md.code y x).2 % 32 }
    else heldAbs md (Config.lseAtan2 md.code y x) (atan2Of ny my ey nx mx ex) 200
  | _, _ => { pat := (Config.lseAtan2 md.code y x).1 % 2 ^ 64, flags := (Config.lseAtan2 md.code y x).2 % 32 }

/-! ### Tensor engine arithmetic (R284 to R286) -/

/-- Rounding an accumulator value: RNE to FP32, a rounded magnitude below 2^-126 replaced by a zero of its sign with
FLUSH, an overflow by an infinity with OVERFLOW (R285). -/
def teRound (v : Int) (e : Int) (zeroNeg : Bool) : Nat × Nat :=
  if v = 0 then (fp32.zero zeroNeg, 0)
  else
    let neg := decide (v < 0)
    let r := fp32.round .rne neg v.natAbs e
    if r.tiny then (fp32.zero neg, smFLUSH)
    else (r.pat, if r.overflow then smOVERFLOW else 0)

/-- The exact product of two elements (R284), with INVALID for zero times infinity. -/
def teProduct (a b : Fp) : Fp × Nat :=
  let inFlag := if a.isSpecial || b.isSpecial then smNAN_IN else 0
  match a, b with
  | .nan _, _ => (.nan false, inFlag)
  | _, .nan _ => (.nan false, inFlag)
  | .inf n, .inf k => (.inf (n != k), inFlag)
  | .inf n, .fin k m _ => if m = 0 then (.nan false, inFlag ||| smINVALID) else (.inf (n != k), inFlag)
  | .fin k m _, .inf n => if m = 0 then (.nan false, inFlag ||| smINVALID) else (.inf (n != k), inFlag)
  | .fin na ma ea, .fin nb mb eb => (.fin (na != nb) (ma * mb) (ea + eb), inFlag)

/-- One k-step of a floating accumulator: the product added with a single rounding (R284 to R286). -/
def teStep (acc : Nat) (a b : Fp) : Nat × Nat :=
  let (p, fl) := teProduct a b
  match fp32.read acc, p with
  | .nan _, _ => (fp32.nanPat, fl)
  | _, .nan _ => (fp32.nanPat, fl)
  | .inf n, .inf k => if n = k then (acc, fl) else (fp32.nanPat, fl ||| smINVALID)
  | .inf _, .fin _ _ _ => (acc, fl)
  | .fin _ _ _, .inf k => (fp32.withSign k fp32.infPat, fl)
  | .fin na ma ea, .fin nb mb eb =>
    let (v, e) := exactSum na ma ea nb mb eb
    let (r, fl') := teRound v e (na && nb)
    (r, fl ||| fl')

/-! ### Vector unit arithmetic (R288 to R292) -/

/-- The summary flags of a VU result that has been rounded from finite inputs. -/
def vuFlags (r : Rounded) : Nat := if r.overflow then smOVERFLOW else 0

/-- FP32 fused multiply-add of the vector unit (R288); add is fma(a, 1, b) and multiply fma(a, b, −0) of the right
sign, which the next two give directly. -/
def vuFma (x y z : Nat) : Nat × Nat :=
  let a := fp32.read x
  let b := fp32.read y
  let c := fp32.read z
  let inFl := if a.isSpecial || b.isSpecial || c.isSpecial then smNAN_IN else 0
  if a.isNan || b.isNan || c.isNan then (fp32.nanPat, inFl)
  else
    let np := a.neg? != b.neg?
    match a, b, c with
    | .fin _ ma ea, .fin _ mb eb, .fin nc mc ec =>
      let (v, e) := exactSum np (ma * mb) (ea + eb) nc mc ec
      if v = 0 then (fp32.zero (np && nc), inFl)
      else let r := fp32.round .rne (decide (v < 0)) v.natAbs e; (r.pat, inFl ||| vuFlags r)
    | .inf _, .fin _ 0 _, _ => (fp32.nanPat, inFl ||| smINVALID)
    | .fin _ 0 _, .inf _, _ => (fp32.nanPat, inFl ||| smINVALID)
    | .fin _ _ _, .fin _ _ _, .inf n => (fp32.withSign n fp32.infPat, inFl)
    | _, _, .inf n => if n = np then (fp32.withSign n fp32.infPat, inFl) else (fp32.nanPat, inFl ||| smINVALID)
    | _, _, _ => (fp32.withSign np fp32.infPat, inFl)

/-- FP32 one. -/
def f32One : Nat := 0x3F800000

/-- FP32 add (R288). -/
def vuAdd (x y : Nat) : Nat × Nat := vuFma x f32One y

/-- FP32 multiply (R288): the product alone, its zero keeping the exact sign. -/
def vuMul (x y : Nat) : Nat × Nat :=
  let n := (fp32.read x).neg? != (fp32.read y).neg?
  vuFma x y (fp32.zero n)

/-! ### Approximations (R291, Table 8.10) -/

/-- A positive FP32 pattern lies within a relative 2^-`bits` of m × 2^e. -/
def within (bits pat m : Nat) (e : Int) : Bool :=
  match fp32.read pat with
  | .fin false a ea =>
    let (d, de) := exactSum false a ea true m e
    decide ((exactSum false (d.natAbs * 2 ^ bits) de true m e).1 ≤ 0)
  | _ => false

/-- The implementation's value where it keeps the error bound, else the value rounded. [log 60 DESIGN CHOICE, safe] -/
def heldTo (bits free m : Nat) (e : Int) : Nat :=
  if within bits (free % 2 ^ 31) m e then free % 2 ^ 31 else (fp32.round .rne false m e).pat

/-- Places of the fixed-point arithmetic below. -/
def expPlaces : Nat := 96

/-- The product of the constants 2^(2^-i) that the bits of a fraction choose, from the bit of weight 2^(n-1) down; `c` is the
constant before, by repeated square roots. -/
def expBits : Nat → Nat → Nat → Nat → Nat
  | 0, _, _, acc => acc
  | n + 1, f, c, acc =>
    let c' := isqrt (c * 2 ^ expPlaces)
    expBits n f c' (if bitOf f n then acc * c' / 2 ^ expPlaces else acc)

/-- 2 to the power (-1)^neg × m × 2^e as a number times a power of two, its relative error below 2^-80. -/
def exp2Of (neg : Bool) (m : Nat) (e : Int) : Nat × Int :=
  let mag : Int := if 0 ≤ e + expPlaces then (m * 2 ^ (e + expPlaces).toNat : Nat) else (m / 2 ^ (-(e + expPlaces)).toNat : Nat)
  let x : Int := if neg then -mag else mag
  let k := x / (2 ^ expPlaces : Nat)
  let f := (x % (2 ^ expPlaces : Nat)).toNat
  (expBits expPlaces f (2 * 2 ^ expPlaces) (2 ^ expPlaces), k - expPlaces)

/-- 1 / (m × 2^e). -/
def rcpOf (m : Nat) (e : Int) : Nat × Int :=
  let (q, k) := stickyDiv 1 m
  (q, k - e)

/-- 1 / √(m × 2^e). -/
def rsqrtOf (m : Nat) (e : Int) : Nat × Int :=
  let m' := if e % 2 = 0 then m else 2 * m
  let e' := if e % 2 = 0 then e else e - 1
  let (q, k) := stickyDiv 1 (isqrt (m' * 2 ^ 400))
  (q, k + 200 - e' / 2)

/-- FP32 to a narrower floating format (Table 8.8, Table 8.9): RNE, SAT8 for the FP8 formats. -/
def vuToFloat (f : Fmt) (sat8 : Bool) (x : Nat) : Nat × Nat :=
  let fp8 := decide (f.width = 8)
  let inf (n : Bool) : Nat := if f.ieee then f.withSign n f.infPat else f.nanPat
  match fp32.read x with
  | .nan _ => (f.nanPat, smNAN_IN)
  | .inf n => if fp8 && sat8 then (f.withSign n f.maxPat, smNAN_IN ||| smSATURATED) else (inf n, smNAN_IN)
  | .fin n m e =>
    if m = 0 then (f.zero n, 0)
    else
      let r := f.round .rne n m e
      if r.overflow then
        if fp8 && sat8 then (f.withSign n f.maxPat, smSATURATED) else (inf n, smOVERFLOW)
      else (r.pat, 0)

/-- FP32 to a signed integer of `w` bits: RNE, clamped with SATURATED; a NaN gives 0 with INVALID (Table 8.8). -/
def vuToInt (w x : Nat) : Nat × Nat :=
  let top : Int := (2 ^ (w - 1) : Nat) - 1
  let bot : Int := -(2 ^ (w - 1) : Nat)
  match fp32.read x with
  | .nan _ => (0, smNAN_IN ||| smINVALID)
  | .inf n => (ofSigned w (if n then bot else top), smNAN_IN ||| smSATURATED)
  | .fin n m e =>
    let r := shiftRound .rne n m (-e)
    let v : Int := if n then -(r : Int) else r
    if top < v then (ofSigned w top, smSATURATED)
    else if v < bot then (ofSigned w bot, smSATURATED)
    else (ofSigned w v, 0)

/-- INT32 to a narrower integer, clamped (Table 8.8). -/
def vuNarrow (w x : Nat) : Nat × Nat :=
  let top : Int := (2 ^ (w - 1) : Nat) - 1
  let bot : Int := -(2 ^ (w - 1) : Nat)
  let v := toSigned 32 x
  if top < v then (ofSigned w top, smSATURATED)
  else if v < bot then (ofSigned w bot, smSATURATED)
  else (ofSigned w v, 0)

/-- INT32 to FP32, RNE (Table 8.8). -/
def vuFromInt (x : Nat) : Nat :=
  let v := toSigned 32 x
  if v = 0 then 0 else (fp32.round .rne (decide (v < 0)) v.natAbs 0).pat

/-- A narrow floating value widened exactly to FP32 (Table 8.8). -/
def vuWiden (f : Fmt) (x : Nat) : Nat × Nat :=
  match f.read x with
  | .nan _ => (fp32.nanPat, smNAN_IN)
  | .inf n => (fp32.withSign n fp32.infPat, smNAN_IN)
  | .fin n m e => (if m = 0 then fp32.zero n else (fp32.round .rne n m e).pat, 0)

end Sys2Proof.Machine
end

