-- ==== Sys2Proof/Machine/Time.lean ====
section
/-! DEFINITION. Time: the model's clock, the TSU that counts with it (R419), and the epochs of R419. -/

namespace Sys2Proof.Machine

namespace State

/-- The TSU counts: INGEST is out of reset and the device is not in Cozy sleep (R419, R426). -/
def tsuRuns (s : State) : Bool :=
  !s.ward.cozy && !(s.ward.st == .off) && !(s.ward.st == .standby)
    && s.power.phase == .done

/-- INGEST cycles of 2.5 ns that have ended at a time of the model's clock. -/
def ingestCycles (ns : Nat) : Nat := ns * 2 / 5

/-- The TSU after `k` INGEST cycles (R419). -/
def Tsu.count (x : Tsu) (k : Nat) : Tsu :=
  let t := x.frac + k * x.rate
  { x with time := (x.time + t / 2 ^ 32) % 2 ^ 64, frac := t % 2 ^ 32 }

/-- `n` ns go by. [log 2 DESIGN CHOICE, unsafe; 14 DESIGN CHOICE, safe] -/
def elapse (s : State) (n : Nat) : State :=
  let s1 := { s with upNs := s.upNs + n }
  if s.tsuRuns then { s1 with tsu := Tsu.count s.tsu (ingestCycles (s.upNs + n) - ingestCycles s.upNs) } else s1

/-- Time passes until the model's clock reads `t` (nothing when it has passed). [log 2 DESIGN CHOICE, unsafe] -/
def elapseTo (s : State) (t : Nat) : State := s.elapse (t - s.upNs)

/-- Time passes until the TSU has reached `t` (nothing when it has passed, or the TSU stands still).
[log 2 DESIGN CHOICE, unsafe] -/
def elapseToTsu (s : State) (t : Nat) : State :=
  if s.tsuRuns ∧ s.tsu.time < t then
    let need := (t - s.tsu.time) * 2 ^ 32 - s.tsu.frac
    let k := (need + s.tsu.rate - 1) / max 1 s.tsu.rate
    s.elapseTo (((ingestCycles s.upNs + k) * 5 + 1) / 2)
  else s

/-- The epoch the TSU is in (R419). -/
def epochNow (s : State) : Nat := s.tsu.time / max 1 s.epochNs

/-- The next multiple of the epoch length. -/
def nextBoundary (s : State) : Nat := (s.epochNow + 1) * s.epochNs

end State
end Sys2Proof.Machine
end

