-- ==== Sys2Proof/Machine/Tile.lean ====
section
/-! DEFINITION. The tiles (chapter 6, §8.5, §8.6): kernels and their sequencer, the tensor engine with its proof lane,
the vector unit with its residue code, fences, weight prefetch and buffer switches. -/

namespace Sys2Proof.Machine

/-- Bytes of a tile's TSRAM. -/
def tsramBytes : Nat := 0x200000

namespace State

/-! ### The tile's own TSRAM (R213) -/

/-- Reading `n` bytes at internal offset `off`, taken modulo 2 MiB; a POISONED unit sets the kernel's POISON flag
(R228). -/
def tsramRead (s : State) (t off n : Nat) (ups : List Upset) : List Byte × State :=
  let o := off % tsramBytes
  let n1 := min n (tsramBytes - o)
  let (st, d, s1) := s.memRead (tileBase t + o) n1 0 (s.tileOwner t) ups
  let (st2, d2, s2) := if n1 < n then s1.memRead (tileBase t) (n - n1) 0 (s1.tileOwner t) ups else (.ok, [], s1)
  let bad := st = .poisoned ∨ st2 = .poisoned
  (d ++ d2, if bad then s2.modTile t fun x => { x with poison := true } else s2)

/-- Writing bytes at internal offset `off`, taken modulo 2 MiB, with the bytes that are poisoned. Lines written no longer hold a
drained bank. -/
def tsramWriteP (s0 : State) (t off : Nat) (bs : List Byte) (mask : List Bool) (ups : List Upset) : State :=
  let o := off % tsramBytes
  let n1 := min bs.length (tsramBytes - o)
  let s := s0.modTile t fun x =>
    { x with satLines := x.satLines.filter fun l => decide (bs.length + 63 ≤ (64 * l.1 + 63 + tsramBytes - o) % tsramBytes) }
  let s1 := (s.memWriteP (tileBase t + o) (bs.take n1) (mask.take n1) 0 (s.tileOwner t) ups).2
  if n1 < bs.length then (s1.memWriteP (tileBase t) (bs.drop n1) (mask.drop n1) 0 (s1.tileOwner t) ups).2 else s1

/-- Writing plain bytes at internal offset `off`. -/
def tsramWrite (s : State) (t off : Nat) (bs : List Byte) (ups : List Upset) : State :=
  s.tsramWriteP t off bs (List.replicate bs.length false) ups

/-! ### Summary flags (R287, R293) -/

/-- The tile's engines raise summary flags: KERNEL and STICKY. -/
def fpFlags (s : State) (t fl : Nat) : State :=
  let w := s.reg (Reg.tileFpSum t)
  s.setReg (Reg.tileFpSum t) (w ||| BitVec.ofNat 32 (fl % 256 + (fl % 256) * 0x10000))

/-- The running kernel's KERNEL flags. -/
def kernelFlags (s : State) (t : Nat) : Nat := s.fld (Reg.tileFpSum t) 7 0

/-- The tile executes its kernel now: running, with no fence to wait for (R229, R235). -/
def executing (s : State) (t : Nat) : Bool :=
  let x := s.tile t
  x.st == .running && x.fence.isEmpty && x.fencePf == 0 && (s.gasket t).powered && !(s.gasket t).inReset

end State

/-! ### The tensor engine -/

/-- Formats of an operand pair (R214, Table 6.1): none for an integer type, with its width. -/
inductive TeType where
  | int (w : Nat)
  | float (f : Fmt)

/-- Element size in bits. -/
def TeType.bits : TeType → Nat
  | .int w => w
  | .float f => f.width

/-- A and B operand types of a pair code; codes 0xB to 0xF execute as 0x0. -/
def teTypes (pair : Nat) : TeType × TeType :=
  match pair with
  | 0x1 => (.int 8, .int 4)
  | 0x2 => (.int 4, .int 4)
  | 0x3 => (.float e4m3, .float e4m3)
  | 0x4 => (.float e4m3, .float e5m2)
  | 0x5 => (.float e5m2, .float e4m3)
  | 0x6 => (.float e5m2, .float e5m2)
  | 0x7 => (.float bf16, .float bf16)
  | 0x8 => (.float fp16, .float fp16)
  | 0x9 => (.float bf16, .float e4m3)
  | 0xA => (.float bf16, .float e5m2)
  | _ => (.int 8, .int 8)

/-- The pair code executed. -/
def tePair (pair : Nat) : Nat := if pair % 16 ≤ 0xA then pair % 16 else 0

/-- The exponent of a value counts in the widened type (R214, R221): BF16 for an FP8 operand of pairs 0x9 and 0xA. -/
def teExpFmt (pair : Nat) : Fmt × Fmt :=
  match teTypes pair with
  | (.float a, .float b) => if pair = 0x9 ∨ pair = 0xA then (a, bf16) else (a, b)
  | _ => (fp32, fp32)

/-- Element `i` of a run of elements of `es` bits, low half first (R249). -/
def elemAt (bs : List Byte) (es i : Nat) : Nat :=
  if es = 4 then
    let b := (bs.getD (i / 2) 0).toNat
    if i % 2 = 0 then b % 16 else b / 16
  else fieldAt bs (i * (es / 8)) (es / 8)

/-- A raw operand element as the array multiplies it. -/
inductive TeVal where
  | int (v : Int)
  | fp (x : Fp)

/-- Reading a raw element in its type. -/
def TeType.read (ty : TeType) (n : Nat) : TeVal :=
  match ty with
  | .int w => .int (toSigned w n)
  | .float f => .fp (f.read n)

/-- Infinity or NaN. -/
def TeVal.special : TeVal → Bool
  | .int _ => false
  | .fp x => x.isSpecial

/-- One k-step of one accumulator: the new accumulator and the flags (R216, R217, R284). -/
def teAccumulate (acc : Nat) (a b : TeVal) : Nat × Nat :=
  match a, b with
  | .int x, .int y =>
    let v := toSigned 32 acc + x * y
    (ofSigned 32 v, if v < -(2 ^ 31) ∨ (2 ^ 31 : Int) ≤ v then smINT_WRAP else 0)
  | .fp x, .fp y => teStep acc x y
  | _, _ => (acc, 0)

/-- INT4 by INT4: the two products of one cycle are added exactly before the accumulate (R216). -/
def teAccumulate2 (acc : Nat) (a0 b0 a1 b1 : TeVal) : Nat × Nat :=
  match a0, b0, a1, b1 with
  | .int x0, .int y0, .int x1, .int y1 =>
    let v := toSigned 32 acc + (x0 * y0 + x1 * y1)
    (ofSigned 32 v, if v < -(2 ^ 31) ∨ (2 ^ 31 : Int) ≤ v then smINT_WRAP else 0)
  | _, _, _, _ => (acc, 0)

/-- The sum of a line of operand elements that feeds the proof lane (R219 to R221): exact for integers, in FP32 one
element at a time for floats. -/
def teSum (l : List TeVal) : TeVal :=
  match l with
  | .int _ :: _ => .int (l.foldl (fun s v => match v with | .int x => s + x | _ => s) 0)
  | _ => .fp (fp32.read ((l.foldl (fun (s : Nat) v => match v with
      | .fp x => (teStep s x (.fin false 1 0)).1
      | _ => s) 0)))

/-- The operands of one operation, element by element: A (row, k) and B (k, column) over all K blocks. -/
structure TeOperands where
  a : Nat → Nat → TeVal
  b : Nat → Nat → TeVal
  kSteps : Nat

/-- The k-steps of one accumulator in ascending order (R216). -/
def teDot (pair : Nat) (acc kSteps : Nat) (a b : Nat → TeVal) : Nat × Nat :=
  if pair = 2 then
    (List.range (kSteps / 2)).foldl (fun (s : Nat × Nat) j =>
      let (v, fl) := teAccumulate2 s.1 (a (2 * j)) (b (2 * j)) (a (2 * j + 1)) (b (2 * j + 1))
      (v, s.2 ||| fl)) (acc, 0)
  else
    (List.range kSteps).foldl (fun (s : Nat × Nat) k =>
      let (v, fl) := teAccumulate s.1 (a k) (b k)
      (v, s.2 ||| fl)) (acc, 0)

/-- The sum of drained values that is compared with a proof accumulator. -/
def drainSum (isInt : Bool) (l : List Nat) : Nat :=
  if isInt then l.foldl (fun s v => (s + v) % 2 ^ 32) 0
  else l.foldl (fun s v => (teStep s (fp32.read v) (.fin false 1 0)).1) 0

/-- Rounded-up base-2 logarithm. -/
def clog2 (n : Nat) : Nat := if n ≤ 1 then 0 else Nat.log2 (n - 1) + 1

/-- The outcome of one comparison of the proof lane. -/
inductive ProofCmp where
  | same | mismatch | skip
  deriving DecidableEq, Repr

/-- One comparison (R220 to R222): equality modulo 2^32 for integers; for floats the FP32 difference against τ with
`n` as R221 gives it. -/
def proofCompare (isInt : Bool) (b : Bank) (margin n drained proof : Nat) : ProofCmp :=
  if isInt then (if drained = proof then .same else .mismatch)
  else
    let x := fp32.read drained
    let y := fp32.read proof
    if b.special || x.isSpecial || y.isSpecial then .skip
    else
      let diff := fp32.read (vuAdd drained (proof ^^^ 2 ^ 31)).1
      let m : Int := 2 + (clog2 (n * b.kSteps * (b.kSteps + n)) : Int) - 23 + margin
      match diff with
      | .fin _ d e => if (exactSum false d e true 1 (b.expA + b.expB + m)).1 > 0 then .mismatch else .same
      | _ => .mismatch

/-- A bank after `kn` k-steps of A (row, k) and B (k, column) on what it held, with the flags raised: the 32 × 64 accumulators and
the proof accumulators (R216, R219 to R222). A product of a `dead` row and k is not made. The proof accumulators flush and
overflow as the array does (R285); their wraps are not recorded (R217). -/
def teBank (pair kn : Nat) (old : Bank) (a b : Nat → Nat → TeVal) (dead : Nat → Nat → Bool) : Bank × Nat :=
  let zero : TeVal := match (teTypes pair).1 with | .int _ => .int 0 | .float _ => .fp (.fin false 0 0)
  let aSum (k : Nat) : TeVal := teSum ((List.range 32).map fun r => a r k)
  let bSum (k : Nat) : TeVal := teSum ((List.range 64).map fun c => b k c)
  let outs := (List.range 2048).map fun i =>
    teDot pair (old.acc.getD i 0) kn (fun k => a (i / 64) k) (fun k => if dead (i / 64) k then zero else b k (i % 64))
  let colAcc := (List.range 64).map fun c => teDot 0 (old.cols.getD c 0) kn aSum (fun k => b k c)
  let rowAcc := (List.range 32).map fun r => teDot 0 (old.rows.getD r 0) kn (fun k => a r k) bSum
  let cornerAcc := teDot 0 old.corner kn aSum bSum
  let proofFl := (cornerAcc :: colAcc ++ rowAcc).foldl (fun f y => f ||| (y.2 &&& (smFLUSH ||| smOVERFLOW))) 0
  let fl := outs.foldl (fun f y => f ||| y.2) proofFl
  let inSpecial := (List.range kn).any fun k =>
    (List.range 32).any (fun r => (a r k).special) || (List.range 64).any (fun c => (b k c).special)
  let top (f : Fmt) (m : Int) (v : TeVal) : Int := match v with
    | .fp z => max m (f.exponentOf z)
    | .int _ => m
  let (fa, fb) := teExpFmt pair
  ({ acc := outs.map (·.1)
     cols := colAcc.map (·.1)
     rows := rowAcc.map (·.1)
     corner := cornerAcc.1
     kSteps := old.kSteps + kn
     expA := (List.range kn).foldl (fun m k => (List.range 32).foldl (fun m r => top fa m (a r k)) m) old.expA
     expB := (List.range kn).foldl (fun m k => (List.range 64).foldl (fun m c => top fb m (b k c)) m) old.expB
     special := old.special || inSpecial, pair := pair }, fl)

namespace State

/-- The bank a TE operation names. -/
def bankOf (x : Tile) (acc : Nat) : Bank := if acc % 2 = 0 then x.bank0 else x.bank1
def setBank (x : Tile) (acc : Nat) (b : Bank) : Tile := if acc % 2 = 0 then { x with bank0 := b } else { x with bank1 := b }

/-- The drain path of bank `acc` (§6.3, R223): flips of accumulators on the way, the comparisons, the log and the report. Answers the
drained values. -/
def proofDrain (s : State) (t acc : Nat) (b : Bank) (flips : List (Nat × Nat)) : List Nat × State :=
  let x := s.tile t
  let isInt := match (teTypes b.pair).1 with | .int _ => true | .float _ => false
  let vals := flips.foldl (fun (l : List Nat) f => l.set f.1 (l.getD f.1 0 ^^^ 2 ^ (f.2 % 32))) b.acc
  let at2 (r c : Nat) : Nat := vals.getD (64 * r + c) 0
  let margin := s.fld (Reg.tileProofCtl t) 2 0
  let cols := (List.range 64).map fun c =>
    (c, 0, proofCompare isInt b margin 32 (drainSum isInt ((List.range 32).map fun r => at2 r c)) (b.cols.getD c 0))
  let rows := (List.range 32).map fun r =>
    (r, 1, proofCompare isInt b margin 64 (drainSum isInt ((List.range 64).map fun c => at2 r c)) (b.rows.getD r 0))
  let corner := [(0, 2, proofCompare isInt b margin 2048 (drainSum isInt vals) b.corner)]
  let all := cols ++ rows ++ corner
  let bad := all.find? (fun y => y.2.2 = .mismatch)
  let skip := all.any (fun y => y.2.2 = .skip)
  let n := x.compared + 1
  let s1 := s.setTile t { x with drains := x.drains + 1, compared := n, proofErr := x.proofErr || bad.isSome }
  let s2 := if n % 1024 = 0 then s1.bump (Reg.tileProofCnt t) 15 0 else s1
  let s3 := if skip then s2.bump (Reg.tileProofCnt t) 31 24 else s2
  let s4 := match bad with
    | none => s3
    | some y =>
      let c := s3.bump (Reg.tileProofCnt t) 23 16
      let c1 := if c.fld (Reg.tileProofLog t) 31 31 = 1 then c
        else c.setReg (Reg.tileProofLog t) (BitVec.ofNat 32 (y.1 + y.2.1 * 0x40 + tePair b.pair * 0x100
          + (acc % 2) * 0x1000 + (x.drains % 0x10000) * 0x2000 + 0x80000000))
      c1.post { fault := .proofMismatch, attr := .tag (c1.tileOwner t), gsk := t, unit := t }
  (vals, s4)

/-- The drain of a bank (R218): the block is written to TSRAM. -/
def drain (s : State) (t : Nat) (op : TeOp) (flips : List (Nat × Nat)) : State :=
  let b := bankOf (s.tile t) op.acc
  let (vals, s4) := s.proofDrain t op.acc b flips
  (s4.tsramWrite t (op.dOff / 64 * 64) (vals.flatMap (leBytes 4)) []).modTile t fun y =>
    { y with satLines := (List.range 128).foldl (fun m i => SMap.set 0 m ((op.dOff / 64 + i) % 0x8000) (1 + b2n b.sat8)) y.satLines }

/-- One tensor engine operation (R214 to R223). -/
def teRun (s : State) (t : Nat) (op : TeOp) (ups : List Upset) (flips : List (Nat × Nat)) : State :=
  let pair := tePair op.pair
  let (ta, tb) := teTypes pair
  let nb := if op.kblk % 4096 = 0 then 4096 else op.kblk % 4096
  -- operand blocks, whole blocks at a time (R251)
  let (aBytes, s1) := (List.range nb).foldl (fun (acc : List (List Byte) × State) i =>
    let (d, u) := acc.2.tsramRead t (op.aOff / 64 * 64 + i * op.aStride) (256 * ta.bits) ups
    (acc.1 ++ [d], u)) ([], s)
  let (bBytes, s2) := (List.range nb).foldl (fun (acc : List (List Byte) × State) i =>
    let (d, u) := acc.2.tsramRead t (op.bOff / 64 * 64 + i * op.bStride) (512 * tb.bits) ups
    (acc.1 ++ [d], u)) ([], s1)
  let a (r k : Nat) : TeVal := ta.read (elemAt (aBytes.getD (k / 64) []) ta.bits (r * 64 + k % 64))
  let b (k c : Nat) : TeVal := tb.read (elemAt (bBytes.getD (k / 64) []) tb.bits ((k % 64) * 64 + c))
  let kn := 64 * nb
  let x := s2.tile t
  let old := if op.mode % 2 = 0 then ({} : Bank) else bankOf x op.acc
  let (bank, fl) := teBank pair kn old a b fun _ _ => false
  let s3 := (s2.setTile t (setBank x op.acc { bank with sat8 := op.sat8 % 2 = 1 })).fpFlags t fl
  if op.drain % 2 = 1 then s3.drain t op flips else s3

/-! ### The vector unit -/

/-- Lane `l` of vector register `r`, and the residue modulo 3 held with it (R226). -/
def residue (x : Tile) (r l : Nat) : Nat := SMap.get 0 x.vres (64 * (r % 32) + l)
/-- Lane `l` of vector register `r`. -/
def lane (x : Tile) (r l : Nat) : Nat := SMap.get 0 x.vregs (64 * (r % 32) + l)

end State

/-- The class of Table 6.9 an operation's arithmetic path is checked under; 0 for a path that is not covered. -/
def vuClass : VuFn → Nat
  | .addI => 2 | .subI => 2 | .mulLo => 3 | .mulHi => 3 | .mulF => 4 | .fmaF => 4
  | _ => 0

/-- Formats of a vector type. -/
def vuFmt : VuType → Option Fmt
  | .e4m3 => some e4m3 | .e5m2 => some e5m2 | .bf16 => some bf16 | .fp16 => some fp16 | .fp32 => some fp32
  | _ => none
/-- Width of an integer vector type. -/
def vuBits : VuType → Nat
  | .int4 => 4 | .int8 => 8 | _ => 32

/-- A conversion of one lane (R289 to R290): to FP32 first, the scale multiplied in FP32, then to the destination. -/
def vuConvert (src dst : VuType) (scaled sat8 : Bool) (x scale : Nat) : Nat × Nat :=
  match vuFmt src, vuFmt dst, scaled with
  | none, none, false => -- integer to integer: widened exactly or clamped
    let v := ofSigned 32 (toSigned (vuBits src) x)
    if (vuBits dst) < (vuBits src) then vuNarrow (vuBits dst) v else (v, 0)
  | _, _, _ =>
    let (w, f1) := match vuFmt src with
      | some f => vuWiden f (x % 2 ^ f.width)
      | none => (vuFromInt (ofSigned 32 (toSigned (vuBits src) x)), 0)
    let (y, f2) := if scaled then vuMul w scale else (w, 0)
    let (r, f3) := match vuFmt dst with
      | some f => if f = fp32 then (y, 0) else vuToFloat f sat8 y
      | none => vuToInt (vuBits dst) y
    (r, f1 ||| f2 ||| f3)

/-- Subnormal inputs of an approximation count as zero of their sign (R291). -/
def vuFlushIn (x : Nat) : Nat := if bitsOf x 30 23 = 0 then x / 2 ^ 31 * 2 ^ 31 else x

/-- A subnormal approximation result is replaced by +0 with FLUSH (R291). -/
def vuFlushOut (r : Nat) : Nat × Nat := if bitsOf r 30 23 = 0 ∧ bitsOf r 22 0 ≠ 0 then (0, smFLUSH) else (r, 0)

/-- The approximations of Table 8.10: any value within their error bounds, the same for the same input. -/
def vuApprox (fn : VuFn) (x0 : Nat) : Nat × Nat :=
  let x := vuFlushIn x0
  let v := fp32.read x
  let inFl := if v.isSpecial then smNAN_IN else 0
  match fn, v with
  | _, .nan _ => (fp32.nanPat, inFl)
  | .exp2, .inf n => (if n then 0 else fp32.infPat, inFl)
  | .exp2, .fin n m e =>
    if m = 0 then (f32One, 0)
    else if !n ∧ 0 ≤ (exactSum false m e true 128 0).1 then (fp32.infPat, smOVERFLOW)
    else if n ∧ 0 < (exactSum false m e true 126 0).1 then (0, smFLUSH)
    else let (r, k) := exp2Of n m e; vuFlushOut (heldTo 22 (Config.vuExp2 x) r k)
  | .rcp, .inf n => (fp32.zero n, inFl)
  | .rcp, .fin n m e =>
    if m = 0 then (fp32.withSign n fp32.infPat, smDIV_ZERO)
    else if 0 < (exactSum false m e true 1 126).1 then (fp32.zero n, smFLUSH)
    else let (r, k) := rcpOf m e; vuFlushOut (fp32.withSign n (heldTo 23 (Config.vuRcp x) r k))
  | _, .inf n => if n then (fp32.nanPat, inFl ||| smINVALID) else (0, inFl)
  | _, .fin n m e =>
    if m = 0 then (fp32.withSign n fp32.infPat, smDIV_ZERO)
    else if n then (fp32.nanPat, smINVALID)
    else let (r, k) := rsqrtOf m e; vuFlushOut (heldTo 22 (Config.vuRsqrt x) r k)

/-- A maximum of two FP32 values (R292): a NaN gives the canonical NaN, +0 is larger than −0. -/
def vuMax2 (x y : Nat) : Nat :=
  match (fp32.read x).lt? (fp32.read y) with
  | none => fp32.nanPat
  | some true => y
  | some false => if (fp32.read x).isZero && (fp32.read y).isZero then (if x < y then x else y) else x

/-- One round of the reduction tree: neighbours combined (R292). -/
def treeRound (f : Nat → Nat → Nat × Nat) : List Nat → List Nat × Nat
  | a :: b :: r => let (v, fl) := f a b; let (vs, fl') := treeRound f r; (v :: vs, fl ||| fl')
  | l => (l, 0)

/-- The six rounds of a 64-lane tree (R292). -/
def tree (f : Nat → Nat → Nat × Nat) : Nat → List Nat → Nat × Nat
  | 0, l => (l.getD 0 0, 0)
  | k + 1, l => let (l', fl) := treeRound f l; let (v, fl') := tree f k l'; (v, fl ||| fl')

/-- A packed lane whose low half comes from `x` and whose high half comes from `y`. -/
def half (x y : Nat) : Nat := x % 2 ^ 16 + y / 2 ^ 16 % 2 ^ 16 * 2 ^ 16
/-- A packed 16-bit form: the operation on each half of the lane, kept to 16 bits (R225). -/
def halves (f : Nat → Nat → Nat) (a b : Nat) : Nat :=
  f (a % 2 ^ 16) (b % 2 ^ 16) % 2 ^ 16 + f (a / 2 ^ 16 % 2 ^ 16) (b / 2 ^ 16 % 2 ^ 16) % 2 ^ 16 * 2 ^ 16

/-- Source registers a lane-wise operation reads: the first of a, b, c, d. -/
def vuReads : VuFn → Nat
  | .exp2 => 1 | .rcp => 1 | .rsqrt => 1
  | .convert _ _ sc _ => if sc then 2 else 1
  | .fmaF => 3
  | .selLtI => 4 | .selEqI => 4 | .selLtF => 4 | .selLt16 => 4 | .selEq16 => 4
  | _ => 2

/-- One lane of a lane-wise vector operation: result and flags (R225, R288 to R291). [log 61 DESIGN CHOICE, safe] -/
def vuLane (fn : VuFn) (a b c d : Nat) : Nat × Nat :=
  let i (x : Nat) : Int := toSigned 32 x
  match fn with
  | .addI => ((a + b) % 2 ^ 32, 0)
  | .subI => ((a + 2 ^ 32 - b % 2 ^ 32) % 2 ^ 32, 0)
  | .mulLo => ((a * b) % 2 ^ 32, 0)
  | .mulHi => (ofSigned 64 (i a * i b) / 2 ^ 32, 0)
  | .shl => ((a * 2 ^ (b % 32)) % 2 ^ 32, 0)
  | .shr => (a / 2 ^ (b % 32), 0)
  | .sar => (ofSigned 32 (i a / (2 ^ (b % 32) : Nat)), 0)
  | .and => (a &&& b, 0)
  | .or => (a ||| b, 0)
  | .xor => (a ^^^ b, 0)
  | .selLtI => (if i a < i b then c else d, 0)
  | .selEqI => (if a = b then c else d, 0)
  | .selLtF => (match (fp32.read a).lt? (fp32.read b) with | some true => c | _ => d,
      if (fp32.read a).isSpecial || (fp32.read b).isSpecial then smNAN_IN else 0)
  | .addF => vuAdd a b
  | .mulF => vuMul a b
  | .fmaF => vuFma a b c
  | .convert src dst sc sat => vuConvert src dst sc sat a b
  | .exp2 => vuApprox .exp2 a
  | .rcp => vuApprox .rcp a
  | .rsqrt => vuApprox .rsqrt a
  | .cmpLtI => (if i a < i b then Config.vuTrue else Config.vuFalse, 0)
  | .cmpEqI => (if a = b then Config.vuTrue else Config.vuFalse, 0)
  | .cmpLtF => (match (fp32.read a).lt? (fp32.read b) with | some true => Config.vuTrue | _ => Config.vuFalse,
      if (fp32.read a).isSpecial || (fp32.read b).isSpecial then smNAN_IN else 0)
  | .mulLo16 => (halves (fun x y => x * y) a b, 0)
  | .mulHi16 => (halves (fun x y => ofSigned 32 (toSigned 16 x * toSigned 16 y) / 2 ^ 16) a b, 0)
  | .shl16 => (halves (fun x y => x * 2 ^ (y % 16)) a b, 0)
  | .shr16 => (halves (fun x y => x / 2 ^ (y % 16)) a b, 0)
  | .sar16 => (halves (fun x y => ofSigned 16 (toSigned 16 x / (2 ^ (y % 16) : Nat))) a b, 0)
  | .cmpLt16 => (halves (fun x y => if toSigned 16 x < toSigned 16 y then Config.vuTrue else Config.vuFalse) a b, 0)
  | .cmpEq16 => (halves (fun x y => if x = y then Config.vuTrue else Config.vuFalse) a b, 0)
  | .selLt16 => (half (if toSigned 16 (a % 2 ^ 16) < toSigned 16 (b % 2 ^ 16) then c else d)
      (if toSigned 16 (a / 2 ^ 16) < toSigned 16 (b / 2 ^ 16) then c else d), 0)
  | .selEq16 => (half (if a % 2 ^ 16 = b % 2 ^ 16 then c else d) (if a / 2 ^ 16 = b / 2 ^ 16 then c else d), 0)
  | .addI16 => (((a % 2 ^ 16 + b % 2 ^ 16) % 2 ^ 16) + ((a / 2 ^ 16 + b / 2 ^ 16) % 2 ^ 16) * 2 ^ 16, 0)
  | .subI16 => (((a % 2 ^ 16 + 2 ^ 16 - b % 2 ^ 16) % 2 ^ 16)
      + ((a / 2 ^ 16 + 2 ^ 16 - b / 2 ^ 16) % 2 ^ 16) * 2 ^ 16, 0)
  | _ => (a, 0)

/-- The value whose residue the checker of an arithmetic path compares (Table 6.3): the result, the 64-bit unsigned
product, or the significand product. -/
def vuChecked (fn : VuFn) (a b : Nat) : Nat :=
  match fn with
  | .addI => (a + b) % 2 ^ 32
  | .subI => (a + 2 ^ 32 - b % 2 ^ 32) % 2 ^ 32
  | .mulLo => a * b
  | .mulHi => a * b
  | _ => significand a * significand b
where
  /-- The 24-bit significand of an FP32 value: its hidden bit is set in a normal number. -/
  significand (x : Nat) : Nat := bitsOf x 22 0 + (if bitsOf x 30 23 = 0 then 0 else 2 ^ 23)

namespace State

/-- A residue mismatch (R227): counted, captured, reported; the kernel will complete with INTEGRITY. -/
def residueMismatch (s : State) (t cls lane : Nat) : State :=
  let s1 := (s.bump (Reg.tileVuRes t) 15 0).modTile t fun x => { x with residue := true }
  let s2 := if s1.fld (Reg.tileVuRes t) 31 31 = 1 then s1
    else ((s1.setFld (Reg.tileVuRes t) 18 16 cls).setFld (Reg.tileVuRes t) 24 19 lane).setFld (Reg.tileVuRes t) 31 31 1
  s2.post { fault := .vuResidue, attr := .tag (s2.tileOwner t), gsk := t, unit := t }

/-- Reading a lane: upsets change the value stored, and the residue held with it finds them (R226). -/
def readLane (s : State) (t r l : Nat) (flips : List (Nat × Nat × Nat)) : Nat × State :=
  let x := (flips.filter fun f => f.1 % 32 = r % 32 ∧ f.2.1 = l).foldl (fun x f => x ^^^ f.2.2 % 2 ^ 32) 0
  let s1 := if x = 0 then s
    else s.modTile t fun y => { y with vregs := SMap.set 0 y.vregs (64 * (r % 32) + l) (lane y r l ^^^ x) }
  let v := lane (s1.tile t) r l
  (v, if v % 3 = residue (s1.tile t) r l then s1 else s1.residueMismatch t 1 l)

/-- A lane is written with its residue (R226). -/
def putLane (s : State) (t r l v : Nat) : State :=
  s.modTile t fun x =>
    { x with vregs := SMap.set 0 x.vregs (64 * (r % 32) + l) (v % 2 ^ 32)
             vres := SMap.set 0 x.vres (64 * (r % 32) + l) (v % 2 ^ 32 % 3) }

/-- SAT8 of a conversion: that of the TE operation that filled the bank, where the source register was loaded from lines of a
drained bank; else the instruction's (R290). [log 167 DEDUCED, unsafe] -/
def convertSat (x : Tile) (op : VuOp) : VuFn :=
  match op.fn with
  | .convert a b sc sat8 =>
    let k := SMap.get 0 x.vsat (op.a % 32)
    .convert a b sc (if k = 0 then sat8 else k = 2)
  | f => f

/-- One vector instruction (R225 to R227, R288 to R292). `regFlips` are upsets of stored values, met by the instruction that
reads them; `pathFlips` flips the checked value of a lane's arithmetic path; a result computed from a flipped path is a free
value. -/
def vuRun (s0 : State) (t : Nat) (op : VuOp) (ups : List Upset) (regFlips : List (Nat × Nat × Nat))
    (pathFlips : List (Nat × Nat)) : State :=
  let put (u : State) (l v : Nat) : State := u.putLane t op.dst l v
  let readAll (u : State) (r : Nat) : List Nat × State :=
    (List.range 64).foldl (fun (acc : List Nat × State) l =>
      let (v, u') := acc.2.readLane t r l regFlips
      (acc.1 ++ [v], u')) ([], u)
  let fn := convertSat (s0.tile t) op
  -- the destination register holds lines of a drained bank after a load of them alone
  let s := match op.fn with
    | .store _ => s0
    | .load off => s0.modTile t fun x => { x with vsat := SMap.set 0 x.vsat (op.dst % 32) (SMap.get 0 x.satLines (off / 64 % 0x8000)) }
    | _ => s0.modTile t fun x => { x with vsat := SMap.set 0 x.vsat (op.dst % 32) 0 }
  match fn with
  | .load off =>
    let (d, s1) := s.tsramRead t (off / 64 * 64) 256 ups
    (List.range 64).foldl (fun u l => put u l (fieldAt d (4 * l) 4)) s1
  | .store off =>
    let (vs, s1) := readAll s op.a
    s1.tsramWrite t (off / 64 * 64) (vs.flatMap (leBytes 4)) ups
  | .shuffle idx =>
    let (vs, s1) := readAll s op.a
    (List.range 64).foldl (fun u l => put u l (vs.getD (idx.getD l l % 64) 0)) s1
  | .sumI =>
    let (vs, s1) := readAll s op.a
    let (r, _) := tree (fun a b => ((a + b) % 2 ^ 32, 0)) 6 vs
    put s1 0 r
  | .sumF =>
    let (vs, s1) := readAll s op.a
    let (r, fl) := tree vuAdd 6 vs
    (put s1 0 r).fpFlags t fl
  | .maxI =>
    let (vs, s1) := readAll s op.a
    put s1 0 (vs.foldl (fun a b => if toSigned 32 a < toSigned 32 b then b else a) (vs.getD 0 0))
  | .maxF =>
    let (vs, s1) := readAll s op.a
    (put s1 0 (vs.foldl vuMax2 (vs.getD 0 0))).fpFlags t (if vs.any fun v => (fp32.read v).isSpecial then smNAN_IN else 0)
  | fn =>
    let n := vuReads fn
    let rd (u : State) (i r l : Nat) : Nat × State := if i < n then u.readLane t r l regFlips else (0, u)
    (List.range 64).foldl (fun u l =>
      let (a, u1) := rd u 0 op.a l
      let (b, u2) := rd u1 1 op.b l
      let (c, u3) := rd u2 2 op.c l
      let (d, u4) := rd u3 3 op.d l
      let (r, fl) := vuLane fn a b c d
      match pathFlips.find? (·.1 = l) with
      | none => (put u4 l r).fpFlags t fl
      | some f =>
        let chk := vuChecked fn a b
        let u5 := if vuClass fn ≠ 0 ∧ (chk ^^^ f.2) % 3 ≠ chk % 3 then u4.residueMismatch t (vuClass fn) l else u4
        let (w, u6) := u5.draw
        put u6 l w) s

/-! ### Kernels -/

/-- Outstanding weave requests of a tile. -/
def tileOutst (s : State) (t : Nat) : List Nat := (s.weave.outst.filter (·.src = t)).map (·.id)

/-- The code a kernel completes with (R10, R223, R227, R228, R237): its own ending code, POISON, a mismatch.
[log 62 DESIGN CHOICE, unsafe] -/
def kernelStatus (x : Tile) : Status :=
  let st0 := x.code.getD .ok
  let st1 := if x.poison then st0.worse .poisoned else st0
  if x.proofErr || x.residue then st1.worse .integrity else st1

/-- The sequencer posts a kernel's one completion to its steward (R228), which adds it to the operation (R310). -/
def postKernel (s : State) (t : Nat) (st : Status) : State :=
  let x := s.tile t
  let bad := x.poison || x.proofErr || x.residue
  let s1 := s.setTile t { x with posted := some st }
  match x.launch with
  | none => s1
  | some l => s1.contribute { encl := l.encl, queue := l.queue, seq := l.seq } st (if bad then 3 else ownValidity st)
      (s1.kernelFlags t) true

/-- CORE cycles of a time in ns at the divider in force (R93: 6.4 GHz divided). -/
def coreCycles (s : State) (ns : Nat) : Nat := ns * 64 / (10 * max 1 (s.fld Reg.clkDivLo 7 0))

/-- A stall ends (R235, R244): the stalled cycles are counted in units of 1024, and the kernel runs on. -/
def unstall (s : State) (t : Nat) : State :=
  let x := s.tile t
  if x.st ≠ .stalled then s
  else
    let tot := x.stalled + s.coreCycles (s.upNs - x.stallFrom)
    (s.setTile t { x with st := .running, stalled := tot % 1024 }).bumpBy (Reg.tilePfStat t) 31 16 (tot / 1024)

/-- Stopping a tile's sequencer with a code (R231): both banks discarded, the queue of fills dropped, ABORTING until the last
response has arrived. -/
def tileStop (s0 : State) (t : Nat) (st : Status) : State :=
  match (s0.tile t).st with
  | .idle => s0
  | .aborting => s0
  | _ =>
    let s := s0.unstall t
    let x := s.tile t
    let s1 := s.postKernel t (st.worse (kernelStatus x))
    s1.modTile t fun y => { y with st := if (s1.tileOutst t).isEmpty && (issuedFills x).isEmpty then .idle else .aborting,
                                   bank0 := {}, bank1 := {}, fills := [], fillFail := [], fence := [], fencePf := 0,
                                   launch := none, code := none }

/-- The running kernel ends and posts its completion; the tile is idle (R228). -/
def kernelEnds (s0 : State) (t : Nat) : State :=
  let s := s0.unstall t
  (s.postKernel t (kernelStatus (s.tile t))).modTile t fun y =>
    { y with st := .idle, launch := none, fills := [], fillFail := [], fence := [], fencePf := 0, code := none }

/-- The buffer switch takes place: the next layer's buffer goes to the TE (R235). -/
def doSwitch (s : State) (t : Nat) : State := s.modTile t fun x => { x with layer := x.layer + 1 }

/-- Fill entries of a layer still to complete. -/
def fillsOf (x : Tile) (layer : Nat) : List Fill := x.fills.filter (·.layer = layer)

/-- What the kernel finds at a buffer switch (R235, R237): a failed fill ends it with that fill's code, missing fills stall it. -/
def trySwitch (s : State) (t : Nat) : State :=
  let x := s.tile t
  let next := x.layer + 1
  match x.fillFail.find? (·.1 = next) with
  | some f => (s.setTile t { x with code := some ((x.code.getD .ok).worse f.2) }).kernelEnds t
  | none =>
    if (fillsOf x next).isEmpty then (s.unstall t).doSwitch t
    else if x.st = .stalled then s
    else (s.setTile t { x with st := .stalled, stallFrom := s.upNs, pfLate := true }).bump (Reg.tilePfStat t) 15 0

/-- Fills as the kernel gives them: sources in the model's slot are resolved from the pointer it read at launch (R238).
[log 61 DESIGN CHOICE, safe] -/
def addFills (x : Tile) (l : List FillSpec) : Tile :=
  let base := (x.launch.map (·.slotBase)).getD 0
  { x with fills := x.fills ++ l.map fun f =>
      { src := if f.inSlot then base + f.src else f.src, len := f.len / 64 * 64, buf := f.buf % 2, layer := f.layer,
        off := f.off : Fill } }

end State

open State

/-- KERNEL_LAUNCH (R228, R234, R238, R239): an idle, powered tile behind an OPEN gasket takes the launch record; the
kernel's flags clear. [log 61 DESIGN CHOICE, safe; 82 DEDUCED, safe] -/
def execKernelLaunch (t k : Nat) (r : EntryRef) (entry w0 w0Len w1 w1Len model budgetUs : Nat) (fills : List FillSpec)
    (s : State) : Out :=
  let x := s.tile t
  match s.entry r with
  | none => .next s
  | some y =>
    if x.st = .idle ∧ y.started ∧ y.ending.isNone ∧ s.gasketAnswer t = none ∧ s.tileOwner t = r.encl ∧ t < 64
        ∧ (y.byKernels → bitOf y.tiles t) then
      let slot := (y.bound.find? (· / 2 = model)).map (· + 1)
      let l : Launch := { steward := k, encl := r.encl, queue := r.queue, seq := r.seq, entry := entry % tsramBytes,
                          budgetUs := budgetUs, w0 := w0, w0Len := w0Len, w1 := w1, w1Len := w1Len, slot := slot.getD 0,
                          slotBase := (slot.map fun i => (s.slot (i - 1)).base).getD 0, since := s.upNs }
      let y : Tile :=
        { x with
          st := .running, poison := false, proofErr := false, residue := false, pfLate := false, launch := some l
          fills := [], layer := 0, fillFail := [], fence := [], fencePf := 0, drains := 0, code := none }
      .next ((s.setTile t (addFills y fills)).setFld (Reg.tileFpSum t) 7 0 0)
    else .next s

/-- TE_OPERATION (R215): the running kernel issues one tensor engine operation. [log 61 DESIGN CHOICE, safe] -/
def execTeOperation (t : Nat) (op : TeOp) (upsets : List Upset) (accFlips : List (Nat × Nat)) (s : State) : Out :=
  .next (if s.executing t then s.teRun t op upsets accFlips else s)

/-- VU_INSTRUCTION (R225): the running kernel issues one vector instruction. [log 61 DESIGN CHOICE, safe] -/
def execVuInstruction (t : Nat) (op : VuOp) (upsets : List Upset) (regFlips : List (Nat × Nat × Nat))
    (pathFlips : List (Nat × Nat)) (s : State) : Out :=
  .next (if s.executing t then s.vuRun t op upsets regFlips pathFlips else s)

/-- FENCE (R229): nothing later issues until every request that the tile has issued has completed, those of fills that have begun
included. -/
def execFence (t : Nat) (s : State) : Out :=
  .next (if s.executing t then s.modTile t fun x => { x with fence := s.tileOutst t, fencePf := (issuedFills x).length } else s)

/-- FENCE_PF (R229): the same for the prefetch engine's requests alone. -/
def execFencePf (t : Nat) (s : State) : Out :=
  .next (if s.executing t then s.modTile t fun x => { x with fencePf := (issuedFills x).length } else s)

/-- BUFFER_SWITCH (R235): waits for the next layer's fills, then switches; the fills of the layer after it enter the
queue. -/
def execBufferSwitch (t : Nat) (next : List FillSpec) (s : State) : Out :=
  .next (if s.executing t then (s.modTile t fun x => addFills x next).trySwitch t else s)

/-- FILL_COMPLETE (R234, R237): the oldest fill entry is read through the gasket and written to its buffer.
[log 3 DESIGN CHOICE, safe; 62 DESIGN CHOICE, unsafe] -/
def execFillComplete (t : Nat) (ext : List ExtData) (upsets : List Upset) (s : State) : Out :=
  let x := s.tile t
  match x.fills, x.launch with
  | f :: rest, some l =>
    -- it has begun, and its requests pass the gasket only while that is OPEN (R116, R235)
    if (x.st = .running ∨ x.st = .stalled) ∧ f.layer ≤ x.layer + 1 ∧ (s.gasket t).st = .opened then
      let (st, d, mask, s1) := s.readRunP (.tile t) f.src f.len ext upsets
      let base := if f.buf = 0 then l.w0 else l.w1
      let s2 := if st = .ok ∨ st = .poisoned then s1.tsramWriteP t (base + f.off) d mask [] else s1
      let s3 := s2.modTile t fun y => { y with fills := rest, fencePf := y.fencePf - 1 }
      let s4 := if st = .ok ∨ st = .poisoned then s3
        else s3.modTile t fun y => { y with fillFail := y.fillFail ++ [(f.layer, st)] }
      let s5 := if st = .accessDenied then s4.modTile t fun y => { y with code := some ((y.code.getD .ok).worse st) } else s4
      .next (if (s5.tile t).st = .stalled then s5.trySwitch t else s5)
    else .next s
  | _, _ => .next s

/-- KERNEL_COMPLETE (R228): the kernel ends and posts its completion; the tile is idle. -/
def execKernelComplete (t : Nat) (s : State) : Out :=
  .next (if (s.tile t).st = .running ∨ (s.tile t).st = .stalled then s.kernelEnds t else s)

/-- KERNEL_BUDGET_EXPIRY (R230): the kernel's time budget has passed; the sequencer stops it, and it completes with
TIMEOUT. [log 146 DESIGN CHOICE, unsafe] -/
def execKernelBudgetExpiry (t : Nat) (s : State) : Out :=
  .next (match (s.tile t).launch with
    | none => s
    | some l => (s.elapseTo (l.since + 1000 * l.budgetUs)).tileStop t .timeout)

/-- KERNEL_ABORT (R231): ABORTED_BY_ROUSE in ROUSE, ACCESS_DENIED for an aborted enclosure, else the code its operation
has ended with. -/
def execKernelAbort (t : Nat) (s : State) : Out :=
  let e := (s.tile t).launch.getD {}
  let own : Status := match s.entry { encl := e.encl, queue := e.queue, seq := e.seq } with
    | some y => (y.ending.map (·.status)).getD .blockReset
    | none => .blockReset
  let st : Status := if s.ward.st = .rouse then .abortedByRouse
    else if (s.enclSt e.encl).st = .aborting ∨ (s.enclSt e.encl).st = .aborted then .accessDenied else own
  .next (s.tileStop t st)

/-- ABORT_DRAINED (R231): the last response has arrived and the tile is idle. -/
def execAbortDrained (t : Nat) (s : State) : Out :=
  .next (if (s.tile t).st = .aborting ∧ (s.tileOutst t).isEmpty then s.modTile t fun x => { x with st := .idle } else s)

/-- TILE_CNT_CLR_t.PROOF (R246). -/
def execTileCntClrProof (t : Nat) (s : State) : Out :=
  .next (s.action (Reg.tileCntClr t) .dss fun u =>
    (u.setReg (Reg.tileProofCnt t) 0).modTile t fun x => { x with compared := 0 })

/-- TILE_CNT_CLR_t.VU (R246). -/
def execTileCntClrVu (t : Nat) (s : State) : Out :=
  .next (s.action (Reg.tileCntClr t) .dss fun u => u.setFld (Reg.tileVuRes t) 15 0 0)

/-- TILE_CNT_CLR_t.PF (R246). -/
def execTileCntClrPf (t : Nat) (s : State) : Out :=
  .next (s.action (Reg.tileCntClr t) .dss fun u =>
    (u.setReg (Reg.tilePfStat t) 0).modTile t fun x => { x with stalled := 0 })

/-- TILE_CNT_CLR_t.BANK (R246). [log 59 DESIGN CHOICE, safe] -/
def execTileCntClrBank (t : Nat) (s : State) : Out :=
  .next (s.action (Reg.tileCntClr t) .dss fun u => u.setReg (Reg.tileBankStat t) 0)

end Sys2Proof.Machine
end

