-- ==== Sys2Proof/Machine/Kv.lean ====
section
/-! DEFINITION. KV pools (chapter 11): the metadata in memory, the seven KV operations with their admission checks, page
allocation and release, the prefix tree, Append Q and Append X, and appends that wait for pages.

An operation runs as a small program over a working copy: metadata words it changes are staged and written together
in its commit step (R366); whatever ends it earlier leaves them as they were. -/

namespace Sys2Proof.Machine

/-- The null page (Table 11.3). -/
def nullPage : Nat := 0xFFFFFF

/-- What an operation on one pool works with: the pool's item and base, the steward's requester, and what the outside
answers while it runs. -/
structure KvEnv where
  pid : Nat := 0
  item : PoolItem := {}
  base : Nat := 0
  who : Requester := .steward 0 0
  ext : List ExtData := []
  ups : List Upset := []
  /-- Upsets met by the tensor engine: the product's number, the accumulator and the bit. -/
  flips : List (Nat × Nat × Nat) := []

/-- The working copy: the state, the staged metadata words in the order they were first changed, the pool record, and
the summary flags raised. -/
structure KvSt where
  s : State
  stage : List (Nat × Nat) := []
  pool : Pool := {}
  flags : Nat := 0
  poisoned : Bool := false
  /-- Pages the operation has allocated. -/
  taken : List Nat := []
  /-- Tensor engine products made, and whether the proof lane found a mismatch in one. -/
  products : Nat := 0
  mismatch : Bool := false

/-- A program over the working copy that may end with a code. -/
abbrev KvM := ExceptT Status (StateM KvSt)

namespace KvEnv

/-- T, the page size in tokens (§11.1). -/
def tokens (v : KvEnv) : Nat := if v.item.pageSize = 0 then 16 else 256
/-- es, the stored element size in bits. -/
def es (v : KvEnv) : Nat := match v.item.storeFmt with | 0 => 16 | 3 => 4 | _ => 8
/-- The pool appends by Append Q (R357). -/
def appendQ (v : KvEnv) : Bool := v.item.storeFmt ≠ 0
/-- P, the size of one plane (R358). -/
def plane (v : KvEnv) (d : Nat) : Nat := roundUp (v.tokens * d * v.es / 8) 64
/-- S_sc (R358). -/
def scaleBytes (v : KvEnv) (l h : Nat) : Nat := if v.appendQ then roundUp (8 * l * h) 64 else 0
/-- Address of page `g` (R358). -/
def pageAt (v : KvEnv) (g : Nat) : Nat := v.base + g * v.item.pageBytes

/-- M, the metadata area, and its parts in order (R360, Table 11.3). -/
def metaAt (v : KvEnv) : Nat := v.base + roundUp (v.item.pages * v.item.pageBytes) 0x10000
def buckets (v : KvEnv) : Nat := 2 ^ clog2 v.item.pages
def seqAt (v : KvEnv) (i : Nat) : Nat := v.metaAt + 0x1000 + 64 * i
def bucketAt (v : KvEnv) (b : Nat) : Nat := v.metaAt + 0x1000 + 0x40000 + 4 * b
def recAt (v : KvEnv) (g : Nat) : Nat := v.bucketAt 0 + roundUp (4 * v.buckets) 0x1000 + 64 * g
def tokAt (v : KvEnv) (g : Nat) : Nat := v.recAt 0 + roundUp (64 * v.item.pages) 0x1000 + 4 * v.tokens * g
/-- META_BYTES (R360). -/
def metaBytes (v : KvEnv) : Nat := v.tokAt 0 + roundUp (4 * v.tokens * v.item.pages) 0x1000 - v.metaAt

end KvEnv

namespace KvM

/-- Bytes the operation reads; a code other than OK ends it. -/
def bytes (v : KvEnv) (a n : Nat) : KvM (List Byte) := do
  let x ← get
  let (st, d, s1) := x.s.readRun v.who a n v.ext v.ups
  set { x with s := s1 }
  if st = .ok then pure d else throw st

/-- Bytes of a page, whose poison marks the operation POISONED and reads as zero (R397). -/
def pageBytes (v : KvEnv) (a n : Nat) : KvM (List Byte) := do
  let x ← get
  let (st, d, s1) := x.s.readRun v.who a n v.ext v.ups
  set { x with s := s1, poisoned := x.poisoned || st == Status.poisoned }
  if st = .ok ∨ st = .poisoned then pure d else throw st

/-- Rows and scales written before the commit step. -/
def writeRows (v : KvEnv) (a : Nat) (bs : List Byte) (mask : List Bool) : KvM Unit := do
  let x ← get
  let (st, s1) := x.s.writeRunP v.who a bs mask v.ext v.ups
  set { x with s := s1 }
  if st = .ok ∨ st = .poisoned then pure () else throw st

/-- A metadata word as the operation sees it: staged, or read under the owner's tag (R361). -/
def word (v : KvEnv) (a : Nat) : KvM Nat := do
  let x ← get
  match x.stage.find? (·.1 = a) with
  | some e => pure e.2
  | none => do
    let d ← bytes v a 4
    pure (leNat d)

/-- Staging a metadata word. -/
def put (a w : Nat) : KvM Unit :=
  modify fun x => { x with stage := (x.stage.filter (·.1 ≠ a)) ++ [(a, w % 2 ^ 32)] }

/-- A 64-bit metadata value. -/
def word2 (v : KvEnv) (a : Nat) : KvM Nat := do
  let lo ← word v a
  let hi ← word v (a + 4)
  pure (lo + hi * 2 ^ 32)
def put2 (a w : Nat) : KvM Unit := do
  put a (w % 2 ^ 32)
  put (a + 4) (w / 2 ^ 32)

/-- The pool record of the working copy. -/
def pool : KvM Pool := do pure (← get).pool
def setPool (f : Pool → Pool) : KvM Unit := modify fun x => { x with pool := f x.pool }
def count (k hi lo n : Nat) : KvM Unit := modify fun x => { x with s := x.s.bumpBy k hi lo n }

/-- Metadata out of range makes the pool BROKEN; the operation ends with INTEGRITY (R361). -/
def broken {α : Type} : KvM α := do
  setPool fun p => { p with st := .broken }
  throw .integrity

/-- A page number the stewards read is checked against PAGES (R361). -/
def checkPage (v : KvEnv) (g : Nat) : KvM Unit := if g < v.item.pages then pure () else broken

/-! ### Page records (Table 11.4) -/

/-- REFS, FILL, PSTATE and HASHED of a page, its state code checked (R361). -/
structure PageRec where
  refs : Nat
  fill : Nat
  pstate : Nat
  hashed : Bool

def page (v : KvEnv) (g : Nat) : KvM PageRec := do
  checkPage v g
  let a ← word v (v.recAt g)
  let b ← word v (v.recAt g + 4)
  if 2 < b % 256 then broken
  else pure { refs := a % 2 ^ 16, fill := a / 2 ^ 16, pstate := b % 256, hashed := bitOf b 8 }

def setPage (v : KvEnv) (g : Nat) (p : PageRec) : KvM Unit := do
  put (v.recAt g) (p.refs % 2 ^ 16 + (p.fill % 2 ^ 16) * 2 ^ 16)
  put (v.recAt g + 4) (p.pstate + b2n p.hashed * 256)

/-- A page named by a list entry: its REFS must not be zero (R361). -/
def listed (v : KvEnv) (g : Nat) : KvM PageRec := do
  let p ← page v g
  if p.refs = 0 then broken else pure p

def hashOf (v : KvEnv) (g : Nat) : KvM Nat := word2 v (v.recAt g + 8)

/-- A link of a page record: a page of the pool or the null page (R361). -/
def link (v : KvEnv) (g off : Nat) : KvM Nat := do
  let n := (← word v (v.recAt g + off)) % 2 ^ 24
  if n ≠ nullPage then checkPage v n
  pure n

/-! ### The prefix tree (R374 to R376) -/

def bucketOf (v : KvEnv) (h : Nat) : Nat := h % v.buckets

/-- Pages of a bucket's chain from `g`, at most as many as the pool has. -/
def chain (v : KvEnv) : Nat → Nat → KvM (List Nat)
  | 0, g => if g = nullPage then pure [] else broken
  | n + 1, g =>
    if g = nullPage then pure []
    else do
      checkPage v g
      let next ← link v g 0x1C
      let rest ← chain v n next
      pure (g :: rest)

def bucketPages (v : KvEnv) (h : Nat) : KvM (List Nat) := do
  let head ← word v (v.bucketAt (bucketOf v h))
  chain v v.item.pages (head % 2 ^ 24)

/-- The T token IDs of a page, as stored. -/
def tokensOf (v : KvEnv) (g : Nat) : KvM (List Byte) := do
  let ws ← (List.range v.tokens).mapM fun i => word v (v.tokAt g + 4 * i)
  pure (ws.flatMap (leBytes 4))

/-- H_i of R374. -/
def prefixHash (key prev : Nat) (toks : List Byte) : Nat := Sip.hash key (leBytes 8 prev ++ toks)

/-- One search of a bucket (R376): the node that matches hash, parent and tokens, and whether a node with the same
hash differs. -/
def search (v : KvEnv) (h parent : Nat) (toks : List Byte) : KvM (Option Nat × Bool) := do
  let ps ← bucketPages v h
  ps.foldlM (fun (acc : Option Nat × Bool) g => do
    if (← hashOf v g) ≠ h then pure acc
    else
      let par ← link v g 0x18
      let t ← tokensOf v g
      if par = parent ∧ t = toks then pure (acc.1.or (some g), acc.2) else pure (acc.1, true)) (none, false)

/-- The lookup (R376): matched pages in order and COLLISION. -/
def lookup (v : KvEnv) : List (List Byte) → Nat → Nat → KvM (List Nat × Bool)
  | [], _, _ => pure ([], false)
  | toks :: rest, prevHash, parent => do
    let h := prefixHash (← pool).key prevHash toks
    match ← search v h parent toks with
    | (some g, _) =>
      let (gs, c) ← lookup v rest h g
      pure (g :: gs, c)
    | (none, c) => pure ([], c)

/-- Cut a byte string into whole chunks of `n` bytes. -/
def chunks (n : Nat) (bs : List Byte) : List (List Byte) :=
  (List.range (bs.length / max 1 n)).map fun i => sliceAt bs (i * n) n

/-- The prefix named by PREFIX and PREFIX_TOKENS, by full pages (R376). -/
def prefixPages (v : KvEnv) (addr count : Nat) : KvM (List (List Byte)) := do
  if addr = 0 then pure []
  else
    let bs ← bytes v addr (4 * count)
    pure (chunks (4 * v.tokens) bs)

/-- A node leaves the tree: its bucket's chain closes over it (R370, R371). -/
def untree (v : KvEnv) (g : Nat) : KvM Unit := do
  let h ← hashOf v g
  let next ← link v g 0x1C
  let ps ← bucketPages v h
  let before := (ps.takeWhile (· ≠ g)).getLast?
  match before with
  | none => put (v.bucketAt (bucketOf v h)) next
  | some b => put (v.recAt b + 0x1C) next
  let p ← page v g
  setPage v g { p with hashed := false }

/-- A page joins the tree (R375). -/
def intree (v : KvEnv) (g h parent : Nat) : KvM Unit := do
  let head ← word v (v.bucketAt (bucketOf v h))
  put2 (v.recAt g + 8) h
  put (v.recAt g + 0x18) parent
  put (v.recAt g + 0x1C) (head % 2 ^ 24)
  put (v.bucketAt (bucketOf v h)) g
  let p ← page v g
  setPage v g { p with hashed := true }

/-! ### Allocation and release (R370, R371, R377) -/

/-- A cached page leaves the cached list. -/
def uncache (v : KvEnv) (g : Nat) : KvM Unit := do
  let next ← link v g 0x20
  let prev ← link v g 0x24
  if next ≠ nullPage then put (v.recAt next + 0x24) prev
  if prev ≠ nullPage then put (v.recAt prev + 0x20) next
  setPool fun p => { p with cacheHead := if p.cacheHead = g then next else p.cacheHead,
                            cacheTail := if p.cacheTail = g then prev else p.cacheTail, nCached := p.nCached - 1 }

/-- Allocating one page (R371): FREE pages first, then the oldest CACHED page. [log 92 DESIGN CHOICE, unsafe] -/
def alloc (v : KvEnv) : KvM Nat := do
  let p ← pool
  let g := if p.nFree ≠ 0 then p.freeHead else p.cacheHead
  let _ ← page v g
  modify fun x => { x with taken := g :: x.taken }
  if p.nFree ≠ 0 then
    let next ← link v g 0x20
    setPool fun p => { p with freeHead := next, nFree := p.nFree - 1 }
  else
    uncache v g
    untree v g
  setPage v g { refs := 0, fill := 0, pstate := 1, hashed := false }
  pure g

/-- A page joins the free list. -/
def freePage (v : KvEnv) (g : Nat) : KvM Unit := do
  setPage v g { refs := 0, fill := 0, pstate := 0, hashed := false }
  put (v.recAt g + 0x20) (← pool).freeHead
  setPool fun p => { p with freeHead := g, nFree := p.nFree + 1 }

/-- Pages an operation that ends before its commit had allocated return to the free list, those taken from the cached
list too (R366). -/
def giveBack (v : KvEnv) (gs : List Nat) : KvM Unit := do
  for g in gs do
    let p ← page v g
    if p.pstate = 2 then
      uncache v g
      untree v g
      freePage v g

/-- Releasing a list entry that names page `g` (R370). -/
def release (v : KvEnv) (g : Nat) : KvM Unit := do
  let p ← listed v g
  if 1 < p.refs then setPage v g { p with refs := p.refs - 1 }
  else
    let q ← pool
    if q.retain ∧ p.hashed then
      setPage v g { p with refs := 0, pstate := 2 }
      put (v.recAt g + 0x20) nullPage
      put (v.recAt g + 0x24) q.cacheTail
      if q.cacheTail ≠ nullPage then put (v.recAt q.cacheTail + 0x20) g
      setPool fun p => { p with cacheHead := if p.nCached = 0 then g else p.cacheHead, cacheTail := g,
                                nCached := p.nCached + 1 }
    else
      if p.hashed then untree v g
      freePage v g

/-- A list entry more names page `g`; a CACHED page becomes USED (R377). -/
def mapPage (v : KvEnv) (g : Nat) : KvM Unit := do
  let p ← page v g
  if p.pstate = 2 then uncache v g
  let p ← page v g
  setPage v g { p with refs := p.refs + 1, pstate := 1 }

/-! ### Sequence records (Table 11.5) and handles (R362) -/

/-- A sequence record as read. -/
structure SeqRec where
  idx : Nat
  st : Nat
  flags : Nat
  gen : Nat
  limit : Nat
  list : Nat
  toks : Nat
  npages : Nat
  index : Nat
  lease : Nat

def seq (v : KvEnv) (i : Nat) : KvM SeqRec := do
  let a := v.seqAt i
  let w ← word v a
  if 1 < w % 256 then broken
  else
    let limit ← word v (a + 4)
    let list ← word2 v (a + 8)
    let toks ← word2 v (a + 0x10)
    let np ← word v (a + 0x18)
    let ix ← word2 v (a + 0x20)
    let le ← word2 v (a + 0x28)
    pure { idx := i, st := w % 256, flags := bitsOf w 15 8, gen := w / 2 ^ 16, limit := limit, list := list, toks := toks,
           npages := np, index := ix, lease := le }

def setSeq (v : KvEnv) (r : SeqRec) : KvM Unit := do
  let a := v.seqAt r.idx
  put a (r.st + r.flags % 256 * 256 + r.gen % 2 ^ 16 * 2 ^ 16)
  put (a + 4) r.limit
  put2 (a + 8) r.list
  put2 (a + 0x10) r.toks
  put (a + 0x18) r.npages
  put (a + 0x1C) 0
  put2 (a + 0x20) r.index
  put2 (a + 0x28) r.lease

def SeqRec.indexed (r : SeqRec) : Bool := bitOf r.flags 0
def SeqRec.share (r : SeqRec) : Bool := bitOf r.flags 1

/-- The sequence a handle names (R362). -/
def named (v : KvEnv) (h : Nat) : KvM SeqRec := do
  let r ← seq v (h % 0x1000)
  if r.st = 1 ∧ r.gen = bitsOf h 31 16 ∧ bitsOf h 15 12 = v.pid then pure r else throw .notFound

def handleOf (v : KvEnv) (r : SeqRec) : Nat := r.idx + v.pid * 0x1000 + r.gen % 2 ^ 16 * 2 ^ 16

/-- The page a list entry names (R363). -/
def entryPage (v : KvEnv) (r : SeqRec) (i : Nat) : KvM Nat := do
  let g := (← word v (r.list + 4 * i)) % 2 ^ 24
  let _ ← listed v g
  pure g

/-- The lowest free sequence record from `i` on. [log 92 DESIGN CHOICE, unsafe] -/
def freeRec (v : KvEnv) : Nat → Nat → KvM (Option SeqRec)
  | 0, _ => pure none
  | n + 1, i => do
    let r ← seq v i
    if r.st = 0 then pure (some r) else freeRec v n (i + 1)

/-- Table 11.7, step 7. -/
def admitNew (v : KvEnv) : KvM SeqRec := do
  let r ← freeRec v 4096 0
  let p ← pool
  match r with
  | some r =>
    if p.floor < p.nFree + p.nCached ∧ p.waits.isEmpty then pure r
    else do count (Reg.kvCnt v.pid) 15 0 1; throw .admitRefused
  | none => do count (Reg.kvCnt v.pid) 15 0 1; throw .admitRefused

/-- Table 11.7, step 2. -/
def ready : KvM Unit := do
  match (← pool).st with
  | .ready => pure ()
  | .broken => throw .integrity
  | _ => throw .notFound

/-- An argument range (Table 11.7, step 4). -/
def range (b : Bool) : KvM Unit := if b then pure () else throw .badArg

/-! ### Append leases (R166, R368) -/

def leaseHeld (w : Nat) : Bool := bitOf w 0

/-- The lease word after a grant to the steward of `who`, in the layout of Table 4.8. -/
def granted (s : State) (who : Requester) (e w : Nat) (held : Bool) : Nat :=
  b2n held + (e % 8) * 8 + (State.gskOf who % 128) * 0x40 + ((bitsOf w 31 16 + 1) % 2 ^ 16) * 2 ^ 16
    + ((s.upNs + s.leaseNs e) / 1000 % 2 ^ 32) * 2 ^ 32

/-! ### Append Q (R373) -/

/-- QMAX of a store format. -/
def qmax (fmt : Nat) : Nat := match fmt with | 1 => 127 | 3 => 7 | _ => 448

/-- The FP32 pattern of 2^k for −127 ≤ k ≤ 127. -/
def pow2Pat (k : Int) : Nat := if k < -126 then 0x400000 else ((k + 127).toNat) * 2 ^ 23

/-- e of a stored scale 2^e. -/
def scaleExp (pat : Nat) : Int := (bitsOf pat 30 23 : Int) - 127

/-- The larger magnitude of two finite values (mantissa, exponent). -/
def bigger (a b : Nat × Int) : Nat × Int := if (exactSum false a.1 a.2 true b.1 b.2).1 < 0 then b else a

/-- e = ⌈log2(2^HEADROOM_LOG2 × amax / QMAX)⌉, clamped (R373). [log 96 DEDUCED, unsafe] -/
def scaleFor (headroom q : Nat) (xs : List Nat) : Int :=
  let amax := xs.foldl (fun m x => match fp32.read x with
    | .fin _ k e => bigger m (k, e)
    | _ => m) (1, -100)
  let k : Int := if amax.1 ≤ q then -(Nat.log2 (q / amax.1) : Int) else clog2 ((amax.1 + q - 1) / q)
  max (-126) (min 127 (k + amax.2 + headroom))

/-- The store format's vector type. -/
def storeType (fmt : Nat) : VuType := match fmt with | 1 => .int8 | 2 => .e4m3 | 3 => .int4 | _ => .bf16

/-- One element stored under the scale 2^e, with its flags. -/
def storeElem (fmt : Nat) (e : Int) (x : Nat) : Nat × Nat := vuConvert .fp32 (storeType fmt) true true x (pow2Pat (-e))

/-- Elements packed at the stored size (R249). -/
def packElems (es : Nat) (l : List Nat) : List Byte :=
  if es = 4 then (List.range ((l.length + 1) / 2)).map fun i =>
    BitVec.ofNat 8 (l.getD (2 * i) 0 % 16 + l.getD (2 * i + 1) 0 % 16 * 16)
  else l.flatMap (leBytes (es / 8))

/-- A row's source elements as FP32 (SRC_FMT). -/
def srcElems (fmt : Nat) (bs : List Byte) : List Nat :=
  if fmt = 0 then (chunks 4 bs).map leNat else (chunks 2 bs).map fun b => (vuWiden bf16 (leNat b)).1

/-- A stored element read back as FP32 without its page scale (R391). -/
def loadElem (fmt n : Nat) : Nat := (vuConvert (storeType fmt) .fp32 false false n 0).1

/-- Rows [lo, lo + n) of plane q of page g, from the source rows (R373). -/
def writePlane (v : KvEnv) (g q lo fill : Nat) (srcFmt : Nat) (rows : List Byte) : KvM Unit := do
  let p ← pool
  let rb := p.dim * v.es / 8
  let dst := v.pageAt g + v.scaleBytes p.layers p.heads + q * v.plane p.dim + lo * rb
  if v.appendQ then
    let xs := srcElems srcFmt rows
    let sc := v.pageAt g + 4 * q
    let e ← if fill = 0 then do
        let e := scaleFor p.headroom (qmax v.item.storeFmt) xs
        writeRows v sc (leBytes 4 (pow2Pat e)) (List.replicate 4 false)
        pure e
      else do pure (scaleExp (leNat (← pageBytes v sc 4)))
    let out := xs.map (storeElem v.item.storeFmt e)
    modify fun x => { x with flags := out.foldl (fun f y => f ||| y.2) x.flags }
    let bs := packElems v.es (out.map (·.1))
    writeRows v dst bs (List.replicate bs.length false)
  else
    writeRows v dst rows (List.replicate rows.length false)

/-! ### The coarse index (R404, R405) -/

/-- E, the size of an index entry (R404). -/
def indexEntry (p : Pool) : Nat := roundUp (2 * p.layers * p.heads * p.dim) 64

/-- The elementwise mean of the T key rows of one layer and head of a page, in BF16 (R405). -/
def summary (v : KvEnv) (g l h : Nat) : KvM (List Byte) := do
  let p ← pool
  let q := (l * p.heads + h) * 2
  let d ← pageBytes v (v.pageAt g + v.scaleBytes p.layers p.heads + q * v.plane p.dim) (v.tokens * p.dim * v.es / 8)
  let sc ← if v.appendQ then pageBytes v (v.pageAt g + 4 * q) 4 else pure (leBytes 4 f32One)
  let scale := leNat sc
  let tInv := pow2Pat (-(Nat.log2 v.tokens : Int))
  let outs := (List.range p.dim).map fun c =>
    let (sum, fl) := (List.range v.tokens).foldl (fun (acc : Nat × Nat) r =>
      let x := loadElem v.item.storeFmt (elemAt d v.es (r * p.dim + c))
      let (y, f1) := if v.appendQ then vuMul x scale else (x, 0)
      let (z, f2) := if r = 0 then (y, 0) else vuAdd acc.1 y
      (z, acc.2 ||| f1 ||| f2)) (0, 0)
    let (m, f3) := vuMul sum tInv
    let (b, f4) := vuToFloat bf16 false m
    (b, fl ||| f3 ||| f4)
  modify fun x => { x with flags := outs.foldl (fun f y => f ||| y.2) x.flags }
  pure (outs.flatMap fun y => leBytes 2 y.1)

/-- Index entry `i` of a list, for page `g`: every layer and head (R404, R405). -/
def writeIndex (v : KvEnv) (list limit i g : Nat) : KvM Unit := do
  let p ← pool
  let x := roundUp (list + 4 * limit) 64 + i * indexEntry p
  for l in List.range p.layers do
    for h in List.range p.heads do
      let m ← summary v g l h
      writeRows v (x + 2 * p.dim * (l * p.heads + h)) m (List.replicate m.length false)

/-! ### SEQ_APPEND (Table 11.8) -/

/-- Pages an append of `n` tokens needs (step 2): whether the page of the first new token is copied, and how many new
pages. -/
def appendNeed (v : KvEnv) (r : SeqRec) (n : Nat) : KvM (Bool × Nat) := do
  let t := v.tokens
  let new := (r.toks + n + t - 1) / t - r.npages
  if r.toks % t ≠ 0 ∧ r.toks / t < r.npages then
    let g ← entryPage v r (r.toks / t)
    let p ← page v g
    pure (!(decide (p.refs = 1) && !p.hashed), new)
  else pure (false, new)

/-- Steps 3 to 5: pages allocated, the copy made, rows written, and the summaries of pages that become full (R405).
Answers the pages of the append; nothing but the allocation is staged. -/
def appendPlan (v : KvEnv) (r : SeqRec) (n tokids source srcFmt : Nat) : KvM (List AppPage) := do
  let t := v.tokens
  let p ← pool
  let (copy, _) ← appendNeed v r n
  let planes := 2 * p.layers * p.heads
  let srcEs := if v.appendQ ∧ srcFmt = 0 then 4 else 2
  let rowB := p.dim * srcEs
  let src ← bytes v source (planes * n * rowB)
  let toks ← if tokids = 0 then pure [] else bytes v tokids (4 * n)
  let first := r.toks / t
  let last := (r.toks + n - 1) / t
  (List.range (last + 1 - first)).mapM fun k => do
    let i := first + k
    let lo := if i = first then r.toks % t else 0
    let hi := min t (r.toks + n - i * t)
    let skip := i * t + lo - r.toks
    let (g, old) ← if i < r.npages then
        if k = 0 ∧ copy then do
          let old ← entryPage v r i
          let g ← alloc v
          let x ← get
          let (st, d, m, s1) := x.s.readRunP v.who (v.pageAt old) v.item.pageBytes v.ext v.ups
          set { x with s := s1 }
          if st = .ok ∨ st = .poisoned then pure () else throw st
          writeRows v (v.pageAt g) d m
          pure (g, some old)
        else do pure (← entryPage v r i, none)
      else do pure (← alloc v, none)
    let fill := (← page v (old.getD g)).fill
    for q in List.range planes do
      writePlane v g q lo fill srcFmt (sliceAt src ((q * n + skip) * rowB) ((hi - lo) * rowB))
    if hi = t ∧ r.indexed then writeIndex v r.list r.limit i g
    pure { i := i, g := g, old := old, fresh := decide (r.npages ≤ i) || old.isSome, lo := lo, hi := hi,
           toks := sliceAt toks (4 * skip) (4 * (hi - lo)) }

/-- Step 6: a page that became full joins the tree when SHARE is set and no equal node exists (R375). -/
def joinTree (v : KvEnv) (r : SeqRec) (i g : Nat) : KvM Unit := do
  let prev ← if i = 0 then pure (some (nullPage, 0)) else do
    let b := (← word v (r.list + 4 * (i - 1))) % 2 ^ 24
    let pb ← page v b
    if pb.hashed then pure (some (b, ← hashOf v b)) else pure none
  match prev with
  | none => pure ()
  | some (parent, ph) =>
    let ts ← tokensOf v g
    let h := prefixHash (← pool).key ph ts
    match ← search v h parent ts with
    | (some _, _) => pure ()
    | (none, _) => intree v g h parent

/-- Steps 6 and 7 for the pages of an append: token IDs, page records, list entries and tree (R366, R369, R375).
[log 93 DESIGN CHOICE, safe] -/
def appendApply (v : KvEnv) (r : SeqRec) (plan : List AppPage) : KvM Unit := do
  for a in plan do
    match a.old with
    | none => pure ()
    | some old =>
      for j in List.range a.lo do
        put (v.tokAt a.g + 4 * j) (← word v (v.tokAt old + 4 * j))
      release v old
      count (Reg.kvShare v.pid) 31 16 1
    for (w, j) in (chunks 4 a.toks).zipIdx do
      put (v.tokAt a.g + 4 * (a.lo + j)) (leNat w)
    let pg ← page v a.g
    setPage v a.g { pg with refs := if a.fresh then 1 else pg.refs, fill := a.hi }
    put (r.list + 4 * a.i) a.g
    if a.hi = v.tokens ∧ r.share then joinTree v r a.i a.g

/-- Newly allocated pages of an append that ends uncommitted return to the free list (R366). -/
def appendUndo (v : KvEnv) (plan : List AppPage) : KvM Unit := do
  for a in plan.reverse do
    if a.fresh then freePage v a.g

/-- Pages newly allocated by an append. -/
def freshPages (plan : List AppPage) : Nat := (plan.filter (·.fresh)).length

/-- Steps 3 to 6 together. Answers the pages allocated. -/
def appendRows (v : KvEnv) (r : SeqRec) (n tokids source srcFmt : Nat) : KvM Nat := do
  let plan ← appendPlan v r n tokids source srcFmt
  appendApply v r plan
  pure (freshPages plan)

/-- Step 7: the sequence's length, its list and its lease (R366). -/
def appendCommit (v : KvEnv) (r : SeqRec) (n lease : Nat) : KvM Unit :=
  setSeq v { r with toks := r.toks + n, npages := max r.npages ((r.toks + n + v.tokens - 1) / v.tokens), lease := lease }

end KvM

namespace State

/-! ### Running an operation on a pool -/

/-- The pool item of the STEEP image in force, and Table 11.7 step 1. -/
def poolItem (s : State) (pid e : Nat) : Option PoolItem :=
  match s.steepImg with
  | none => none
  | some m => m.pools.find? (fun p => p.id = pid ∧ p.owner = e)

/-- What an operation of enclosure `e` on pool `pid` works with. [log 95 DESIGN CHOICE, unsafe] -/
def kvEnv (s : State) (pid e : Nat) (ext : List ExtData) (ups : List Upset) : Option KvEnv :=
  match s.steepImg, s.poolItem pid e with
  | some m, some it => some { pid := pid, item := it, base := (poolSpan m it).1, who := s.stewardOf e, ext := ext, ups := ups }
  | _, _ => none

/-- What the commit's writes would answer: the first staged word that may not be written, with its denial. -/
def stageCheck (s : State) (who : Requester) : List (Nat × Nat) → Status × State
  | [] => (.ok, s)
  | (a, _) :: rest =>
    match s.windowCheck who .write a 4 with
    | some r => (.accessDenied, s.deny (s.tagOf who) (gskOf who) (if r = 3 then 3 else 1) r a true)
    | none =>
      match s.gasketAnswer (placeOf s.usable (localOf a)).gasket with
      | some st => (st, s)
      | none => s.stageCheck who rest

/-- The commit step (R366): the staged words written, the pool record and the counters taken over.
[log 95 DESIGN CHOICE, unsafe] -/
def kvCommit (v : KvEnv) (x : KvSt) : Status × State :=
  let (st, s1) := x.s.stageCheck v.who x.stage
  if st = .ok then
    (.ok, (x.stage.foldl (fun t w => (t.requestWriteP v.who w.1 (leBytes 4 w.2) (List.replicate 4 false) v.ext v.ups).2)
      s1).setKvPool v.pid x.pool)
  else (st, s1)

/-- The pool is BROKEN when the program found it so (R361). -/
def kvBroken (v : KvEnv) (x : KvSt) (t : State) : State :=
  if x.pool.st = .broken then t.setKvPool v.pid { t.kvPool v.pid with st := .broken } else t

/-- A program ends before its commit: metadata and pool stay as they were, but for a pool found BROKEN and the pages it
had allocated (R366). -/
def kvUndo (v : KvEnv) (x : KvSt) (t : State) : State :=
  if x.pool.st = .broken ∨ x.taken.isEmpty then kvBroken v x t
  else
    let (r, y) := ((KvM.giveBack v x.taken).run).run { s := t, pool := t.kvPool v.pid }
    match r with
    | .ok _ => (kvCommit v y).2
    | .error _ => kvBroken v y y.s

/-- Running a program and its commit step. Answers the code, its value, flags and poison. -/
def kvRun {α : Type} (s : State) (v : KvEnv) (m : KvM α) : (Status × Option α) × Nat × Bool × State :=
  let (r, x) := (m.run).run { s := s, pool := s.kvPool v.pid }
  match r with
  | .ok a =>
    let (st, t) := kvCommit v x
    if st = .ok then ((.ok, some a), x.flags, x.poisoned, t) else ((st, none), x.flags, x.poisoned, kvUndo v x t)
  | .error st => ((st, none), x.flags, x.poisoned, kvUndo v x x.s)

/-- Running a program for what it does to the state. -/
def kvDo {α : Type} (s : State) (v : KvEnv) (m : KvM α) : State := (s.kvRun v m).2.2.2

/-- Running a program's checks alone: nothing is committed (R300). -/
def kvCheck {α : Type} (s : State) (v : KvEnv) (m : KvM α) : Status × State :=
  let (r, x) := (m.run).run { s := s, pool := s.kvPool v.pid }
  match r with
  | .ok _ => (.ok, kvBroken v x x.s)
  | .error st => (st, kvBroken v x x.s)

end State

/-! ### The operations: admission (Table 11.7) and effect -/

namespace KvM

/-- POOL_RESET (R356): the geometry, then BUSY while a sequence is open. [log 94 DEDUCED, unsafe] -/
def poolResetCheck (v : KvEnv) (y : Entry) : KvM Unit := do
  let (l, h, hr, d) := (y.arg 1 1, y.arg 2 1, y.arg 3 1, y.arg 4 2)
  match (← pool).st with
  | .absent => throw .notFound
  | _ => pure ()
  range (decide (1 ≤ l ∧ l ≤ 128 ∧ 1 ≤ h ∧ h ≤ 64 ∧ 16 ≤ d ∧ d ≤ 256 ∧ d % 16 = 0))
  range (decide (hr ≤ 3 ∧ y.arg 6 1 ≤ 2 ∧ y.arg 8 4 ≤ 10000 ∧ y.arg 7 1 ≤ 1))
  range (decide (v.item.pageBytes = v.scaleBytes l h + 2 * l * h * v.plane d))
  range (decide (roundUp (v.item.pages * v.item.pageBytes) 0x10000 + v.metaBytes ≤ v.item.poolBytes))
  if (← pool).opens ≠ 0 then throw .busy

/-- The metadata area may be written at both its ends, or the operation ends with what a write there would answer. -/
def metaWritable (v : KvEnv) : KvM Unit := do
  let x ← get
  let (st, s1) := x.s.stageCheck v.who [(v.metaAt, 0), (v.metaAt + v.metaBytes - 4, 0)]
  set { x with s := s1 }
  if st = .ok then pure () else throw st

/-- The metadata area is zeroed. -/
def zeroMeta (v : KvEnv) : KvM Unit :=
  modify fun x => { x with s := x.s.zeroThrough v.who v.metaAt (v.metaAt + v.metaBytes) }

/-- A fresh random value, which a failed random source does not give (R630). -/
def fresh : KvM Nat := do
  let x ← get
  if x.s.sec.rngFail then throw .keyUnavailable
  let (k, s1) := x.s.draw
  set { x with s := s1 }
  pure k

/-- The pool's counters start again. -/
def clearCounters (v : KvEnv) : KvM Unit :=
  modify fun x => { x with s := (x.s.setReg (Reg.kvCnt v.pid) 0).setReg (Reg.kvShare v.pid) 0 }

def poolReset (v : KvEnv) (y : Entry) : KvM Nat := do
  poolResetCheck v y
  metaWritable v
  let k ← fresh
  zeroMeta v
  for b in List.range v.buckets do put (v.bucketAt b) nullPage
  for g in List.range v.item.pages do
    put (v.recAt g + 0x20) (if g + 1 < v.item.pages then g + 1 else nullPage)
  clearCounters v
  setPool fun _ =>
    { st := .ready, layers := y.arg 1 1, heads := y.arg 2 1, dim := y.arg 4 2, headroom := y.arg 3 1, walk := y.arg 6 1,
      retain := bitOf (y.arg 7 1) 0, waitMs := if y.arg 8 4 = 0 then 100 else y.arg 8 4, floor := y.arg 12 4,
      key := k % 2 ^ 128, freeHead := 0, nFree := v.item.pages }
  pure v.item.pages

/-- SEQ_OPEN (R367, R376, R377). -/
def seqOpenCheck (v : KvEnv) (y : Entry) : KvM SeqRec := do
  ready
  range (decide (1 ≤ y.arg 4 4 ∧ y.arg 4 4 ≤ 0xFFFFFF ∧ y.arg 1 1 < 4 ∧ y.arg 24 4 ≤ v.tokens * y.arg 4 4))
  admitNew v

/-- Matched pages up to the first whose REFS would pass 0xFFFF. -/
def mappable (v : KvEnv) : List Nat → KvM (List Nat)
  | [] => pure []
  | g :: gs => do
    let p ← page v g
    if p.refs = 0xFFFF then pure [] else pure (g :: (← mappable v gs))

def seqOpen (v : KvEnv) (y : Entry) : KvM Nat := do
  let r ← seqOpenCheck v y
  let pages ← prefixPages v (y.arg 16 8) (y.arg 24 4)
  let (gs, coll) ← lookup v pages 0 nullPage
  let gs ← mappable v gs
  let (limit, list) := (y.arg 4 4, y.arg 8 8)
  for (g, i) in gs.zipIdx do
    mapPage v g
    put (list + 4 * i) g
    if bitOf (y.arg 1 1) 0 then writeIndex v list limit i g
  count (Reg.kvShare v.pid) 15 0 gs.length
  let r' : SeqRec :=
    { r with st := 1, flags := y.arg 1 1, limit := limit, list := list, toks := v.tokens * gs.length, npages := gs.length,
             index := if bitOf (y.arg 1 1) 0 then roundUp (list + 4 * limit) 64 else 0, lease := 0 }
  setSeq v r'
  setPool fun p => { p with opens := p.opens + 1 }
  pure (handleOf v r' + gs.length * 2 ^ 32 + b2n coll * 2 ^ 56)

/-- SEQ_FORK (R367). -/
def seqForkCheck (v : KvEnv) (y : Entry) : KvM (SeqRec × SeqRec) := do
  ready
  let par ← named v (y.arg 0 4)
  range (decide (1 ≤ y.arg 16 4 ∧ y.arg 16 4 ≤ 0xFFFFFF ∧ y.arg 20 4 ≤ par.toks ∧ y.arg 4 1 < 4))
  if y.arg 16 4 < (y.arg 20 4 + v.tokens - 1) / v.tokens then throw (.op 0x30)
  let r ← admitNew v
  pure (par, r)

def seqFork (v : KvEnv) (y : Entry) : KvM Nat := do
  let (par, r) ← seqForkCheck v y
  let (list, limit, keep) := (y.arg 8 8, y.arg 16 4, y.arg 20 4)
  let n := (keep + v.tokens - 1) / v.tokens
  let gs ← (List.range n).mapM fun i => entryPage v par i
  for (g, i) in gs.zipIdx do
    let p ← page v g
    if p.refs = 0xFFFF then throw .admitRefused
    setPage v g { p with refs := p.refs + 1 }
    put (list + 4 * i) g
  for (g, i) in gs.zipIdx do
    if bitOf (y.arg 4 1) 0 ∧ (i + 1) * v.tokens ≤ keep then writeIndex v list limit i g
  let r' : SeqRec :=
    { r with st := 1, flags := y.arg 4 1, limit := limit, list := list, toks := keep, npages := n,
             index := if bitOf (y.arg 4 1) 0 then roundUp (list + 4 * limit) 64 else 0, lease := 0 }
  setSeq v r'
  setPool fun p => { p with opens := p.opens + 1 }
  pure (handleOf v r')

/-- SEQ_APPEND, steps 1 to 6 of Table 11.7. -/
def seqAppendCheck (v : KvEnv) (y : Entry) : KvM SeqRec := do
  ready
  let r ← named v (y.arg 0 4)
  range (decide (1 ≤ y.arg 4 4 ∧ y.arg 4 4 ≤ 65536 ∧ y.arg 24 1 ≤ 1) && (!r.share || y.arg 8 8 ≠ 0))
  if leaseHeld r.lease then throw .busy
  if r.limit < (r.toks + y.arg 4 4 + v.tokens - 1) / v.tokens then throw (.op 0x30)
  pure r

/-- What an append comes to: done with its RESULT, or waiting for pages with the sequence record and the need. -/
inductive Appended where
  | done (result : Nat)
  | waits (idx need : Nat)
  deriving DecidableEq, Repr

/-- The append must wait (R372): its need exceeds what is there, or an older waiter stands. -/
def mustWait (p : Pool) (need : Nat) : Bool :=
  decide (p.nFree + p.nCached < need) || (decide (0 < need) && !p.waits.isEmpty)

/-- SEQ_APPEND up to its end or its wait (R368, R372). -/
def seqAppend (v : KvEnv) (y : Entry) (e : Nat) : KvM Appended := do
  let r ← seqAppendCheck v y
  let (copy, new) ← appendNeed v r (y.arg 4 4)
  let need := new + b2n copy
  let s := (← get).s
  if mustWait (← pool) need then
    setSeq v { r with lease := granted s v.who e r.lease true }
    pure (.waits r.idx need)
  else
    let k ← appendRows v r (y.arg 4 4) (y.arg 8 8) (y.arg 16 8) (y.arg 24 1)
    appendCommit v r (y.arg 4 4) (granted s v.who e r.lease false)
    pure (.done ((r.toks + y.arg 4 4) % 2 ^ 32 + k * 2 ^ 32))

/-- A lease the steward ends itself: HELD 0, nothing broken. -/
def freed (w : Nat) : Nat := w - w % 2

/-- The steward ends an append lease. -/
def freeLease (v : KvEnv) (idx : Nat) : KvM Unit := do
  let r ← seq v idx
  setSeq v { r with lease := freed r.lease }

/-- The lease word of a broken, or seized, lease (Table 4.8). -/
def endLease (v : KvEnv) (idx : Nat) (f : Nat → Nat) : KvM Unit := do
  let r ← seq v idx
  setSeq v { r with lease := f r.lease }

/-- A waiting append resumes with its pages (R372). -/
def seqAppendResume (v : KvEnv) (y : Entry) (idx : Nat) : KvM Nat := do
  ready
  let r ← seq v idx
  let k ← appendRows v r (y.arg 4 4) (y.arg 8 8) (y.arg 16 8) (y.arg 24 1)
  appendCommit v r (y.arg 4 4) (freed r.lease)
  pure ((r.toks + y.arg 4 4) % 2 ^ 32 + k * 2 ^ 32)

/-- SEQ_TRIM (R367). -/
def seqTrimCheck (v : KvEnv) (y : Entry) : KvM SeqRec := do
  ready
  let r ← named v (y.arg 0 4)
  range (decide (y.arg 8 8 ≤ r.toks))
  if leaseHeld r.lease then throw .busy
  pure r

/-- List entries from `n` on are released, last first. -/
def releaseFrom (v : KvEnv) (r : SeqRec) (n : Nat) : KvM Nat := do
  for i in ((List.range r.npages).drop n).reverse do
    let g ← entryPage v r i
    release v g
  pure (r.npages - n)

def seqTrim (v : KvEnv) (y : Entry) : KvM Nat := do
  let r ← seqTrimCheck v y
  let n := (y.arg 8 8 + v.tokens - 1) / v.tokens
  let k ← releaseFrom v r n
  setSeq v { r with toks := y.arg 8 8, npages := min n r.npages }
  pure k

/-- SEQ_CLOSE (R367). -/
def seqCloseCheck (v : KvEnv) (y : Entry) : KvM SeqRec := do
  ready
  let r ← named v (y.arg 0 4)
  if leaseHeld r.lease then throw .busy
  pure r

def seqClose (v : KvEnv) (y : Entry) : KvM Nat := do
  let r ← seqCloseCheck v y
  let k ← releaseFrom v r 0
  setSeq v { r with st := 0, gen := (r.gen + 1) % 2 ^ 16 }
  setPool fun p => { p with opens := p.opens - 1 }
  pure k

/-- PREFIX_QUERY (R367, R376): nothing is committed. -/
def prefixQuery (v : KvEnv) (y : Entry) : KvM (Nat × Bool) := do
  ready
  let pages ← prefixPages v (y.arg 8 8) (y.arg 16 4)
  let (gs, coll) ← lookup v pages 0 nullPage
  pure (gs.length + b2n coll * 2 ^ 24, coll)

end KvM

namespace State

/-- The pool a KV entry names: by POOL_ID, or by its handle. -/
def kvPoolId (y : Entry) : Nat := if y.op = 1 ∨ y.op = 2 ∨ y.op = 7 then y.arg 0 1 else bitsOf (y.arg 0 4) 15 12

/-- Check 6 for a KV entry (R365). -/
def admitKv (s : State) (y : Entry) (e : Nat) (ext : List ExtData) (ups : List Upset) : Status × State :=
  match s.kvEnv (kvPoolId y) e ext ups with
  | none => (.notFound, s)
  | some v =>
    match y.op with
    | 1 => s.kvCheck v (KvM.poolResetCheck v y)
    | 2 => s.kvCheck v (KvM.seqOpenCheck v y)
    | 3 => s.kvCheck v (KvM.seqForkCheck v y)
    | 4 => s.kvCheck v (KvM.seqAppendCheck v y)
    | 5 => s.kvCheck v (KvM.seqTrimCheck v y)
    | 6 => s.kvCheck v (KvM.seqCloseCheck v y)
    | _ => s.kvCheck v KvM.ready

/-- A KV operation that ends at its commit: the entry completes with its code and RESULT. -/
def kvOp (s : State) (r : EntryRef) (op : Nat) (ext : List ExtData) (ups : List Upset)
    (m : KvEnv → Entry → KvM Nat) : State :=
  match s.running r 3 op with
  | none => s
  | some y =>
    match s.kvEnv (kvPoolId y) r.encl ext ups with
    | none => s.finish r .notFound 0
    | some v =>
      let ((st, res), _, _, t) := s.kvRun v (m v y)
      t.finish r st (res.getD 0)

/-- A waiter leaves its pool, its append lease with it. -/
def dropWaiter (s : State) (v : KvEnv) (w : Waiter) : State :=
  let p := s.kvPool v.pid
  let s1 := s.setKvPool v.pid { p with waits := p.waits.filter (· ≠ w) }
  s1.kvDo v (KvM.freeLease v w.idx)

/-- The pools of the STEEP image, by owner. -/
def poolsOf (s : State) (e : Nat) : List PoolItem := ((s.steepImg.map (·.pools)).getD []).filter (·.owner = e)

end State

open State

/-- POOL_RESET (R356). -/
def execPoolReset (r : EntryRef) (ext : List ExtData) (upsets : List Upset) (s : State) : Out :=
  .next (s.kvOp r 1 ext upsets KvM.poolReset)

/-- SEQ_OPEN (R367). -/
def execSeqOpen (r : EntryRef) (ext : List ExtData) (upsets : List Upset) (s : State) : Out :=
  .next (s.kvOp r 2 ext upsets KvM.seqOpen)

/-- SEQ_FORK (R367). -/
def execSeqFork (r : EntryRef) (ext : List ExtData) (upsets : List Upset) (s : State) : Out :=
  .next (s.kvOp r 3 ext upsets KvM.seqFork)

/-- SEQ_APPEND (R368): done at once, or waiting for pages under R372. -/
def execSeqAppend (r : EntryRef) (ext : List ExtData) (upsets : List Upset) (s : State) : Out :=
  match s.running r 3 4 with
  | none => .next s
  | some y =>
    if (List.range 16).any (fun i => (s.kvPool i).waits.any (fun w => w.r = r)) then .next s
    else
      match s.kvEnv (kvPoolId y) r.encl ext upsets with
      | none => .next (s.finish r .notFound 0)
      | some v =>
        let ((st, res), fl, _, t) := s.kvRun v (KvM.seqAppend v y r.encl)
        match res with
        | some (.waits i n) =>
          let p := t.kvPool v.pid
          .next (t.setKvPool v.pid
            { p with waits := p.waits ++ [{ r := r, idx := i, need := n, since := t.upNs : Waiter }] })
        | some (.done k) => .next ((t.contribute r .ok 0 fl true).finish r st k)
        | none => .next (t.finish r st 0)

/-- APPEND_PAGES_GRANTED (R372): the oldest waiter of the pool, its whole need met, resumes. An attention operator's
fused append goes on in its own row, with the pages now there. -/
def execAppendPagesGranted (pid : Nat) (ext : List ExtData) (upsets : List Upset) (s : State) : Out :=
  let p := s.kvPool pid
  match p.waits with
  | [] => .next s
  | w :: rest =>
    if p.nFree + p.nCached < w.need then .next s
    else if w.attn then .next (s.setKvPool pid { p with waits := { w with need := 0 } :: rest })
    else
      match s.running w.r 3 4, s.kvEnv pid w.r.encl ext upsets with
      | some y, some v =>
        let s1 := s.setKvPool pid { p with waits := rest }
        let ((st, res), fl, _, t) := s1.kvRun v (KvM.seqAppendResume v y w.idx)
        if st = .ok then .next ((t.contribute w.r .ok 0 fl true).finish w.r .ok (res.getD 0))
        else .next ((t.dropWaiter v w).finish w.r st 0)
      | _, some v => .next (s.dropWaiter v w)
      | _, none => .next (s.setKvPool pid { p with waits := rest })

/-- APPEND_WAIT_EXPIRY (R372): WAIT_MS after it began to wait, the oldest waiter completes with NO_SPACE. -/
def execAppendWaitExpiry (pid : Nat) (s : State) : Out :=
  let p := s.kvPool pid
  match p.waits with
  | [] => .next s
  | w :: _ =>
    let s1 := (s.elapseTo (w.since + p.waitMs * 1000000)).bump (Reg.kvCnt pid) 31 16
    match s1.kvEnv pid w.r.encl [] [] with
    | none => .next ((s1.setKvPool pid { p with waits := p.waits.filter (· ≠ w) }).finish w.r .noSpace 0)
    | some v => .next ((s1.dropWaiter v w).finish w.r .noSpace 0)

/-- SEQ_TRIM (R367). -/
def execSeqTrim (r : EntryRef) (ext : List ExtData) (upsets : List Upset) (s : State) : Out :=
  .next (s.kvOp r 5 ext upsets KvM.seqTrim)

/-- SEQ_CLOSE (R367). -/
def execSeqClose (r : EntryRef) (ext : List ExtData) (upsets : List Upset) (s : State) : Out :=
  .next (s.kvOp r 6 ext upsets KvM.seqClose)

/-- PREFIX_QUERY (R376): HASH_MISMATCH when COLLISION is set. -/
def execPrefixQuery (r : EntryRef) (ext : List ExtData) (upsets : List Upset) (s : State) : Out :=
  match s.running r 3 7 with
  | none => .next s
  | some y =>
    match s.kvEnv (kvPoolId y) r.encl ext upsets with
    | none => .next (s.finish r .notFound 0)
    | some v =>
      let ((st, res), _, _, t) := s.kvRun v (KvM.prefixQuery v y)
      match res with
      | none => .next (t.finish r st 0)
      | some (k, coll) => .next (t.finish r (if coll then .op 0x31 else st) k)

/-- KV_CNT_CLR (R385): bit i clears the counters of pool i. -/
def execKvCntClr (mask : Nat) (s : State) : Out :=
  .next (s.action Reg.kvCntClr .ss fun u => (List.range 16).foldl (fun t i =>
    if bitOf mask i then (t.setReg (Reg.kvCnt i) 0).setReg (Reg.kvShare i) 0 else t) u)

end Sys2Proof.Machine
end

