-- ==== Sys2Proof/Machine/Attention.lean ====
section
/-! DEFINITION. The attention operators (chapter 12): the descriptor header and its checks, the arithmetic of a chunk, the
merge of chunks, masking, placement on tiles, retrieval, and the fused append. -/

namespace Sys2Proof.Machine

/-! ### Arithmetic (§12.2, §12.3) -/

/-- A value with the summary flags raised on the way. -/
abbrev Fl := Nat × Nat

/-- A stored element as the TE takes it (R391): its pattern in BF16, or in E4M3 for an E4M3 pool. -/
def teElem (storeFmt n : Nat) : Nat :=
  if storeFmt = 1 ∨ storeFmt = 3 then (vuConvert (KvM.storeType storeFmt) .bf16 false false n 0).1 else n

/-- The TE's operand format for stored elements (R391). -/
def teFmt (storeFmt : Nat) : Fmt := if storeFmt = 2 then e4m3 else bf16

/-- The operand pair of a product with stored elements (R391). -/
def tePairOf (storeFmt : Nat) : Nat := if storeFmt = 2 then 9 else 7

/-- One key of a head's key range: true position, K and V elements as the TE takes them, scale exponents, and whether its page
was read with poison. -/
structure Key where
  pos : Nat
  k : List Nat
  v : List Nat
  eK : Int := 0
  eV : Int := 0
  bad : Bool := false

/-- Negation of an FP32 pattern. -/
def negF32 (x : Nat) : Nat := x ^^^ 2 ^ 31

/-- exp2(a − b) in FP32 (R390, R392). -/
def exp2Diff (a b : Nat) : Fl :=
  let (d, f1) := vuAdd a (negF32 b)
  let (w, f2) := vuApprox .exp2 d
  (w, f1 ||| f2)

/-- The sum of a chunk's weights (R390, step 5): the tree within each 64-key block, then the blocks in order. -/
def weightSum : Nat → List Nat → Fl
  | 0, _ => (0, 0)
  | n + 1, ws =>
    let blocks := (List.range (n + 1)).map fun b => tree vuAdd 6 ((List.range 64).map fun i => ws.getD (64 * b + i) 0)
    blocks.foldl (fun (acc : Option Fl) b => match acc with
      | none => some b
      | some a => let (v, fl) := vuAdd a.1 b.1; some (v, a.2 ||| b.2 ||| fl)) none |>.getD (0, 0)

/-- The weights of one row over a chunk's keys (R390, steps 2 to 5), from the products q · K: m, l, the weights scaled by 2^(e_V) in
BF16, and the flags. A masked key has weight +0. [log 99 DEDUCED, safe] -/
def chunkWeights (scale2 : Nat) (keys : List Key) (masked : Nat → Bool) (dots : List Nat) : Nat × Nat × List Nat × Nat :=
  let scored := (keys.zip dots).map fun (k, d) =>
    if masked k.pos then (0xFF800000, 0)
    else
      let (a, f2) := vuMul d scale2
      let (b, f3) := vuMul a (KvM.pow2Pat k.eK)
      (b, f2 ||| f3)
  let m := match scored with
    | [] => 0
    | x :: xs => xs.foldl (fun a b => vuMax2 a b.1) x.1
  let ws := (keys.zip scored).map fun (k, s) => if masked k.pos then (0, 0) else exp2Diff s.1 m
  let (l, fl) := weightSum ((keys.length + 63) / 64) (ws.map (·.1))
  let scaled := (keys.zip ws).map fun (k, w) =>
    if masked k.pos then (0, 0)
    else
      let (a, f1) := vuMul w.1 (KvM.pow2Pat k.eV)
      let (b, f2) := vuToFloat bf16 false a
      (b, f1 ||| f2)
  let orAll (l : List Nat) : Nat := l.foldl (· ||| ·) 0
  (m, l, scaled.map (·.1), fl ||| orAll (scored.map (·.2)) ||| orAll (ws.map (·.2)) ||| orAll (scaled.map (·.2)))

/-- l is above zero, or a NaN: the chunk takes part in the merge (R392, R394). -/
def live? (l : Nat) : Bool := l ≠ 0

/-- Folding one chunk into the running result (R392). [log 99 DEDUCED, safe] -/
def foldChunk (a b : Nat × Nat × List Nat) : (Nat × Nat × List Nat) × Nat :=
  let m' := vuMax2 a.1 b.1
  let (fa, f1) := exp2Diff a.1 m'
  let (fb, f2) := exp2Diff b.1 m'
  let mix (x y : Nat) : Fl :=
    let (p, g1) := vuMul x fa
    let (q, g2) := vuMul y fb
    let (r, g3) := vuAdd p q
    (r, g1 ||| g2 ||| g3)
  let (l', f3) := mix a.2.1 b.2.1
  let o' := (a.2.2.zip b.2.2).map fun (x, y) => mix x y
  ((m', l', o'.map (·.1)), o'.foldl (fun f y => f ||| y.2) (f1 ||| f2 ||| f3))

/-- The merge of a row's chunks in ascending order (R392): the running result, none when no chunk has l above zero. -/
def mergeChunks (l : List (Nat × Nat × List Nat)) : Option (Nat × Nat × List Nat) × Nat :=
  (l.filter (fun p => live? p.2.1)).foldl (fun (acc : Option (Nat × Nat × List Nat) × Nat) p =>
    match acc.1 with
    | none => (some p, acc.2)
    | some a => let (r, fl) := foldChunk a p; (some r, acc.2 ||| fl)) (none, 0)

/-- The output elements of a row and head (R392): o × (1 / l), in BF16 or FP32, as bytes with the flags.
[log 99 DEDUCED, safe] -/
def outputRow (dim : Nat) (outFp32 : Bool) (r : Option (Nat × Nat × List Nat)) : List Byte × Nat :=
  match r with
  | none => (List.replicate (dim * (if outFp32 then 4 else 2)) 0, 0)
  | some (_, l, o) =>
    let (inv, f1) := vuApprox .rcp l
    o.foldl (fun (acc : List Byte × Nat) x =>
      let (y, f2) := vuMul x inv
      if outFp32 then (acc.1 ++ leBytes 4 y, acc.2 ||| f2)
      else
        let (b, f3) := vuToFloat bf16 false y
        (acc.1 ++ leBytes 2 b, acc.2 ||| f2 ||| f3)) ([], f1)

/-! ### The descriptor header (Table 12.1) -/

/-- The header fields. -/
structure AttnHdr where
  bs : List Byte := []

namespace AttnHdr
def seq (h : AttnHdr) : Nat := fieldAt h.bs 0x00 4
def layer (h : AttnHdr) : Nat := fieldAt h.bs 0x04 2
def group (h : AttnHdr) : Nat := fieldAt h.bs 0x06 1
def flags (h : AttnHdr) : Nat := fieldAt h.bs 0x07 1
def append (h : AttnHdr) : Bool := bitOf h.flags 0
def causal (h : AttnHdr) : Bool := bitOf h.flags 1
def gather (h : AttnHdr) : Bool := bitOf h.flags 2
def outFp32 (h : AttnHdr) : Bool := bitOf h.flags 3
def srcFmt (h : AttnHdr) : Nat := b2n (bitOf h.flags 4)
def qrows (h : AttnHdr) : Nat := fieldAt h.bs 0x08 4
def q (h : AttnHdr) : Nat := fieldAt h.bs 0x10 8
def out (h : AttnHdr) : Nat := fieldAt h.bs 0x18 8
def appendSrc (h : AttnHdr) : Nat := fieldAt h.bs 0x20 8
def scale2 (h : AttnHdr) : Nat := fieldAt h.bs 0x28 4
def sinks (h : AttnHdr) : Nat := fieldAt h.bs 0x2C 1
def topk (h : AttnHdr) : Nat := fieldAt h.bs 0x2D 1
def recent (h : AttnHdr) : Nat := fieldAt h.bs 0x30 4
def tokids (h : AttnHdr) : Nat := fieldAt h.bs 0x38 8
/-- SPLIT_KEYS as it takes effect. -/
def split (h : AttnHdr) (t : Nat) : Nat :=
  let s := fieldAt h.bs 0x0C 4
  roundUp (if s = 0 then 1024 else min s 16384) (max 64 t)
end AttnHdr

/-- The tiles of a RUN entry (R318): TILE_MASK intersected with the enclosure's, a mask of zero meaning all. -/
def State.tilesFor (s : State) (e mask : Nat) : List Nat :=
  (List.range 64).filter fun t => s.tileOwner t = e && (mask = 0 || bitOf mask t)

namespace State

/-- A tile is taken: it runs a kernel, or an operator that has not ended is placed on it. -/
def tileTaken (s : State) (t : Nat) : Bool :=
  (s.tile t).st != .idle || (List.range 8).any fun e => queueIds.any fun q =>
    (s.queue e q).flight.any fun y => bitOf y.tiles t && y.ending.isNone

/-- A mask of tiles. [log 70 DESIGN CHOICE, unsafe] -/
def tileMask (l : List Nat) : Nat := l.foldl (fun m t => m ||| 2 ^ t) 0

/-- A steward's own kernel begins on a tile: the flags of the last one clear (R239, R293). -/
def kernelBegins (s : State) (t : Nat) : State :=
  (s.modTile t fun x => { x with poison := false, proofErr := false, residue := false, pfLate := false, drains := 0 }).setFld
    (Reg.tileFpSum t) 7 0 0

end State

namespace KvM

/-- Table 12.2, steps 5 to 8, once the pool is READY. -/
def attnCheck (v : KvEnv) (h : AttnHdr) (op groupSize : Nat) : KvM SeqRec := do
  ready
  let p ← pool
  let r ← named v h.seq
  let retr := decide (op = 0x22)
  range (decide (h.layer < p.layers ∧ 1 ≤ h.group ∧ h.group ≤ 16 ∧ h.flags < 32 ∧ 1 ≤ h.qrows))
  range (decide (h.qrows ≤ if op = 0x20 then 65536 else 32))
  range (if retr then decide (h.sinks ≤ 16 ∧ h.topk ≤ 64 ∧ h.recent ≤ 65536)
    else decide (h.sinks = 0 ∧ h.topk = 0 ∧ h.recent = 0))
  range (decide (fieldAt h.bs 0x2E 2 = 0 ∧ fieldAt h.bs 0x34 4 = 0))
  range (h.append || decide (h.qrows ≤ r.toks))
  range (!h.gather || decide (1 < groupSize))
  if retr ∧ !r.indexed then throw (.op 0x09)
  if h.append ∧ leaseHeld r.lease then throw (.op 0x08)
  if h.append ∧ r.limit < (r.toks + h.qrows + v.tokens - 1) / v.tokens then throw (.op 0x30)
  pure r

/-- The page at list index `i` once the fused append's pages are in place. -/
def pageOf (v : KvEnv) (r : SeqRec) (plan : List AppPage) (i : Nat) : KvM Nat :=
  match plan.find? (·.i = i) with
  | some a => pure a.g
  | none => entryPage v r i

/-- The keys of one page for one layer and head, below position `n` (R395, R399). -/
def pageKeys (v : KvEnv) (l h i g n : Nat) : KvM (List Key) := do
  let p ← pool
  let fmt := v.item.storeFmt
  let q := (l * p.heads + h) * 2
  let base := v.pageAt g + v.scaleBytes p.layers p.heads
  let was := (← get).poisoned
  modify fun x => { x with poisoned := false }
  let run ← pageBytes v (base + q * v.plane p.dim) (2 * v.plane p.dim)
  let sc ← if v.appendQ then pageBytes v (v.pageAt g + 4 * q) 8 else pure []
  let bad := (← get).poisoned
  modify fun x => { x with poisoned := was || bad }
  let rb := p.dim * v.es / 8
  let elems (off : Nat) : List Nat := (List.range p.dim).map fun c => teElem fmt (elemAt (sliceAt run off rb) v.es c)
  pure ((List.range (min v.tokens (n - i * v.tokens))).map fun j =>
    { pos := i * v.tokens + j, k := elems (j * rb), v := elems (v.plane p.dim + j * rb),
      eK := if v.appendQ then scaleExp (fieldAt sc 0 4) else 0, eV := if v.appendQ then scaleExp (fieldAt sc 4 4) else 0, bad := bad })

/-- Query rows of one head group: row j, group head g as D BF16 elements, query heads in the order h × G + g.
[log 97 DESIGN CHOICE, unsafe] -/
def queryRow (v : KvEnv) (hd : AttnHdr) (j h g : Nat) : KvM (List Nat) := do
  let p ← pool
  let a := hd.q + j * (2 * hd.group * p.heads * p.dim) + 2 * ((h * hd.group + g) * p.dim)
  let d ← pageBytes v a (2 * p.dim)
  pure ((chunks 2 d).map leNat)

/-- FP32 order with NaN below everything (R406, step 4). -/
def scoreLt (a b : Nat) : Bool :=
  if (fp32.read b).isNan then false
  else if (fp32.read a).isNan then true
  else (fp32.read a).lt? (fp32.read b) == some true

/-- The flags of a kernel on tile `t` go to the tile and to the operation (R287, R394). -/
def kernelFlags (t fl : Nat) : KvM Unit :=
  modify fun x => { x with s := x.s.fpFlags t fl, flags := x.flags ||| fl }

/-- One TE product on tile `t`, overwriting its bank, with its drain and the proof lane's comparisons (R216, R219, R223, R391): the
32 × 64 drained values. [log 98 DESIGN CHOICE, unsafe] -/
def teProduct (v : KvEnv) (t pair kn : Nat) (a b : Nat → Nat → Nat) (dead : Nat → Nat → Bool) : KvM (List Nat) := do
  let x ← get
  let (ta, tb) := teTypes pair
  let (bank, fl) := teBank pair kn {} (fun r k => ta.read (a r k)) (fun k c => tb.read (b k c)) dead
  let (vals, s1) := x.s.proofDrain t 0 bank ((v.flips.filter (·.1 = x.products)).map (·.2))
  set { x with s := s1, products := x.products + 1, mismatch := x.mismatch || (s1.tile t).proofErr }
  kernelFlags t fl
  pure vals

/-- The products q · x of up to 32 query rows with each of a list of vectors, 64 to a TE product: a row of products per query
row. `live` tells the vectors whose product is made. -/
def dotRows (v : KvEnv) (t pair dim : Nat) (qs xs : List (List Nat)) (live : Nat → Bool) : KvM (List (List Nat)) := do
  let blocks ← (List.range ((xs.length + 63) / 64)).mapM fun b => do
    let cols := (xs.drop (64 * b)).take 64
    let vals ← if (List.range cols.length).any (fun c => live (64 * b + c)) then
        teProduct v t pair (roundUp dim 64) (fun r k => (qs.getD r []).getD k 0) (fun k c => (cols.getD c []).getD k 0)
          fun _ _ => false
      else pure []
    pure ((List.range qs.length).map fun r => (List.range cols.length).map fun c => vals.getD (64 * r + c) 0)
  pure ((List.range qs.length).map fun r => blocks.flatMap fun (b : List (List Nat)) => b.getD r [])

/-- Query rows of a head group, numbered j × G + g, in blocks of `per`. -/
def queryBlocks (v : KvEnv) (hd : AttnHdr) (h per : Nat) : KvM (List (List (Nat × List Nat))) := do
  let rows ← (List.range (hd.qrows * hd.group)).mapM fun jg => do
    pure (jg, ← queryRow v hd (jg / hd.group) h (jg % hd.group))
  pure ((List.range ((rows.length + per - 1) / per)).map fun b => (rows.drop (b * per)).take per)

/-- The list indices a head of a RETRIEVAL_ATTN attends (R406), scored on tile `tile`. -/
def retrieve (v : KvEnv) (hd : AttnHdr) (r : SeqRec) (h n tile : Nat) : KvM (List Nat) := do
  let p ← pool
  let t := v.tokens
  let pages := (n + t - 1) / t
  let firstRecent := min ((n - hd.recent) / t) ((n - 1) / t)
  let fixed (i : Nat) : Bool := decide (i < hd.sinks) || decide (firstRecent ≤ i)
  let cands := (List.range (n / t)).filter (fun i => !fixed i)
  let x := roundUp (r.list + 4 * r.limit) 64
  let sums ← cands.mapM fun i => do
    let d ← pageBytes v (x + i * indexEntry p + 2 * p.dim * (hd.layer * p.heads + h)) (2 * p.dim)
    pure ((chunks 2 d).map leNat)
  let blocks ← queryBlocks v hd h 32
  let rows ← blocks.mapM fun qs => dotRows v tile 7 p.dim (qs.map (·.2)) sums fun _ => true
  let scores := rows.flatten.map fun ds => ds.map fun d => vuMul d hd.scale2
  kernelFlags tile (scores.foldl (fun f l => l.foldl (fun f s => f ||| s.2) f) 0)
  let scored := cands.zipIdx.map fun (i, c) =>
    (i, (scores.map fun l => (l.getD c (0, 0)).1).foldl (fun (acc : Option Nat) s => match acc with
      | none => some s
      | some b => if scoreLt b s then some s else some b) none |>.getD 0)
  -- the TOPK of highest score, lower index first among equals
  let better (a b : Nat × Nat) : Bool := scoreLt b.2 a.2 || (!scoreLt a.2 b.2 && decide (a.1 < b.1))
  let chosen := scored.filter fun a => (scored.filter (fun b => better b a)).length < hd.topk
  pure ((List.range pages).filter fun i => fixed i || chosen.any (·.1 = i))

/-- One chunk of one head for a block of query rows, on tile `t` (R390, R395, R396): the score products block by block of keys, the
weights, the value products over every computed key block. A key masked for a row enters none of its sums; keys masked for every row
read as zero. -/
def chunkUnit (v : KvEnv) (hd : AttnHdr) (t h c : Nat) (qs : List (Nat × List Nat)) (keys : List Key)
    (masked : Nat → Nat → Bool) : KvM (List Partial) := do
  let p ← pool
  let pair := tePairOf v.item.storeFmt
  let key (i : Nat) : Key := keys.getD i { pos := 0, k := [], v := [] }
  let liveAt (i : Nat) : Bool := decide (i < keys.length) && qs.any fun q => !masked q.1 (key i).pos
  let blocks := (List.range ((keys.length + 63) / 64)).filter fun b => (List.range 64).any fun i => liveAt (64 * b + i)
  if blocks.isEmpty then
    pure (qs.map fun q => { head := h, row := q.1, chunk := c, m := 0xFF800000, l := 0, o := List.replicate p.dim 0 })
  else
    if (List.range keys.length).any fun i => blocks.contains (i / 64) && (key i).bad then
      modify fun x => { x with s := x.s.modTile t fun y => { y with poison := true } }
    let dots ← dotRows v t pair p.dim (qs.map (·.2)) ((List.range keys.length).map fun i => if liveAt i then (key i).k else [])
      fun i => blocks.contains (i / 64)
    let ws := qs.zipIdx.map fun (q, r) =>
      if keys.all fun k => masked q.1 k.pos then (0xFF800000, 0, List.replicate keys.length 0, 0)
      else chunkWeights hd.scale2 keys (masked q.1) (dots.getD r [])
    kernelFlags t (ws.foldl (fun f w => f ||| w.2.2.2) 0)
    -- k-step k of the value products is key `at k`
    let at_ (k : Nat) : Nat := 64 * blocks.getD (k / 64) 0 + k % 64
    let panels ← (List.range ((p.dim + 63) / 64)).mapM fun n =>
      teProduct v t pair (64 * blocks.length)
        (fun r k => ((ws.getD r (0, 0, [], 0)).2.2.1).getD (at_ k) 0)
        (fun k col => if liveAt (at_ k) then ((key (at_ k)).v).getD (64 * n + col) 0 else 0)
        fun r k => match qs[r]? with
          | some q => masked q.1 (key (at_ k)).pos || decide (keys.length ≤ at_ k)
          | none => true
    pure (qs.zipIdx.map fun (q, r) =>
      let w := ws.getD r (0, 0, [], 0)
      { head := h, row := q.1, chunk := c, m := w.1, l := w.2.1
        o := (List.range p.dim).map fun d => (panels.getD (d / 64) []).getD (64 * r + d % 64) 0 })

/-- Every partial result of the operator: per head, block of query rows and chunk, each on the tile of its unit (R390, R396, R398,
R407). A mismatch of the proof lane ends the operator, its kernels run to their end (R223, R312). -/
def attend (v : KvEnv) (hd : AttnHdr) (r : SeqRec) (plan : List AppPage) (op n : Nat) (tiles : List Nat) : KvM (List Partial) := do
  let p ← pool
  let t := v.tokens
  let tileOf (u : Nat) : Nat := tiles.getD (u % max 1 tiles.length) 0
  modify fun x => { x with s := tiles.foldl (fun u t => u.kernelBegins t) x.s }
  let masked (jg k : Nat) : Bool := decide (n ≤ k) || (hd.causal && decide (n - hd.qrows + jg / hd.group < k))
  let per ← (List.range p.heads).mapM fun h => do
    let idx ← if op = 0x22 then retrieve v hd r h n (tileOf h) else pure (List.range ((n + t - 1) / t))
    let keys ← idx.mapM fun i => do pageKeys v hd.layer h i (← pageOf v r plan i) n
    let all := keys.flatten
    let sk := hd.split t
    let cs := (all.length + sk - 1) / sk
    let blocks ← queryBlocks v hd h (if op = 0x20 then max 1 (32 / hd.group) * hd.group else 32)
    let ps ← blocks.zipIdx.mapM fun (qs, b) => (List.range cs).mapM fun c =>
      chunkUnit v hd (tileOf (if op = 0x20 then h * blocks.length + b else h * cs + c)) h c qs ((all.drop (c * sk)).take sk) masked
    pure ps.flatten.flatten
  if (← get).mismatch then throw .integrity
  pure per.flatten

/-- R380: the operation walks by Walk S. -/
def walkS (v : KvEnv) (r : SeqRec) (op : Nat) : KvM Bool := do
  let p ← pool
  if p.walk = 1 then pure false
  else if p.walk = 2 then pure true
  else if op = 0x22 then pure true
  else if v.item.pageSize = 1 then pure false
  else
    let shared ← (List.range r.npages).foldlM (fun (k : Nat) i => do
      let g ← entryPage v r i
      let pg ← page v g
      pure (if 1 < pg.refs then k + 1 else k)) 0
    pure (decide (r.npages ≤ 4 * shared) && decide (0 < shared))

/-- The operator's work up to its partial results (R389, R390): admission again, the fused append's rows, the chunks.
[log 97 DESIGN CHOICE, unsafe; 98 DESIGN CHOICE, unsafe] -/
def attnRun (v : KvEnv) (hd : AttnHdr) (y : Entry) (r : EntryRef) (tiles : List Nat) (granted? : Bool) :
    KvM (Sum Nat Attn) := do
  let sq ← if granted? then seq v (hd.seq % 0x1000) else attnCheck v hd y.op (y.arg 16 2)
  let p ← pool
  let s := (← get).s
  let walk ← walkS v sq y.op
  let (copy, new) ← if hd.append then appendNeed v sq hd.qrows else pure (false, 0)
  let need := new + b2n copy
  if hd.append ∧ !granted? ∧ mustWait p need then
    setSeq v { sq with lease := granted s v.who r.encl sq.lease true }
    pure (.inl need)
  else
    let plan ← if hd.append then appendPlan v sq hd.qrows hd.tokids hd.appendSrc hd.srcFmt else pure []
    if hd.append ∧ !granted? then setSeq v { sq with lease := granted s v.who r.encl sq.lease true }
    let n := if hd.append then sq.toks + hd.qrows else sq.toks
    let parts ← attend v hd sq plan y.op n tiles
    let es := if hd.outFp32 then 4 else 2
    let width := hd.group * p.heads * p.dim * es
    pure (.inr
      { r := r, pid := v.pid, idx := sq.idx, append := if hd.append then hd.qrows else 0, share := sq.share, plan := plan
        heads := p.heads, group := hd.group, dim := p.dim, rows := hd.qrows, out := hd.out, outFp32 := hd.outFp32
        rowBytes := if hd.gather then y.arg 16 2 * width else width
        slice := if hd.gather then y.arg 18 2 * width else 0
        gather := hd.gather, walkS := walk, tiles := tiles, parts := parts })

/-- A fused append that does not commit: its pages return, its lease ends. -/
def attnUndo (v : KvEnv) (a : Attn) : KvM Unit := do
  appendUndo v a.plan
  freeLease v a.idx

/-- The commit of a fused append (R389): after every output row has been written. -/
def attnCommit (v : KvEnv) (a : Attn) : KvM Unit := do
  let r ← seq v a.idx
  appendApply v r a.plan
  appendCommit v r a.append (freed r.lease)

end KvM

namespace State

/-- Table 12.2 for an attention entry: the header and the environment of its pool, or the code it fails with. -/
def attnAdmit (s : State) (y : Entry) (e : Nat) (ext : List ExtData) (ups : List Upset) :
    Except Status (AttnHdr × KvEnv) × State :=
  if s.ward.st ≠ .steep then (.error .badArg, s)
  else if (s.tilesFor e (y.arg 8 8)).isEmpty then (.error (.op 0), s)
  else
    let (st, d, s1) := s.readRun (s.stewardOf e) (y.arg 0 8) 64 ext ups
    if st ≠ .ok then (.error st, s1)
    else
      let h : AttnHdr := { bs := d }
      match s1.kvEnv (bitsOf h.seq 15 12) e ext ups with
      | none => (.error .notFound, s1)
      | some v => (.ok (h, v), s1)

/-- Check 6 of an attention entry (R388). -/
def admitAttn (s : State) (y : Entry) (e : Nat) (ext : List ExtData) (ups : List Upset) : Status × State :=
  match s.attnAdmit y e ext ups with
  | (.error st, s1) => (st, s1)
  | (.ok (h, v), s1) => s1.kvCheck v (KvM.attnCheck v h y.op (y.arg 16 2))

/-- Number of chunks, or of query blocks, per head (R398). -/
def unitsPerHead (op : Nat) (a : Attn) : Nat :=
  if op = 0x20 then (a.rows + max 1 (32 / a.group) - 1) / max 1 (32 / a.group)
  else (a.parts.filter (·.head = 0)).foldl (fun m p => max m (p.chunk + 1)) 1

/-- The tile that holds unit `u` (R398). -/
def unitTile (a : Attn) (u : Nat) : Nat := a.tiles.getD (u % max 1 a.tiles.length) 0

/-- The partial results of every unit travel to the merging tile of their head as TSRAM writes (R400). -/
def partialWrites (s : State) (op : Nat) (a : Attn) : Status × State :=
  if op = 0x20 then (.ok, s)
  else
    let c := unitsPerHead op a
    ((List.range a.heads).flatMap fun h => (List.range c).map fun k => (h * c + k, h * c)).foldl
      (fun (acc : Status × State) u =>
        let (t, mt) := (unitTile a u.1, unitTile a u.2)
        if acc.1 ≠ .ok ∨ t = mt then acc
        else match acc.2.windowCheck (.tile t) .write (tileBase mt) 64 with
          | some r => (.accessDenied, acc.2.deny (acc.2.tagOf (.tile t)) t 1 r (tileBase mt) true)
          | none => match acc.2.gasketAnswer mt with
            | some st => (st, acc.2)
            | none => acc) (.ok, s)

/-- The record of an attention operator in progress. -/
def attnOf (s : State) (r : EntryRef) : Option Attn := s.attns.find? (·.r = r)
def setAttn (s : State) (a : Attn) : State := { s with attns := (s.attns.filter (·.r ≠ a.r)) ++ [a] }
def dropAttn (s : State) (r : EntryRef) : State := { s with attns := s.attns.filter (·.r ≠ r) }

/-- An attention operator ends early: its newly allocated pages return and its append lease ends (R366, R389). -/
def attnUndo (s : State) (r : EntryRef) : State :=
  match s.attnOf r with
  | none => s
  | some a =>
    let s1 := s.dropAttn r
    if a.append = 0 then s1
    else match s1.kvEnv a.pid r.encl [] [] with
      | none => s1
      | some v => s1.kvDo v (KvM.attnUndo v a)

/-- Ending an attention operator with a code. -/
def attnEnd (s : State) (r : EntryRef) (st : Status) : State := (s.attnUndo r).finish r st 0

/-- After the commit of a fused append. -/
def attnEnds (a : Attn) (code : Status) (x : (Status × Option Unit) × Nat × Bool × State) : State :=
  if x.1.1 = .ok then (x.2.2.2.dropAttn a.r).finish a.r code 0 else x.2.2.2.attnEnd a.r x.1.1

/-- The operator's last step: the fused append commits, and the entry completes (R389, R394). -/
def attnFinish (s : State) (a : Attn) (ext : List ExtData) (ups : List Upset) : State :=
  let poisoned := ((s.entry a.r).map (·.poisoned)).getD false
  let code : Status := if poisoned then .poisoned else .ok
  if a.append = 0 then (s.dropAttn a.r).finish a.r code 0
  else match s.kvEnv a.pid a.r.encl ext ups with
    | none => s.attnEnd a.r .notFound
    | some v =>
      attnEnds a code (s.kvRun v (KvM.attnCommit v a))

/-- One head's rows are merged and written (R392, R402); the operator goes on when every head has been. -/
def mergeHead (s : State) (op : Nat) (a : Attn) (h : Nat) (ext : List ExtData) (ups : List Upset) : State :=
  let es := if a.outFp32 then 4 else 2
  let c := unitsPerHead op a
  let per := max 1 (32 / a.group)
  let (st, fl, s1) := (List.range (a.rows * a.group)).foldl (fun (acc : Status × Nat × State) jr =>
    if acc.1 ≠ .ok ∧ acc.1 ≠ .poisoned then acc
    else
      let ps := (a.parts.filter (fun p => p.head = h ∧ p.row = jr)).map fun p => (p.m, p.l, p.o)
      let (res, f1) := mergeChunks ps
      let (bs, f2) := outputRow a.dim a.outFp32 res
      let (j, g) := (jr / a.group, jr % a.group)
      let t := unitTile a (h * c + if op = 0x20 then j / per else 0)
      let dst := a.out + j * a.rowBytes + a.slice + (h * a.group + g) * a.dim * es
      let (w, s') := acc.2.2.writeRun (.tile t) dst bs ext ups
      (acc.1.worse w, acc.2.1 ||| f1 ||| f2, s')) (.ok, 0, s)
  let s1 := s1.fpFlags (unitTile a (h * c)) fl
  let s2 := s1.contribute a.r (if st = .poisoned then .poisoned else .ok) 0 fl true
  if st ≠ .ok ∧ st ≠ .poisoned then s2.attnEnd a.r st
  else
    let a' := { a with merged := a.merged ++ [h] }
    if a'.merged.length < a.heads then s2.setAttn a'
    else if a.gather then s2.setAttn a'
    else (s2.setAttn a').attnFinish a' ext ups

/-- Starting an attention operator, up to its partial results; a PREFILL_ATTN folds them as it goes (R398). It waits while a tile of
its intersection is taken, and takes them all when it runs (R318). -/
def attnStart (s : State) (r : EntryRef) (op : Nat) (ext : List ExtData) (ups : List Upset) (flips : List (Nat × Nat × Nat)) : State :=
  match s.running r 1 op with
  | none => s
  | some y =>
    let tiles := s.tilesFor r.encl (y.arg 8 8)
    if (s.attnOf r).isSome ∨ tiles.any s.tileTaken then s
    else match s.attnAdmit y r.encl ext ups with
      | (.error st, s1) => s1.finish r st 0
      | (.ok (h, v0), s1) =>
        let v := { v0 with flips := flips }
        let p := s1.kvPool v.pid
        match p.waits.find? (·.r = r) with
        | some w =>
          if w.need ≠ 0 then s1 else go s1 y h v tiles { p with waits := p.waits.filter (· ≠ w) } true
        | none => go s1 y h v tiles p false
where
  /-- The run itself, on the pool record given; `granted` when its pages have come after a wait. -/
  go (s : State) (y : Entry) (h : AttnHdr) (v : KvEnv) (tiles : List Nat) (p : Pool) (granted : Bool) : State :=
    let s0 := s.setKvPool v.pid p
    let ((st, res), fl, bad, t) := s0.kvRun v (KvM.attnRun v h y r tiles granted)
    let t1 := t.contribute r (if bad then .poisoned else .ok) 0 fl false
    match res with
    | none => (if granted then t1.kvDo v (KvM.freeLease v (h.seq % 0x1000)) else t1).finish r st 0
    | some (.inl need) =>
      let q := t1.kvPool v.pid
      t1.setKvPool v.pid { q with waits := q.waits ++ [{ r := r, idx := h.seq % 0x1000, need := need, since := t1.upNs, attn := true : Waiter }] }
    | some (.inr a) =>
      let (w, t2) := (t1.modEntry r fun z => { z with tiles := tileMask tiles }).partialWrites op a
      let t3 := t2.setAttn a
      if w ≠ .ok then t3.attnEnd r w
      else if op = 0x20 then (List.range a.heads).foldl (fun u k =>
        match u.attnOf r with
        | none => u
        | some a => u.mergeHead op a k ext ups) t3
      else t3

end State

open State

/-- PREFILL_ATTN (R386, R398). -/
def execPrefillAttn (r : EntryRef) (ext : List ExtData) (upsets : List Upset) (accFlips : List (Nat × Nat × Nat)) (s : State) : Out :=
  .next (s.attnStart r 0x20 ext upsets accFlips)

/-- DECODE_ATTN (R386, R398): its partial results wait for PARTIAL_MERGE. -/
def execDecodeAttn (r : EntryRef) (ext : List ExtData) (upsets : List Upset) (accFlips : List (Nat × Nat × Nat)) (s : State) : Out :=
  .next (s.attnStart r 0x21 ext upsets accFlips)

/-- RETRIEVAL_ATTN (R406, R407). -/
def execRetrievalAttn (r : EntryRef) (ext : List ExtData) (upsets : List Upset) (accFlips : List (Nat × Nat × Nat)) (s : State) : Out :=
  .next (s.attnStart r 0x22 ext upsets accFlips)

/-- PARTIAL_MERGE (R398): the merging tile of a head folds its chunks and writes its output rows. -/
def execPartialMerge (r : EntryRef) (head : Nat) (ext : List ExtData) (upsets : List Upset) (s : State) : Out :=
  match s.attnOf r, s.entry r with
  | some a, some y =>
    if head < a.heads ∧ !a.merged.contains head ∧ y.ending.isNone then .next (s.mergeHead y.op a head ext upsets)
    else .next s
  | _, _ => .next s

end Sys2Proof.Machine
end

