-- ==== Sys2Proof/Machine/Lanes.lean ====
section
/-! DEFINITION. Encoding and striping of a Brikel port (§16.3): 130-bit blocks, the scrambler of each lane, flits striped over
the active lanes, SKIP blocks and the receiver's elastic buffer. -/

namespace Sys2Proof.Machine

/-- Sync headers (R521) and the ordered-set type bytes used here (Table 16.2). -/
def syncData : Nat := 2
def syncSet : Nat := 1
def osSkip : Nat := 0xCC
def osIdleEnter : Nat := 0xD2
def osIdleExit : Nat := 0xE4
/-- The type bytes of Table 16.2. -/
def setTypes : List Nat := [0xC3, 0xC5, osSkip, osIdleEnter, osIdleExit]

/-- An ordered-set block whose 16 bytes are all its type byte: SKIP, IDLE_ENTER. -/
def setBlock (ty : Nat) : LaneBlock := { sync := syncSet, bytes := List.replicate 16 (BitVec.ofNat 8 ty) }

/-- The IDLE_EXIT block: bytes 1 to 15 alternate 00 and FF. -/
def idleExitBlock : LaneBlock :=
  { sync := syncSet, bytes := BitVec.ofNat 8 osIdleExit :: (List.range 15).map fun i => if i % 2 = 0 then 0 else 0xFF#8 }

/-! ### Scrambling (R521) -/

/-- The seed of lane `l`. -/
def laneSeed (l : Nat) : Nat := (0x7FFFFFFF ^^^ (0x11111111 * (l + 1))) % 2 ^ 31

/-- `n` steps of the scrambler x^31 + x^28 + 1: the bits it gives, first bit lowest, and its state after. [log 165 PRESUMED, unsafe] -/
def scramblerBits : Nat → Nat → Nat × Nat
  | 0, s => (0, s)
  | n + 1, s =>
    let b := (s / 2 ^ 30 + s / 2 ^ 27) % 2
    let (r, t) := scramblerBits n (s * 2 % 2 ^ 31 + b)
    (b + 2 * r, t)

/-- Bytes scrambled from a state, least significant bit first; descrambling is the same. -/
def scrambleBytes : Nat → List Byte → List Byte × Nat
  | s, [] => ([], s)
  | s, b :: bs =>
    let (k, t) := scramblerBits 8 s
    let (r, u) := scrambleBytes t bs
    ((b ^^^ BitVec.ofNat 8 k) :: r, u)

/-- The seeds of all four lanes. -/
def laneSeeds : List Nat := (List.range 4).map laneSeed

/-! ### Striping (R523) -/

/-- The bytes of a flit that lane `i` of `w` carries. -/
def stripe (w i : Nat) (flit : List Byte) : List Byte := (List.range (256 / w)).map fun k => flit.getD (k * w + i) 0

/-- Sixteen-byte blocks of a lane's bytes. -/
def blocksOf : Nat → List Byte → List LaneBlock
  | 0, _ => []
  | n + 1, bs => { sync := syncData, bytes := bs.take 16 } :: blocksOf n (bs.drop 16)

/-- The flit of the bytes of `w` lanes; none unless each holds its 256 / w. -/
def unstripe (w : Nat) (lanes : List (List Byte)) : Option (List Byte) :=
  if w = 0 ∨ lanes.length ≠ w ∨ lanes.any (fun l => l.length ≠ 256 / w) then none
  else some ((List.range 256).map fun k => (lanes.getD (k % w) []).getD (k / w) 0)

/-- Block times and flit times in sixteenths of a nanosecond: 130 bits at 32 Gb/s; 16.25, 32.5 and 65 ns (R523). -/
def blockTime : Nat := 65
def flitTime (w : Nat) : Nat := if w = 0 then 0 else blockTime * (16 / w)

/-- What one lane's blocks come to: data bytes, scrambler state, SKIP blocks taken out, sync errors. -/
structure LaneIn where
  bytes : List Byte := []
  scr : Nat := 0
  skips : Nat := 0
  errs : Nat := 0
  deriving DecidableEq, Repr

/-- One block of a lane: data is descrambled; a SKIP block resets the scrambler and is taken out; an invalid sync header or an
unknown type byte is a sync error (R521, R522). -/
def LaneIn.take (l : Nat) (x : LaneIn) (b : LaneBlock) : LaneIn :=
  if b.sync = syncData then
    let (d, t) := scrambleBytes x.scr b.bytes
    { x with bytes := x.bytes ++ d, scr := t }
  else if b.sync = syncSet then
    let ty := (b.bytes.getD 0 0).toNat
    if ty = osSkip then { x with scr := laneSeed l, skips := x.skips + 1 }
    else if setTypes.contains ty then x
    else { x with errs := x.errs + 1 }
  else { x with errs := x.errs + 1 }

namespace Brikel

/-- The active logical lanes in order. -/
def activeLanes (b : Brikel) : List Nat := (List.range 4).filter (bitOf b.active.2)

/-- The physical lane that carries a logical lane. -/
def physicalOf (b : Brikel) (l : Nat) : Nat := ((List.range 4).find? fun p => SMap.get 0 b.lanes p = l + 1).getD 0

/-- The scramblers start at their seeds (Table 16.5 step 7). -/
def descramble (b : Brikel) : Brikel := { b with txScr := laneSeeds, rxScr := laneSeeds, flits := 0 }

/-- A block of one kind on every active lane. -/
def onLanes (b : Brikel) (x : LaneBlock) : Brikel := { b with wire := b.activeLanes.map fun _ => [x] }

/-- A flit goes out over the active lanes, after a SKIP block on each when 256 flits have gone since the last one (R523); `now` is
the time in ns. -/
def transmit (b : Brikel) (now : Nat) (flit : List Byte) : Brikel :=
  let w := b.active.1
  let skip := decide (256 ≤ b.flits)
  let scr := if skip then laneSeeds else b.txScr
  let lanes := b.activeLanes.zipIdx.map fun (x : Nat × Nat) =>
    let (d, t) := scrambleBytes (scr.getD x.1 0) (stripe w x.2 flit)
    (x.1, blocksOf (16 / w) d, t)
  { b with
    flit := flit
    flits := if skip then 1 else b.flits + 1
    txScr := lanes.foldl (fun l (y : Nat × List LaneBlock × Nat) => l.set y.1 y.2.2) scr
    wire := lanes.map fun (y : Nat × List LaneBlock × Nat) => (if skip then [setBlock osSkip] else []) ++ y.2.1
    nextTx := max (16 * now) b.nextTx + flitTime w + (if skip then blockTime else 0) }

/-- Blocks arrive on the active lanes: the flit they carry, none unless every lane holds its share, and the sync errors by
physical lane. The elastic buffer takes SKIP blocks out (R523). -/
def accept (b : Brikel) (wire : List (List LaneBlock)) : Brikel × Option (List Byte) × List (Nat × Nat) :=
  let lanes := b.activeLanes.zipIdx.map fun (x : Nat × Nat) =>
    (x.1, (wire.getD x.2 []).foldl (LaneIn.take x.1) { scr := b.rxScr.getD x.1 0 })
  ({ b with rxScr := lanes.foldl (fun l (y : Nat × LaneIn) => l.set y.1 y.2.scr) b.rxScr
            skips := b.skips + ((lanes.head?.map (·.2.skips)).getD 0) },
   unstripe b.active.1 (lanes.map fun (y : Nat × LaneIn) => y.2.bytes),
   lanes.map fun (y : Nat × LaneIn) => (b.physicalOf y.1, y.2.errs))

end Brikel
end Sys2Proof.Machine
end

