-- ==== Sys2Proof/Machine/RegReq.lean ====
section
/-! DEFINITION. Requests to register space (§23.2): the window check, the class check, the size check and whether the
block answers, in the order of R698, for every command that is a register access. -/

namespace Sys2Proof.Machine

namespace State

/-- A register command's response: the gate's, or the one the register's own rule gives. -/
def regCmd (s : State) (who : Requester) (op : WOp) (k : Nat) (f : State → Status × Nat × State) : State :=
  match s.regGate who op k true with
  | some (st, t) => t.respond st 0
  | none => let (st, d, t) := f s; t.respond st d

/-- The warden and the security block are not subject to state sets (R702). -/
def stateFree (who : Requester) : Bool := who == .warden || who == .security

/-- R702 for a whole-register state set: the write is performed, or sets STATE_WRITE and completes OK; the warden and the
security block are not subject to state sets. -/
def inStates (s : State) (who : Requester) (k : Nat) (w : WSet) (acts : Bool) (f : State → Status × Nat × State) :
    Status × Nat × State :=
  if who = .warden ∨ who = .security ∨ w.has s.ward.st then f s
  else (.ok, 0, if acts then s.sysErr 3 k (s.tagOf who) else s)

end State
end Sys2Proof.Machine
end

