-- ==== Sys2Proof/Machine/Link.lean ====
section
/-! DEFINITION. The link layer of §16.5 to §16.7 and §17.3: flits and their check, packets and credits, replay, and what
the loss of a link does to the requests that used it (R528, R560). -/

namespace Sys2Proof.Machine

/-- One byte of the CRC-64 of R530 (reflected polynomial of 0x42F0_E1EB_A9EA_3693). -/
def crc64Byte (crc : Nat) (b : Byte) : Nat :=
  let step (c : Nat) : Nat := if c % 2 = 1 then (c / 2) ^^^ 0xC96C5795D7870F42 else c / 2
  step (step (step (step (step (step (step (step (crc ^^^ b.toNat))))))))

/-- The flit check (R530): initial value all ones, final XOR all ones. -/
def crc64 (bs : List Byte) : Nat := bs.foldl crc64Byte 0xFFFFFFFFFFFFFFFF ^^^ 0xFFFFFFFFFFFFFFFF

/-- The link packet header (R532). -/
def Pkt.header (p : Pkt) : Nat := p.lvc + (p.body.length / 4) * 4

/-- Dwords of a packet with its header. -/
def Pkt.dwords (p : Pkt) : Nat := 1 + p.body.length / 4

/-- A packet as it rides in payloads. -/
def Pkt.bytes (p : Pkt) : List Byte := leBytes 4 p.header ++ p.body

namespace LinkLayer


/-- R534: the first packet of a link VC has credit. -/
def hasCredit (x : LinkLayer) (l : Nat) : Bool :=
  match (x.txOf l).q with
  | [] => false
  | p :: _ => decide ((x.txOf l).consumed + p.dwords ≤ 16 * (x.txOf l).limit)

/-- The link VC at a position of the round (R533). -/
def roundLvc (i : Nat) : Nat := if i % 3 = 2 then 0 else 1

/-- R533: the link VC whose packet starts next, with the round after it. -/
def pick (x : LinkLayer) : Option (Nat × Nat) :=
  if x.hasCredit 2 then some (2, x.round)
  else ((List.range 3).find? (fun i => x.hasCredit (roundLvc (x.round + i)))).map fun i =>
    (roundLvc (x.round + i), (x.round + i + 1) % 3)

/-- The next packet starts: it leaves its queue and its dwords count as consumed. -/
def start (x : LinkLayer) (l round : Nat) : LinkLayer :=
  let t := x.txOf l
  match t.q with
  | [] => x
  | p :: ps => { x.setTx l { t with q := ps, consumed := t.consumed + p.dwords } with cur := p.bytes, round := round }

/-- Packet bytes for `room` bytes of payload; each step takes bytes of the packet in transmission or starts one. -/
def fill : Nat → LinkLayer → Nat → List Byte × LinkLayer
  | 0, x, _ => ([], x)
  | n + 1, x, room =>
    if room < 4 then ([], x)
    else if x.cur ≠ [] then
      let k := min room x.cur.length
      let (d, y) := fill n { x with cur := x.cur.drop k } (room - k)
      (x.cur.take k ++ d, y)
    else match x.pick with
      | none => ([], x)
      | some (l, r) => fill n (x.start l r) room

/-- Packet dwords are waiting and one may start (R531). -/
def waiting (x : LinkLayer) : Bool := x.cur ≠ [] || x.pick.isSome

/-- The credit limit granted on a link VC (R534). -/
def grant (x : LinkLayer) (l : Nat) : Nat := (x.rxOf l).cap + (x.rxOf l).freed / 16

/-- CVC of the next header (R535): the link VCs whose limit has changed, in rotation; 3 when none has. -/
def nextCvc (x : LinkLayer) : Nat :=
  match (List.range 3).find? (fun i => x.grant ((x.cvc + 1 + i) % 3) ≠ (x.rxOf ((x.cvc + 1 + i) % 3)).told) with
  | some i => (x.cvc + 1 + i) % 3
  | none => 3

/-- A flit with its header (Table 16.6) and check; the limit it carries counts as sent. -/
def flit (x : LinkLayer) (ftype seq : Nat) (payload : List Byte) : List Byte × LinkLayer :=
  let c := x.nextCvc
  let cred := if c = 3 then 0 else x.grant c % 256
  let h := ftype + (seq % 512) * 4 + ((x.rxSeq + 511) % 512) * 0x800 + b2n x.nak * 0x100000 + c * 0x200000
    + cred * 0x800000
  let body := leBytes 4 h ++ payload ++ List.replicate (244 - payload.length) (0 : Byte)
  (body ++ leBytes 8 (crc64 body),
   if c = 3 then x else { x.setRx c { x.rxOf c with told := x.grant c } with cvc := c })

/-- The next flit (R531, R538): a replayed DATA flit, a new one while the window allows it and `take` admits packets, a
CTRL flit, or a NULL flit. -/
def next (x : LinkLayer) (now : Nat) (take : Bool) : List Byte × LinkLayer :=
  if 0 < x.resend then
    match x.unacked[x.unacked.length - x.resend]? with
    | some (s, d) => let (f, y) := x.flit 1 s d; (f, { y with resend := x.resend - 1 })
    | none => x.flit 0 x.seq []
  else if (x.cur ≠ [] || (take && x.pick.isSome)) && decide (x.unacked.length < 256) then
    let (d, y) := if take then fill 160 x 244 else ((x.cur.take 244), { x with cur := x.cur.drop 244 })
    let y := { y with ackAt := if x.unacked = [] then now else x.ackAt }
    let (f, z) := y.flit 1 x.seq d
    (f, { z with seq := (x.seq + 1) % 512, unacked := x.unacked ++ [(x.seq, d)] })
  else match x.ctrl with
    | m :: ms => let (f, y) := x.flit 2 x.seq [BitVec.ofNat 8 m]; (f, { y with ctrl := ms })
    | [] => x.flit 0 x.seq []

/-- Replay of every unacknowledged flit (R538). [log 118 DEDUCED, unsafe] -/
def replay (x : LinkLayer) : LinkLayer := { x with resend := x.unacked.length, replays := x.replays + 1 }

/-- Payload bytes are taken into packets; none is a protocol error of R532 or R536. Each step takes a header or bytes of
the packet in reception. -/
def deliver : Nat → LinkLayer → List Byte → Option LinkLayer
  | 0, x, _ => some x
  | n + 1, x, bs =>
    if bs = [] then some x
    else match x.part with
      | some (l, need, got) =>
        let k := min need bs.length
        if k = need then
          let r := x.rxOf l
          deliver n { x.setRx l { r with buf := r.buf ++ [{ lvc := l, body := got ++ bs.take k }] } with part := none }
            (bs.drop k)
        else some { x with part := some (l, need - k, got ++ bs) }
      | none =>
        let h := leNat (bs.take 4)
        let l := h % 4
        let len := h / 4 % 256
        if h = 0 then some x
        else if l = 3 ∨ 80 < len ∨ len = 0 ∨ 1024 ≤ h then none
        else
          let r := x.rxOf l
          if 16 * x.grant l < r.got + 1 + len then none
          else deliver n { x.setRx l { r with got := r.got + 1 + len } with part := some (l, 4 * len, []) } (bs.drop 4)

/-- The loom layer accepts the first packet of a buffer, which frees its space (R534). -/
def accept (x : LinkLayer) (l : Nat) : LinkLayer :=
  let r := x.rxOf l
  match r.buf with
  | [] => x
  | p :: ps => x.setRx l { r with buf := ps, freed := r.freed + p.dwords }

/-- What the reception of a flit comes to. -/
structure Rx where
  x : LinkLayer
  good : Bool := false
  proto : Bool := false
  /-- A NAK has been raised; a replay has been started. -/
  nak : Bool := false
  replayed : Bool := false
  data : Bool := false
  pmsg : Nat := 0
  deriving DecidableEq, Repr

/-- The receiver asks for replay when no NAK is pending (R538). [log 118 DEDUCED, unsafe] -/
def raiseNak (x : LinkLayer) : LinkLayer × Bool := if x.nak then (x, false) else ({ x with nak := true }, true)

/-- The header's ACK, credit and NAK act (R535, R538); none is an ACK out of range (R536). A NAK while a replay of the same
flits is running starts nothing anew. [log 119 DEDUCED, unsafe] -/
def takeHeader (x : LinkLayer) (h now : Nat) : Option (LinkLayer × Bool) :=
  let n := x.unacked.length
  let freed := (bitsOf h 19 11 + 512 + 1 + n - x.seq) % 512
  if n < freed then none
  else
    let x1 := { x with
      unacked := x.unacked.drop freed, resend := min x.resend (n - freed),
      ackAt := if freed = 0 then x.ackAt else now, replays := if freed = 0 then x.replays else 0 }
    let c := bitsOf h 22 21
    let x2 := if c = 3 then x1
      else x1.setTx c { x1.txOf c with
        limit := (x1.txOf c).limit + (bitsOf h 30 23 + 256 - (x1.txOf c).limit % 256) % 256 }
    if bitOf h 20 ∧ x2.unacked ≠ [] ∧ (x.resend = 0 ∨ freed ≠ 0) then some (x2.replay, true) else some (x2, false)

/-- A flit is received (R530, R531, R536, R538). -/
def receive (x : LinkLayer) (fl : List Byte) (now : Nat) : Rx :=
  let bad : Rx := let (y, n) := x.raiseNak; { x := y, nak := n }
  if fl.length ≠ 256 ∨ crc64 (fl.take 248) ≠ leNat (fl.drop 248) then bad
  else
    let h := leNat (fl.take 4)
    let ft := h % 4
    let seq := bitsOf h 10 2
    if ft = 3 then { x := x, good := true, proto := true }
    else match x.takeHeader h now with
      | none => { x := x, good := true, proto := true }
      | some (y, rep) =>
        if seq ≠ y.rxSeq then
          let (z, n) := y.raiseNak
          { x := z, good := true, nak := n, replayed := rep, pmsg := if ft = 2 then leNat (sliceAt fl 4 1) else 0 }
        else if ft = 1 then
          match deliver 160 { y with rxSeq := (y.rxSeq + 1) % 512, nak := false } (sliceAt fl 4 244) with
          | none => { x := y, good := true, proto := true }
          | some z => { x := z, good := true, replayed := rep, data := true }
        else { x := y, good := true, replayed := rep, pmsg := if ft = 2 then leNat (sliceAt fl 4 1) else 0 }

end LinkLayer

namespace Reg
def blk (p off : Nat) : Nat := 0x300000 + 0x10000 * p + off
def blkErr (p : Nat) : Nat := blk p 0x10
def blkErr2 (p : Nat) : Nat := blk p 0x14
def loomCnt : Nat := 0x0A0024
def loomCfg : Nat := 0x0A0008
def loomTunCfg : Nat := 0x0A0040
def loomTunStat : Nat := 0x0A0044
end Reg

namespace State


/-- A loom-bound request completes at its requester (R558, R560): its tracker entry is freed (R537). -/
def loomDone (s : State) (q : LReq) (st : Status) (d : List Byte) : State :=
  let t := { s with loom := { s.loom with outst := s.loom.outst.filter (·.tid ≠ q.tid) } }
  match s.weave.outst.find? (·.id = q.wid) with
  | some w => t.respDone w st d
  | none => t

/-- The Brikel port or session entered DOWN: the requests it carried complete with TIMEOUT, each counted (R560). -/
def viaLost (s : State) (via : Nat) : State :=
  (s.loom.outst.filter (fun q => q.via = via ∧ q.held.isNone)).foldl (fun t q =>
    (t.loomDone q .timeout []).bump Reg.loomCnt 31 24) s

/-- A port enters a link state. -/
def portState (s : State) (p : Nat) (st : LState) : State :=
  s.modBport p fun b => { b with st := st, since := s.upNs }

/-- A port enters DOWN (R528): replay buffer, partial packets and credits are discarded, LINK_DOWN is reported.
[log 120 DESIGN CHOICE, unsafe] -/
def portDown (s : State) (p : Nat) : State :=
  (s.modBport p fun b => { b with
    st := .down, since := s.upNs, width := 0, link := {}, fresh := true, ready := false, hello := false,
    l1ReqAt := 0, sleep := .none, leftOut := 0 }).bump (Reg.blkErr p) 31 24
    |>.viaLost p

/-- A protocol error (R536). -/
def protoError (s : State) (p : Nat) : State := (s.bump (Reg.blkErr2 p) 23 16).portDown p

/-- The port runs (R516, Table 16.1): a LOOM port from SETTLE step 5 until ROUSE step 6. -/
def portRuns (s : State) (p : Nat) : Bool := !((s.bport p).st == .disabled)

/-- A port starts in DETECT, its link-layer state new (Table 16.1, R526). [log 121 DESIGN CHOICE, unsafe] -/
def portUp (s : State) (p : Nat) : State :=
  let b := s.bport p
  s.setBport p { st := .detect, since := s.upNs, lastPeer := b.lastPeer, peerValid := b.peerValid, peerPort := b.peerPort,
                 peerId := b.peerId }

/-- A port is DISABLED (R516). -/
def portOff (s : State) (p : Nat) : State :=
  let b := s.bport p
  (s.setBport p { since := s.upNs, lastPeer := b.lastPeer, peerValid := b.peerValid, peerPort := b.peerPort,
                  peerId := b.peerId }).viaLost p

end State
end Sys2Proof.Machine
end

