-- ==== Sys2Proof/Machine/Brikel.lean ====
section
/-! DEFINITION. The Brikel ports (chapter 16): detection and training, flits sent and received, retraining, loss of the
link, L1 and the SLEEP handshake, wake patterns. -/

namespace Sys2Proof.Machine

namespace Brikel

/-- Sixteen consecutive TS_B have arrived on every active lane (Table 16.5 step 6). -/
def confirmed (b : Brikel) : Bool :=
  b.active.1 ≠ 0 && (List.range 4).all fun l => !bitOf b.physical l || decide (16 ≤ SMap.get 0 b.tsb l)

/-- The partner's identity, as R526 compares it. -/
def peerKey (b : Brikel) : Nat := 8 * b.peerId + b.peerPort + 1

end Brikel

namespace State

/-- A link returns to or reaches ACTIVE: the partner is recorded, HELLO is sent (R526, R552).
[log 121 DESIGN CHOICE, unsafe] -/
def portActive (s : State) (p : Nat) : State :=
  let t := s.modBport p fun b => { b with
    st := .active, since := s.upNs, ready := false, fresh := false, lastPeer := b.peerKey, goodAt := s.upNs,
    sentAt := s.upNs }
  { t with loom := { t.loom with sent := t.loom.sent ++ [.hello p] } }

/-- An ACTIVE link enters RETRAIN, leaving lanes out (R527): a replay in progress is abandoned. -/
def portRetrain (s : State) (p out : Nat) : State :=
  let b := s.bport p
  if b.st = .active then
    (s.setBport p { b with st := .retrain, since := s.upNs, leftOut := b.leftOut ||| out, tsb := [], peerFresh := false,
                           link := { b.link with resend := 0 } }).bump (Reg.blkErr p) 23 16
  else if b.st = .retrain then s.setBport p { b with leftOut := b.leftOut ||| out }
  else s

/-- A port enters SLEEP: electrical idle, link-layer state discarded, wake detector armed (R540 step 3). -/
def portSleep (s : State) (p : Nat) : State :=
  s.modBport p fun b => { b with
    st := .sleep, since := s.upNs, width := 0, link := {}, fresh := true, hello := false, ready := false, sleep := .none,
    l1ReqAt := 0, wire := b.activeLanes.map fun _ => [setBlock osIdleEnter] }

/-- Cozy entry at a port (R540): ACTIVE and L1 ports begin the handshake, the others go straight to SLEEP. -/
def portCozy (s : State) (p : Nat) : State :=
  let b := s.bport p
  match b.st with
  | .disabled => s
  | .active => s.setBport p { b with sleep := .draining, sleepAt := s.upNs }
  | .l1 => s.setBport p { b with st := .active, since := s.upNs, sleep := .draining, sleepAt := s.upNs }
  | _ => s.portSleep p

/-- SLEEP_REQ is sent (R540 step 2). -/
def sleepRequest (s : State) (p : Nat) : State :=
  s.modBport p fun b => { b with sleep := .waitAck, sleepAt := s.upNs, link := { b.link with ctrl := b.link.ctrl ++ [4] } }

/-- Step 6 of Table 16.5 is complete: width chosen and counted, link-layer state kept or reset (R526). From TRAIN the
first good flit makes the link ACTIVE; RETRAIN returns to ACTIVE and resends what is unacknowledged. -/
def portTrained (s : State) (p : Nat) : State :=
  let b := s.bport p
  let w := b.active.1
  let reset := b.fresh || b.peerFresh || decide (b.peerKey ≠ b.lastPeer)
  let s1 := s.setBport p { b.descramble with width := w }
  let s2 := if w < 4 then s1.bump (Reg.blkErr2 p) 31 24 else s1
  if b.st = .train then
    s2.modBport p fun c => { c with ready := true, link := if reset then {} else c.link }
  else if reset then ((s2.viaLost p).modBport p fun c => { c with link := {}, hello := false }).portActive p
  else if b.link.unacked = [] then s2.portActive p
  else ((s2.modBport p fun c => { c with link := c.link.replay }).bump (Reg.blkErr p) 15 8).portActive p

/-- Four consecutive replays without the ACK advancing start RETRAIN (R527). -/
def checkReplays (s : State) (p : Nat) : State := if 4 ≤ (s.bport p).link.replays then s.portRetrain p 0 else s

/-- Enter L1 (R539). -/
def portL1 (s : State) (p : Nat) : State :=
  s.modBport p fun b => { b.onLanes (setBlock osIdleEnter) with st := .l1, since := s.upNs, l1ReqAt := 0 }

/-- A power message of a CTRL flit has been sent: the answers L1_ACK and SLEEP_ACK act once they have left (R539,
R540). -/
def pmsgSent (s : State) (p m : Nat) : State :=
  if m = 2 then (if (s.bport p).l1ReqAt = 0 then s.portL1 p else s)
  else if m = 5 then (if s.ward.cozy then s.portSleep p else s.portUp p)
  else s

/-- A power message has been received (R539, R540). -/
def pmsgTaken (s : State) (p m : Nat) : State :=
  let b := s.bport p
  let say (t : State) (k : Nat) : State :=
    t.modBport p fun c => { c with link := { c.link with ctrl := c.link.ctrl ++ [k] } }
  if m = 1 then say s (if b.link.unacked = [] ∧ !b.link.waiting then 2 else 3)
  else if m = 2 then
    (if b.l1ReqAt = 0 then s
     else if b.link.ctrl.contains 2 then s.setBport p { b with l1ReqAt := 0 }
     else s.portL1 p)
  else if m = 3 then s.setBport p { b with l1ReqAt := 0, sentAt := s.upNs }
  else if m = 4 then say s 5
  else if m = 5 then (if b.sleep = .waitAck then s.portSleep p else s)
  else s

/-- A write of one to an action bit of a port register in STEEP. -/
def blkAction (s : State) (p off : Nat) (f : State → State) : State := s.action (Reg.blk p off) .steep f

end State

open State

/-- DETECT_BURST (R524): every 1 ms in DETECT the port sends an IDLE_EXIT burst of 4 µs on every lane. -/
def execDetectBurst (p : Nat) (s : State) : Out :=
  let p := p % 8
  .next (if (s.bport p).st = .detect then s.modBport p fun b => { b with bursts := b.bursts + 1 } else s)

/-- PARTNER_DETECTED (R524, Table 16.5 step 1). -/
def execPartnerDetected (p : Nat) (s : State) : Out :=
  let p := p % 8
  .next (if (s.bport p).st = .detect then
    s.modBport p fun b => { b with
      st := .train, since := s.upNs, lanes := [], tsb := [], polarity := 0, peerUsable := 0, leftOut := 0, ready := false,
      peerFresh := false }
  else s)

/-- TRAINING_TIMEOUT (R524): not ACTIVE 15 ms after detection, the link enters DOWN. -/
def execTrainingTimeout (p : Nat) (s : State) : Out :=
  let p := p % 8
  .next (if (s.bport p).st = .train then (s.elapseTo ((s.bport p).since + 15000000)).portDown p else s)

/-- TRAINING_SET_RECEIVED (R524 to R527, Table 16.3): `count` consecutive identical sets on a physical lane; `inverted`
says the lane is received inverted. -/
def execTrainingSetReceived (p lane : Nat) (set : List Byte) (inverted : Bool) (count : Nat) (s : State) : Out :=
  let p := p % 8
  let lane := lane % 4
  let b := s.bport p
  .next (
    if !(b.st == .train || b.st == .retrain) || count < 2 || bitOf b.leftOut lane || b.ready then s
    else
      let flags := fieldAt set 3 1
      let c := { b with peerUsable := flags / 16 % 16 }
      if fieldAt set 0 1 = 0xC3 then
        s.setBport p { c with
          lanes := SMap.set 0 b.lanes lane (fieldAt set 1 1 % 4 + 1)
          polarity := b.polarity - (if bitOf b.polarity lane then 2 ^ lane else 0) + (if inverted then 2 ^ lane else 0)
          peerValid := true, peerPort := fieldAt set 2 1 % 8, peerId := fieldAt set 6 4
          peerFresh := b.peerFresh || flags % 2 = 1, tsb := SMap.set 0 b.tsb lane 0 }
      else if fieldAt set 0 1 = 0xC5 then
        let d := { c with tsb := SMap.set 0 b.tsb lane count }
        let t := s.setBport p d
        if d.active.1 = 0 then t.portDown p
        else if d.confirmed then t.portTrained p
        else t
      else s)

/-- FLIT_TX (R523, R531, R533 to R535, R538): one flit time of the port, after the one before has ended.
[log 165 PRESUMED, unsafe] -/
def execFlitTx (p : Nat) (s : State) : Out :=
  let p := p % 8
  let b := s.bport p
  .next (
    if !(b.st == .active || (b.st == .train && b.ready)) then s
    else
      let s := s.elapseTo (b.nextTx / 16)
      let (f, x) := b.link.next s.upNs (b.sleep == .none)
      let ft := fieldAt f 0 1 % 4
      let t := s.setBport p { b.transmit s.upNs f with link := x, sentAt := if ft = 1 then s.upNs else b.sentAt }
      let t := if ft = 2 then t.pmsgSent p (fieldAt f 4 1) else t
      let c := t.bport p
      if c.sleep == .draining && c.link.unacked == [] && c.link.cur == [] then t.sleepRequest p else t)

/-- FLIT_RX (R521 to R523, R530, R532, R535, R536, R538): the blocks of one flit arrive on the active lanes, SKIP blocks among
them; sync errors are counted by physical lane. -/
def execFlitRx (p : Nat) (wire : List (List LaneBlock)) (s : State) : Out :=
  let p := p % 8
  let b0 := s.bport p
  .next (
    if !(b0.st == .active || (b0.st == .train && b0.ready)) then s
    else
      let (b, flit, errs) := b0.accept wire
      let r := b.link.receive (flit.getD []) s.upNs
      let s := errs.foldl (fun t (x : Nat × Nat) => t.bumpBy (Reg.blk p 0x18) (8 * x.1 + 7) (8 * x.1) x.2) s
      let t := s.setBport p { b with link := r.x, goodAt := if r.good then s.upNs else b.goodAt }
      let t := if r.good then t else t.bump (Reg.blkErr p) 7 0
      let t := if r.nak then t.bump (Reg.blkErr2 p) 7 0 else t
      let t := if r.replayed then t.bump (Reg.blkErr p) 15 8 else t
      if r.proto then t.protoError p
      else
        let t := if r.good && b.st == .train then t.portActive p else t
        (t.pmsgTaken p r.pmsg).checkReplays p)

/-- REPLAY_TIMEOUT (R538, R556): REPLAY_TO without the ACK advancing; from 16 on `p` names a tunnel session.
[log 3 DESIGN CHOICE, safe] -/
def execReplayTimeout (p : Nat) (s : State) : Out :=
  if 16 ≤ p then
    match s.session (p - 16) with
    | none => .next s
    | some x =>
      if x.link.unacked = [] then .next s
      else
        let t := s.elapseTo (x.link.ackAt + 10000 * s.fld Reg.loomTunCfg 15 8)
        .next (t.setSession (p - 16) { x with link := { x.link.replay with ackAt := t.upNs } })
  else
    let p := p % 8
    let b := s.bport p
    .next (
      if b.st = .active ∧ b.link.unacked ≠ [] then
        let t := s.elapseTo (b.link.ackAt + 500 * s.fld (Reg.blk p 0) 19 16)
        let u := t.modBport p fun c => { c with link := { c.link.replay with ackAt := t.upNs } }
        ((u.bump (Reg.blkErr p) 15 8).bump (Reg.blkErr2 p) 15 8).checkReplays p
      else s)

/-- BLOCK_LOCK_LOSS (R527): an active lane loses block lock. -/
def execBlockLockLoss (p lane : Nat) (s : State) : Out :=
  .next (if bitOf (s.bport (p % 8)).physical (lane % 4) then s.portRetrain (p % 8) (2 ^ (lane % 4)) else s)

/-- LANE_ERROR_THRESHOLD (R521, R527, R545): `errs` sync errors on one lane within 1 ms are counted, and LANE_ERR_THR of
them start RETRAIN. -/
def execLaneErrorThreshold (p lane errs : Nat) (s : State) : Out :=
  let p := p % 8
  let lane := lane % 4
  .next (
    if !s.portRuns p then s
    else
      let t := s.bumpBy (Reg.blk p 0x18) (8 * lane + 7) (8 * lane) errs
      if s.fld (Reg.blk p 0) 31 24 ≤ errs ∧ bitOf (s.bport p).physical lane then t.portRetrain p (2 ^ lane) else t)

/-- FLIT_SILENCE (R527): no good flit for 4 µs. -/
def execFlitSilence (p : Nat) (s : State) : Out :=
  let p := p % 8
  .next (if (s.bport p).st = .active then (s.elapseTo ((s.bport p).goodAt + 4000)).portRetrain p 0 else s)

/-- RETRAIN_CMD (R527, R542): a write of one to BLK_CTL_p.RETRAIN. -/
def execRetrainCmd (p : Nat) (s : State) : Out :=
  let p := p % 8
  .next (s.blkAction p 0 fun t => if (t.bport p).st = .active then t.portRetrain p 0 else t)

/-- RETRAIN_TIMEOUT (R527): not ACTIVE again within 1 ms. -/
def execRetrainTimeout (p : Nat) (s : State) : Out :=
  let p := p % 8
  .next (if (s.bport p).st = .retrain then (s.elapseTo ((s.bport p).since + 1000000)).portDown p else s)

/-- LINK_DOWN_CMD (R528): a write of one to BLK_CTL_p.RESET. -/
def execLinkDownCmd (p : Nat) (s : State) : Out :=
  let p := p % 8
  .next (s.blkAction p 0 fun t =>
    if (t.bport p).st = .active ∨ (t.bport p).st = .retrain ∨ (t.bport p).st = .l1 then t.portDown p else t)

/-- DOWN_RETRY (R528): 10 ms after DOWN, unless HOLD is set. -/
def execDownRetry (p : Nat) (s : State) : Out :=
  let p := p % 8
  .next (if (s.bport p).st = .down ∧ s.fld (Reg.blk p 0) 2 2 = 0 then
    (s.elapseTo ((s.bport p).since + 10000000)).portUp p else s)

/-- L1_IDLE (R539): idle for L1_IDLE_US with an empty replay buffer, the port sends L1_REQ. -/
def execL1Idle (p : Nat) (s : State) : Out :=
  let p := p % 8
  let b := s.bport p
  let us := s.fld (Reg.blk p 0) 15 8
  .next (
    if b.st = .active ∧ s.fld (Reg.blk p 0) 3 3 = 1 ∧ us ≠ 0 ∧ b.link.unacked = [] ∧ !b.link.waiting ∧ b.l1ReqAt = 0
        ∧ b.sleep = .none then
      let t := s.elapseTo (b.sentAt + 1000 * us)
      t.modBport p fun c => { c with link := { c.link with ctrl := c.link.ctrl ++ [1] }, l1ReqAt := t.upNs + 1 }
    else s)

/-- L1_REQ_TIMEOUT (R539): no answer within 10 µs; sent again at the next idle period. -/
def execL1ReqTimeout (p : Nat) (s : State) : Out :=
  let p := p % 8
  let b := s.bport p
  .next (
    if b.st = .active ∧ b.l1ReqAt ≠ 0 then
      let t := s.elapseTo (b.l1ReqAt - 1 + 10000)
      t.modBport p fun c => { c with l1ReqAt := 0, sentAt := t.upNs }
    else s)

/-- L1_EXIT (R539): a packet to send, or IDLE_EXIT received; `relock` says that both sides relock within 2 µs, else the
link enters RETRAIN. -/
def execL1Exit (p : Nat) (relock : Bool) (s : State) : Out :=
  let p := p % 8
  let b := s.bport p
  .next (
    if b.st = .l1 then
      let t := s.setBport p { b.onLanes idleExitBlock with st := .active, since := s.upNs, goodAt := s.upNs, sentAt := s.upNs }
      if relock then t else t.portRetrain p 0
    else s)

/-- SLEEP_DRAIN_TIMEOUT (R540 step 1): after 1 ms the flits still unacknowledged are discarded and counted. -/
def execSleepDrainTimeout (p : Nat) (s : State) : Out :=
  let p := p % 8
  let b := s.bport p
  .next (
    if b.sleep = .draining then
      let t := s.elapseTo (b.sleepAt + 1000000)
      let u := t.modBport p fun c => { c with link := { c.link with unacked := [], resend := 0, cur := [] } }
      (u.bumpBy (Reg.blkErr2 p) 23 16 b.link.unacked.length).sleepRequest p
    else s)

/-- SLEEP_ACK_TIMEOUT (R540 steps 2 and 3): no SLEEP_ACK within 0.5 ms. -/
def execSleepAckTimeout (p : Nat) (s : State) : Out :=
  let p := p % 8
  let b := s.bport p
  .next (if b.sleep = .waitAck then (s.elapseTo (b.sleepAt + 500000)).portSleep p else s)

/-- WAKE_PATTERN_SEND (R541, R546): a write of one to BLK_WAKE_p.SEND sends one wake pattern of 200 µs. -/
def execWakePatternSend (p : Nat) (s : State) : Out :=
  let p := p % 8
  .next (s.blkAction p 0x1C fun t =>
    if t.portRuns p then (t.elapse 200000).bump (Reg.blk p 0x1C) 31 16 else t)

/-- BLK_CNT_CLR (R547): clears BLK_ERR_p, BLK_ERR2_p, BLK_LANE_p and BLK_WAKE_p.SENT. -/
def execBlkCntClr (p : Nat) (s : State) : Out :=
  let p := p % 8
  .next (s.action (Reg.blk p 0xF0) .ss fun t =>
    (((t.setReg (Reg.blkErr p) 0).setReg (Reg.blkErr2 p) 0).setReg (Reg.blk p 0x18) 0).setFld (Reg.blk p 0x1C) 31 16 0)

end Sys2Proof.Machine
end

