-- ==== Sys2Proof/Machine/Net.lean ====
section
/-! DEFINITION. The network rings of an Ethernet MAC's owner (R681, R695): receiving a frame into its ring, and the
transmit doorbell. -/

namespace Sys2Proof.Machine

namespace Reg
/-- Register `off` of MAC m's group in enclosure e's queue block. -/
def net (e m off : Nat) : Nat := 0x380040 + 0x10000 * e + 0x40 * m + off
end Reg

namespace State

/-- The port identifier of MAC m (0 MAC 0, 1 MAC 1, 2 the 1 Gb/s MAC). -/
def macPort (m : Nat) : Nat := match m with | 0 => 0x10 | 1 => 0x11 | _ => 0x12

/-- The owner of MAC m, when the port is listed. -/
def macOwner (s : State) (m : Nat) : Option Nat := (s.portOf (macPort m)).map (·.owner)

/-- The ring of MAC m in its owner's block is enabled. -/
def netOn (s : State) (e m : Nat) : Bool := s.fld (Reg.net e m 8) 31 31 = 1

/-- Base of the receive (0x00) or transmit (0x14) ring. -/
def netBase (s : State) (e m off : Nat) : Nat := (s.reg (Reg.net e m off)).toNat + (s.reg (Reg.net e m (off + 4))).toNat * 2 ^ 32

/-- Bytes of a slot. -/
def netSlot : Nat := 16384

/-- A frame of MAC m the owner never gets. -/
def rxDrop (s : State) (e m : Nat) : State := s.bump (Reg.net e m 0x24) 15 0

/-- The frame is in its slot: the tail moves on; a slot that could not be written discards it. -/
def rxEnds (e m tail : Nat) (x : Status × State) : State :=
  if x.1 = .ok ∨ x.1 = .poisoned then x.2.setReg (Reg.net e m 0x0C) (BitVec.ofNat 32 (tail + 1)) else x.2.rxDrop e m

/-- A frame for the owner of MAC m, stamped at `stamp`: into its receive ring, or discarded and counted when the ring is
full, not enabled, or the frame belongs to the resident enclosure in STEEP (R681). -/
def netRx (s : State) (m : Nat) (frame : List Byte) (stamp : Nat) (vlan : Bool) (ext : List ExtData) (ups : List Upset) :
    State :=
  match s.macOwner m with
  | none => s
  | some e =>
    let tail := (s.reg (Reg.net e m 0x0C)).toNat
    let head := (s.reg (Reg.net e m 0x10)).toNat
    let n := 2 ^ s.fld (Reg.net e m 8) 3 0
    if s.ward.st = .steep ∧ e < 2 then s.rxDrop e m
    else if !s.netOn e m ∨ n ≤ (tail + 2 ^ 32 - head) % 2 ^ 32 then s.rxDrop e m
    else
      let bs := leBytes 2 frame.length ++ leBytes 2 (b2n vlan) ++ leBytes 4 0 ++ leBytes 8 stamp ++ frame
      rxEnds e m tail (s.writeRun (.mac m e) (s.netBase e m 0 + netSlot * (tail % n)) bs ext ups)

/-- The frame of a slot whose header has been read. -/
def txFrame (e m a : Nat) (ext : List ExtData) (ups : List Upset) (x : Status × List Byte × State) :
    Status × List Byte × State :=
  if x.1 = .ok then x.2.2.readRun (.mac m e) (a + 16) (min (leNat (x.2.1.take 2)) (netSlot - 16)) ext ups
  else (x.1, [], x.2.2)

/-- A frame as the MAC sends it: padded to 60 bytes, its FCS appended (R681). [log 166 PRESUMED, unsafe] -/
def onWire (frame : List Byte) : List Byte :=
  let p := frame ++ List.replicate (60 - frame.length) 0
  p ++ leBytes 4 (crc32 p)

/-- The slot is done with: its frame sent, or counted. -/
def txEnds (e m head : Nat) (up : Bool) (x : Status × List Byte × State) : State :=
  let t := x.2.2.setReg (Reg.net e m 0x20) (BitVec.ofNat 32 (head + 1))
  if up ∧ x.1 = .ok then { t with netSent := t.netSent ++ [(m, onWire x.2.1)] } else t.bump (Reg.net e m 0x24) 31 16

/-- One posted transmit frame: read from its slot and sent, or discarded and counted while the link is down. Answers
whether the ring goes on. -/
def netTxOne (s : State) (e m head : Nat) (up : Bool) (ext : List ExtData) (ups : List Upset) : State :=
  let n := 2 ^ s.fld (Reg.net e m 8) 7 4
  let a := s.netBase e m 0x14 + netSlot * (head % n)
  txEnds e m head up (txFrame e m a ext ups (s.readRun (.mac m e) a 16 ext ups))

/-- The frames posted up to the tail, in order (at most one ring). -/
def netTx (s : State) (e m : Nat) (up : Bool) (ext : List ExtData) (ups : List Upset) : State :=
  let head := (s.reg (Reg.net e m 0x20)).toNat
  let tail := (s.reg (Reg.net e m 0x1C)).toNat
  let n := 2 ^ s.fld (Reg.net e m 8) 7 4
  if !s.netOn e m then s
  else (List.range (min n ((tail + 2 ^ 32 - head) % 2 ^ 32))).foldl (fun t i =>
    t.netTxOne e m ((head + i) % 2 ^ 32) up ext ups) s

end State

open State

/-- NET_TX_DOORBELL (R681, R695): the owner writes SYS_QBLK_NET_TX_TAIL_m of enclosure e's block. `up` says whether the
MAC's link is up. [log 145 DESIGN CHOICE, unsafe] -/
def execNetTxDoorbell (who : Requester) (e m tail : Nat) (up : Bool) (ext : List ExtData) (upsets : List Upset)
    (s : State) : Out :=
  let k := Reg.net (e % 8) (m % 3) 0x1C
  .next (s.regCmd who .write k fun t => t.inStates who k .dss (tail % 2 ^ 32 ≠ (t.reg k).toNat) fun u =>
    let u1 := u.setReg k (BitVec.ofNat 32 tail)
    (.ok, 0, if u1.macOwner (m % 3) = some (e % 8) then u1.netTx (e % 8) (m % 3) up ext upsets else u1))

end Sys2Proof.Machine
end

