-- ==== Sys2Proof/Machine/Tsu.lean ====
section
/-! DEFINITION. Time discipline (§13.5): offset measurements, the lock rule, slewing and stepping, gPTP as an end
station, PPS, holdover, and the rows of the time-stamp unit. -/

namespace Sys2Proof.Machine

namespace Reg
def tsuTimeLo : Nat := 0x0B0000
def tsuCfg : Nat := 0x0B0014
def strPortLat (p : Nat) : Nat := 0x0C0040 + 4 * p
def strPortCnt (p : Nat) : Nat := 0x0C0080 + 4 * p
end Reg

namespace State

/-- TSU_CFG.SRC_SEL, GM and PORT. -/
def srcSel (s : State) : Nat := s.fld Reg.tsuCfg 1 0
def grandmaster (s : State) : Bool := s.fld Reg.tsuCfg 2 2 = 1
def slavePort (s : State) : Nat := s.fld Reg.tsuCfg 3 3

/-- 1.5 s, the PPS limit of R420. -/
def ppsLimit : Nat := 1500000000

/-- PPS_IN edges arrive: the last came no more than 1.5 s ago. -/
def ppsPresent (s : State) : Bool := decide (s.tsu.lastPps ≠ 0 ∧ s.upNs < s.tsu.lastPps + ppsLimit)

/-- A measurement of this source (1 gPTP, 2 PPS) disciplines the TSU (R421, R423). -/
def srcUsed (s : State) (src : Nat) : Bool :=
  if s.srcSel = 3 then false
  else if s.grandmaster then src == 2
  else match s.srcSel with
    | 1 => src == 1
    | 2 => src == 2
    | _ => src == 2 || !s.ppsPresent

/-- The rate value with a deviation from nominal in parts per 10^9. [log 102 DESIGN CHOICE, unsafe] -/
def rateOf (ppb : Int) : Nat := ((nominalRate : Int) + (nominalRate : Int) * ppb / 1000000000).toNat

/-- The slew an offset is given (R422): at most ±500 ppm, against the offset; the whole 500 ppm from 1 ms on, and below
that a free value within the bound. [log 102 DESIGN CHOICE, unsafe] -/
def slewFor (off : Int) (v : Nat) : Int :=
  let m : Int := if 1000000 ≤ off.natAbs then 500000 else (v % 500001 : Nat)
  if off < 0 then m else if off = 0 then 0 else -m

/-- The lock rule of Table 13.7. [log 103 DESIGN CHOICE, unsafe] -/
def lockRule (x : Tsu) (off : Int) (now : Nat) : Tsu :=
  let g := if off.natAbs ≤ 1000 then min 8 (x.good + 1) else 0
  if g = 8 then { x with good := g, st := 1 }
  else if x.st = 1 ∧ g = 0 then { x with good := g, st := 2, holdSince := now }
  else { x with good := g }

/-- An offset measurement of the source in use: recorded, judged by the lock rule, and corrected by a step where Table
13.9 permits one, else by slewing (R420 to R422). A positive offset: the TSU is ahead.
[log 101 DESIGN CHOICE, unsafe; 103 DESIGN CHOICE, unsafe] -/
def discipline (s : State) (src : Nat) (off : Int) : State :=
  let first := s.tsu.lastPtp = 0 ∧ s.tsu.lastPps = 0 ∧ s.tsu.st = 0
  let (v, s1) := s.draw
  let x := lockRule { s1.tsu with src := src, offset := off } off s.upNs
  let x := if src = 1 then { x with lastPtp := s.upNs + 1 } else { x with lastPps := s.upNs + 1 }
  if s.stepOk ∧ (1000000 < off.natAbs ∨ first) then
    { s1 with tsu := { x with time := ((x.time : Int) - off).toNat % 2 ^ 64, frac := 0, rate := nominalRate } }
  else { s1 with tsu := { x with rate := rateOf (slewFor off v) } }

/-- A measurement of a source that is not in use; gPTP still gives the whole seconds to PPS (R421), where a step is
permitted. -/
def sideMeasure (s : State) (src : Nat) (off : Int) : State :=
  if src = 1 then
    let s1 := { s with tsu := { s.tsu with lastPtp := s.upNs + 1 } }
    let whole : Int := (off + 500000000) / 1000000000
    if s.srcSel ≠ 3 ∧ !s.grandmaster ∧ whole ≠ 0 ∧ s.stepOk then
      { s1 with tsu := { s1.tsu with time := ((s1.tsu.time : Int) - whole * 1000000000).toNat % 2 ^ 64 } }
    else s1
  else s

/-- An offset measurement. [log 101 DESIGN CHOICE, unsafe] -/
def measure (s : State) (src : Nat) (off : Int) : State :=
  if s.srcUsed src then s.discipline src off else s.sideMeasure src off

/-! ### gPTP (R423) -/

/-- Port `p` (0 MAC 0, 1 the 1 Gb/s MAC) carries gPTP. -/
def gptpOn (s : State) (p : Nat) : Bool :=
  match s.portOf (if p = 0 then 0x10 else 0x12) with
  | some x => x.role = 1 && bitOf x.options 0
  | none => false

def gptp (s : State) (p : Nat) : GptpPort := if p = 0 then s.tsu.ptp0 else s.tsu.ptp1
def setGptp (s : State) (p : Nat) (x : GptpPort) : State :=
  { s with tsu := if p = 0 then { s.tsu with ptp0 := x } else { s.tsu with ptp1 := x } }

/-- The stamps of an event message received or sent now (R418). -/
def rxStamp (s : State) (p : Nat) : Nat := s.tsu.time - s.fld (Reg.strPortLat p) 15 0
def txStamp (s : State) (p : Nat) : Nat := s.tsu.time + s.fld (Reg.strPortLat p) 31 16

/-- Send a message. [log 105 PRESUMED, unsafe; 147 DESIGN CHOICE, safe] -/
def sendPtp (s : State) (p kind seq time : Nat) : State :=
  { s with tsu := { s.tsu with sent := s.tsu.sent ++ [{ port := p, kind := kind, seq := seq, time := time }] } }

/-- The time a PTP timestamp of 10 bytes gives, in ns (IEEE 1588: 48-bit seconds, 32-bit nanoseconds). -/
def ptpTime (bs : List Byte) (off : Nat) : Nat :=
  beNat (sliceAt bs off 6) * 1000000000 + beNat (sliceAt bs (off + 6) 4)

/-- The correction field of a message in ns. -/
def ptpCorrection (bs : List Byte) : Int := toSigned 64 (beNat (sliceAt bs 8 8)) / 65536

/-- A message interval of 2^n s in ns, n the message's log interval. -/
def ptpInterval (n : Nat) : Nat :=
  let i := toSigned 8 n
  if 0 ≤ i then 1000000000 * 2 ^ (min 7 i.toNat) else 1000000000 / 2 ^ (min 20 (-i).toNat)

/-- A gPTP message received on a port that carries gPTP, from the byte after the EtherType (IEEE 802.1AS, domain 0).
[log 105 PRESUMED, unsafe] -/
def gptpRx (s : State) (p : Nat) (m : List Byte) : State :=
  let kind := fieldAt m 0 1 % 16
  let seq := beNat (sliceAt m 30 2)
  let x := s.gptp p
  let slave := !s.grandmaster && s.slavePort == p
  if fieldAt m 4 1 ≠ 0 then s
  else match kind with
    | 0 => if slave then s.setGptp p { x with syncSeq := seq + 1, syncAt := s.rxStamp p,
                                              interval := ptpInterval (fieldAt m 33 1) } else s
    | 8 =>
      if slave ∧ x.syncSeq = seq + 1 then
        (s.setGptp p { x with syncSeq := 0 }).measure 1
          ((x.syncAt : Int) - ((ptpTime m 34 : Int) + ptpCorrection m + x.delay))
      else s
    | 2 => (s.sendPtp p 3 seq (s.rxStamp p)).sendPtp p 10 seq (s.txStamp p)
    | 3 => if seq = x.seq then s.setGptp p { x with t4 := s.rxStamp p, t2 := ptpTime m 34 } else s
    | 10 =>
      if seq = x.seq ∧ x.t4 ≠ 0 then
        let rtt : Int := ((x.t4 : Int) - x.t1) - ((ptpTime m 34 : Int) + ptpCorrection m - x.t2)
        s.setGptp p { x with delay := (rtt / 2).toNat, t4 := 0 }
      else s
    | _ => s

end State

open State

/-- PPS_IN_EDGE (R421): `dt` ns after the command before, an edge is stamped. An interval more than 1 ms off one second
is ignored and counted. [log 104 DESIGN CHOICE, unsafe] -/
def execPpsInEdge (dt : Nat) (s : State) : Out :=
  let s1 := s.elapse dt
  if !s1.tsuRuns then .next s1
  else
    let now := s1.tsu.time
    let s2 := { s1 with tsu := { s1.tsu with lastEdge := now + 1 } }
    let gap : Int := (now : Int) + 1 - s1.tsu.lastEdge
    if s1.tsu.lastEdge ≠ 0 ∧ 1000000 < (gap - 1000000000).natAbs then .next (s2.bump (Reg.strPortCnt 0) 15 0)
    else
      let r := now % 1000000000
      .next (s2.measure 2 (if r < 500000000 then (r : Int) else (r : Int) - 1000000000))

/-- GPTP_SYNC_TIMER (R423): as grandmaster, Sync and Follow_Up leave every port that carries gPTP each 125 ms. -/
def execGptpSyncTimer (s : State) : Out :=
  let s1 := s.elapseTo s.tsu.syncDue
  if !s1.tsuRuns then .next s1
  else
    let s2 := { s1 with tsu := { s1.tsu with syncDue := s1.upNs + 125000000 } }
    if !s2.grandmaster then .next s2
    else .next ((List.range 2).foldl (fun t p =>
      if t.gptpOn p then
        let x := t.gptp p
        let n := x.txSeq % 0x10000
        ((t.sendPtp p 0 n (t.txStamp p)).sendPtp p 8 n (t.txStamp p)).setGptp p { x with txSeq := n + 1 }
      else t) s2)

/-- PDELAY_TIMER (R423): every port that carries gPTP sends Pdelay_Req each second. -/
def execPdelayTimer (s : State) : Out :=
  let s1 := s.elapseTo s.tsu.pdelayDue
  if !s1.tsuRuns then .next s1
  else
    let s2 := { s1 with tsu := { s1.tsu with pdelayDue := s1.upNs + 1000000000 } }
    .next ((List.range 2).foldl (fun t p =>
      if t.gptpOn p then
        let x := t.gptp p
        let n := (x.seq + 1) % 0x10000
        (t.sendPtp p 2 n (t.txStamp p)).setGptp p { x with seq := n, t1 := t.txStamp p, t4 := 0 }
      else t) s2)

/-- TSU_SOURCE_LOST (R420): no measurement for 3 sync intervals, or 1.5 s of PPS. A TSU that was LOCKED goes to
HOLDOVER and keeps its rate, also when TSU_CFG has taken its source away; under AUTO, gPTP that has measured meanwhile takes over.
[log 103 DESIGN CHOICE, unsafe] -/
def execTsuSourceLost (s : State) : Out :=
  let x := s.tsu
  if !s.tsuRuns then .next s
  else if x.src = 0 then .next (if x.st = 1 then { s with tsu := { x with st := 2, good := 0, holdSince := s.upNs } } else s)
  else
    let due := if x.src = 2 then x.lastPps - 1 + ppsLimit else x.lastPtp - 1 + 3 * (s.gptp s.slavePort).interval
    let s1 := s.elapseTo due
    if x.src = 2 ∧ s.srcSel = 0 ∧ !s.grandmaster ∧ x.lastPps ≤ x.lastPtp then
      .next { s1 with tsu := { s1.tsu with src := 1 } }
    else
      let y := { s1.tsu with src := 0, good := 0 }
      .next { s1 with tsu := if y.st = 1 then { y with st := 2, holdSince := s1.upNs } else y }

/-- TSU_HOLDOVER_EXPIRY (R420): HOLD_MAX_S in HOLDOVER leads to EXPIRED. -/
def execTsuHoldoverExpiry (s : State) : Out :=
  if s.tsu.st ≠ 2 then .next s
  else
    let s1 := s.elapseTo (s.tsu.holdSince + s.fld Reg.tsuCfg 15 8 * 1000000000)
    .next { s1 with tsu := { s1.tsu with st := 3 } }

/-- PPS_OUT_PULSE (R424): at the next whole second PPS_OUT rises for 100 ms, while enabled and not FREE. -/
def execPpsOutPulse (s : State) : Out :=
  let s1 := s.elapseToTsu ((s.tsu.time / 1000000000 + 1) * 1000000000)
  if s1.tsuRuns ∧ s1.fld Reg.tsuCfg 16 16 = 1 ∧ s1.tsu.st ≠ 0 then
    .next { s1 with tsu := { s1.tsu with ppsUntil := s1.tsu.time + 100000000 } }
  else .next s1

/-- TSU_TIME_LO_READ (R438): the low half is returned and the matching high half is latched. -/
def execTsuTimeLoRead (who : Requester) (s : State) : Out :=
  .next (s.regCmd who .read Reg.tsuTimeLo fun t =>
    (.ok, t.tsu.time % 2 ^ 32, { t with tsu := { t.tsu with latch := t.tsu.time / 2 ^ 32 + 1 } }))

end Sys2Proof.Machine
end

