-- ==== Sys2Proof/Machine/Ingest.lean ====
section
/-! DEFINITION. The Strainer (chapter 13): bindings, the reception of data on the sensor ports, the end-to-end checks
of Table 13.8, ring writes, silence, summaries and the outbound header. -/

namespace Sys2Proof.Machine

namespace Reg
def strCnt (k : Nat) : Nat := 0x0C0104 + 0x10 * k
def strCntClr : Nat := 0x0C0300
def strTxStat : Nat := 0x0C0310
end Reg

/-- Outcome codes of Table 13.8 and R430. -/
inductive Judged where
  | accepted | initial | gap | resync | format | tooLong | checkFail | idMismatch | timeImplausible | repeated
  | outOfSeq | overrun
  deriving DecidableEq, Repr

/-- The codes of Table 13.8 (GAP, RESYNC and the written ones from Table 13.4). -/
def Judged.code : Judged → Nat
  | .accepted => 0 | .initial => 1 | .gap => 2 | .resync => 3 | .format => 5 | .tooLong => 6 | .checkFail => 7
  | .idMismatch => 8 | .timeImplausible => 9 | .repeated => 10 | .outOfSeq => 11 | .overrun => 12

/-- The datum is written. -/
def Judged.writes (j : Judged) : Bool := decide (j.code ≤ 3)

/-- The continuity check of R430 on counter `c`: outcome, LOST and the stream after. -/
def continuity (x : Stream) (maxGap c : Nat) : Judged × Nat × Stream :=
  let d := (c + 2 ^ 32 - x.last % 2 ^ 32) % 2 ^ 32
  let wr (y : Stream) : Stream := { y with initial := false, last := c, resync := 0 }
  if x.initial then (.initial, 0, wr x)
  else if d = 1 then (.accepted, 0, wr x)
  else if 2 ≤ d ∧ d ≤ maxGap + 1 then (.gap, d - 1, wr x)
  else if d = 0 then (.repeated, 0, x)
  else
    let n := if x.resync ≠ 0 ∧ c = (x.prevBad + 1) % 2 ^ 32 then x.resync + 1 else 1
    if n = 3 then (.resync, 0, wr x)
    else (.outOfSeq, 0, { x with resync := n, prevBad := c })

/-- The time check of R429 is applied to a datum. -/
def timeApplies (senderTime tsuSt : Nat) : Bool := decide (senderTime ≠ 0 ∧ tsuSt ≠ 0)

/-- The time check of R429. -/
def timePasses (r : StreamRec) (arrival senderTime : Nat) : Bool :=
  let d : Int := ((arrival : Int) - senderTime) / 1000
  decide ((r.latMin : Int) ≤ d ∧ d ≤ r.latMax)

/-- Checks 1 to 5 of Table 13.8 on a datum: header, payload, whether it is complete, and the port's codes. -/
def earlyChecks (r : StreamRec) (arrival tsuSt : Nat) (whole codesOk : Bool) (hdr payload : List Byte) : Option Judged :=
  if !whole ∨ hdr.length < 24 then some .format
  else if r.maxLen < fieldAt hdr 0x10 4 then some .tooLong
  else if fieldAt hdr 0x10 4 ≠ payload.length then some .format
  else if !codesOk then some .checkFail
  else if crc32c (hdr.take 0x14 ++ payload) ≠ fieldAt hdr 0x14 4 then some .checkFail
  else if fieldAt hdr 2 1 % 16 ≠ 1 ∨ fieldAt hdr 0 2 ≠ r.dataId then some .idMismatch
  else if timeApplies (fieldAt hdr 8 8) tsuSt ∧ !timePasses r arrival (fieldAt hdr 8 8) then some .timeImplausible
  else none

/-- The payload of a frame for a pixel data type: its long packets of that type, in arrival order (R414). -/
def Camera.payload (c : Camera) (ty : Nat) : List Byte := (c.lines.filter (·.1 = ty)).flatMap (·.2)

/-- The last embedded-data line of a frame, when no pixel line of that type follows it (R414). -/
def Camera.trailer (c : Camera) (ty : Nat) : Option (List Byte) :=
  match c.lines.reverse.find? fun x => x.1 = 0x12 || x.1 = ty with
  | some x => if x.1 = 0x12 then some x.2 else none
  | none => none

namespace State

def setStream (s : State) (k : Nat) (x : Stream) : State :=
  { s with str := { s.str with streams := SMap.set {} s.str.streams k x } }

/-- The stream contexts. -/
def streamIds : List Nat := List.range 32

/-- Data reach the rings (Table 13.9). -/
def delivers (s : State) : Bool :=
  match s.ward.st with
  | .proof => true
  | .drive => true
  | .service => true
  | .settle => s.ward.phase == .waitEpoch
  | .rouse => s.ward.phase == .waitEpoch || s.ward.phase == .warmUp
  | _ => false

/-- The port register index p of a port identifier (§13 Registers). -/
def portIndex (id : Nat) : Nat :=
  if id = 0x10 then 0 else if id = 0x12 then 1 else if id < 0x28 then 2 + (id - 0x20) else if id < 0x30 then 6 + (id - 0x28)
  else 8 + (id - 0x30)

/-- A unit that the port discards (R443). -/
def portDiscard (s : State) (id : Nat) : State := s.bump (Reg.strPortCnt (portIndex id)) 15 0

/-- The stream bound to a port that a test picks out. [log 106 DEDUCED, unsafe] -/
def findStream (s : State) (id : Nat) (f : StreamRec → Bool) : Option (Nat × StreamRec) :=
  streamIds.findSome? fun k => match (s.stream k).bound with
    | some r => if r.port = id ∧ f r then some (k, r) else none
    | none => none

/-- The streams bound to a virtual channel of a camera port: one for each data type they match (R411). -/
def camStreams (s : State) (id vc : Nat) : List (Nat × StreamRec) :=
  streamIds.filterMap fun k => match (s.stream k).bound with
    | some r => if r.port = id ∧ r.kind = 1 ∧ r.sel = vc then some (k, r) else none
    | none => none

/-- A discarded datum is counted under its stream (R429, R432, R444). -/
def countDiscard (s : State) (k : Nat) (j : Judged) : State :=
  let x := s.stream k
  let acc := { x.acc with discards := SMap.modify 0 x.acc.discards j.code (· + 1) }
  let s1 := s.setStream k { x with outcome := j.code, acc := acc }
  match j with
  | .checkFail => s1.bump (Reg.strCnt k) 23 16
  | .outOfSeq => s1.bump (Reg.strCnt k) 31 24
  | _ => s1

/-- The writes of R413: payload, then the ring record, then WIDX. Answers whether they completed.
[log 100 DESIGN CHOICE, safe] -/
def ringWrite (s : State) (r : StreamRec) (x : Stream) (arrival counter lost : Nat) (j : Judged) (senderValid : Bool)
    (payload : List Byte) (ext : List ExtData) (ups : List Upset) : Bool × State :=
  let a := r.base + r.slotBytes * (x.widx % max 1 r.slots)
  let hdr := leBytes 8 arrival ++ leBytes 8 x.widx ++ leBytes 4 counter ++ leBytes 4 payload.length
    ++ leBytes 2 (min lost 0xFFFF) ++ leBytes 1 r.stream ++ leBytes 1 j.code ++ leBytes 1 s.tsu.st
    ++ leBytes 1 (b2n senderValid) ++ leBytes 2 0
  let good (st : Status) : Bool := st == .ok || st == .poisoned
  let (st, s1) := s.writeRun .strainer (a + 32) payload ext ups
  if good st then
    let (st2, s2) := s1.writeRun .strainer a hdr ext ups
    (good st2, s2)
  else (false, s1)

/-- A datum of stream `k` reaches the Strainer (R429, R430): checked, and written or discarded. `backlog` counts the data
of the port that wait for their ring writes. [log 100 DESIGN CHOICE, safe] -/
def datum (s : State) (k : Nat) (r : StreamRec) (arrival backlog : Nat) (whole codesOk : Bool) (hdr payload : List Byte)
    (ext : List ExtData) (ups : List Upset) : State :=
  if !s.delivers then (if s.ward.st = .steep then s.portDiscard r.port else s)
  else if 8 ≤ backlog then (s.bump (Reg.strPortCnt (portIndex r.port)) 31 16).countDiscard k .overrun
  else
    match earlyChecks r arrival s.tsu.st whole codesOk hdr payload with
    | some j => s.countDiscard k j
    | none =>
      let x := s.stream k
      let (j, lost, y) := continuity x r.maxGap (fieldAt hdr 4 4)
      if j.writes then
        let (ok, s1) := s.ringWrite r x arrival (fieldAt hdr 4 4) lost j (timeApplies (fieldAt hdr 8 8) s.tsu.st) payload
          ext ups
        if ok then
          let acc := { y.acc with written := y.acc.written + 1, lost := y.acc.lost + lost }
          let z := { y with widx := (x.widx + 1) % 2 ^ 64, silent := false, lastWrite := s1.upNs, outcome := j.code }
          (s1.setStream k { z with arrivals := y.arrivals ++ [arrival], acc := acc }).bumpBy (Reg.strCnt k) 15 0 lost
        else s1
      else (s.setStream k y).countDiscard k j

/-! ### Binding (R411, R412) -/

/-- A stream record (Table 13.3). -/
def readStreamRec (bs : List Byte) : StreamRec :=
  { stream := fieldAt bs 0 1, port := fieldAt bs 1 1, kind := fieldAt bs 2 1, sel := fieldAt bs 3 1, mtch := fieldAt bs 4 4,
    dataId := fieldAt bs 8 2, maxGap := fieldAt bs 10 2, periodUs := fieldAt bs 12 4, latMin := fieldAt bs 16 2,
    latMax := fieldAt bs 18 2, maxLen := fieldAt bs 20 4, base := fieldAt bs 24 8, slots := fieldAt bs 32 4,
    slotBytes := fieldAt bs 36 4 }

/-- The power of two test of SLOTS. -/
def pow2In (n lo hi : Nat) : Bool := decide (lo ≤ n ∧ n ≤ hi ∧ 2 ^ Nat.log2 n = n)

/-- The checked fields of one stream record (Table 13.3). -/
def streamOk (s : State) (bs : List Byte) : Bool :=
  let r := readStreamRec bs
  let port := match s.portOf r.port with
    | none => false
    | some p => match r.kind with
      | 1 => decide (0x20 ≤ p.id ∧ p.id ≤ 0x23)
      | 2 => p.id = 0x10 || (p.id = 0x12 && p.role = 1)
      | 3 => p.id = 0x28 || p.id = 0x29
      | 4 => (p.id = 0x30 || p.id = 0x31) && (p.role = 1 || p.role = 3)
      | _ => false
  let sel := match r.kind with
    | 1 => decide (r.sel < 16 ∧ r.mtch < 64)
    | 2 => decide (r.sel = 0 ∧ r.mtch < 0x10000)
    | 3 => decide (r.sel = 0 ∧ r.mtch < 0x10000 ∧ r.maxLen ≤ 4072)
    | 4 => decide (r.sel = 0) && (if bitOf r.mtch 31 then decide (r.mtch % 2 ^ 31 < 2 ^ 29) else decide (r.mtch < 2 ^ 11))
    | _ => false
  decide (r.stream < 32) && port && sel && decide (r.maxGap ≤ 1000) && decide (100 ≤ r.periodUs ∧ r.periodUs ≤ 1000000)
    && decide (1 ≤ r.maxLen ∧ r.maxLen ≤ 0x8000000) && pow2In r.slots 2 65536 && allZero (sliceAt bs 0x28 8)

/-- No two streams share a context, or a port with MATCH and SEL; at most 12 cameras and 6 lidar units. -/
def streamsAgree (l : List StreamRec) : Bool :=
  let keys := l.map fun (r : StreamRec) => (r.port, r.mtch, r.sel)
  decide ((l.map (·.stream)).Nodup) && decide (keys.Nodup)
    && decide ((l.filter (·.kind = 1)).length ≤ 12) && decide ((l.filter (·.kind = 2)).length ≤ 6)

/-- The descriptor of an INGEST_BIND, read and checked (R411). -/
def readBind (s : State) (y : Entry) (e : Nat) (ext : List ExtData) (ups : List Upset) : Status × List StreamRec × State :=
  let (st, h, s1) := s.readRun (s.stewardOf e) (y.arg 0 8) 16 ext ups
  if st ≠ .ok then (st, [], s1)
  else
    let n := fieldAt h 0 4
    if n < 1 ∨ 32 < n ∨ !allZero (h.drop 4) then (.badArg, [], s1)
    else
      let (st2, d, s2) := s1.readRun (s.stewardOf e) (y.arg 0 8 + 16) (48 * n) ext ups
      if st2 ≠ .ok then (st2, [], s2)
      else
        let recs := (List.range n).map fun i => sliceAt d (48 * i) 48
        let l := recs.map readStreamRec
        if recs.all s2.streamOk && streamsAgree l then (.ok, l, s2) else (.badArg, [], s2)

/-- Check 6 of INGEST_BIND: enclosure 1 only, no other binding in progress, the checked fields (R411, R412). -/
def admitIngest (s : State) (y : Entry) (e : Nat) (ext : List ExtData) (ups : List Upset) : Status × State :=
  if e ≠ 1 then (.badArg, s)
  else
    let (st, _, s1) := s.readBind y e ext ups
    if st ≠ .ok then (st, s1) else if s1.str.bind.isSome then (.busy, s1) else (.ok, s1)

/-- A binding takes effect (R412): unnamed streams are disabled; a stream with an unchanged record goes on. -/
def applyBind (s : State) : State :=
  match s.str.bind with
  | none => s
  | some (r, l) =>
    let s1 := streamIds.foldl (fun t k =>
      match l.find? (·.stream = k) with
      | none => t.setStream k {}
      | some x => if (t.stream k).bound = some x then t else t.setStream k { bound := some x, lastWrite := t.upNs }) s
    ({ s1 with str := { s1.str with bind := none } }).finish r .ok 0

/-- The summaries of an epoch are closed (R432). -/
def closeSummaries (s : State) : State :=
  streamIds.foldl (fun t k =>
    let x := t.stream k
    if x.bound.isSome then t.setStream k { x with closed := { x.acc with silent := x.silent }, acc := {}, arrivals := [] }
    else t) s

/-- Delivery resumes at ROUSE step 8 (R436): every stream INITIAL, its ring at the kept WIDX. -/
def resumeStreams (s : State) : State :=
  streamIds.foldl (fun t k =>
    let x := t.stream k
    if x.bound.isSome then t.setStream k { x with initial := true, resync := 0 } else t) s

/-! ### The outbound header (R433, R434) -/

/-- The 24-byte header of an outbound frame (Table 13.8a), with the counter of its DATA_ID advanced. -/
def outbound (s : State) (dataId : Nat) (payload : List Byte) : List Byte × State :=
  let c := SMap.get 0 s.str.outbound dataId
  let h := leBytes 2 dataId ++ leBytes 1 (1 + 16 * s.tsu.st) ++ leBytes 1 0 ++ leBytes 4 c ++ leBytes 8 s.tsu.time
    ++ leBytes 4 payload.length
  (h ++ leBytes 4 (crc32c (h ++ payload)),
   { s with str := { s.str with outbound := SMap.set 0 s.str.outbound dataId ((c + 1) % 2 ^ 32) } })

/-- The transmit checker's comparison failed (R433): the frame is held back, counted and reported as E2E_TX. -/
def holdBack (s : State) : State :=
  (s.bump Reg.strTxStat 15 0).post { fault := .e2eTx, attr := .block 102, gsk := 102 }

/-! ### Ethernet frames (R415) -/

/-- An Ethernet II frame without FCS: its EtherType, whether it carries a tag, and where its payload begins. -/
def etherType (f : List Byte) : Nat × Bool × Nat :=
  let t := beNat (sliceAt f 12 2)
  if t = 0x8100 then (beNat (sliceAt f 16 2), true, 18) else (t, false, 14)

/-- What a frame is to R410 and R415. -/
inductive Framed where
  | unsupported
  | ptp (body : List Byte)
  | udp (port : Nat) (payload : List Byte)
  | other
  deriving DecidableEq, Repr

/-- IPv6 next-header values that begin an extension header. -/
def ipv6Ext : List Nat := [0, 43, 44, 50, 51, 60, 135, 139, 140]

/-- A frame classified (Table 13.2): anything but Ethernet II, more than one tag, IP fragments, IPv4 with options and IPv6 with
extension headers are unsupported; UDP is looked into. [log 106 DEDUCED, unsafe] -/
def classifyFrame (f : List Byte) : Framed :=
  let (ty, _, o) := etherType f
  let udpAt (i : Nat) : Framed := .udp (beNat (sliceAt f (i + 2) 2)) (sliceAt f (i + 8) (beNat (sliceAt f (i + 4) 2) - 8))
  if ty < 0x600 ∨ ty = 0x8100 ∨ ty = 0x88A8 then .unsupported
  else if ty = 0x88F7 then .ptp (f.drop o)
  else if ty = 0x0800 then
    if bitsOf (beNat (sliceAt f (o + 6) 2)) 13 0 ≠ 0 ∨ fieldAt f o 1 ≠ 0x45 then .unsupported
    else if fieldAt f (o + 9) 1 = 17 then udpAt (o + 20) else .other
  else if ty = 0x86DD then
    if ipv6Ext.contains (fieldAt f (o + 6) 1) then .unsupported
    else if fieldAt f (o + 6) 1 = 17 then udpAt (o + 40) else .other
  else .other

/-- A frame no stream matches: the owner's ring, or discarded and counted. [log 106 DEDUCED, unsafe] -/
def ownerFrame (s : State) (m id : Nat) (f : List Byte) (arr : Nat) (vlan : Bool) (ext : List ExtData) (ups : List Upset) :
    State :=
  match s.macOwner m with
  | some e => if s.netOn e m then s.netRx m f arr vlan ext ups else s.portDiscard id
  | none => s.portDiscard id

/-- A frame received on a sensor MAC (port identifier `id`, MAC m). -/
def sensorFrame (s : State) (m id : Nat) (p : Port) (f : List Byte) (fcsOk : Bool) (backlog : Nat) (ext : List ExtData)
    (ups : List Upset) : State :=
  let lim := if bitOf p.options 1 then 9018 else 1518
  let arr := s.rxStamp (if m = 0 then 0 else 1)
  let (_, vlan, _) := etherType f
  if lim < f.length + 4 then s.portDiscard id
  else match classifyFrame f with
    | .unsupported => s.portDiscard id
    | .ptp body =>
      if !fcsOk then s.portDiscard id
      else if bitOf p.options 0 then s.gptpRx (if m = 0 then 0 else 1) body
      else s.portDiscard id
    | .udp port payload =>
      match s.findStream id (fun r => r.kind = 2 && r.mtch = port) with
      | some (k, r) => s.datum k r arr backlog true fcsOk (payload.take 24) (payload.drop 24) ext ups
      | none => if fcsOk then s.ownerFrame m id f arr vlan ext ups else s.portDiscard id
    | .other => if fcsOk then s.ownerFrame m id f arr vlan ext ups else s.portDiscard id

end State

open State

/-- INGEST_BIND (R411, R412): the records are read and checked; the binding waits for the next epoch boundary. -/
def execIngestBind (r : EntryRef) (ext : List ExtData) (upsets : List Upset) (s : State) : Out :=
  match s.running r 1 0x50 with
  | none => .next s
  | some y =>
    if s.str.bind.isSome then .next (s.finish r .busy 0)
    else
      let (st, l, s1) := s.readBind y r.encl ext upsets
      if st = .ok then .next { s1 with str := { s1.str with bind := some (r, l) } } else .next (s1.finish r st 0)

/-- CSI2_FRAME_START (R414): FS on a virtual channel, `dt` ns after the command before. A frame still open there is
discarded with outcome FORMAT. -/
def execCsi2FrameStart (port vc dt backlog : Nat) (s : State) : Out :=
  let s1 := s.elapse dt
  let key := 16 * (port % 4) + vc % 16
  let id := 0x20 + port % 4
  if (s1.portOf id).isNone then .next s1
  else
    let old := SMap.get {} s1.str.cameras key
    let s2 := if old.opened then
        (s1.camStreams id (vc % 16)).foldl (fun t x => t.datum x.1 x.2 old.arrival 0 false true [] [] [] []) s1
      else s1
    let c : Camera := { arrival := s1.tsu.time, opened := true, overrun := decide (8 ≤ backlog) }
    .next { s2 with str := { s2.str with cameras := SMap.set {} s2.str.cameras key c } }

/-- CSI2_LONG_PACKET (R414): a long packet's data type and payload, whether its header's ECC and its CRC-16 held. Lines
outside the options of Table 13.2 are discarded and counted. -/
def execCsi2LongPacket (port vc dataType : Nat) (data : List Byte) (headerOk crcOk : Bool) (s : State) : Out :=
  let key := 16 * (port % 4) + vc % 16
  let id := 0x20 + port % 4
  let c := SMap.get {} s.str.cameras key
  let put (x : Camera) : Out := .next { s with str := { s.str with cameras := SMap.set {} s.str.cameras key x } }
  let known := [0x12, 0x1E, 0x2A, 0x2B, 0x2C, 0x2E].contains dataType
  if (s.portOf id).isNone then .next s
  else if !known ∨ 16384 < data.length then .next (s.portDiscard id)
  else if !c.opened ∨ (s.camStreams id (vc % 16)).isEmpty then .next (s.portDiscard id)
  else if dataType ≠ 0x12 ∧ 8192 ≤ (c.lines.filter (·.1 ≠ 0x12)).length then .next (s.portDiscard id)
  else put { c with bad := c.bad || !headerOk || !crcOk, lines := c.lines ++ [(dataType, data)] }

/-- CSI2_FRAME_END (R414): FE closes the frame, whose header is the first 24 bytes of its last embedded-data line. -/
def execCsi2FrameEnd (port vc : Nat) (ext : List ExtData) (upsets : List Upset) (s : State) : Out :=
  let key := 16 * (port % 4) + vc % 16
  let id := 0x20 + port % 4
  let c := SMap.get {} s.str.cameras key
  let s1 := { s with str := { s.str with cameras := SMap.set {} s.str.cameras key {} } }
  if !c.opened then .next s
  else match s1.camStreams id (vc % 16) with
    | [] => .next (s1.portDiscard id)
    | l => .next (l.foldl (fun t x =>
        let tr := c.trailer (x.2.mtch % 64)
        t.datum x.1 x.2 c.arrival (if c.overrun then 8 else 0) tr.isSome (!c.bad) ((tr.getD []).take 24)
          (c.payload (x.2.mtch % 64)) ext upsets) s1)

/-- ETHERNET_FRAME_RX (R415, R681): a frame (without FCS) received by MAC m, `dt` ns after the command before. -/
def execEthernetFrameRx (m : Nat) (frame : List Byte) (fcsOk : Bool) (dt backlog : Nat) (ext : List ExtData)
    (upsets : List Upset) (s : State) : Out :=
  let s1 := s.elapse dt
  let mac := m % 3
  match s1.portOf (macPort mac) with
  | none => .next s1
  | some p =>
    if p.id ≠ 0x11 ∧ p.role = 1 then .next (s1.sensorFrame mac p.id p frame fcsOk backlog ext upsets)
    else if fcsOk then .next (s1.netRx mac frame s1.tsu.time (etherType frame).2.1 ext upsets)
    else .next s1

/-- IMU_DRDY (R416): the edge is stamped and starts a transfer; an edge during the transfer is counted and ignored. -/
def execImuDrdy (n dt : Nat) (s : State) : Out :=
  let s1 := s.elapse dt
  let id := 0x28 + n % 2
  if (s1.portOf id).isNone then .next s1
  else if SMap.get 0 s1.str.imu (n % 2) ≠ 0 then .next (s1.portDiscard id)
  else match s1.findStream id (fun _ => true) with
    | none => .next s1
    | some _ => .next { s1 with str := { s1.str with imu := SMap.set 0 s1.str.imu (n % 2) (s1.tsu.time + 1) } }

/-- IMU_TRANSFER_DONE (R416): the bytes read in the transfer, header first. -/
def execImuTransferDone (n : Nat) (data : List Byte) (backlog : Nat) (ext : List ExtData) (upsets : List Upset)
    (s : State) : Out :=
  let id := 0x28 + n % 2
  let at' := SMap.get 0 s.str.imu (n % 2)
  let s1 := { s with str := { s.str with imu := SMap.set 0 s.str.imu (n % 2) 0 } }
  if at' = 0 then .next s
  else match s1.findStream id (fun _ => true) with
    | none => .next s1
    | some (k, r) =>
      .next (s1.datum k r (at' - 1) backlog (decide (data.length = 24 + r.maxLen)) true (data.take 24) (data.drop 24) ext
        upsets)

/-- CAN_FRAME_RX (R417): a frame received on a controller: identifier (bit 31 set for 29 bits), whether it is a CAN FD
frame, whether its CRC held, whether it is the controller's own transmission, and its data. -/
def execCanFrameRx (n ident : Nat) (fd crcOk own : Bool) (data : List Byte) (dt backlog : Nat) (ext : List ExtData)
    (upsets : List Upset) (s : State) : Out :=
  let s1 := s.elapse dt
  let id := 0x30 + n % 2
  if (s1.portOf id).isNone ∨ own then .next s1
  else match s1.findStream id (fun r => r.mtch = ident) with
    | none => .next (if fd then s1 else s1.portDiscard id)
    | some (k, r) =>
      .next (s1.datum k r s1.tsu.time backlog (fd && decide (32 ≤ data.length)) crcOk (data.take 24) (data.drop 24)
        ext upsets)

/-- STREAM_SILENT (R431): three periods without a written datum. -/
def execStreamSilent (k : Nat) (s : State) : Out :=
  let x := s.stream (k % 32)
  match x.bound with
  | none => .next s
  | some r =>
    let s1 := s.elapseTo (x.lastWrite + 3000 * r.periodUs)
    .next (s1.setStream (k % 32) { x with silent := true })

/-- STR_CNT_CLR.PORTS (R445). -/
def execStrCntClrPorts (who : Requester) (s : State) : Out :=
  .next (s.regCmd who .write Reg.strCntClr fun t => t.inStates who Reg.strCntClr .dss true fun u =>
    (.ok, 0, (List.range 10).foldl (fun v p => v.setReg (Reg.strPortCnt p) 0) u))

/-- STR_CNT_CLR.STREAMS (R445). -/
def execStrCntClrStreams (who : Requester) (s : State) : Out :=
  .next (s.regCmd who .write Reg.strCntClr fun t => t.inStates who Reg.strCntClr .dss true fun u =>
    (.ok, 0, streamIds.foldl (fun v k => v.setReg (Reg.strCnt k) 0) u))

end Sys2Proof.Machine
end

