-- ==== Sys2Proof/Machine/Solver.lean ====
section
/-! DEFINITION. The arithmetic of the least-squares engine (§15.3, §15.4, §15.6): factors, normal equations, checked
factorizations and triangular solves, dense problems by Cholesky and QR, elimination of points, conjugate gradients, and
the damped iterations of R493. -/

namespace Sys2Proof.Machine

/-! ### FP64 arithmetic of a job: every operation adds its flags (R280) -/

/-- A job's arithmetic: the flag byte gathered so far. -/
abbrev LseM := StateM Nat

/-- A matrix by rows. -/
abbrev Mat := List (List Nat)

namespace Mat
def row (m : Mat) (i : Nat) : List Nat := m.getD i []
def at' (m : Mat) (i j : Nat) : Nat := (m.row i).getD j 0
def col (m : Mat) (j : Nat) : List Nat := m.map fun r => r.getD j 0
def put (m : Mat) (i j x : Nat) : Mat := m.set i ((m.row i).set j x)
def zero (r c : Nat) : Mat := List.replicate r (List.replicate c 0)
/-- Rows and columns `o` to `o + k - 1`. -/
def block (m : Mat) (o k : Nat) : Mat := ((m.drop o).take k).map fun r => (r.drop o).take k
/-- A matrix of `r` rows and `c` columns from a list, row by row. -/
def ofList (r c : Nat) (l : List Nat) : Mat := (List.range r).map fun i => (List.range c).map fun j => l.getD (i * c + j) 0
end Mat

/-- FP64 patterns of small integers and powers of two. -/
def f64Int (n : Nat) : Nat := (lseFromInt 64 n).pat
def f64Pow2 (k : Int) : Nat := (fp64.round .rne false 1 k).pat
/-- A magnitude. -/
def f64Abs (x : Nat) : Nat := x % 2 ^ 63
/-- The value of the other sign. -/
def f64Neg (x : Nat) : Nat := x ^^^ 2 ^ 63
/-- A value that is neither NaN nor infinite. -/
def f64Finite (x : Nat) : Bool := !(fp64.read x).isSpecial
/-- x > y, false where either is a NaN. -/
def f64Gt (x y : Nat) : Bool := (Fp.lt? (fp64.read y) (fp64.read x)).getD false
/-- x ≤ y, false where either is a NaN. -/
def f64Le (x y : Nat) : Bool := ((Fp.lt? (fp64.read y) (fp64.read x)).map (!·)).getD false

namespace LseM

/-- An operation's value, its flags gathered. -/
def op (r : LseRes) : LseM Nat := do
  modify (· ||| r.flags)
  pure r.pat

/-- An ordered comparison, invalid with a NaN (Table 8.4). -/
def cmp (f : Nat → Nat → Bool) (x y : Nat) : LseM Bool := do
  modify (· ||| if (fp64.read x).isNan || (fp64.read y).isNan then flNV else 0)
  pure (f x y)

/-- Σ x_i y_i from a start value, by fused multiply-adds in ascending order. -/
def dot (md : Rnd) (z : Nat) : List Nat → List Nat → LseM Nat
  | x :: xs, y :: ys => do dot md (← op (lseFma md x y z)) xs ys
  | _, _ => pure z

/-- z − Σ x_i y_i. -/
def dotSub (md : Rnd) (z : Nat) (xs ys : List Nat) : LseM Nat := dot md z (xs.map f64Neg) ys

/-- The sum of two vectors. -/
def addVec (md : Rnd) (a b : List Nat) : LseM (List Nat) := (a.zip b).mapM fun (p : Nat × Nat) => op (lseAdd md p.1 p.2)

/-- y + k x. -/
def axpy (md : Rnd) (k : Nat) (x y : List Nat) : LseM (List Nat) :=
  (x.zip y).mapM fun (p : Nat × Nat) => op (lseFma md k p.1 p.2)

/-- W v for a matrix. -/
def mulVec (md : Rnd) (m : Mat) (v : List Nat) : LseM (List Nat) := m.mapM fun r => dot md 0 r v

/-- The largest magnitude of a vector. -/
def norm (l : List Nat) : LseM Nat :=
  l.foldlM (fun (b : Nat) x => do pure (if ← cmp f64Gt (f64Abs x) b then f64Abs x else b)) 0

/-- The values of a geometric model. [log 162 DESIGN CHOICE, safe] -/
def geo (md : Rnd) (g : Config.Geometry) (args : List Nat) : LseM (List Nat) := do
  let r := Config.lseModel g md.code args
  modify (· ||| r.2 % 32)
  pure (r.1.map (· % 2 ^ 64))

end LseM

/-- A computation in RNE that sets no job flag (R495). -/
def apart {α : Type} (m : LseM α) : α := (m.run 0).1

/-! ### Factors (R489 to R491) -/

/-- A whitened factor: its type, residual, the column of the Jacobian for each unknown it has, the point it sees with that
point's three columns, its information, and ROBUST. -/
structure Factor where
  type : Nat := 0
  r : List Nat := []
  cols : List (Nat × List Nat) := []
  pt : Option (Nat × List (List Nat)) := none
  w : Mat := []
  robust : Bool := false
  deriving DecidableEq, Repr

/-- The factor records of a measurement block's body: `k` records, each on an 8-byte boundary (R489). -/
def factorRecs : Nat → List Byte → List FactorRec
  | 0, _ => []
  | k + 1, bs =>
    let len := fieldAt bs 6 2
    { type := fieldAt bs 0 1, flags := fieldAt bs 1 1, rdim := fieldAt bs 2 1, wshift := toSigned 8 (fieldAt bs 4 1),
      vars := (List.range 4).map (fun i => fieldAt bs (8 + 2 * i) 2), payload := sliceAt bs 16 len }
      :: factorRecs k (bs.drop (roundUp (16 + len) 8))

/-- FP64 value `i` of a payload, and `n` values from value `i`. -/
def f64At (bs : List Byte) (i : Nat) : Nat := fieldAt bs (8 * i) 8
def f64List (bs : List Byte) (i n : Nat) : List Nat := (List.range n).map fun k => f64At bs (i + k)

/-- The place of (a, b), a ≤ b, in an upper triangle stored row by row. -/
def triIndex (n a b : Nat) : Nat := a * n - a * (a - 1) / 2 + (b - a)

/-- The information of a record: its upper triangle from value `o`, times 2^WSHIFT (Table 15.4). -/
def recInfo (md : Rnd) (d o : Nat) (x : FactorRec) : LseM Mat :=
  (List.range d).mapM fun a => (List.range d).mapM fun b =>
    LseM.op (lseMul md (f64At x.payload (o + triIndex d (min a b) (max a b))) (f64Pow2 x.wshift))

/-- A GENERIC record as a factor over `n` unknowns; none when it names a block outside the range (Table 15.5). -/
def genericFactor (md : Rnd) (n : Nat) (x : FactorRec) : LseM (Option Factor) := do
  let used := x.vars.filter (· ≠ 0xFFFF)
  if used.any (fun k => decide (n ≤ 16 * k)) then pure none
  else
    let d := x.rdim
    let cols := used.zipIdx.flatMap fun (kb : Nat × Nat) => (List.range 16).map fun c =>
      (16 * kb.1 + c, (List.range d).map fun i => f64At x.payload (d + kb.2 * d * 16 + i * 16 + c))
    let w ← recInfo md d (d + used.length * d * 16) x
    pure (some { r := f64List x.payload 0 d, cols := cols.filter (fun c => decide (c.1 < n)), w := w })

/-- The records of a DENSE job that enter, and the number skipped. -/
def denseFactors (md : Rnd) (n : Nat) (l : List FactorRec) : LseM (List Factor × Nat) :=
  l.foldlM (fun (acc : List Factor × Nat) x => do
    if bitOf x.flags 1 then pure acc
    else if x.type ≠ 0 then pure (acc.1, acc.2 + 1)
    else match ← genericFactor md n x with
      | some f => pure (acc.1 ++ [f], acc.2)
      | none => pure (acc.1, acc.2 + 1)) ([], 0)

/-- rᵀ W r of a factor, twice its share of F. -/
def Factor.square (md : Rnd) (f : Factor) (z : Nat) : LseM Nat := do
  LseM.dot md z f.r (← LseM.mulVec md f.w f.r)

/-- The information with the weight min(1, 2 / ‖r_w‖) of R491. -/
def Factor.weighted (md : Rnd) (robust : Bool) (f : Factor) : LseM Mat := do
  if !(robust && f.robust) then pure f.w
  else
    let nrm ← LseM.op (lseSqrt md (← f.square md 0))
    let k ← LseM.op (lseDiv md (f64Int 2) nrm)
    if ← LseM.cmp f64Gt (f64Int 1) k then f.w.mapM fun r => r.mapM fun x => LseM.op (lseMul md x k) else pure f.w

/-- F = ½ Σ r_wᵀ r_w (R493). [log 163 DESIGN CHOICE, unsafe] -/
def costOf (md : Rnd) (fs : List Factor) : LseM Nat := do
  let s ← fs.foldlM (fun (z : Nat) f => f.square md z) 0
  LseM.op (lseMul md s (f64Pow2 (-1)))

/-- A point's own 3 × 3 block and right side, and its coupling to each unknown. -/
structure PtSys where
  h : Mat := Mat.zero 3 3
  g : List Nat := List.replicate 3 0
  cross : List (Nat × List Nat) := []
  deriving DecidableEq, Repr

/-- The normal equations A δ = g with the points still in them (§15.3). -/
structure Sys where
  a : Mat := []
  g : List Nat := []
  pts : List PtSys := []
  deriving DecidableEq, Repr

namespace Sys

/-- Σ over a factor's columns, added to A and g. -/
def addFactor (md : Rnd) (robust : Bool) (y : Sys) (f : Factor) : LseM Sys := do
  let w ← f.weighted md robust
  let wr ← LseM.mulVec md w f.r
  let y1 ← f.cols.foldlM (fun (t : Sys) (c : Nat × List Nat) => do
    let wc ← LseM.mulVec md w c.2
    let g ← LseM.dotSub md (t.g.getD c.1 0) c.2 wr
    let a ← f.cols.foldlM (fun (m : Mat) (b : Nat × List Nat) => do
      pure (m.put b.1 c.1 (← LseM.dot md (m.at' b.1 c.1) b.2 wc))) t.a
    pure { t with a := a, g := t.g.set c.1 g }) y
  match f.pt with
  | none => pure y1
  | some (i, pc) =>
    let p := y1.pts.getD i {}
    let wp ← pc.mapM fun c => LseM.mulVec md w c
    let g ← (List.range 3).mapM fun k => LseM.dotSub md (p.g.getD k 0) (pc.getD k []) wr
    let h ← (List.range 3).mapM fun k => (List.range 3).mapM fun l =>
      LseM.dot md (p.h.at' k l) (pc.getD k []) (wp.getD l [])
    let cross ← f.cols.foldlM (fun (x : List (Nat × List Nat)) (c : Nat × List Nat) => do
      let old := ((x.find? (·.1 = c.1)).map (·.2)).getD (List.replicate 3 0)
      let new ← (List.range 3).mapM fun k => LseM.dot md (old.getD k 0) c.2 (wp.getD k [])
      pure (x.filter (·.1 ≠ c.1) ++ [(c.1, new)])) p.cross
    pure { y1 with pts := y1.pts.set i { h := h, g := g, cross := cross } }

/-- Assembly over `n` unknowns and `q` points. -/
def assemble (md : Rnd) (robust : Bool) (n q : Nat) (fs : List Factor) : LseM Sys :=
  fs.foldlM (addFactor md robust) { a := Mat.zero n n, g := List.replicate n 0, pts := List.replicate q {} }

/-- A + λ diag(A), the points' blocks too (R493, step 2). -/
def damp (md : Rnd) (lam : Nat) (y : Sys) : LseM Sys := do
  let dm (m : Mat) : LseM Mat := (List.range m.length).foldlM (fun (t : Mat) i => do
    pure (t.put i i (← LseM.op (lseFma md lam (t.at' i i) (t.at' i i))))) m
  let a ← dm y.a
  let pts ← y.pts.mapM fun p => do pure { p with h := ← dm p.h }
  pure { y with a := a, pts := pts }

end Sys

/-! ### Factorizations and triangular solves -/

namespace LseM

/-- One row of L from the rows before it; none at a pivot that is not positive (R494). -/
def cholRow (md : Rnd) (l : Mat) (a : List Nat) (i : Nat) : LseM (Option (List Nat)) := do
  let r ← (List.range i).foldlM (fun (acc : List Nat) j => do
    let s ← dotSub md (a.getD j 0) acc (l.row j)
    pure (acc ++ [← op (lseDiv md s (Mat.at' l j j))])) []
  let p ← dotSub md (a.getD i 0) r r
  if ← cmp f64Gt p 0 then pure (some (r ++ [← op (lseSqrt md p)])) else pure none

/-- A = L Lᵀ. -/
def cholesky (md : Rnd) (n : Nat) (a : Mat) : LseM (Option Mat) :=
  (List.range n).foldlM (fun (acc : Option Mat) i => do
    match acc with
    | none => pure none
    | some l => match ← cholRow md l (a.row i) i with
      | none => pure none
      | some r => pure (some (l ++ [r]))) (some [])

/-- L y = g. -/
def forward (md : Rnd) (l : Mat) (g : List Nat) : LseM (List Nat) :=
  (List.range l.length).foldlM (fun (y : List Nat) i => do
    let s ← dotSub md (g.getD i 0) (l.row i) y
    pure (y ++ [← op (lseDiv md s (Mat.at' l i i))])) []

/-- Lᵀ x = y, from the last unknown back. -/
def backward (md : Rnd) (l : Mat) (y : List Nat) : LseM (List Nat) :=
  (List.range l.length).foldlM (fun (x : List Nat) k => do
    let i := l.length - 1 - k
    let s ← dotSub md (y.getD i 0) ((Mat.col l i).drop (i + 1)) x
    pure ((← op (lseDiv md s (Mat.at' l i i))) :: x)) []

/-- One Householder step on column `k` of the rows (residual in column n): R's row and the rows that remain. -/
def houseStep (md : Rnd) (n : Nat) (rows : Mat) (k : Nat) : LseM (List Nat × Mat) := do
  let x := rows.map fun r => r.getD k 0
  let nrm ← op (lseSqrt md (← dot md 0 x x))
  let x0 := x.getD 0 0
  let alpha := if bitOf x0 63 then nrm else f64Neg nrm
  let v := (← op (lseSub md x0 alpha)) :: x.drop 1
  let vv ← dot md 0 v v
  let cols ← (List.range (n + 1)).mapM fun c => do
    let y := rows.map fun r => r.getD c 0
    if vv = 0 then pure y
    else
      let t ← op (lseDiv md (← dot md 0 v y) vv)
      let t2 ← op (lseAdd md t t)
      axpy md (f64Neg t2) v y
  let m : Mat := (List.range rows.length).map fun i => cols.map fun c => c.getD i 0
  pure (m.row 0, m.drop 1)

/-- The whitened rows of a factor: U J and U r in column n, with W = Uᵀ U by Cholesky. [log 116 DESIGN CHOICE, unsafe] -/
def whiten (md : Rnd) (n : Nat) (f : Factor) : LseM Mat := do
  match ← cholesky md f.r.length f.w with
  | none => pure []
  | some l =>
    (List.range f.r.length).mapM fun i => do
      let u := (Mat.col l i).drop i
      let cs ← (List.range n).mapM fun c => match f.cols.find? (·.1 = c) with
        | some x => dot md 0 u (x.2.drop i)
        | none => pure 0
      pure (cs ++ [← dot md 0 u (f.r.drop i)])

end LseM

/-! ### A job's run: flags, factorizations, checks (R495) -/

/-- Why a job's arithmetic stops: a factorization that failed, no room, or a checksum mismatch with its row and WHERE of
Table 15.13. -/
inductive Stop where
  | singular
  | noSpace
  | mismatch (row wher : Nat)
  deriving DecidableEq, Repr

/-- What a job has gathered: flags, factorizations done, comparisons skipped, records and point blocks skipped. -/
structure Tally where
  flags : Nat := 0
  facs : Nat := 0
  skip : Nat := 0
  dropped : Nat := 0
  deriving DecidableEq, Repr

/-- What holds for a whole job: its mode, CHK_MARGIN, LM damping, ROBUST, TOL, and upsets of stored factors as
(factorization, row, column, bit). -/
structure JobEnv where
  md : Rnd := .rne
  margin : Nat := 3
  lm : Bool := false
  robust : Bool := false
  tol : Nat := 0
  flips : List (Nat × Nat × Nat × Nat) := []
  deriving DecidableEq, Repr

/-- A job's run. -/
abbrev SolveM := ExceptT Stop (StateM Tally)

namespace SolveM

/-- Plain arithmetic within a run. -/
def lift {α : Type} (m : LseM α) : SolveM α := fun (t : Tally) =>
  let (a, fl) := m.run t.flags
  (.ok a, { t with flags := fl })

/-- A run whose failed factorization is answered as none. -/
def attempt {α : Type} (m : SolveM α) : SolveM (Option α) := fun (t : Tally) =>
  match m t with
  | (.ok a, u) => (.ok (some a), u)
  | (.error .singular, u) => (.ok none, u)
  | (.error e, u) => (.error e, u)

/-- A checked comparison (R495): a mismatch when |a − b| exceeds the tolerance; skipped and counted with a NaN or an
infinity. -/
def compare (a b tol : Nat) (st : Stop) : SolveM Unit := do
  if !f64Finite a || !f64Finite b then modify fun t => { t with skip := t.skip + 1 }
  else if f64Gt (f64Abs (lseSub .rne a b).pat) tol then throw st

/-- Steps 1 to 3 of R495 for a matrix with this diagonal: c = A e, z = L (Lᵀ e). -/
def checkRows (v : JobEnv) (n : Nat) (diag c z : List Nat) (wher : Nat) : SolveM Unit := do
  let roots := diag.map fun a => (lseSqrt .rne a).pat
  let unit := (lseMul .rne (f64Int (4 * n + 8)) (f64Pow2 ((v.margin : Int) - 53))).pat
  let sum := apart (LseM.dot .rne 0 roots (List.replicate n (f64Int 1)))
  for i in List.range n do
    let tau := (lseMul .rne (lseMul .rne unit (roots.getD i 0)).pat sum).pat
    compare (z.getD i 0) (c.getD i 0) tau (.mismatch i wher)

/-- Step 4 of R495: eᵀ(Aδ) against eᵀg. -/
def checkSolve (v : JobEnv) (n : Nat) (diag ad g delta : List Nat) : SolveM Unit := do
  let ones := List.replicate n (f64Int 1)
  let roots := diag.map fun a => (lseSqrt .rne a).pat
  let unit := (lseMul .rne (f64Int (4 * n + 8)) (f64Pow2 ((v.margin : Int) - 53))).pat
  let sum := apart (LseM.dot .rne 0 roots ones)
  let wd := apart (LseM.dot .rne 0 roots (delta.map f64Abs))
  let tol := (lseMul .rne (lseMul .rne unit sum).pat wd).pat
  compare (apart (LseM.dot .rne 0 ad ones)) (apart (LseM.dot .rne 0 g ones)) tol (.mismatch 0 1)

/-- The stored factor of the next factorization with the upsets it suffers. -/
def stored (v : JobEnv) (m : Mat) : SolveM Mat := do
  let k := (← get).facs
  modify fun t => { t with facs := t.facs + 1 }
  pure (v.flips.foldl (fun (l : Mat) (x : Nat × Nat × Nat × Nat) =>
    if x.1 = k ∧ x.2.1 < l.length ∧ x.2.2.1 < (l.row x.2.1).length then
      l.put x.2.1 x.2.2.1 (l.at' x.2.1 x.2.2.1 ^^^ 2 ^ (x.2.2.2 % 64)) else l) m)

/-- The diagonal of a matrix. -/
def diagOf (n : Nat) (a : Mat) : List Nat := (List.range n).map fun i => a.at' i i

/-- A checked Cholesky factorization (R494, R495). -/
def factor (v : JobEnv) (n : Nat) (a : Mat) (wher : Nat) : SolveM Mat := do
  match ← lift (LseM.cholesky v.md n a) with
  | none =>
    modify fun t => { t with facs := t.facs + 1 }
    throw .singular
  | some l0 =>
    let l ← stored v l0
    let ones := List.replicate n (f64Int 1)
    let lt := apart ((List.range n).mapM fun i => LseM.dot .rne 0 (Mat.col l i) ones)
    checkRows v n (diagOf n a) (apart (LseM.mulVec .rne a ones)) (apart (LseM.mulVec .rne l lt)) wher
    pure l

/-- A checked triangular solve A δ = g with A = L Lᵀ (R495, step 4). -/
def solve (v : JobEnv) (n : Nat) (a l : Mat) (g : List Nat) : SolveM (List Nat) := do
  let d ← lift (do LseM.backward v.md l (← LseM.forward v.md l g))
  checkSolve v n (diagOf n a) (apart (LseM.mulVec .rne a d)) g d
  pure d

end SolveM

/-! ### Dense problems (R492) -/

/-- r + J δ of a factor. -/
def Factor.moved (md : Rnd) (f : Factor) (delta : List Nat) : LseM Factor := do
  let r ← f.cols.foldlM (fun (r : List Nat) (c : Nat × List Nat) => LseM.axpy md (delta.getD c.1 0) c.2 r) f.r
  pure { f with r := r }

/-- The cost of a linear problem at δ. -/
def denseCost (md : Rnd) (fs : List Factor) (delta : List Nat) : LseM Nat := do
  costOf md (← fs.mapM fun f => f.moved md delta)

/-- A dense pass by Cholesky: δ and F. -/
def denseChol (v : JobEnv) (n : Nat) (fs : List Factor) : SolveM (List Nat × Nat) := do
  let y ← SolveM.lift (Sys.assemble v.md false n 0 fs)
  let l ← SolveM.factor v n y.a 0
  let d ← SolveM.solve v n y.a l y.g
  pure (d, ← SolveM.lift (denseCost v.md fs d))

/-- A dense pass by Householder QR over at most `m` rows: δ and F. -/
def denseQr (v : JobEnv) (n m : Nat) (fs : List Factor) : SolveM (List Nat × Nat) := do
  let rows ← SolveM.lift (fs.foldlM (fun (acc : Mat) f => do pure (acc ++ (← LseM.whiten v.md n f))) [])
  if m < rows.length then throw .noSpace
  let (r0, _) ← SolveM.lift ((List.range n).foldlM (fun (acc : Mat × Mat) k => do
    let (a, b) ← LseM.houseStep v.md n acc.2 k
    pure (acc.1 ++ [a], b)) ([], rows))
  let r ← SolveM.stored v r0
  if (List.range n).any (fun i => f64Abs (r.at' i i) = 0 || (fp64.read (r.at' i i)).isNan) then throw .singular
  let ones := List.replicate n (f64Int 1)
  let jac := rows.map (·.take n)
  let act (x : List Nat) : List Nat :=
    let je := apart (LseM.mulVec .rne jac x)
    apart ((List.range n).mapM fun i => LseM.dot .rne 0 (Mat.col jac i) je)
  let re := apart (LseM.mulVec .rne (r.map (·.take n)) ones)
  let z := apart ((List.range n).mapM fun i => LseM.dot .rne 0 (Mat.col r i) re)
  let diag := apart ((List.range n).mapM fun i => LseM.dot .rne 0 (Mat.col jac i) (Mat.col jac i))
  SolveM.checkRows v n diag (act ones) z 0
  let delta ← SolveM.lift ((List.range n).foldlM (fun (x : List Nat) k => do
    let i := n - 1 - k
    let s ← LseM.dotSub v.md (f64Neg (r.at' i n)) (((r.row i).take n).drop (i + 1)) x
    pure ((← LseM.op (lseDiv v.md s (r.at' i i))) :: x)) [])
  let g := apart ((List.range n).mapM fun i => LseM.dotSub .rne 0 (Mat.col jac i) (Mat.col rows n))
  SolveM.checkSolve v n diag (act delta) g delta
  pure (delta, ← SolveM.lift (denseCost v.md fs delta))

/-! ### Elimination of points (R490, R506) -/

/-- A point taken out: its factor, none where it is held, and the reduced A and g. -/
def eliminate (v : JobEnv) (holds : Bool) (y : Mat × List Nat) (p : PtSys) : SolveM (Option Mat × Mat × List Nat) := do
  let f ← if holds then SolveM.attempt (SolveM.factor v 3 p.h 2) else some <$> SolveM.factor v 3 p.h 2
  match f with
  | none =>
    modify fun t => { t with dropped := t.dropped + 1 }
    pure (none, y)
  | some l =>
    let hg ← SolveM.solve v 3 p.h l p.g
    let sol ← p.cross.mapM fun (c : Nat × List Nat) => do pure (c.1, ← SolveM.solve v 3 p.h l c.2)
    let a ← p.cross.foldlM (fun (m : Mat) (c : Nat × List Nat) => sol.foldlM (fun (m : Mat) (d : Nat × List Nat) => do
      pure (m.put c.1 d.1 (← SolveM.lift (LseM.dotSub v.md (m.at' c.1 d.1) c.2 d.2)))) m) y.1
    let g ← p.cross.foldlM (fun (g : List Nat) (c : Nat × List Nat) => do
      pure (g.set c.1 (← SolveM.lift (LseM.dotSub v.md (g.getD c.1 0) c.2 hg)))) y.2
    pure (some l, a, g)

/-- Every point taken out in turn. -/
def eliminateAll (v : JobEnv) (holds : Bool) (y : Sys) : SolveM (List (Option Mat) × Mat × List Nat) :=
  y.pts.foldlM (fun (acc : List (Option Mat) × Mat × List Nat) p => do
    let (f, r) ← eliminate v holds acc.2 p
    pure (acc.1 ++ [f], r)) ([], y.a, y.g)

/-- A point's step from the unknowns' steps. -/
def backPoint (v : JobEnv) (d : List Nat) (p : PtSys) (f : Option Mat) : SolveM (List Nat) := do
  match f with
  | none => pure (List.replicate 3 0)
  | some l =>
    let g ← SolveM.lift ((List.range 3).mapM fun k => LseM.dotSub v.md (p.g.getD k 0)
      (p.cross.map fun (c : Nat × List Nat) => c.2.getD k 0) (p.cross.map fun (c : Nat × List Nat) => d.getD c.1 0))
    SolveM.solve v 3 p.h l g

/-! ### Conjugate gradients (R506) -/

/-- The preconditioner's factors: one checked 6 × 6 Cholesky per pose (WHERE 3). -/
def precond (v : JobEnv) (a : Mat) : SolveM (List (Mat × Mat)) :=
  (List.range (a.length / 6)).mapM fun k => do
    let b := a.block (6 * k) 6
    pure (b, ← SolveM.factor v 6 b 3)

/-- M⁻¹ r. -/
def precondition (v : JobEnv) (m : List (Mat × Mat)) (r : List Nat) : SolveM (List Nat) := do
  let l ← m.zipIdx.mapM fun (x : (Mat × Mat) × Nat) => SolveM.solve v 6 x.1.1 x.1.2 ((r.drop (6 * x.2)).take 6)
  pure l.flatten

/-- Iterations of conjugate gradients from step `k`: x, r, p and rᵀz, until the residual's norm has fallen to `stop`; the true
residual replaces the recurrence every 32 iterations. -/
def cgLoop (v : JobEnv) (a : Mat) (m : List (Mat × Mat)) (b : List Nat) (stop : Nat) :
    Nat → Nat → List Nat → List Nat → List Nat → Nat → SolveM (List Nat)
  | 0, _, x, _, _, _ => pure x
  | n + 1, k, x, r, p, rz => do
    let ap ← SolveM.lift (LseM.mulVec v.md a p)
    let alpha ← SolveM.lift (do LseM.op (lseDiv v.md rz (← LseM.dot v.md 0 p ap)))
    let x' ← SolveM.lift (LseM.axpy v.md alpha p x)
    let r' ← SolveM.lift (if k % 32 = 0 then do
        let ax ← LseM.mulVec v.md a x'
        LseM.addVec v.md b (ax.map f64Neg)
      else LseM.axpy v.md (f64Neg alpha) ap r)
    let done ← SolveM.lift (do
      let nrm ← LseM.op (lseSqrt v.md (← LseM.dot v.md 0 r' r'))
      LseM.cmp f64Le nrm stop)
    if done then pure x'
    else
      let z ← precondition v m r'
      let rz' ← SolveM.lift (LseM.dot v.md 0 r' z)
      let beta ← SolveM.lift (LseM.op (lseDiv v.md rz' rz))
      let p' ← SolveM.lift (LseM.axpy v.md beta p z)
      cgLoop v a m b stop n (k + 1) x' r' p' rz'

/-- The reduced camera system solved by conjugate gradients. -/
def cgSolve (v : JobEnv) (cgMax cgTol : Nat) (a : Mat) (b : List Nat) : SolveM (List Nat) := do
  let m ← precond v a
  let stop ← SolveM.lift (do
    let n0 ← LseM.op (lseSqrt v.md (← LseM.dot v.md 0 b b))
    LseM.op (lseMul v.md cgTol n0))
  let z ← precondition v m b
  let rz ← SolveM.lift (LseM.dot v.md 0 b z)
  cgLoop v a m b stop cgMax 1 (List.replicate a.length 0) b z rz

/-! ### The iterations of R493 -/

/-- A problem over estimates `X`: its factors at an estimate, its sizes, an estimate moved by δ, all values of one, how the
reduced system is solved, and whether a point whose block fails is held. -/
structure Problem (X : Type) where
  factors : X → LseM (List Factor)
  n : Nat
  q : Nat
  move : X → List Nat → LseM X
  values : X → List Nat
  reduced : Mat → List Nat → SolveM (List Nat)
  holds : Bool

/-- An estimate with its factors and its cost. -/
structure Iterate (X : Type) where
  x : X
  fs : List Factor
  cost : Nat

namespace Problem
variable {X : Type}

/-- An estimate evaluated. -/
def eval (p : Problem X) (v : JobEnv) (x : X) : LseM (Iterate X) := do
  let fs ← p.factors x
  pure { x := x, fs := fs, cost := ← costOf v.md fs }

/-- Steps 2 and 3: δ for the unknowns, then for the points. -/
def step (p : Problem X) (v : JobEnv) (lam : Nat) (y0 : Sys) : SolveM (List Nat) := do
  let y ← if v.lm then SolveM.lift (y0.damp v.md lam) else pure y0
  let (fs, a, g) ← eliminateAll v p.holds y
  let d ← p.reduced a g
  let ds ← (y.pts.zip fs).mapM fun (x : PtSys × Option Mat) => backPoint v d x.1 x.2
  pure (d ++ ds.flatten)

/-- 10^-4, 10^-12 and 10 as FP64 patterns. -/
def lam0 : Nat := 0x3F1A36E2EB1C432D
def lamMin : Nat := 0x3D719799812DEA11
def ten : Nat := 0x4024000000000000

/-- Steps 2 to 4 until a step is accepted (R493, R494): the new estimate, its step and λ. A rejected step or a failed
factorization raises λ tenfold, `fails` counting the latter. None when λ can rise no further. [log 163 DESIGN CHOICE, unsafe] -/
def advance (p : Problem X) (v : JobEnv) (it : Iterate X) (y : Sys) :
    Nat → Nat → Nat → SolveM (Option (Iterate X × List Nat × Nat))
  | 0, _, _ => pure none
  | k + 1, fails, lam => do
    match ← SolveM.attempt (p.step v lam y) with
    | none =>
      if v.lm ∧ fails < 8 then p.advance v it y k (fails + 1) (← SolveM.lift (LseM.op (lseMul v.md lam ten)))
      else throw .singular
    | some d =>
      let new ← SolveM.lift (do p.eval v (← p.move it.x d))
      let fall ← SolveM.lift (LseM.cmp f64Le new.cost it.cost)
      if !v.lm ∨ fall then pure (some (new, d, lam))
      else p.advance v it y k fails (← SolveM.lift (LseM.op (lseMul v.md lam ten)))

/-- An accepted step converges (R493). [log 163 DESIGN CHOICE, unsafe] -/
def converged (p : Problem X) (v : JobEnv) (old new : Iterate X) (d : List Nat) : LseM Bool := do
  let nd ← LseM.norm d
  let nx ← LseM.norm (p.values old.x)
  let lim ← LseM.op (lseMul v.md v.tol (← LseM.op (lseAdd v.md nx v.tol)))
  let a ← LseM.cmp f64Le nd lim
  let fall ← LseM.op (lseSub v.md old.cost new.cost)
  let lim2 ← LseM.op (lseMul v.md v.tol old.cost)
  let b ← LseM.cmp f64Le fall lim2
  pure (a || b)

/-- How the iterations end. -/
inductive End where
  | converged
  | limit
  | stopped (why : Stop)
  deriving DecidableEq, Repr

/-- At most `k` further outer iterations: the last accepted estimate, the iterations done, and the end. -/
def iterate (p : Problem X) (v : JobEnv) : Nat → Iterate X → Nat → Nat → StateM Tally (Iterate X × Nat × End)
  | 0, it, _, n => pure (it, n, .limit)
  | k + 1, it, lam, n => do
    let r ← (do
      let y ← SolveM.lift (Sys.assemble v.md v.robust p.n p.q it.fs)
      p.advance v it y 700 0 lam : SolveM (Option (Iterate X × List Nat × Nat))).run
    match r with
    | .error e => pure (it, n, .stopped e)
    | .ok none => pure (it, n, .limit)
    | .ok (some (new, d, l)) =>
      let next ← (SolveM.lift (do
        let c ← p.converged v it new d
        let l' ← LseM.op (lseDiv v.md l ten)
        pure (c, if f64Gt lamMin l' then lamMin else l')) : SolveM (Bool × Nat)).run
      match next with
      | .error e => pure (new, n + 1, .stopped e)
      | .ok (c, l') => if c then pure (new, n + 1, .converged) else p.iterate v k new l' (n + 1)

/-- The whole run from an estimate. -/
def run (p : Problem X) (v : JobEnv) (iterMax : Nat) (x : X) : (Iterate X × Nat × End) × Tally :=
  let (it, fl) := (p.eval v x).run 0
  (p.iterate v iterMax it lam0 0).run { flags := fl }

end Problem

/-! ### Bundle adjustment (R504 to R506) -/

/-- The estimates of a BUNDLE: poses of six values, points of three. -/
structure BundleX where
  poses : List (List Nat) := []
  points : List (List Nat) := []
  deriving DecidableEq, Repr

/-- Pose and point records as bytes (R505). -/
def BundleX.bytes (x : BundleX) : List Byte := (x.poses.flatten ++ x.points.flatten).flatMap (leBytes 8)

/-- An observation of a BUNDLE in range. -/
structure BundleObs where
  pose : Nat := 0
  point : Nat := 0
  camera : Nat := 0
  robust : Bool := false
  u : Nat := 0
  v : Nat := 0
  deriving DecidableEq, Repr

/-- The factor of an observation: reprojection in pixels with unit information. [log 162 DESIGN CHOICE, safe] -/
def BundleObs.factor (md : Rnd) (fixed : Nat) (cams : List (List Nat)) (x : BundleX) (o : BundleObs) : LseM Factor := do
  let l ← LseM.geo md .observe (cams.getD o.camera [] ++ x.poses.getD o.pose [] ++ x.points.getD o.point [] ++ [o.u, o.v])
  let jp := Mat.ofList 2 6 (l.drop 2)
  let jq := Mat.ofList 2 3 (l.drop 14)
  let cols := if o.pose < fixed then [] else (List.range 6).map fun c => (6 * (o.pose - fixed) + c, jp.col c)
  pure { type := 1, r := [l.getD 0 0, l.getD 1 0], cols := cols, pt := some (o.point, (List.range 3).map jq.col),
         w := [[f64Int 1, 0], [0, f64Int 1]], robust := o.robust }

/-- A BUNDLE as a problem; the first `fixed` poses are held. -/
def bundleProblem (v : JobEnv) (poses points fixed cgMax cgTol : Nat) (cams : List (List Nat)) (obs : List BundleObs) :
    Problem BundleX where
  factors x := obs.mapM fun o => o.factor v.md fixed cams x
  n := 6 * (poses - fixed)
  q := points
  move x d := do
    let held := x.poses.take fixed
    let ps ← ((x.poses.drop fixed).zipIdx).mapM fun (p : List Nat × Nat) => LseM.addVec v.md p.1 ((d.drop (6 * p.2)).take 6)
    let o := 6 * (poses - fixed)
    let qs ← x.points.zipIdx.mapM fun (q : List Nat × Nat) => LseM.addVec v.md q.1 ((d.drop (o + 3 * q.2)).take 3)
    pure { poses := held ++ ps, points := qs }
  values x := x.poses.flatten ++ x.points.flatten
  reduced := cgSolve v cgMax cgTol
  holds := true

end Sys2Proof.Machine
end

