-- ==== Sys2Proof/Machine/Ego.lean ====
section
/-! DEFINITION. The ego-motion problem (§15.5): descriptor and parameter block, the calibration unknowns, the factors the
assembler forms from MEAS and the Strainer rings, the shift of R502, marginalisation, and the knots a solve gives. -/

namespace Sys2Proof.Machine

/-! ### Descriptors (Tables 15.1, 15.7, R504, R507) -/

namespace Desc
def kind (d : List Byte) : Nat := fieldAt d 0 1
def method (d : List Byte) : Nat := fieldAt d 1 1
def rmode (d : List Byte) : Rnd := Rnd.ofCode (fieldAt d 2 1)
def n (d : List Byte) : Nat := fieldAt d 4 2
def iterMax (d : List Byte) : Nat := fieldAt d 6 1
def m (d : List Byte) : Nat := fieldAt d 8 4
def tol (d : List Byte) : Nat := fieldAt d 0x10 8
def meas (d : List Byte) : Nat := fieldAt d 0x18 8
def state (d : List Byte) : Nat := fieldAt d 0x20 8
def out (d : List Byte) : Nat := fieldAt d 0x28 8
def lm (d : List Byte) : Bool := bitOf (fieldAt d 3 1) 0
def robust (d : List Byte) : Bool := bitOf (fieldAt d 3 1) 1
def cameras (d : List Byte) : Nat := fieldAt d 0x54 8
def cgTol (d : List Byte) : Nat := fieldAt d 0x60 8
def workBytes (d : List Byte) : Nat := fieldAt d 0x38 8
def knots (d : List Byte) : Nat := fieldAt d 0x40 1
def reuseMax (d : List Byte) : Nat := fieldAt d 0x41 1
def lostAfter (d : List Byte) : Nat := fieldAt d 0x42 1
def nCal (d : List Byte) : Nat := fieldAt d 0x44 2
def landmarks (d : List Byte) : Nat := fieldAt d 0x46 2
def deadlineUs (d : List Byte) : Nat := fieldAt d 0x48 4
def outSlots (d : List Byte) : Nat := fieldAt d 0x4C 4
def streams (d : List Byte) : Nat := fieldAt d 0x50 4
def poses (d : List Byte) : Nat := fieldAt d 0x40 4
def points (d : List Byte) : Nat := fieldAt d 0x44 4
def obs (d : List Byte) : Nat := fieldAt d 0x48 4
def nb (d : List Byte) : Nat := fieldAt d 0x4C 4
def cgMax (d : List Byte) : Nat := fieldAt d 0x50 2
def fixed (d : List Byte) : Nat := fieldAt d 0x52 1
end Desc

/-- What a job's descriptor fixes for its run. -/
def jobEnv (d : List Byte) (margin : Nat) (flips : List (Nat × Nat × Nat × Nat)) : JobEnv :=
  { md := Desc.rmode d, margin := margin, lm := Desc.lm d, robust := Desc.robust d, tol := Desc.tol d, flips := flips }

/-! ### The parameter block (Table 15.8) -/

namespace EgoParam
def gravity (p : List Byte) : Nat := fieldAt p 0 8
def track (p : List Byte) : Nat := fieldAt p 8 8
def noises (p : List Byte) : List Nat := f64List (p.drop 0x10) 0 4
def wheelV (p : List Byte) : Nat := fieldAt p 0x30 8
def wheelW (p : List Byte) : Nat := fieldAt p 0x38 8
def q (p : List Byte) : List Nat := f64List (p.drop 0x40) 0 15
/-- Sensor s: rotation vector, translation, intrinsics. -/
def sensor (p : List Byte) (s : Nat) : List Nat := f64List (p.drop (0x100 + 128 * s)) 0 12
def est (p : List Byte) (s : Nat) : Nat := fieldAt p (0x100 + 128 * s + 0x60) 1
end EgoParam

/-- The calibration unknowns: (stream, component) in ascending stream order until N_CAL is used up; bit 1 of EST counts for a
camera only (R499). [log 164 DESIGN CHOICE, unsafe] -/
def calMap (p : List Byte) (kinds : List (Nat × Nat)) (nCal : Nat) : List (Nat × Nat) :=
  (State.streamIds.flatMap fun k =>
    (if bitOf (EgoParam.est p k) 0 then (List.range 6).map (fun c => (k, c)) else []) ++
    (if bitOf (EgoParam.est p k) 1 ∧ ((kinds.find? (·.1 = k)).map (·.2)) = some 0 then
      (List.range 6).map (fun c => (k, 6 + c)) else [])).take nCal

/-- The parameters of sensor `s` with the calibration estimates in place. -/
def sensorAt (p : List Byte) (cm : List (Nat × Nat)) (cal : List Nat) (s : Nat) : List Nat :=
  (EgoParam.sensor p s).zipIdx.map fun (x : Nat × Nat) =>
    match cm.findIdx? (fun y => y = (s, x.2)) with
    | some i => cal.getD i x.1
    | none => x.1

/-! ### The shift of R502 -/

namespace LseM
def sin (md : Rnd) (x : Nat) : LseM Nat := op (lseSin md x)
def cos (md : Rnd) (x : Nat) : LseM Nat := op (lseCos md x)
end LseM

/-- Nanoseconds as FP64 seconds. -/
def LseM.secs (md : Rnd) (ns : Nat) : LseM Nat := LseM.op (lseDiv md (f64Int ns) (f64Int 1000000000))

/-- A pose moved on by `dt` at speed `v` and yaw rate `w`, both constant (R502): x, y and ψ. -/
def shiftPose (md : Rnd) (x y yaw v w dt : Nat) : LseM (Nat × Nat × Nat) := do
  let mul (a b : Nat) : LseM Nat := LseM.op (lseMul md a b)
  let add (a b : Nat) : LseM Nat := LseM.op (lseAdd md a b)
  let sub (a b : Nat) : LseM Nat := LseM.op (lseSub md a b)
  -- 10^-6 as an FP64 pattern
  if ← LseM.cmp f64Le 0x3EB0C6F7A0B5ED8D (f64Abs w) then
    let yaw' ← add yaw (← mul w dt)
    let q ← LseM.op (lseDiv md v w)
    let dx ← mul q (← sub (← LseM.sin md yaw') (← LseM.sin md yaw))
    let dy ← mul q (← sub (← LseM.cos md yaw) (← LseM.cos md yaw'))
    pure (← add x dx, ← add y dy, yaw')
  else
    let d ← mul v dt
    pure (← add x (← mul d (← LseM.cos md yaw)), ← add y (← mul d (← LseM.sin md yaw)), yaw)

/-- A knot shifted by `ns` (R502): KSTATE SHIFTED, everything but the pose carried over. [log 164 DESIGN CHOICE, unsafe] -/
def Knot.shiftBy (md : Rnd) (k : Knot) (ns : Nat) : LseM Knot := do
  let dt ← LseM.secs md ns
  let (x, y, yaw) ← shiftPose md k.x k.y k.yaw k.vx k.w dt
  let turn ← LseM.op (lseSub md yaw k.yaw)
  let att ← LseM.geo md .turn ((k.blk.drop 3).take 3 ++ [0, 0, turn])
  pure { k with t := k.t + ns, x := x, y := y, yaw := yaw, ks := 1,
                blk := [x, y] ++ (k.blk.drop 2).take 1 ++ (List.range 3).map (fun i => att.getD i 0) ++ k.blk.drop 6 }

/-- The pose of a knot `ns` later, in RNE (R458). -/
def Knot.shift (k : Knot) (ns : Nat) : Knot := apart (k.shiftBy .rne ns)

/-- A knot record (Table 15.11): single-precision fields converted in the job's mode. -/
def Knot.bytes (md : Rnd) (k : Knot) : LseM (List Byte) := do
  let f (x : Nat) : LseM (List Byte) := do pure (leBytes 4 (← LseM.op (lseToF32 md x)))
  let a ← [k.vx, k.vy, k.w, k.z, k.roll, k.pitch].mapM f
  pure (leBytes 8 k.t ++ leBytes 8 k.x ++ leBytes 8 k.y ++ leBytes 8 k.yaw ++ a.flatten ++ leBytes 1 k.ks ++ leBytes 7 0)

/-- ESTATE of a reuse count (Table 15.10). -/
def estateOf (d : List Byte) (reuse : Nat) : Nat :=
  if reuse = 0 then 0 else if reuse < Desc.reuseMax d then 1 else if reuse < Desc.lostAfter d then 2 else 3

/-! ### The factors of an epoch (R489, R490) -/

/-- The estimates of the window: motion blocks, calibration, landmarks. -/
structure EgoX where
  blks : List (List Nat) := []
  cal : List Nat := []
  lms : List (List Nat) := []
  deriving DecidableEq, Repr

/-- A record of an EGO job references a knot, stream or landmark outside its range, or is of another TYPE (R489). -/
def recSkipped (d : List Byte) (x : FactorRec) : Bool :=
  let v (i : Nat) : Nat := x.vars.getD i 0xFFFF
  let k := Desc.knots d
  !(if x.type = 1 then decide (v 0 < k ∧ v 1 < 32 ∧ v 2 < Desc.landmarks d)
    else decide (x.type = 2 ∧ v 0 < k ∧ v 1 < k ∧ v 2 < 32))

/-- The records that enter, DISABLED ones left out, and the number skipped. -/
def egoRecs (d : List Byte) (l : List FactorRec) : List FactorRec × Nat :=
  let en := l.filter fun x => !bitOf x.flags 1
  (en.filter fun x => !recSkipped d x, (en.filter (recSkipped d)).length)

/-- The landmarks seen from two knots or more, in ascending identity (R490). -/
def landmarksOf (l : List FactorRec) : List Nat :=
  let seen (i : Nat) : List Nat := ((l.filter fun x => x.type = 1 ∧ x.vars.getD 2 0 = i).map fun x => x.vars.getD 0 0).eraseDups
  ((List.range 8192).filter fun i => l.any fun x => x.type = 1 ∧ x.vars.getD 2 0 = i).filter fun i => 2 ≤ (seen i).length

/-- The data of one stream from `a` on and before `b`, in ascending INDEX. -/
def dataIn (l : List EgoDatum) (k a b : Nat) : List EgoDatum := l.filter fun x => x.stream = k ∧ a ≤ x.t ∧ x.t < b

/-- The streams of a KIND among the data. -/
def streamsOf (l : List EgoDatum) (kind : Nat) : List Nat := State.streamIds.filter fun k => l.any fun x => x.stream = k ∧ x.kind = kind

/-- FP32 value `i` of a datum, exactly. -/
def EgoDatum.val (x : EgoDatum) (i : Nat) : LseM Nat := LseM.op (lseFromF32 (fieldAt x.bytes (4 * i) 4))

/-- The data of an interval as the IMU models take them: time after `a`, rates and forces. -/
def imuArgs (md : Rnd) (a : Nat) (l : List EgoDatum) : LseM (List Nat) := do
  let rows ← l.mapM fun x => do pure ((← LseM.secs md (x.t - a)) :: (← (List.range 6).mapM x.val))
  pure rows.flatten

/-- The WHEEL data of an interval: the mean of the four speeds, and the mean rear difference over TRACK (R490). -/
def wheelMean (md : Rnd) (track : Nat) (l : List EgoDatum) : LseM (Nat × Nat) := do
  let all ← l.mapM fun x => (List.range 4).mapM x.val
  let sum ← all.flatten.foldlM (fun (z : Nat) v => LseM.op (lseAdd md z v)) 0
  let v ← LseM.op (lseDiv md sum (f64Int (4 * l.length)))
  let dif ← all.foldlM (fun (z : Nat) w => do
    LseM.op (lseAdd md z (← LseM.op (lseSub md (w.getD 3 0) (w.getD 2 0))))) 0
  let w ← LseM.op (lseDiv md (← LseM.op (lseDiv md dif (f64Int l.length))) track)
  pure (v, w)

/-- 1 / σ², times 2^`sh`. -/
def infoOf (md : Rnd) (sigma : Nat) (sh : Int) : LseM Nat := do
  let one ← LseM.op (lseDiv md (f64Int 1) (← LseM.op (lseMul md sigma sigma)))
  LseM.op (lseMul md one (f64Pow2 sh))

/-- A diagonal matrix. -/
def diagMat (l : List Nat) : Mat := (List.range l.length).map fun i => (List.range l.length).map fun j => if i = j then l.getD i 0 else 0

/-- The window the factors are formed over: descriptor, parameters, calibration unknowns, knot times and the epoch's inputs. -/
structure EgoWin where
  d : List Byte := []
  p : List Byte := []
  cm : List (Nat × Nat) := []
  times : List Nat := []
  recs : List FactorRec := []
  lms : List Nat := []
  data : List EgoDatum := []
  wshift : Int := 0
  prior : Option Prior := none
  /-- Anchored knots: number, motion block, covariance (R502). -/
  anchors : List (Nat × List Nat × List Nat) := []
  deriving DecidableEq, Repr

namespace EgoWin

/-- The columns of knot `k`. -/
def knotCols (k : Nat) (j : Mat) : List (Nat × List Nat) := (List.range 15).map fun c => (15 * k + c, j.col c)

/-- The columns of sensor `s`, for those of its parameters that are unknowns. -/
def sensorCols (e : EgoWin) (s : Nat) (j : Mat) : List (Nat × List Nat) :=
  (List.range 12).filterMap fun c =>
    (e.cm.findIdx? fun y => y = (s, c)).map fun i => (15 * e.times.length + i, j.col c)

def sensor (e : EgoWin) (x : EgoX) (s : Nat) : List Nat := sensorAt e.p e.cm x.cal s

/-- A FEATURE or LIDAR_ALIGN record. -/
def recFactor (e : EgoWin) (x : EgoX) (f : FactorRec) : LseM (Option Factor) := do
  let md := Desc.rmode e.d
  let v (i : Nat) : Nat := f.vars.getD i 0
  if f.type = 1 then
    match e.lms.findIdx? (· = v 2) with
    | none => pure none
    | some i =>
      let l ← LseM.geo md .feature (x.blks.getD (v 0) [] ++ e.sensor x (v 1) ++ x.lms.getD i [] ++ f64List f.payload 0 2)
      let w ← infoOf md (f64At f.payload 2) f.wshift
      pure (some { type := 1, r := (List.range 2).map fun k => l.getD k 0,
                   cols := knotCols (v 0) (Mat.ofList 2 15 (l.drop 2)) ++ e.sensorCols (v 1) (Mat.ofList 2 12 (l.drop 32)),
                   pt := some (i, (List.range 3).map (Mat.ofList 2 3 (l.drop 56)).col), w := diagMat [w, w],
                   robust := bitOf f.flags 0 })
  else
    let l ← LseM.geo md .lidar (x.blks.getD (v 0) [] ++ x.blks.getD (v 1) [] ++ e.sensor x (v 2) ++ f64List f.payload 0 6)
    let w ← recInfo md 6 6 f
    pure (some { type := 2, r := (List.range 6).map fun k => l.getD k 0,
                 cols := knotCols (v 0) (Mat.ofList 6 15 (l.drop 6)) ++ knotCols (v 1) (Mat.ofList 6 15 (l.drop 96))
                   ++ e.sensorCols (v 2) (Mat.ofList 6 12 (l.drop 186)), w := w, robust := bitOf f.flags 0 })

/-- The IMU factor of one stream between knots `k` and `k + 1`. -/
def imuFactor (e : EgoWin) (x : EgoX) (k s : Nat) : LseM (Option Factor) := do
  let md := Desc.rmode e.d
  let (a, b) := (e.times.getD k 0, e.times.getD (k + 1) 0)
  let dl := dataIn e.data s a b
  if dl.isEmpty then pure none
  else
    let l ← LseM.geo md .imu (x.blks.getD k [] ++ x.blks.getD (k + 1) [] ++ e.sensor x s ++ [EgoParam.gravity e.p]
      ++ EgoParam.noises e.p ++ [← LseM.secs md (b - a)] ++ (← imuArgs md a dl))
    pure (some { type := 8, r := (List.range 15).map fun i => l.getD i 0,
                 cols := knotCols k (Mat.ofList 15 15 (l.drop 15)) ++ knotCols (k + 1) (Mat.ofList 15 15 (l.drop 240))
                   ++ e.sensorCols s (Mat.ofList 15 12 (l.drop 465)), w := Mat.ofList 15 15 (l.drop 645) })

/-- The WHEEL factor between knots `k` and `k + 1`: forward speed and yaw rate with the weight of R466. -/
def wheelFactor (e : EgoWin) (x : EgoX) (k : Nat) : LseM (Option Factor) := do
  let md := Desc.rmode e.d
  let (a, b) := (e.times.getD k 0, e.times.getD (k + 1) 0)
  let dl := (streamsOf e.data 4).flatMap fun s => dataIn e.data s a b
  if dl.isEmpty then pure none
  else
    let (v, w) ← wheelMean md (EgoParam.track e.p) dl
    let l ← LseM.geo md .wheel (x.blks.getD k [] ++ x.blks.getD (k + 1) [] ++ [← LseM.secs md (b - a), v, w])
    pure (some { type := 9, r := (List.range 2).map fun i => l.getD i 0,
                 cols := knotCols k (Mat.ofList 2 15 (l.drop 2)) ++ knotCols (k + 1) (Mat.ofList 2 15 (l.drop 32)),
                 w := diagMat [← infoOf md (EgoParam.wheelV e.p) e.wshift, ← infoOf md (EgoParam.wheelW e.p) e.wshift] })

/-- All values of the unknowns that the prior is over. -/
def vals (x : EgoX) : List Nat := x.blks.flatten ++ x.cal

/-- The PRIOR factor of the knots that have left (R490). -/
def priorFactor (e : EgoWin) (x : EgoX) (p : Prior) : LseM Factor := do
  let md := Desc.rmode e.d
  let dx ← LseM.addVec md (vals x) (p.at'.map f64Neg)
  let r ← LseM.addVec md (← LseM.mulVec md p.rows dx) (p.y.map f64Neg)
  pure { type := 10, r := r, cols := (List.range (vals x).length).map fun c => (c, Mat.col p.rows c),
         w := diagMat (List.replicate r.length (f64Int 1)) }

/-- The anchor of a knot at a motion block with a diagonal covariance (R502). [log 164 DESIGN CHOICE, unsafe] -/
def anchorFactor (e : EgoWin) (x : EgoX) (a : Nat × List Nat × List Nat) : LseM Factor := do
  let md := Desc.rmode e.d
  let r ← LseM.addVec md (x.blks.getD a.1 []) (a.2.1.map f64Neg)
  let w ← a.2.2.mapM fun c => LseM.op (lseDiv md (f64Int 1) c)
  pure { type := 10, r := r, cols := knotCols a.1 (diagMat (List.replicate 15 (f64Int 1))), w := diagMat w }

/-- Every factor at an estimate: MEAS records in order, IMU and WHEEL by interval, PRIOR. -/
def factors (e : EgoWin) (x : EgoX) : LseM (List Factor) := do
  let rs ← e.recs.mapM (e.recFactor x)
  let ks := List.range (e.times.length - 1)
  let is ← ks.mapM fun k => (streamsOf e.data 3).mapM (e.imuFactor x k)
  let ws ← ks.mapM (e.wheelFactor x)
  let ps ← e.prior.toList.mapM (e.priorFactor x)
  let as ← e.anchors.mapM (e.anchorFactor x)
  pure ((rs ++ is.flatten ++ ws).filterMap id ++ ps ++ as)

/-- An estimate moved by δ: attitudes turned by their increments, everything else added. -/
def move (e : EgoWin) (x : EgoX) (d : List Nat) : LseM EgoX := do
  let md := Desc.rmode e.d
  let blks ← x.blks.zipIdx.mapM fun (b : List Nat × Nat) => do
    let db := (d.drop (15 * b.2)).take 15
    let sum ← LseM.addVec md b.1 db
    let att ← LseM.geo md .turn ((b.1.drop 3).take 3 ++ (db.drop 3).take 3)
    pure (sum.take 3 ++ (List.range 3).map (fun i => att.getD i 0) ++ sum.drop 6)
  let o := 15 * x.blks.length
  let cal ← LseM.addVec md x.cal ((d.drop o).take x.cal.length)
  let o2 := o + x.cal.length
  let lms ← x.lms.zipIdx.mapM fun (l : List Nat × Nat) => LseM.addVec md l.1 ((d.drop (o2 + 3 * l.2)).take 3)
  pure { blks := blks, cal := cal, lms := lms }

/-- Every landmark triangulated from its first two observations (R490). -/
def triangulate (e : EgoWin) (x : EgoX) : LseM (List (List Nat)) :=
  e.lms.mapM fun i => do
    let obs := (e.recs.filter fun f => f.type = 1 ∧ f.vars.getD 2 0 = i).take 2
    let l ← LseM.geo (Desc.rmode e.d) .triangulate (obs.flatMap fun f =>
      x.blks.getD (f.vars.getD 0 0) [] ++ e.sensor x (f.vars.getD 1 0) ++ f64List f.payload 0 2)
    pure ((List.range 3).map fun k => l.getD k 0)

/-- The EGO problem of R493. -/
def problem (e : EgoWin) (v : JobEnv) : Problem EgoX where
  factors := e.factors
  n := Desc.n e.d
  q := e.lms.length
  move := e.move
  values x := x.blks.flatten ++ x.cal ++ x.lms.flatten
  reduced a g := do
    let l ← SolveM.factor v (Desc.n e.d) a 0
    SolveM.solve v (Desc.n e.d) a l g
  holds := false

/-- The factors that touch the oldest knot, as A and g with their landmarks taken out. -/
def oldest (e : EgoWin) (v : JobEnv) (fs : List Factor) : SolveM (Mat × List Nat) := do
  let y ← SolveM.lift (Sys.assemble v.md v.robust (Desc.n e.d) e.lms.length
    (fs.filter fun f => f.cols.any fun c => decide (c.1 < 15)))
  let r ← eliminateAll v true { y with pts := y.pts.filter fun p => !p.cross.isEmpty }
  pure r.2

end EgoWin

/-- Table 15.5 and R490: the INPUTS mask of the factors. -/
def inputsOf (fs : List Factor) : Nat := fs.foldl (fun n f => n ||| 2 ^ f.type) 0

/-- The oldest knot marginalised out of A and g over a window of `k` knots (R490, R501): the prior over the window that begins
one knot later, around the values `at'`; none where a factorization fails. [log 164 DESIGN CHOICE, unsafe] -/
def marginalise (v : JobEnv) (k : Nat) (sys : Mat × List Nat) (at' : List Nat) : SolveM (Option Prior) := do
  let n := sys.2.length
  let m := n - 15
  let r ← SolveM.attempt (do
    let b := sys.1.block 0 15
    let l ← SolveM.factor v 15 b 0
    let hg ← SolveM.solve v 15 b l (sys.2.take 15)
    let low : Mat := sys.1.drop 15
    let cross : Mat := low.map (·.take 15)
    let sols ← cross.mapM fun c => SolveM.solve v 15 b l c
    let a ← (List.range m).mapM fun i => (List.range m).mapM fun j =>
      SolveM.lift (LseM.dotSub v.md (low.at' i (15 + j)) (cross.row i) (sols.getD j []))
    let g ← (List.range m).mapM fun i => SolveM.lift (LseM.dotSub v.md (sys.2.getD (15 + i) 0) (cross.row i) hg)
    let u ← SolveM.factor v m a 0
    pure (u, ← SolveM.lift (LseM.forward v.md u g)))
  match r with
  | none => pure none
  | some (u, y) =>
    let gap := 15 * (k - 1)
    let rows := (List.range m).map fun i =>
      let c := (List.range m).map fun j => if i ≤ j then u.at' j i else 0
      c.take gap ++ List.replicate 15 0 ++ c.drop gap
    pure (some { rows := rows, y := y, at' := at' })

/-- A motion block as a knot: pose, body speeds, yaw rate and angles (Table 15.11). [log 164 DESIGN CHOICE, unsafe] -/
def knotOf (md : Rnd) (t dt : Nat) (before blk : List Nat) : LseM Knot := do
  let r ← LseM.geo md .matrix ((blk.drop 3).take 3)
  let m := Mat.ofList 3 3 r
  let vel := (blk.drop 6).take 3
  let rate ← LseM.geo md .rate (before ++ blk ++ [dt])
  let yaw ← LseM.op (lseAtan2 md (m.at' 1 0) (m.at' 0 0))
  let h ← LseM.op (lseSqrt md (← LseM.dot md 0 [m.at' 2 1, m.at' 2 2] [m.at' 2 1, m.at' 2 2]))
  pure { t := t, x := blk.getD 0 0, y := blk.getD 1 0, z := blk.getD 2 0, yaw := yaw,
         pitch := ← LseM.op (lseAtan2 md (f64Neg (m.at' 2 0)) h), roll := ← LseM.op (lseAtan2 md (m.at' 2 1) (m.at' 2 2)),
         vx := ← LseM.dot md 0 (m.col 0) vel, vy := ← LseM.dot md 0 (m.col 1) vel, w := rate.getD 0 0, ks := 0, blk := blk }

/-- The knots of a solved window. -/
def solvedKnots (md : Rnd) (times : List Nat) (dt : Nat) (blks : List (List Nat)) : LseM (List Knot) :=
  times.zipIdx.mapM fun (x : Nat × Nat) => knotOf md x.1 dt (blks.getD (x.2 - 1) []) (blks.getD x.2 [])

/-- Motion blocks at rest at the navigation origin (R500). [log 117 DESIGN CHOICE, unsafe] -/
def restKnots (k tRef e : Nat) : List Knot :=
  (List.range k).map fun i => { t := tRef - (k - 1 - i) * e, ks := 2 }

end Sys2Proof.Machine
end

