-- ==== Sys2Proof/Machine/Lse.lean ====
section
/-! DEFINITION. The least-squares engine (chapter 15): admission, the job queue, dense
problems, the EGO binding and its records, bundle adjustment, and the assignment unit. -/

namespace Sys2Proof.Machine

namespace Reg
def lseCnt : Nat := 0x0E0010
def lseChkLog : Nat := 0x0E0014
def lseChkCtl : Nat := 0x0E0018
def lseCntClr : Nat := 0x0E00F0
end Reg

/-! ### Admission of a problem (Table 15.2) -/

/-- The workspace a problem needs (Table 15.3). -/
def workNeed (d : List Byte) : Nat :=
  roundUp (match Desc.kind d with
    | 0 => if Desc.method d = 0 then 8 * (Desc.n d + 2) * (Desc.n d + 1) else 8 * (Desc.m d + 2) * (Desc.n d + 1)
    | 1 => 4 * 2 ^ 20 + 64 * Desc.landmarks d
    | _ => 288 * Desc.nb d + 528 * Desc.poses d + 120 * Desc.points d + 65536) 4096

/-- The checked fields of the common header and of the KIND's own bytes (Tables 15.1 and 15.7, R504). -/
def descOk (epochMs : Nat) (d : List Byte) : Bool :=
  let common := decide (fieldAt d 2 1 < 4) && decide (fieldAt d 7 1 = 0) && decide (fieldAt d 0xC 4 = 0)
  common && match Desc.kind d with
  | 0 => decide (Desc.method d ≤ 1 ∧ fieldAt d 3 1 = 0 ∧ 1 ≤ Desc.n d ∧ Desc.n d ≤ 512 ∧ Desc.iterMax d = 1)
      && (if Desc.method d = 1 then decide (Desc.n d ≤ Desc.m d ∧ Desc.m d ≤ 8192) else decide (Desc.m d = 0))
  | 1 => decide (Desc.method d = 0 ∧ fieldAt d 3 1 < 4 ∧ Desc.m d = 0 ∧ 1 ≤ Desc.iterMax d ∧ Desc.iterMax d ≤ 64)
      && decide (3 ≤ Desc.knots d ∧ Desc.knots d ≤ 16 ∧ 1 ≤ Desc.reuseMax d ∧ Desc.reuseMax d ≤ 20)
      && decide (Desc.reuseMax d + 1 ≤ Desc.lostAfter d ∧ Desc.lostAfter d ≤ 40 ∧ fieldAt d 0x43 1 = 0)
      && decide (Desc.nCal d ≤ 272 ∧ Desc.landmarks d ≤ 8192 ∧ Desc.n d = 15 * Desc.knots d + Desc.nCal d)
      && decide (1000 ≤ Desc.deadlineUs d ∧ Desc.deadlineUs d ≤ epochMs * 1000 - 1000)
      && State.pow2In (Desc.outSlots d) 2 256 && allZero (sliceAt d 0x54 44)
  | 2 => decide (Desc.method d = 0 ∧ fieldAt d 3 1 < 4 ∧ Desc.m d = 0 ∧ Desc.n d = 0)
      && decide (1 ≤ Desc.iterMax d ∧ Desc.iterMax d ≤ 64)
      && decide (2 ≤ Desc.poses d ∧ Desc.poses d ≤ 4096 ∧ 1 ≤ Desc.points d ∧ Desc.points d ≤ 262144)
      && decide (1 ≤ Desc.obs d ∧ Desc.obs d ≤ 4194304)
      && decide (Desc.poses d ≤ Desc.nb d ∧ Desc.nb d ≤ Desc.poses d * (Desc.poses d + 1) / 2)
      && decide (1 ≤ Desc.cgMax d ∧ Desc.cgMax d ≤ 1000 ∧ 1 ≤ Desc.fixed d ∧ Desc.fixed d ≤ 8 ∧ fieldAt d 0x53 1 = 0)
      && decide (fieldAt d 0x5C 4 = 0) && allZero (sliceAt d 0x68 24)
  | _ => false

/-- The ASSIGN descriptor's checks (R507). -/
def assignOk (d : List Byte) : Bool :=
  decide (fieldAt d 0 1 = 3) && allZero (sliceAt d 1 3) && decide (1 ≤ fieldAt d 4 2 ∧ fieldAt d 4 2 ≤ 512)
    && decide (1 ≤ fieldAt d 6 2 ∧ fieldAt d 6 2 ≤ 512) && allZero (sliceAt d 0xA 6) && allZero (sliceAt d 0x20 32)

/-! ### The assignment unit (R508) -/

/-- The optimal assignment of the rows from `i` on, given the columns taken: total cost and vector; of equal totals the
lexicographically smaller vector, an unassigned row counting as 0xFFFF. `miss` 0xFFFF forbids unassigned rows. -/
def bestAssign (cost : Nat → Nat → Nat) (cols miss : Nat) : Nat → Nat → List Nat → Option (Nat × List Nat)
  | 0, _, _ => some (0, [])
  | k + 1, i, used =>
    let cand := ((List.range cols).filter fun c => !used.contains c && cost i c != 0xFFFF).map (fun c => (c, cost i c))
    let cand := if miss = 0xFFFF then cand else cand ++ [(0xFFFF, miss)]
    cand.foldl (fun (best : Option (Nat × List Nat)) x =>
      match bestAssign cost cols miss k (i + 1) (if x.1 = 0xFFFF then used else x.1 :: used) with
      | none => best
      | some (t, v) =>
        match best with
        | none => some (t + x.2, x.1 :: v)
        | some b => if t + x.2 < b.1 then some (t + x.2, x.1 :: v) else best) none

namespace State

/-! ### Jobs -/

/-- A job belongs to a SAFETY enclosure. -/
def jobSafety (s : State) (j : Job) : Bool := s.isSafety j.r.encl
/-- The job runs on the assignment unit. -/
def onAssigner (j : Job) : Bool := j.kind == .assign

def addJob (s : State) (j : Job) : State := { s with lse := { s.lse with ready := s.lse.ready ++ [j] } }

/-- The ready jobs of one engine, SAFETY first, in the order they became ready (R486). -/
def jobOrder (s : State) (assigner : Bool) : List Job :=
  let l := s.lse.ready.filter (fun j => onAssigner j == assigner)
  l.filter s.jobSafety ++ l.filter (fun j => !s.jobSafety j)

/-- Every job for which `f` holds leaves the LSE. -/
def dropJobs (s : State) (f : Job → Bool) : State :=
  let keep (j : Option Job) : Option Job := j.bind fun x => if f x then none else some x
  { s with lse := { s.lse with ready := s.lse.ready.filter (fun j => !f j), solver := keep s.lse.solver,
                               suspended := keep s.lse.suspended, assigner := keep s.lse.assigner } }

/-- A binding in waiting of the entry ends with it. -/
def dropEgoBind (s : State) (r : EntryRef) : State :=
  if (s.lse.bind.map (·.1.r)) = some r then { s with lse := { s.lse with bind := none } } else s

/-- RESULT of a solver job (R497). -/
def solveResult (flags iters outcome cost32 : Nat) : Nat :=
  flags % 256 + min iters 255 * 2 ^ 8 + outcome * 2 ^ 16 + cost32 % 2 ^ 32 * 2 ^ 32

/-- F as RESULT holds it: in RNE, with no job flag. -/
def cost32 (x : Nat) : Nat := (lseToF32 .rne x).pat

/-- What has been done when a job stops in mid-run, which the specification does not time: flags, iterations (at most ITER_MAX)
and F. [log 115 DESIGN CHOICE, safe] -/
def midRun (s : State) (j : Job) : (Nat × Nat × Nat) × State :=
  let (a, s1) := s.draw
  ((a % 32, a / 32 % (Desc.iterMax j.desc + 1), a / 4096 % 2 ^ 32), s1)

/-- A job runs or is suspended in a run. -/
def inRun (s : State) (j : Job) : Bool := s.lse.solver == some j || s.lse.suspended == some j

/-- RESULT of a job that ends early (R280, Table 15.6): nothing done when it had not started. -/
def stopResult (s : State) (j : Job) (outcome : Nat) : Nat × State :=
  if j.kind = .assign then (0, s)
  else if s.inRun j then
    let (m, s1) := s.midRun j
    (solveResult m.1 m.2.1 outcome m.2.2, s1)
  else (solveResult 0 0 outcome 0, s)

/-- Every job for which `f` holds ends with a code (Corner cases; R118, R231), its operation with it. -/
def stopJobs (s : State) (f : Job → Bool) (st : Status) : State :=
  let js := (s.lse.ready ++ s.lse.solver.toList ++ s.lse.suspended.toList ++ s.lse.assigner.toList).filter fun j =>
    f j && j.kind != .ego
  (js.foldl (fun t j => let (x, t1) := t.stopResult j 4; t1.finish j.r st x) s).dropJobs f

/-- A checksum mismatch (R496): reported, captured and counted. -/
def chkFail (s : State) (e row wher : Nat) : State :=
  let s1 := (s.bump Reg.lseCnt 7 0).post { fault := .lseChecksum, attr := .tag e, gsk := 100, unit := 64 }
  if s1.fld Reg.lseChkLog 31 31 = 1 then s1
  else s1.setReg Reg.lseChkLog (BitVec.ofNat 32 (row % 1024 + wher % 4 * 0x400 + e % 8 * 0x1000 + 0x80000000))

/-! ### Admission (Table 15.2) -/

/-- The descriptor of a Solve entry. -/
def solveDesc (s : State) (y : Entry) (e len : Nat) (ext : List ExtData) (ups : List Upset) : Status × List Byte × State :=
  s.readRun (s.stewardOf e) (y.arg 0 8) len ext ups

/-- Check 6 of LSE_SOLVE, LSE_BUNDLE and ASSIGN. -/
def admitLse (s : State) (y : Entry) (e : Nat) (ext : List ExtData) (ups : List Upset) : Status × State :=
  if y.op = 0x62 then
    let (st, d, s1) := s.solveDesc y e 64 ext ups
    if st ≠ .ok then (st, s1) else if assignOk d then (.ok, s1) else (.badArg, s1)
  else
    let (st, d, s1) := s.solveDesc y e 128 ext ups
    let ms := (s.driveImg.map (·.epochMs)).getD 50
    if st ≠ .ok then (st, s1)
    else if (if y.op = 0x60 then 2 ≤ Desc.kind d else Desc.kind d ≠ 2) then (.badArg, s1)
    else if Desc.kind d = 1 ∧ (e ≠ 1 ∨ s.ward.st ≠ .drive) then (.badArg, s1)
    else if Desc.kind d = 2 ∧ s.ward.st ≠ .steep then (.badArg, s1)
    else if !descOk ms d then (.badArg, s1)
    else if Desc.workBytes d < workNeed d then (.badArg, s1)
    else if Desc.kind d = 1 ∧ s1.lse.bind.isSome then (.busy, s1)
    else (.ok, s1)

/-- A Solve entry that has started becomes a ready job; an EGO binding waits for the boundary (R500). -/
def solveStart (s : State) (r : EntryRef) (op : Nat) (ext : List ExtData) (ups : List Upset) : State :=
  match s.running r 1 op with
  | none => s
  | some y =>
    let (st, d, s1) := s.solveDesc y r.encl (if op = 0x62 then 64 else 128) ext ups
    if st ≠ .ok then s1.finish r st 0
    else if op = 0x62 then s1.addJob { r := r, kind := .assign, desc := d, since := s1.upNs }
    else if op = 0x61 then s1.addJob { r := r, kind := .bundle, desc := d, since := s1.upNs }
    else if Desc.kind d = 1 then
      if s1.lse.bind.isSome then s1.finish r .busy 0
      else { s1 with lse := { s1.lse with bind := some ({ r := r, kind := .ego, desc := d, since := s1.upNs }, d) } }
    else s1.addJob { r := r, kind := .dense, desc := d, since := s1.upNs }

/-! ### Dense jobs -/

/-- A measurement block (R489): header, then BYTES bytes of factor records. [log 116 DESIGN CHOICE, unsafe] -/
def readMeas (s : State) (e addr : Nat) (ext : List ExtData) (ups : List Upset) :
    Status × Nat × List FactorRec × State :=
  let (st, h, s1) := s.readRun (.lse e) addr 16 ext ups
  if st ≠ .ok then (st, 0, [], s1)
  else
    let (st2, b, s2) := s1.readRun (.lse e) (addr + 16) (fieldAt h 8 4) ext ups
    (st2, fieldAt h 0 4, factorRecs (fieldAt h 4 4) b, s2)

/-- What a run has gathered goes to LSE_CNT (R512). -/
def counted (s : State) (t : Tally) : State := (s.bumpBy Reg.lseCnt 31 24 t.dropped).bumpBy Reg.lseCnt 23 16 t.skip

/-- A job that its arithmetic has stopped (R494, R496, R506). -/
def solveStops (s : State) (r : EntryRef) (why : Stop) (flags iters cost : Nat) : State :=
  match why with
  | .noSpace => s.finish r .noSpace (solveResult flags iters 4 cost)
  | .singular => s.finish r (.op 0x11) (solveResult flags iters 3 cost)
  | .mismatch row wh => ((s.chkFail r.encl row wh).contribute r .ok 3 0 false).finish r .integrity (solveResult flags iters 4 cost)

/-- The arithmetic of a DENSE job. -/
def denseRun (d : List Byte) (v : JobEnv) (recs : List FactorRec) : Except Stop (List Nat × Nat) × Tally :=
  ((do
    let (fs, sk) ← SolveM.lift (denseFactors v.md (Desc.n d) recs)
    modify fun t => { t with dropped := sk }
    if Desc.method d = 0 then denseChol v (Desc.n d) fs else denseQr v (Desc.n d) (Desc.m d) fs
    : SolveM (List Nat × Nat)).run).run {}

/-- A DENSE job runs to its end (R492 to R497). OUTCOME 3's last iterate is the zero step. [log 115 DESIGN CHOICE, safe] -/
def runDense (s : State) (j : Job) (flips : List (Nat × Nat × Nat × Nat)) (ext : List ExtData) (ups : List Upset) : State :=
  let d := j.desc
  let (st, _, recs, s1) := s.readMeas j.r.encl (Desc.meas d) ext ups
  if st ≠ .ok then s1.finish j.r st (solveResult 0 0 4 0)
  else
    let (res, y) := denseRun d (jobEnv d (s1.fld Reg.lseChkCtl 2 0) flips) recs
    let s2 := s1.counted y
    let out (x : List Nat) : Status × State := s2.writeRun (.lse j.r.encl) (Desc.out d) (x.flatMap (leBytes 8)) ext ups
    match res with
    | .error .singular =>
      let (_, s3) := out (List.replicate (Desc.n d) 0)
      (s3.contribute j.r .ok 0 0 true).solveStops j.r .singular y.flags 1 0
    | .error e => s2.solveStops j.r e y.flags (if e = .noSpace then 0 else 1) 0
    | .ok (delta, f) =>
      let (st2, s3) := out delta
      if st2 = .ok ∨ st2 = .poisoned then
        (s3.contribute j.r .ok 0 0 true).finish j.r st2 (solveResult y.flags 1 0 (cost32 f))
      else s3.finish j.r st2 (solveResult y.flags 1 4 (cost32 f))

/-! ### Bundle jobs (R504 to R506) -/

/-- The observations of a BUNDLE in range, and the number skipped (R505). -/
def bundleObs (d bs : List Byte) : List BundleObs × Nat :=
  (List.range (Desc.obs d)).foldl (fun (acc : List BundleObs × Nat) i =>
    let o := sliceAt bs (32 * i) 32
    let (p, q, c) := (fieldAt o 0 4, fieldAt o 4 4, fieldAt o 8 2)
    if p < Desc.poses d ∧ q < Desc.points d ∧ c < 16 then
      (acc.1 ++ [{ pose := p, point := q, camera := c, robust := bitOf (fieldAt o 0xA 2) 0, u := fieldAt o 0x10 8,
                   v := fieldAt o 0x18 8 }], acc.2)
    else (acc.1, acc.2 + 1)) ([], 0)

/-- The 6 × 6 blocks the reduced camera system needs: the diagonal, and one for each pair of poses that share a point. -/
def bundleBlocks (poses : Nat) (obs : List BundleObs) : Nat :=
  let pairs := obs.flatMap fun a => (obs.filter fun b => b.point = a.point ∧ a.pose < b.pose).map fun b => (a.pose, b.pose)
  poses + pairs.eraseDups.length

/-- Pose and point records (R505). -/
def bundleX (d bs : List Byte) : BundleX :=
  { poses := (List.range (Desc.poses d)).map fun i => f64List bs (6 * i) 6
    points := (List.range (Desc.points d)).map fun i => f64List bs (6 * Desc.poses d + 3 * i) 3 }

/-- What a BUNDLE job reads: STATE, the observations, and the intrinsics up to the last camera used. -/
def bundleReads (s : State) (j : Job) (ext : List ExtData) (ups : List Upset) :
    Status × BundleX × (List BundleObs × Nat) × List (List Nat) × State :=
  let d := j.desc
  let rd (u : State) (a n : Nat) : Status × List Byte × State := u.readRun (.lse j.r.encl) a n ext ups
  let (st, x, s1) := rd s (Desc.state d) (48 * Desc.poses d + 24 * Desc.points d)
  let (st2, b, s2) := if st = .ok then rd s1 (Desc.meas d) (32 * Desc.obs d) else (st, [], s1)
  let obs := bundleObs d b
  let cams := obs.1.foldl (fun n o => max n (o.camera + 1)) 0
  let (st3, c, s3) := if st2 = .ok then rd s2 (Desc.cameras d) (48 * cams) else (st2, [], s2)
  (st3, bundleX d x, obs, (List.range cams).map (fun i => f64List c (6 * i) 6), s3)

/-- A BUNDLE job's run of at most `iters` iterations. -/
def bundleRun (d : List Byte) (v : JobEnv) (iters : Nat) (x : BundleX) (obs : List BundleObs) (cams : List (List Nat)) :
    (Iterate BundleX × Nat × Problem.End) × Tally :=
  (bundleProblem v (Desc.poses d) (Desc.points d) (Desc.fixed d) (Desc.cgMax d) (Desc.cgTol d) cams obs).run v iters x

/-- OUT receives an estimate; `end'` follows a write that went through. -/
def bundleOut (s : State) (j : Job) (x : BundleX) (ext : List ExtData) (ups : List Upset) : Status × State :=
  let (st, s1) := s.writeRun (.lse j.r.encl) (Desc.out j.desc) x.bytes ext ups
  if st = .ok ∨ st = .poisoned then (st, s1.contribute j.r .ok 0 0 true) else (st, s1)

/-- A BUNDLE job runs to its end (R493 to R497, R504 to R506). -/
def runBundle (s : State) (j : Job) (flips : List (Nat × Nat × Nat × Nat)) (ext : List ExtData) (ups : List Upset) : State :=
  let d := j.desc
  let (st, x, (obs, sk), cams, s1) := s.bundleReads j ext ups
  if st ≠ .ok then s1.finish j.r st (solveResult 0 0 4 0)
  else if Desc.nb d < bundleBlocks (Desc.poses d) obs then
    (s1.bumpBy Reg.lseCnt 31 24 sk).finish j.r .noSpace (solveResult 0 0 4 0)
  else
    let ((it, n, e), y) := bundleRun d (jobEnv d (s1.fld Reg.lseChkCtl 2 0) flips) (Desc.iterMax d) x obs cams
    let s2 := s1.counted { y with dropped := y.dropped + sk }
    let f := cost32 it.cost
    match e with
    | .stopped (.mismatch row wh) => s2.solveStops j.r (.mismatch row wh) y.flags n f
    | .stopped .noSpace => s2.solveStops j.r .noSpace y.flags n f
    | _ =>
      let (outcome, code) := match e with
        | .converged => (0, Status.ok)
        | .limit => (1, Status.op 0x10)
        | .stopped _ => (3, Status.op 0x11)
      let (st2, s3) := s2.bundleOut j it.x ext ups
      if st2 = .ok ∨ st2 = .poisoned then s3.finish j.r (code.worse st2) (solveResult y.flags n outcome f)
      else s3.finish j.r st2 (solveResult y.flags n 4 f)

/-- A job on the solver whose budget has run out after `iters` iterations: RESULT, with OUT written for a BUNDLE (Table 15.6).
[log 76 DESIGN CHOICE, unsafe] -/
def solverBudget (s : State) (j : Job) (iters : Nat) (ext : List ExtData) (ups : List Upset) : Nat × State :=
  if j.kind = .bundle ∧ s.inRun j then
    let d := j.desc
    let (st, x, (obs, sk), cams, s1) := s.bundleReads j ext ups
    if st ≠ .ok then (solveResult 0 0 2 0, s1)
    else
      let ((it, n, _), y) := bundleRun d (jobEnv d (s1.fld Reg.lseChkCtl 2 0) []) (min iters (Desc.iterMax d)) x obs cams
      let (_, s2) := (s1.counted { y with dropped := y.dropped + sk }).bundleOut j it.x ext ups
      (solveResult y.flags n 2 (cost32 it.cost), s2)
  else s.stopResult j 2

/-! ### Assignment jobs -/

/-- An ASSIGN job runs on both arrays (R508 to R510); `differ`: an array has gone wrong and the vectors differ. -/
def runAssign (s : State) (j : Job) (differ : Bool) (ext : List ExtData) (ups : List Upset) : State :=
  let d := j.desc
  let (rows, cols, miss) := (fieldAt d 4 2, fieldAt d 6 2, fieldAt d 8 2)
  let (st, b, s1) := s.readRun (.lse j.r.encl) (fieldAt d 0x10 8) (2 * rows * cols) ext ups
  if st ≠ .ok then s1.finish j.r st 0
  else if differ then
    let s2 := (s1.bump Reg.lseCnt 15 8).post { fault := .assignMismatch, attr := .tag j.r.encl, gsk := 100, unit := 65 }
    (s2.contribute j.r .ok 3 0 false).finish j.r .integrity 0
  else match bestAssign (fun i c => fieldAt b (2 * (cols * i + c)) 2) cols miss rows 0 [] with
    | none => s1.finish j.r (.op 0x12) 0
    | some (total, v) =>
      let assigned := (v.filter (· ≠ 0xFFFF)).length
      let bytes := leBytes 4 total ++ leBytes 2 assigned ++ leBytes 2 0 ++ v.flatMap (leBytes 2)
      let (st2, s2) := s1.writeRun (.lse j.r.encl) (fieldAt d 0x18 8) bytes ext ups
      if st2 = .ok ∨ st2 = .poisoned then
        (s2.contribute j.r .ok 0 0 true).finish j.r st2 (assigned * 2 ^ 8 + total % 2 ^ 32 * 2 ^ 32)
      else s2.finish j.r st2 0

/-! ### The EGO job -/

def setEgo (s : State) (x : Ego) : State := { s with lse := { s.lse with ego := some x } }

/-- A track restart (R469, R500): the motion blocks start afresh; biases and calibration stay. -/
def egoRestart (s : State) : State :=
  match s.lse.ego with
  | none => s
  | some x =>
    let rest := restKnots (Desc.knots x.desc) (s.epochNow * s.epochNs) s.epochNs
    let ks := rest.zipIdx.map fun (k : Knot × Nat) =>
      { k.1 with blk := List.replicate 9 0 ++ ((x.knots[k.2]?.map (·.blk)).getD (List.replicate 15 0)).drop 9 }
    s.setEgo { x with knots := ks, reuse := 0, prior := none, sys := none, cov := List.replicate 15 0 }

/-- The kinds of the streams that are bound. -/
def streamKinds (s : State) : List (Nat × Nat) :=
  streamIds.filterMap fun k => (s.stream k).bound.map fun r => (k, r.kind)

/-- The data of one ring from time `a` on and before `b`: the records still in it, in ascending INDEX (R490). -/
def ringData (s : State) (k : Nat) (r : StreamRec) (a b : Nat) (ext : List ExtData) (ups : List Upset) :
    Status × List EgoDatum × State :=
  let w := (s.stream k).widx
  (List.range (min w r.slots)).foldl (fun (acc : Status × List EgoDatum × State) i =>
    let (st, l, t) := acc
    if st ≠ .ok then acc
    else
      let ix := w - min w r.slots + i
      let (st2, bs, t1) := t.readRun (.lse 1) (r.base + r.slotBytes * (ix % r.slots)) 56 ext ups
      let tm := fieldAt bs 0 8
      if st2 ≠ .ok then (st2, l, t1)
      else if fieldAt bs 8 8 = ix ∧ a ≤ tm ∧ tm < b then
        (.ok, l ++ [{ stream := k, kind := r.kind, t := tm, bytes := (bs.drop 32).take (fieldAt bs 0x14 4) }], t1)
      else (.ok, l, t1)) (.ok, [], s)

/-- The IMU and WHEEL data of the window, from the rings of the streams that feed the job. -/
def windowData (s : State) (d : List Byte) (a b : Nat) (ext : List ExtData) (ups : List Upset) :
    Status × List EgoDatum × State :=
  streamIds.foldl (fun (acc : Status × List EgoDatum × State) k =>
    match (s.stream k).bound with
    | some r =>
      if acc.1 = .ok ∧ bitOf (Desc.streams d) k ∧ (r.kind = 3 ∨ r.kind = 4) then
        let (st, l, t) := acc.2.2.ringData k r a b ext ups
        (st, acc.2.1 ++ l, t)
      else acc
    | none => acc) (.ok, [], s)

/-- The window of the epoch's problem. -/
def egoWin (s : State) (x : Ego) : EgoWin :=
  let k := x.knots.length
  let q := (EgoParam.q x.param).map fun v =>
    apart (do LseM.op (lseMul (Desc.rmode x.desc) v (← LseM.secs (Desc.rmode x.desc) s.epochNs)))
  { d := x.desc, p := x.param, cm := calMap x.param s.streamKinds (Desc.nCal x.desc), times := x.knots.map (·.t),
    recs := x.recs, lms := landmarksOf x.recs, data := x.data, wshift := x.wshift, prior := x.prior,
    anchors := (x.knots.zipIdx.filterMap fun (y : Knot × Nat) => if y.1.ks = 2 ∧ y.2 + 1 < k then some (y.2, y.1.blk, q) else none)
      ++ [(k - 1, (x.knots.getLast?.getD {}).blk, x.cov)] }

/-- An IMU datum entered the epoch that ends at `t`. -/
def imuEntered (x : Ego) (e : Nat) : Bool :=
  x.data.any fun y => y.kind = 3 && decide ((x.epoch + 1) * e ≤ y.t + e) && decide (y.t < (x.epoch + 1) * e)

/-- IMU_V and IMU_W: the newest solved knot carried through the epoch by its IMU data alone (Table 15.10). -/
def imuAlone (s : State) (x : Ego) : LseM (Nat × Nat) := do
  if !imuEntered x s.epochNs then pure (fp32.nanPat, fp32.nanPat)
  else
    let md := Desc.rmode x.desc
    let e := s.epochNs
    let t1 := (x.epoch + 1) * e
    let k := (streamsOf x.data 3).head?.getD 0
    let before := (x.knots.dropLast.getLast?.getD {}).blk
    let l ← LseM.geo md .propagate (before ++ sensorAt x.param (calMap x.param s.streamKinds (Desc.nCal x.desc)) x.cal k
      ++ [EgoParam.gravity x.param, ← LseM.secs md e] ++ (← imuArgs md (t1 - e) (dataIn x.data k (t1 - e) t1)))
    pure (← LseM.op (lseToF32 md (l.getD 0 0)), ← LseM.op (lseToF32 md (l.getD 1 0)))

/-- The record of the epoch is written, its header last (R503), and the job is idle until the next boundary. `cost` is F in
FP32. -/
def egoRecord (s : State) (x : Ego) (iters cost : Nat) (ext : List ExtData) (ups : List Upset) : State :=
  let d := x.desc
  let n := x.epoch
  let es := estateOf d x.reuse
  let valid := if es = 0 then 0 else if es = 3 then 3 else 2
  let ((v, w, ks), flags) := (do
    let (v, w) ← s.imuAlone x
    pure (v, w, ← x.knots.mapM (Knot.bytes (Desc.rmode d))) : LseM (Nat × Nat × List (List Byte))).run x.flags
  let size := 64 + 64 * Desc.knots d + 8 * Desc.nCal d
  let a := Desc.out d + size * (n % max 1 (Desc.outSlots d))
  let body := ks.flatten ++ ((List.range (Desc.nCal d)).flatMap fun i => leBytes 8 (x.cal.getD i 0))
  let hdr := leBytes 4 n ++ leBytes 1 valid ++ leBytes 1 es ++ leBytes 2 (min x.reuse 0xFFFF)
    ++ leBytes 8 ((n + 1) * s.epochNs) ++ leBytes 1 (Desc.knots d) ++ leBytes 1 flags ++ leBytes 2 iters ++ leBytes 4 cost
    ++ leBytes 4 v ++ leBytes 4 w ++ leBytes 2 (Desc.nCal d) ++ leBytes 2 x.inputs ++ leBytes 28 0
  let (st, s1) := s.writeRun (.lse 1) (a + 64) body ext ups
  let (_, s2) := if st = .ok ∨ st = .poisoned then s1.writeRun (.lse 1) a hdr ext ups else (st, s1)
  s2.setEgo { x with phase := .idle, estate := es, imuV := v, imuW := w, recEpoch := n + 1, flags := flags, recs := [] }

/-- The epoch's solve has failed: the shifted state stands, the reuse count rises (R501, R502). -/
def egoFail (s : State) (flags iters cost : Nat) (ext : List ExtData) (ups : List Upset) : State :=
  match s.lse.ego with
  | none => s
  | some x =>
    (s.dropJobs (·.kind == .ego)).egoRecord { x with reuse := x.reuse + 1, flags := x.flags ||| flags, sys := none } iters cost
      ext ups

/-- The epoch's solve has not ended in time: what a running one has done is free (R280). [log 115 DESIGN CHOICE, safe] -/
def egoLate (s : State) (ext : List ExtData) (ups : List Upset) : State :=
  match s.lse.solver with
  | some j =>
    if j.kind = .ego then
      let (m, s1) := s.midRun j
      s1.egoFail m.1 m.2.1 m.2.2 ext ups
    else s.egoFail 0 0 0 ext ups
  | none => s.egoFail 0 0 0 ext ups

/-- The EGO solve of the epoch: landmarks triangulated, the iterations, then A and g of the oldest knot. -/
def egoRun (s : State) (x : Ego) (flips : List (Nat × Nat × Nat × Nat)) :
    (Iterate EgoX × Nat × Problem.End) × Option (Mat × List Nat) × Tally :=
  let e := s.egoWin x
  let v := jobEnv x.desc (s.fld Reg.lseChkCtl 2 0) flips
  let x0 : EgoX := { blks := x.knots.map (·.blk), cal := x.cal }
  let (lms, fl) := (e.triangulate x0).run x.flags
  let (r, y) := (e.problem v).run v (Desc.iterMax x.desc) { x0 with lms := lms }
  let y1 := { y with flags := y.flags ||| fl }
  match r.2.2 with
  | .converged =>
    match (e.oldest v r.1.fs).run.run y1 with
    | (.ok m, y2) => (r, some m, y2)
    | (.error (.mismatch a b), y2) => ((r.1, r.2.1, .stopped (.mismatch a b)), none, y2)
    | (.error _, y2) => (r, none, y2)
  | _ => (r, none, y1)

/-- The EGO job ends before its deadline (R501): a converged solve is fresh. [log 117 DESIGN CHOICE, unsafe] -/
def egoSolved (s : State) (flips : List (Nat × Nat × Nat × Nat)) (ext : List ExtData) (ups : List Upset) : State :=
  match s.lse.ego with
  | none => s
  | some x =>
    let ((it, n, e), sys, y) := s.egoRun x flips
    let s1 := s.counted y
    match e with
    | .converged =>
      let (ks, fl) := (do
        let dt ← LseM.secs (Desc.rmode x.desc) s.epochNs
        solvedKnots (Desc.rmode x.desc) (x.knots.map (·.t)) dt it.x.blks : LseM (List Knot)).run y.flags
      s1.egoRecord { x with knots := ks, cal := it.x.cal, reuse := 0, sys := sys, cov := List.replicate 15 0, flags := fl,
                            inputs := inputsOf it.fs } n (cost32 it.cost) ext ups
    | .stopped (.mismatch row wh) => (s1.chkFail 1 row wh).egoFail y.flags n (cost32 it.cost) ext ups
    | _ => s1.egoFail y.flags n (cost32 it.cost) ext ups

/-- A binding takes effect at a boundary (R499, R500): the parameter block is read, and the entry ends BOUND. The calibration
estimates begin at the block's values. [log 117 DESIGN CHOICE, unsafe] -/
def egoBind (s : State) (ext : List ExtData) (ups : List Upset) : State :=
  match s.lse.bind with
  | none => s
  | some (j, d) =>
    let s0 := { s with lse := { s.lse with bind := none } }
    let (st, p, s1) := s0.readRun (.lse 1) (Desc.state d) 0x1100 ext ups
    if st ≠ .ok then s1.finish j.r st (solveResult 0 0 4 0)
    else
      let cm := calMap p s.streamKinds (Desc.nCal d)
      let cal := (List.range (Desc.nCal d)).map fun i => (cm[i]?.map fun y => (EgoParam.sensor p y.1).getD y.2 0).getD 0
      let x : Ego := { desc := d, param := p, cal := cal }
      let s2 := s1.setEgo { x with knots := restKnots (Desc.knots d) (s.epochNow * s.epochNs) s.epochNs }
      (s2.dropJobs (·.kind == .ego)).finish j.r .ok (solveResult 0 0 5 0)

/-- Step 1 of Table 15.9: the oldest knot goes into PRIOR, and the new knot is the newest shifted by one epoch, its covariance
grown by Q × E. -/
def egoAdvance (s : State) (x : Ego) (n : Nat) : Ego × Except Stop Unit × Tally :=
  let md := Desc.rmode x.desc
  let v := jobEnv x.desc (s.fld Reg.lseChkCtl 2 0) []
  let ((new, cov), fl) := (do
    let new ← (x.knots.getLast?.getD {}).shiftBy md s.epochNs
    let e ← LseM.secs md s.epochNs
    let cov ← (x.cov.zip (EgoParam.q x.param)).mapM fun (p : Nat × Nat) => LseM.op (lseFma md p.2 e p.1)
    pure (new, cov) : LseM (Knot × List Nat)).run 0
  let ks := x.knots.drop 1 ++ [{ new with t := (n + 1) * s.epochNs }]
  let old : EgoX := { blks := x.knots.map (·.blk), cal := x.cal }
  let (pr, y) := (do
    let sys ← match x.sys, x.prior with
      | some m, _ => pure m
      | none, some p => do
        let f ← SolveM.lift ((s.egoWin x).priorFactor old p)
        let y ← SolveM.lift (Sys.assemble md false (Desc.n x.desc) 0 [f])
        pure (y.a, y.g)
      | none, none => pure (Mat.zero (Desc.n x.desc) (Desc.n x.desc), List.replicate (Desc.n x.desc) 0)
    marginalise v (Desc.knots x.desc) sys ((ks.map (·.blk)).flatten ++ x.cal) : SolveM (Option Prior)).run.run { flags := fl }
  let prior := match pr with
    | .ok p => p
    | .error _ => none
  ({ x with knots := ks, cov := cov, prior := prior, sys := none, flags := y.flags }, pr.map (fun _ => ()), y)

/-- The boundary that ends epoch `n` (R501, step 1): the window slides, the ring data are read and polling begins. `w` is the
wheel weight now set, which the next epoch uses (R490). An epoch whose deadline has passed unmarked fails first. -/
def egoSlide (s : State) (n : Nat) (w : Int) (ext : List ExtData) (ups : List Upset) : State :=
  match s.lse.ego with
  | none => s
  | some x0 =>
    let s1 := if x0.phase = .idle then s else s.egoLate ext ups
    match s1.lse.ego with
    | none => s1
    | some x1 =>
      let (x2, ok, y) := s1.egoAdvance x1 n
      let (st, data, s2) := (s1.counted y).windowData x2.desc ((x2.knots.head?.map (·.t)).getD 0) ((n + 1) * s1.epochNs) ext ups
      let x := { x2 with phase := .polling, epoch := n, inputs := 0, recs := [], data := data, wshift := x1.wnext, wnext := w }
      match ok with
      | .error (.mismatch row wh) => ((s2.setEgo x).chkFail 1 row wh).egoFail 0 0 0 ext ups
      | _ => if st = .ok then s2.setEgo x else (s2.setEgo x).egoFail 0 0 0 ext ups

/-- The factor types that will enter, from what has been read (INPUTS). -/
def egoInputs (x : Ego) : Nat :=
  let seen := landmarksOf x.recs
  (if x.recs.any (fun f => f.type = 1 && seen.contains (f.vars.getD 2 0)) then 2 ^ 1 else 0)
    ||| (if x.recs.any (fun f => f.type = 2) then 2 ^ 2 else 0)
    ||| (if x.data.any (fun y => y.kind = 3) then 2 ^ 8 else 0) ||| (if x.data.any (fun y => y.kind = 4) then 2 ^ 9 else 0)
    ||| 2 ^ 10

/-- The LSE is reset or its enclosure stops: the EGO binding and every job leave. -/
def lseClear (s : State) : State := { s with lse := {} }

end State

open State

/-- LSE_SOLVE (R487). -/
def execLseSolve (r : EntryRef) (ext : List ExtData) (upsets : List Upset) (s : State) : Out :=
  .next (s.solveStart r 0x60 ext upsets)

/-- LSE_BUNDLE (R504). -/
def execLseBundle (r : EntryRef) (ext : List ExtData) (upsets : List Upset) (s : State) : Out :=
  .next (s.solveStart r 0x61 ext upsets)

/-- ASSIGN (R507). -/
def execAssign (r : EntryRef) (ext : List ExtData) (upsets : List Upset) (s : State) : Out :=
  .next (s.solveStart r 0x62 ext upsets)

/-- LSE_JOB_START (R486): the first ready job starts on a free engine; with no SAFETY job ready, a suspended one resumes. -/
def execLseJobStart (assigner : Bool) (s : State) : Out :=
  let l := s.jobOrder assigner
  let take (j : Job) (t : Lse) : Lse := { t with ready := t.ready.erase j }
  if assigner then
    match s.lse.assigner, l with
    | none, j :: _ => .next { s with lse := { take j s.lse with assigner := some j } }
    | _, _ => .next s
  else
    match s.lse.solver, s.lse.suspended, l with
    | some _, _, _ => .next s
    | none, some q, j :: _ =>
      if s.jobSafety j then .next { s with lse := { take j s.lse with solver := some j } }
      else .next { s with lse := { s.lse with solver := some q, suspended := none } }
    | none, some q, [] => .next { s with lse := { s.lse with solver := some q, suspended := none } }
    | none, none, j :: _ => .next { s with lse := { take j s.lse with solver := some j } }
    | none, none, [] => .next s

/-- LSE_JOB_SUSPEND (R486): a running QM job stops at its step boundary when a SAFETY job is ready. -/
def execLseJobSuspend (s : State) : Out :=
  match s.lse.solver with
  | some j =>
    if !s.jobSafety j ∧ s.lse.suspended.isNone ∧ (s.jobOrder false).any s.jobSafety then
      .next { s with lse := { s.lse with solver := none, suspended := some j } }
    else .next s
  | none => .next s

/-- LSE_JOB_COMPLETE (R497, R509): the running job of an engine ends. `flips` are upsets of stored factors,
`differ` a fault in one bidder array. Behind a gasket that is not OPEN its requests are held (R116). -/
def execLseJobComplete (assigner : Bool) (flips : List (Nat × Nat × Nat × Nat)) (differ : Bool)
    (ext : List ExtData) (upsets : List Upset) (s : State) : Out :=
  if (s.gasket 100).st ≠ .opened then .next s
  else if assigner then
    match s.lse.assigner with
    | none => .next s
    | some j => .next ({ s with lse := { s.lse with assigner := none } }.runAssign j differ ext upsets)
  else
    match s.lse.solver with
    | none => .next s
    | some j =>
      let s1 := { s with lse := { s.lse with solver := none } }
      match j.kind with
      | .dense => .next (s1.runDense j flips ext upsets)
      | .bundle => .next (s1.runBundle j flips ext upsets)
      | .ego => .next (s1.egoSolved flips ext upsets)
      | .assign => .next s1

/-- EGO_MEAS_POLL (R501, step 2): 10 µs later MEAS is read; once its EPOCH is the epoch's, the solve is ready. -/
def execEgoMeasPoll (ext : List ExtData) (upsets : List Upset) (s : State) : Out :=
  match s.lse.ego with
  | none => .next s
  | some x =>
    if x.phase ≠ .polling ∨ (s.gasket 100).st ≠ .opened then .next s
    else
      let s1 := s.elapse 10000
      let (st, h, s2) := s1.readRun (.lse 1) (Desc.meas x.desc) 16 ext upsets
      if st ≠ .ok then .next (s2.egoFail 0 0 0 ext upsets)
      else if fieldAt h 0 4 ≠ x.epoch % 2 ^ 32 then .next s2
      else
        let (st2, _, recs, s3) := s2.readMeas 1 (Desc.meas x.desc) ext upsets
        if st2 ≠ .ok then .next (s3.egoFail 0 0 0 ext upsets)
        else
          let (l, sk) := egoRecs x.desc recs
          let y := { x with phase := .solving, recs := l }
          let s4 := (s3.bumpBy Reg.lseCnt 31 24 sk).setEgo { y with inputs := egoInputs y }
          .next (s4.addJob { r := ⟨1, 0, 0⟩, kind := .ego, desc := x.desc, since := s4.upNs })

/-- EGO_DEADLINE (R501, step 4): t_ref + DEADLINE_US passes without a fresh solve. -/
def execEgoDeadline (ext : List ExtData) (upsets : List Upset) (s : State) : Out :=
  match s.lse.ego with
  | none => .next s
  | some x =>
    if x.phase = .idle then .next s
    else
      let s1 := s.elapseToTsu ((x.epoch + 1) * s.epochNs + Desc.deadlineUs x.desc * 1000)
      .next (s1.egoLate ext upsets)

/-- LSE_CNT_CLR (R515). -/
def execLseCntClr (who : Requester) (s : State) : Out :=
  .next (s.regCmd who .write Reg.lseCntClr fun t => t.inStates who Reg.lseCntClr .dss true fun u =>
    (.ok, 0, u.setReg Reg.lseCnt 0))

end Sys2Proof.Machine
end

