-- ==== Sys2Proof/Machine/Fusion.lean ====
section
/-! DEFINITION. The fusion unit (chapter 14): the profile, alignment and motion compensation, contradictions between
sensors, slip, the grid, tracks by ledger and by latent slots, degradation levels, and the output frame. -/

namespace Sys2Proof.Machine

namespace Reg
def fuCnt : Nat := 0x0D0010
def fuCntClr : Nat := 0x0D0014
end Reg

/-! ### The profile (Tables 14.1, 14.2) -/

namespace Prof
def confirm (p : List Byte) : Nat := fieldAt p 1 1
def coast (p : List Byte) : Nat := fieldAt p 2 1
def lostEpochs (p : List Byte) : Nat := fieldAt p 3 1
def exit (p : List Byte) : Nat := fieldAt p 4 2
def deadlineMs (p : List Byte) : Nat := fieldAt p 6 1
def nearM (p : List Byte) : Nat := fieldAt p 7 1
def occThr (p : List Byte) : Nat := fieldAt p 8 1
def freeThr (p : List Byte) : Nat := fieldAt p 9 1
def decay (p : List Byte) : Nat := fieldAt p 0xA 1
def pairs (p : List Byte) : Nat := fieldAt p 0xB 1
def gate (p : List Byte) : Nat := fieldAt p 0xC 2
def slipV (p : List Byte) : Nat := fieldAt p 0xE 2
def slipW (p : List Byte) : Nat := fieldAt p 0x10 2
def slipLog (p : List Byte) : Nat := fieldAt p 0x12 1
def dataId (p : List Byte) : Nat := fieldAt p 0x14 2
def irq (p : List Byte) : Nat := fieldAt p 0x16 1
def outBase (p : List Byte) : Nat := fieldAt p 0x18 8
def outSlots (p : List Byte) : Nat := fieldAt p 0x20 4
def slotBytes (p : List Byte) : Nat := fieldAt p 0x24 4
/-- MIN_STREAMS and L2_RANGE_M of class c = 1 to 4. -/
def minStreams (p : List Byte) (c : Nat) : Nat := fieldAt p (0x27 + c) 1
def l2Range (p : List Byte) (c : Nat) : Nat := fieldAt p (0x2B + c) 1
def cls (p : List Byte) (k : Nat) : Nat := fieldAt p (0x40 + k) 1
def timeOfs (p : List Byte) (k : Nat) : Int := toSigned 32 (fieldAt p (0x60 + 4 * k) 4)
/-- Pair record i: streams A and B, quantity. -/
def pair (p : List Byte) (i : Nat) : Nat × Nat × Nat :=
  (fieldAt p (0x100 + 8 * i) 1, fieldAt p (0x101 + 8 * i) 1, fieldAt p (0x102 + 8 * i) 1)
/-- Streams of class c. -/
def members (p : List Byte) (c : Nat) : List Nat := (List.range 32).filter fun k => cls p k = c
end Prof

/-- The checked fields of a profile, given the KIND of each stream's binding (0 none) and the epoch length.
[log 111 DESIGN CHOICE, unsafe] -/
def profileOk (kindOf : Nat → Nat) (epochMs : Nat) (p : List Byte) : Bool :=
  let within (v lo hi : Nat) : Bool := decide (lo ≤ v ∧ v ≤ hi)
  let n := Prof.pairs p
  let keys : List (Nat × Nat) := (List.range n).map fun i =>
    let (a, b, _) := Prof.pair p i
    (min a b, max a b)
  decide (Prof.method p ≤ 1) && within (Prof.confirm p) 1 4 && within (Prof.coast p) 1 40
    && within (Prof.lostEpochs p) 1 10 && within (Prof.exit p) 1 200 && within (Prof.deadlineMs p) 5 (epochMs - 5)
    && within (Prof.nearM p) 5 50 && within (Prof.occThr p) 1 127 && within (Prof.freeThr p) 1 127
    && decide (n ≤ 64) && within (Prof.gate p) 16 1600 && within (Prof.slipV p) 10 500 && within (Prof.slipW p) 10 500
    && within (Prof.slipLog p) 1 8 && decide (fieldAt p 0x13 1 = 0) && State.pow2In (Prof.outSlots p) 2 256
    && ([1, 2, 3, 4].all fun c => Prof.members p c = [] || within (Prof.minStreams p c) 1 (Prof.members p c).length)
    && ([1, 2, 3, 4].all fun c => within (Prof.l2Range p c) 5 51)
    && allZero (sliceAt p 0x30 16) && allZero (sliceAt p 0xE0 32)
    && ((List.range 32).all fun k => Prof.cls p k = 0 || Prof.cls p k = kindOf k)
    && ((List.range n).all fun i =>
      let (a, b, q) := Prof.pair p i
      decide (a < 32 ∧ b < 32 ∧ a ≠ b ∧ q ≤ 1) && decide (Prof.cls p a ≠ 0 ∧ Prof.cls p b ≠ 0)
        && allZero (sliceAt p (0x103 + 8 * i) 5))
    && decide keys.Nodup

/-! ### Positions -/

/-- ⌊v × k⌋ of an FP64 value; none for a NaN or an infinity. -/
def f64Floor (v k : Nat) : Option Int :=
  match fp64.read v with
  | .fin neg m e =>
    let n : Int := if neg then -((m * k : Nat) : Int) else (m * k : Nat)
    some (if 0 ≤ e then n * (2 ^ e.toNat : Nat) else n / (2 ^ (-e).toNat : Nat))
  | _ => none

/-- An FP64 point of the ego frame carried into the navigation frame through a pose (R458). -/
def carry (k : Knot) (px py : Nat) : Nat × Nat :=
  let mul (a b : Nat) : Nat := (lseMul .rne a b).pat
  let c := (lseCos .rne k.yaw).pat
  let s := (lseSin .rne k.yaw).pat
  ((lseAdd .rne k.x (lseSub .rne (mul c px) (mul s py)).pat).pat,
   (lseAdd .rne k.y (lseAdd .rne (mul s px) (mul c py)).pat).pat)

/-- The pose at time `t`: the latest knot not after it, carried on at constant speed and yaw rate (R458). -/
def poseAt (l : List Knot) (t : Nat) : Knot :=
  let k := (l.filter (fun x => decide (x.t ≤ t))).getLast?.getD (l.head?.getD {})
  if k.t < t then { k.shift (t - k.t) with ks := k.ks } else k

/-- |a − k × x| > thr for an FP32 value x, exactly; false for a NaN (R466). -/
def differsBy (a : Int) (k : Nat) (x thr : Nat) : Bool :=
  match fp32.read x with
  | .fin neg m e =>
    let v : Int := if neg then -((m * k : Nat) : Int) else (m * k : Nat)
    if 0 ≤ e then decide (thr < (a - v * (2 ^ e.toNat : Nat)).natAbs)
    else
      let q : Nat := 2 ^ (-e).toNat
      decide (thr * q < (a * q - v).natAbs)
  | .inf _ => true
  | .nan _ => false

/-! ### Cells (Table 14.3) -/

/-- A cell never observed: LOGODDS 0, UNKNOWN, HEIGHT 0, FRESH 3 (R452, R478). -/
def emptyCell : Nat := 0xC200

/-- A cell word. -/
def cellWord (l : Int) (st h fr : Nat) : Nat := ofSigned 8 l + st * 0x100 + h * 0x800 + fr * 0x4000
def cellLog (w : Nat) : Int := toSigned 8 w
def cellState (w : Nat) : Nat := bitsOf w 10 8
def cellHeight (w : Nat) : Nat := bitsOf w 13 11
def cellFresh (w : Nat) : Nat := bitsOf w 15 14

/-- n / 256 rounded to nearest, ties to even. -/
def rne256 (n : Int) : Int :=
  let q := n / 256
  let r := n % 256
  if 128 < r ∨ (r = 128 ∧ q % 2 = 1) then q + 1 else q

/-- Clamped to −127 … 127. -/
def clamp127 (n : Int) : Int := max (-127) (min 127 n)

/-- What one stream says of one cell in an epoch. -/
structure Ev where
  stream : Nat
  cell : Nat
  e : Int
  var : Nat
  h : Nat
  deriving DecidableEq, Repr

/-- The evidence of one stream on one cell, over all its data of the epoch: the sum, with the height and variance of the
surest datum. -/
def addEv (l : List Ev) (x : Ev) : List Ev :=
  match l.find? (fun y => y.stream = x.stream ∧ y.cell = x.cell) with
  | none => l ++ [x]
  | some y =>
    let z : Ev := if x.var < y.var then { x with e := x.e + y.e } else { y with e := x.e + y.e }
    l.map fun q => if q = y then z else q

/-- The gate between two pieces of evidence: d² × 16 > GATE_X16 (R462). -/
def cellBeyond (gate : Nat) (a b : Ev) : Bool :=
  decide ((gate * (a.var + b.var) : Nat) < (16 * (a.e - b.e) * (a.e - b.e)).toNat)

/-- A flat contradiction on a cell. -/
def cellContra (gate : Nat) (a b : Ev) : Bool := cellBeyond gate a b && decide (a.e * b.e < 0)

/-- The outcome of a contradiction (Table 14.4): A loses, B loses, or it stays unresolved. `sides` lists, for each third
source, whether it passes the gate against A and against B. -/
inductive Resolved where
  | aLoses | bLoses | open'
  deriving DecidableEq, Repr

def resolve (sides : List (Bool × Bool)) : Resolved :=
  if sides = [] then .open'
  else if sides.all (fun x => x.1 && !x.2) then .bLoses
  else if sides.all (fun x => !x.1 && x.2) then .aLoses
  else .open'

/-- d² between two detections' positions in mm under the sum of their covariances in cm², as numerator and
denominator. -/
def mahal (dx dy : Int) (sxx syy : Nat) (sxy : Int) : Int × Int :=
  (dx * dx * syy - 2 * dx * dy * sxy + dy * dy * sxx, 100 * ((sxx : Int) * syy - sxy * sxy))

/-- d² × 16 > gate. A degenerate covariance passes no gate. -/
def mahalBeyond (gate : Nat) (q : Int × Int) : Bool := if q.2 ≤ 0 then true else decide ((gate : Int) * q.2 < 16 * q.1)

/-- A detection carried into the grid frame: mm from the navigation origin. -/
structure Placed where
  d : Detection
  x : Int := 0
  y : Int := 0
  deriving DecidableEq, Repr

/-- d² between two placed objects. -/
def placedD2 (a b : Placed) : Int × Int :=
  mahal (a.x - b.x) (a.y - b.y) (a.d.varXX + b.d.varXX) (a.d.varYY + b.d.varYY) (a.d.covXY + b.d.covXY)

/-- d² between a track and a detection. -/
def trackD2 (t : Track) (b : Placed) : Int × Int :=
  mahal (t.x - b.x) (t.y - b.y) (t.varXX + b.d.varXX) (t.varYY + b.d.varYY) (t.covXY + b.d.covXY)

/-- The entry of the cost matrix (R467, step 3): d² × 16 cut to an integer, or infeasible. -/
def trackCost (gate : Nat) (t : Track) (b : Placed) : Nat :=
  let q := trackD2 t b
  if mahalBeyond gate q then 0xFFFF else (16 * q.1 / q.2).toNat

/-- The straight line from cell (256, 256) to (u, v) passes an OCCUPIED cell before it reaches it (R454, step 4).
[log 110 DESIGN CHOICE, unsafe] -/
def behind (occ : Nat → Bool) (u v : Nat) : Bool :=
  let du : Int := (u : Int) - 256
  let dv : Int := (v : Int) - 256
  let m := max du.natAbs dv.natAbs
  (List.range m).any fun k =>
    let at' (d : Int) : Nat := (256 + (2 * d * k + m) / (2 * m : Nat)).toNat
    k ≠ 0 && occ (512 * at' dv + at' du)

/-- Cell index moved by a recentring of (du, dv) cells; none when it leaves the grid. -/
def shiftCell (du dv : Int) (i : Nat) : Option Nat :=
  let u : Int := (i % 512 : Nat) - du
  let v : Int := (i / 512 : Nat) - dv
  if 0 ≤ u ∧ u < 512 ∧ 0 ≤ v ∧ v < 512 then some (512 * v.toNat + u.toNat) else none

/-- The squared distance of a cell from cell (256, 256), in cells. -/
def cellDist2 (i : Nat) : Nat :=
  let du : Int := (i % 512 : Nat) - 256
  let dv : Int := (i / 512 : Nat) - 256
  (du * du + dv * dv).toNat

/-- An epoch's judgement of a class: bound, and lost. -/
structure ClassSt where
  bound : Bool := false
  lost : Bool := false
  deriving DecidableEq, Repr

/-- The raw level and the CAUSES bits of Table 14.5 before the exit count: classes lost by number 1 to 4, a stream LOST and
a stream SUSPECT in a class that is not lost, persistent slip, TSU EXPIRED, ESTATE, persistent conflict.
[log 111 DESIGN CHOICE, unsafe] -/
def rawLevel (lost : Nat → Bool) (sLost sSusp slip expired : Bool) (estate : Nat) (conflict : Bool) : Nat × Nat :=
  let n := b2n (lost 1) + b2n (lost 2) + b2n (lost 3) + b2n (lost 4)
  let base :=
    if (lost 1 && lost 2) || (lost 3 && lost 4) || decide (3 ≤ n) || decide (estate = 3) then 4
    else if n = 2 ∨ estate = 2 then 3
    else if n = 1 then 2
    else if sLost || sSusp || slip || expired then 1 else 0
  let causes := b2n sLost + 2 * b2n sSusp + 4 * b2n slip + 8 * b2n expired + 16 * b2n (lost 1) + 32 * b2n (lost 2)
    + 64 * b2n (lost 3) + 128 * b2n (lost 4) + 256 * b2n (decide (estate = 2)) + 512 * b2n (decide (estate = 3))
    + 1024 * b2n conflict
  (if conflict then max base (min 3 (base + 1)) else base, causes)

/-- The level in force and the exit count after an epoch (R471). -/
def nextLevel (level exitCnt exitEpochs raw : Nat) : Nat × Nat :=
  if level < raw then (raw, 0)
  else if raw < level ∧ level ≠ 4 then (if exitEpochs ≤ exitCnt + 1 then (level - 1, 0) else (level, exitCnt + 1))
  else (level, 0)

/-- The verdict of a stream after an epoch (R460, R464). -/
def nextVerdict (p : List Byte) (warm silent quick empty : Bool) (cells tracks : Nat) (x : Verdict) : Verdict :=
  let n := if empty then x.empty + 1 else 0
  let lost := silent || (empty && (warm || x.lost || (quick && decide (Prof.lostEpochs p ≤ n))))
  if 64 ≤ cells ∨ 1 ≤ tracks then { x with empty := n, lost := lost, suspect := true, clean := 0 }
  else if x.suspect then
    let c := if cells = 0 then x.clean + 1 else 0
    if Prof.exit p ≤ c then { x with empty := n, lost := lost, suspect := false, clean := 0 }
    else { x with empty := n, lost := lost, clean := c }
  else { x with empty := n, lost := lost }

/-- The judgement of a pair after an epoch (R465). -/
def nextPair (p : List Byte) (cells tracks : Nat) (x : PairSt) : PairSt :=
  if 64 ≤ cells ∨ 1 ≤ tracks then
    { x with bad := x.bad + 1, persist := x.persist || decide (4 ≤ x.bad + 1), clean := 0 }
  else if x.persist ∧ Prof.exit p ≤ x.clean + 1 then {}
  else { x with bad := 0, clean := if x.persist then x.clean + 1 else 0 }

namespace State

/-! ### Binding and boundaries -/

/-- KIND of the binding of stream `k`, that of a binding in progress included (R448). -/
def kindOf (s : State) (k : Nat) : Nat :=
  match s.str.bind with
  | some (_, l) => ((l.find? (·.stream = k)).map (·.kind)).getD 0
  | none => ((s.stream k).bound.map (·.kind)).getD 0

/-- A profile read from its descriptor, and checked (R447). -/
def readProfile (s : State) (y : Entry) (e : Nat) (ext : List ExtData) (ups : List Upset) : Status × List Byte × State :=
  let (st, h, s1) := s.readRun (s.stewardOf e) (y.arg 0 8) 256 ext ups
  if st ≠ .ok then (st, [], s1)
  else
    let (st2, d, s2) := s1.readRun (s.stewardOf e) (y.arg 0 8 + 256) (8 * Prof.pairs h) ext ups
    if st2 ≠ .ok then (st2, [], s2)
    else if s2.ward.st = .drive ∧ profileOk s2.kindOf ((s2.driveImg.map (·.epochMs)).getD 50) (h ++ d) then (.ok, h ++ d, s2)
    else (.badArg, [], s2)

/-- Check 6 of FUSE_EPOCH and GRID_EXPORT. -/
def admitFusion (s : State) (y : Entry) (e : Nat) (ext : List ExtData) (ups : List Upset) : Status × State :=
  if e ≠ 1 then (.badArg, s)
  else if y.op = 0x52 then (if s.ward.st = .drive then .ok else .badArg, s)
  else
    let (st, _, s1) := s.readProfile y e ext ups
    if st ≠ .ok then (st, s1) else if s1.fusion.bind.isSome then (.busy, s1) else (.ok, s1)

/-- Tracks and grid start afresh, with the navigation frame (R469). -/
def trackRestart (s : State) : State :=
  ({ s with fusion := { s.fusion with tracks := [], nextId := 1, grid := [], cellU := 0, cellV := 0, restart := true } }).egoRestart

/-- Tracks, grid and judgements start afresh (R469, R480). [log 114 DESIGN CHOICE, unsafe] -/
def fuRestart (s : State) : State :=
  { s with fusion := { s.fusion with verdicts := [], pairs := [], slipRun := 0, slip := false, slipClean := 0, level := 0,
                                     exitCnt := 0 } }.trackRestart

/-- The ring data of the epoch that ends are taken over, before the summaries are closed (R456, R457). -/
def fuTake (s : State) : State :=
  let add (u : List (Nat × List Nat)) (k : Nat) : List (Nat × List Nat) :=
    SMap.set [] u k (SMap.get [] u k ++ (s.stream k).arrivals)
  { s with fusion := { s.fusion with unused := streamIds.foldl add s.fusion.unused } }

/-- The boundary that ends epoch `n` (R479): the epoch's frame falls due. -/
def fuDue (s : State) (n : Nat) : State :=
  if s.fuseRuns then
    { s with fusion := { s.fusion with due := some n, warm := s.fusion.warmNext || s.ward.st == .rouse, warmNext := false } }
  else s

/-- The WSHIFT of WHEEL factors (R466, R490): full weight without slip. -/
def wheelShift (s : State) : Int :=
  match s.fusion.profile with
  | some p => if s.fusion.slip then -(Prof.slipLog p : Int) else 0
  | none => 0

/-- A profile in waiting takes effect at the boundary (R448). -/
def fuBind (s1 : State) : State :=
  match s1.fusion.bind with
  | none => s1
  | some (r, p) =>
    let first := s1.fusion.profile.isNone
    let change := (s1.fusion.profile.map Prof.method) != some (Prof.method p)
    let s2 := { s1 with fusion := { s1.fusion with profile := some p, bind := none } }
    (if first then { s2 with fusion := { s2.fusion with warmNext := true } }.fuRestart
     else if change then s2.trackRestart else s2).finish r .ok 0

/-! ### An epoch -/

/-- The outputs of the epoch's data, complete and valid, of streams with a class (R457, R460).
[log 108 DESIGN CHOICE, safe] -/
def goodNets (p : List Byte) (used : Nat → List Nat) (l : List NetOut) : List NetOut :=
  l.filter fun x => decide (x.stream < 32) && decide (Prof.cls p x.stream ≠ 0) && (used x.stream).contains x.arrival
    && x.complete && !x.invalid

/-- t_d of a datum (R457). -/
def datumTime (p : List Byte) (k arrival : Nat) : Int := (arrival : Int) + Prof.timeOfs p k

/-- The evidence of the epoch, placed in the grid (R458). -/
def placeEvidence (p : List Byte) (knots : List Knot) (cu cv : Int) (l : List NetOut) : List Ev :=
  l.foldl (fun acc x =>
    let k := poseAt knots (datumTime p x.stream x.arrival).toNat
    x.points.foldl (fun acc q =>
      let (gx, gy) := carry k q.x q.y
      match f64Floor gx 5, f64Floor gy 5 with
      | some u, some v =>
        let (a, b) := (u - cu + 256, v - cv + 256)
        if 0 ≤ a ∧ a < 512 ∧ 0 ≤ b ∧ b < 512 then
          addEv acc { stream := x.stream, cell := 512 * b.toNat + a.toNat, e := q.e, var := max 1 q.var, h := q.h % 7 }
        else acc
      | _, _ => acc) acc) []

/-- A detection placed in the grid frame. [log 110 DESIGN CHOICE, unsafe] -/
def placeDet (p : List Byte) (knots : List Knot) (k : Nat) (d : Detection) : Option Placed :=
  let pose := poseAt knots (datumTime p k d.arrival).toNat
  let (gx, gy) := carry pose d.x d.y
  match f64Floor gx 1000, f64Floor gy 1000 with
  | some a, some b => some { d := d, x := a, y := b }
  | _, _ => none

/-- One contradiction: pair index, the item (cell or object slot), the two streams, and its outcome. -/
structure Clash where
  pair : Nat
  item : Nat
  a : Nat
  b : Nat
  out : Resolved
  deriving DecidableEq, Repr

/-- The contradictions on cells (R462, R463). [log 110 DESIGN CHOICE, unsafe] -/
def cellClashes (p : List Byte) (suspect : Nat → Bool) (ev : List Ev) : List Clash :=
  (List.range (Prof.pairs p)).flatMap fun i =>
    let (a, b, q) := Prof.pair p i
    if q ≠ 0 then []
    else (ev.filter (·.stream = a)).filterMap fun x =>
      match ev.find? (fun y => y.stream = b ∧ y.cell = x.cell) with
      | none => none
      | some y =>
        if cellContra (Prof.gate p) x y then
          let third := ev.filter fun z => z.cell = x.cell ∧ z.stream ≠ a ∧ z.stream ≠ b ∧ !suspect z.stream
          some { pair := i, item := x.cell, a := a, b := b,
                 out := resolve (third.map fun z => (!cellBeyond (Prof.gate p) z x, !cellBeyond (Prof.gate p) z y)) }
        else none

/-- The contradictions on objects: `objs` lists (stream, object). -/
def trackClashes (p : List Byte) (suspect : Nat → Bool) (objs : List (Nat × Placed)) : List Clash :=
  (List.range (Prof.pairs p)).flatMap fun i =>
    let (a, b, q) := Prof.pair p i
    if q ≠ 1 then []
    else (objs.filter (·.1 = a)).filterMap fun (x : Nat × Placed) =>
      match objs.find? (fun (y : Nat × Placed) => y.1 = b ∧ y.2.d.slot = x.2.d.slot) with
      | none => none
      | some y =>
        if mahalBeyond (Prof.gate p) (placedD2 x.2 y.2) then
          let third := objs.filter fun (z : Nat × Placed) =>
            z.2.d.slot = x.2.d.slot ∧ z.1 ≠ a ∧ z.1 ≠ b ∧ !suspect z.1
          some { pair := i, item := x.2.d.slot, a := a, b := b,
                 out := resolve (third.map fun z =>
                   (!mahalBeyond (Prof.gate p) (placedD2 z.2 x.2), !mahalBeyond (Prof.gate p) (placedD2 z.2 y.2))) }
        else none

/-- How often stream `k` is outvoted. -/
def outvoted (l : List Clash) (k : Nat) : Nat :=
  (l.filter fun c => (c.out = .aLoses ∧ c.a = k) ∨ (c.out = .bLoses ∧ c.b = k)).length

/-- A contradiction excludes stream `k` from the item. -/
def excludes (l : List Clash) (k item : Nat) : Bool :=
  l.any fun c => c.item = item &&
    ((c.out = .open' && (c.a = k || c.b = k)) || (c.out = .aLoses && c.a = k) || (c.out = .bLoses && c.b = k))

/-- The item stays unresolved. -/
def unresolved (l : List Clash) (item : Nat) : Bool := l.any fun c => c.item = item && c.out = .open'

/-- The evidence that enters the grid (R454, R463, R464): nothing a contradiction excludes, and nothing of a SUSPECT
stream where another admitted stream observed the cell. [log 109 DESIGN CHOICE, unsafe] -/
def admitEvidence (suspect : Nat → Bool) (clashes : List Clash) (ev : List Ev) : List Ev :=
  let l := ev.filter fun x => !excludes clashes x.stream x.cell
  l.filter fun x => !suspect x.stream || !l.any fun y => y.cell = x.cell && y.stream ≠ x.stream && !suspect y.stream

/-- One cell's update (R454) but for OCCLUDED: the new word, given the old one, what streams observed it, the evidence that
enters, and whether it stays unresolved. -/
def updateCell (p : List Byte) (old : Nat) (observed : Bool) (entering : List Ev) (conflict : Bool) : Nat :=
  let dec := rne256 (cellLog old * Prof.decay p)
  let l := clamp127 (if conflict then dec else dec + (entering.map (·.e)).sum)
  let fr := if observed then 0 else min 3 (cellFresh old + 1)
  let best := entering.foldl (fun (b : Option Ev) x => match b with
    | none => some x
    | some y => if x.var < y.var then some x else b) none
  let h := match best with
    | some x => x.h
    | none => cellHeight old
  let st := if conflict then 3 else if fr = 3 then 2 else if (Prof.occThr p : Int) ≤ l then 1
    else if l ≤ -(Prof.freeThr p : Int) then 0 else 2
  cellWord l st h fr

/-- The grid after an epoch, from the recentred grid. -/
def updateGrid (p : List Byte) (grid : List (Nat × Nat)) (ev entering : List Ev) (clashes : List Clash) : List (Nat × Nat) :=
  let keys := ((grid.map (·.1)) ++ ev.map (·.cell)).eraseDups
  let g1 := keys.foldl (fun g i =>
    SMap.set emptyCell g i (updateCell p (SMap.get emptyCell grid i) (ev.any (·.cell = i)) (entering.filter (·.cell = i))
      (unresolved clashes i))) grid
  keys.foldl (fun g i =>
    let w := SMap.get emptyCell g1 i
    if cellFresh w ≠ 3 ∧ cellState w ≠ 3 ∧ !ev.any (·.cell = i)
        ∧ behind (fun j => cellState (SMap.get emptyCell g1 j) = 1) (i % 512) (i / 512) then
      SMap.set emptyCell g i (cellWord (cellLog w) 4 (cellHeight w) (cellFresh w))
    else g) g1

/-- The next identity (§14.7). -/
def bumpId (n : Nat) : Nat := if n = 0xFFFF then 1 else n + 1

/-- A track carried to t_ref (R467, step 1). -/
def predict (epochNs : Nat) (t : Track) : Track :=
  { t with x := t.x + t.vx * epochNs / 100000000, y := t.y + t.vy * epochNs / 100000000, flags := 0, sources := 0,
           age := min 0xFFFF (t.age + 1) }

/-- A track that opens with a detection. -/
def openTrack (id st : Nat) (d : Placed) : Track :=
  { id := id, slot := d.d.slot, st := st, cls := d.d.cls, conf := d.d.conf, hits := 1, x := d.x, y := d.y, vx := d.d.vx,
    vy := d.d.vy, heading := d.d.heading, len := d.d.len, wid := d.d.wid, hgt := d.d.hgt, varXX := d.d.varXX,
    varYY := d.d.varYY, covXY := d.d.covXY, varV := d.d.varV, sources := d.d.sources }

/-- A track updated with its detection: what the network says of the object is taken over; the filtered estimate is free,
since no rule gives the filter (R467, step 5). [log 112 DESIGN CHOICE, safe] -/
def updateTrack (p : List Byte) (t : Track) (d : Placed) (s : State) : Track × State :=
  let (v1, s1) := s.draw
  let (v2, s2) := s1.draw
  let (v3, s3) := s2.draw
  let hits := t.hits + 1
  ({ t with st := if t.st = 0 ∧ hits < Prof.confirm p then 0 else 1, hits := hits, misses := 0, cls := d.d.cls,
            conf := d.d.conf, heading := d.d.heading, len := d.d.len, wid := d.d.wid, hgt := d.d.hgt,
            sources := d.d.sources, slot := d.d.slot, x := toSigned 32 v1, y := toSigned 32 (v1 / 2 ^ 32),
            vx := toSigned 16 v2, vy := toSigned 16 (v2 / 2 ^ 16), varXX := v3 % 2 ^ 16, varYY := v3 / 2 ^ 16 % 2 ^ 16,
            covXY := toSigned 16 (v3 / 2 ^ 32), varV := v3 / 2 ^ 48 % 2 ^ 16 }, s3)

/-- An unassigned track (R467, step 5): kept coasting, or none when it is deleted. [log 112 DESIGN CHOICE, safe] -/
def missTrack (p : List Byte) (t : Track) : Option Track :=
  if t.st = 0 then none
  else if Prof.coast p < t.misses + 1 then none
  else some { t with st := 2, misses := t.misses + 1 }

/-- The ledger's steps 3 to 5 on predicted tracks and admitted detections. A track whose only feasible object stays
contradicted is flagged and predicted only. Without the assignment every track is unassigned, and none is deleted.
[log 112 DESIGN CHOICE, safe] -/
def ledger (s : State) (p : List Byte) (tracks : List Track) (dets : List Placed) (clashes : List Clash)
    (assigned : Bool) : List Track × Nat × State :=
  if !assigned then
    (tracks.map fun t => if t.st = 0 then t else { t with st := 2, misses := min (Prof.coast p) (t.misses + 1) }, s.fusion.nextId, s)
  else
    let a := (bestAssign (fun i c => match tracks[i]?, dets[c]? with
        | some t, some d => trackCost (Prof.gate p) t d
        | _, _ => 0xFFFF) dets.length (Prof.gate p) tracks.length 0 []).map (·.2) |>.getD []
    let (kept, s1) := (tracks.zipIdx).foldl (fun (acc : List Track × State) x =>
      let c := a.getD x.2 0xFFFF
      match dets[c]? with
      | some d =>
        if unresolved clashes d.d.slot then (acc.1 ++ [{ x.1 with flags := 1 }], acc.2)
        else
          let (t, s2) := updateTrack p x.1 d acc.2
          (acc.1 ++ [t], s2)
      | none => match missTrack p x.1 with
        | some t => (acc.1 ++ [t], acc.2)
        | none => acc) ([], s)
    let fresh := (dets.zipIdx).filter fun x => !a.contains x.2 && !unresolved clashes x.1.d.slot
    let (all, id) := fresh.foldl (fun (acc : List Track × Nat) x =>
      if acc.1.length < 512 then
        (acc.1 ++ [openTrack acc.2 (if Prof.confirm p = 1 then 1 else 0) x.1], bumpId acc.2)
      else acc) (kept, s1.fusion.nextId)
    (all, id, s1)

/-- The decoded slots as tracks (R468): an identity lasts while its slot stays occupied. `ev` is the admitted evidence. -/
def latent (p : List Byte) (tracks : List Track) (nextId : Nat) (slots : List Placed) (ev : List Ev) (cu cv : Int) :
    List Track × Nat :=
  (slots.take 512).foldl (fun (acc : List Track × Nat) d =>
    let (u, v) := (d.x / 200 - cu + 256, d.y / 200 - cv + 256)
    let inside := decide (0 ≤ u ∧ u < 512 ∧ 0 ≤ v ∧ v < 512)
    let free := ev.filter fun x => inside && decide (x.cell = 512 * v.toNat + u.toNat) && decide (x.e < 0)
      && decide ((Prof.gate p * x.var : Nat) < (16 * x.e * x.e).toNat)
    let flags := if 2 ≤ free.length then 1 else 0
    match tracks.find? (·.slot = d.d.slot) with
    | some t => (acc.1 ++ [{ openTrack t.id 1 d with age := min 0xFFFF (t.age + 1), flags := flags }], acc.2)
    | none => (acc.1 ++ [{ openTrack acc.2 1 d with flags := flags }], bumpId acc.2)) ([], nextId)

/-- The sources of a detection that count (Table 14.6, R463, R464): none a contradiction excludes or whose class is lost, and a
SUSPECT stream only where no other saw the object. -/
def admitSources (sources : Nat) (out suspect : Nat → Bool) : Nat :=
  let l := streamIds.filter fun k => bitOf sources k && !out k
  let m := l.filter fun k => !suspect k
  ((if m.isEmpty then l else m).map fun k => 2 ^ k).sum

/-- The radius of the reported area in m (Table 14.6); 0 unlimited. [log 161 DESIGN CHOICE, unsafe] -/
def rangeOf (p : List Byte) (level : Nat) (lost : Nat → Bool) : Nat :=
  let l := ([1, 2, 3, 4].filter lost).map (Prof.l2Range p)
  let l := if level = 3 then Prof.nearM p :: l else l
  if level = 2 ∨ level = 3 then l.foldl (fun m x => if m = 0 then x else min m x) 0 else 0

/-- A track record (Table 14.8), relative to the ego point. -/
def trackBytes (ex ey : Int) (suspect : Nat) (t : Track) : List Byte :=
  leBytes 2 t.id ++ leBytes 1 t.st ++ leBytes 1 (t.flags % 2 + 2 * b2n (decide (t.sources &&& suspect ≠ 0)))
    ++ leBytes 1 t.cls ++ leBytes 1 t.conf ++ leBytes 2 t.age ++ leBytes 4 (ofSigned 32 (t.x - ex))
    ++ leBytes 4 (ofSigned 32 (t.y - ey)) ++ leBytes 2 (ofSigned 16 t.vx) ++ leBytes 2 (ofSigned 16 t.vy)
    ++ leBytes 2 (ofSigned 16 t.heading) ++ leBytes 2 t.len ++ leBytes 2 t.wid ++ leBytes 2 t.hgt ++ leBytes 2 t.varXX
    ++ leBytes 2 t.varYY ++ leBytes 2 (ofSigned 16 t.covXY) ++ leBytes 2 t.varV ++ leBytes 4 t.sources ++ leBytes 8 0

/-- Tracks in ascending identity, wrapped from the oldest: those above the next identity come first. -/
def trackOrder (nextId : Nat) (l : List Track) : List Track :=
  let key (t : Track) : Nat := if nextId ≤ t.id then t.id else t.id + 0x10000
  l.mergeSort (fun a b => decide (key a ≤ key b))

/-- The grid as the frame shows it: cells beyond the radius are UNKNOWN with FRESH 3. [log 161 DESIGN CHOICE, unsafe] -/
def shownGrid (range : Nat) (g : List (Nat × Nat)) : List (Nat × Nat) :=
  if range = 0 then g else g.filter fun c => decide (cellDist2 c.1 ≤ 25 * range * range)

/-- The grid's bytes. -/
def gridBytes (g : List (Nat × Nat)) : List Byte :=
  (List.range (512 * 512)).flatMap fun i => leBytes 2 (SMap.get emptyCell g i)

/-- What the frame's header says besides the state. -/
structure FrameHdr where
  epoch : Nat
  validity : Nat
  flags : Nat := 0
  causes : Nat := 0
  range : Nat := 0
  statuses : List Byte := []
  deriving DecidableEq, Repr

/-- The ego point in mm, heading and speeds at t_ref. -/
def egoFields (k : Knot) (cu cv : Int) : List Byte :=
  let mm (v : Nat) (c : Int) : Nat := (((f64Floor v 1000).getD 0) - 200 * c).toNat
  let i16 (x : Nat) (f : Nat) : Nat := (lseToInt 16 .rne (lseMul .rne x (f64Int f)).pat).pat
  leBytes 4 (mm k.x cu) ++ leBytes 4 (mm k.y cv) ++ leBytes 4 (lseToInt 32 .rne (lseMul .rne k.yaw (f64Int 1000000)).pat).pat
    ++ leBytes 2 (i16 k.vx 100) ++ leBytes 2 (i16 k.vy 100) ++ leBytes 2 (i16 k.w 1000) ++ leBytes 14 0

/-- The payload of a frame (Table 14.7). -/
def framePayload (p : List Byte) (h : FrameHdr) (tRef : Nat) (cu cv : Int) (ego : Knot) (g : List (Nat × Nat))
    (tracks : List (List Byte)) : List Byte :=
  leBytes 4 h.epoch ++ leBytes 1 h.validity ++ leBytes 1 (Prof.method p) ++ leBytes 2 h.flags ++ leBytes 8 tRef
    ++ leBytes 4 h.causes ++ leBytes 2 tracks.length ++ leBytes 2 h.range ++ leBytes 4 (ofSigned 32 cu)
    ++ leBytes 4 (ofSigned 32 cv) ++ egoFields ego cu cv ++ h.statuses ++ leBytes 32 0 ++ gridBytes g ++ tracks.flatten

/-- A frame leaves (R433, R477): payload, then header, then the vector; held back when it does not read back. -/
def sendFrame (s : State) (p : List Byte) (n : Nat) (payload : List Byte) (readBack : Bool) (ext : List ExtData)
    (ups : List Upset) : State :=
  let a := Prof.outBase p + Prof.slotBytes p * (n % max 1 (Prof.outSlots p))
  let (h, s1) := s.outbound (Prof.dataId p) payload
  let (st, s2) := s1.writeRun (.fusion 1) (a + 24) payload ext ups
  if !readBack then s2.holdBack
  else if st = .ok ∨ st = .poisoned then
    let (st2, s3) := s2.writeRun (.fusion 1) a h ext ups
    if st2 = .ok ∨ st2 = .poisoned then s3.raise (Prof.irq p) else s3
  else s2

/-- The fusion of the epoch that is due, and its frame (R454 to R477). An input that is not complete is late (R474).
[log 108 DESIGN CHOICE, safe; 109 DESIGN CHOICE, unsafe] -/
def fuEpoch (s : State) (inp : FusionIn) (ext : List ExtData) (ups : List Upset) : State :=
  match s.fusion.due, s.fusion.profile with
  | some n, some p =>
    let f := s.fusion
    let e := s.epochNs
    let tRef := (n + 1) * e
    let warm := f.warm
    -- data of the epoch (R457)
    let old (k : Nat) : List Nat := (SMap.get [] f.unused k).filter fun a => datumTime p k a < (tRef : Int) - 2 * e
    let used (k : Nat) : List Nat :=
      (SMap.get [] f.unused k).filter fun a => (tRef : Int) - 2 * e ≤ datumTime p k a ∧ datumTime p k a < tRef
    let rest (k : Nat) : List Nat := (SMap.get [] f.unused k).filter fun a => (tRef : Int) ≤ datumTime p k a
    let tooOld := (streamIds.map fun k => if Prof.cls p k = 0 then 0 else (old k).length).sum
    let unused := streamIds.foldl (fun u k => SMap.set [] u k (rest k)) f.unused
    let nets := goodNets p used inp.nets
    let missing (k : Nat) : Bool := decide (0 < (s.stream k).closed.written) && !nets.any (·.stream = k)
    let excluded := streamIds.any fun k => Prof.cls p k ≠ 0 && missing k
    -- ego-motion (R458, R459)
    let egoHere := (s.lse.ego.map (·.recEpoch)) == some (n + 1)
    let egoLate := s.lse.ego.isSome && !egoHere
    let lateNets := streamIds.filter fun k => Prof.cls p k ≠ 0 && !(used k).isEmpty
      && !inp.nets.any fun x => decide (x.stream = k) && (used k).contains x.arrival && x.complete
    let lateCount := lateNets.length + b2n egoLate + b2n (Prof.method p = 0 && !inp.assigned)
    let estate := (s.lse.ego.map (·.estate)).getD 0
    let knots := (s.lse.ego.map (·.knots)).getD [{}]
    let ego := poseAt knots tRef
    let cu := (f64Floor ego.x 5).getD 0
    let cv := (f64Floor ego.y 5).getD 0
    -- evidence and contradictions (R462 to R465)
    let wasSuspect (k : Nat) : Bool := (SMap.get {} f.verdicts k).suspect
    let ev := placeEvidence p knots cu cv nets
    let clashes := cellClashes p wasSuspect ev
    let objs := nets.flatMap fun x => x.objects.filterMap fun d => (placeDet p knots x.stream d).map fun o => (x.stream, o)
    let tclashes := trackClashes p wasSuspect objs
    let verdict (k : Nat) : Verdict :=
      let empty := (s.stream k).closed.written = 0 || !nets.any (·.stream = k)
      let quick := match (s.stream k).bound with
        | some r => decide (r.periodUs * 1000 ≤ e)
        | none => false
      nextVerdict p warm (s.stream k).closed.silent quick empty (outvoted clashes k) (outvoted tclashes k)
        (SMap.get {} f.verdicts k)
    let bound (k : Nat) : Bool := decide (Prof.cls p k ≠ 0)
    let vs := streamIds.map fun k => if bound k then verdict k else {}
    let v (k : Nat) : Verdict := vs.getD k {}
    let lost (c : Nat) : Bool :=
      let m := Prof.members p c
      !m.isEmpty && decide ((m.filter fun k => !(v k).lost && !(v k).suspect).length < Prof.minStreams p c)
    let pairs := (List.range (Prof.pairs p)).map fun i =>
      let q := (Prof.pair p i).2.2
      let open' (l : List Clash) : Nat := (l.filter fun c => c.pair = i ∧ c.out = .open').length
      nextPair p (if q = 0 then open' clashes else 0) (if q = 1 then open' tclashes else 0) (SMap.get {} f.pairs i)
    -- slip (R466)
    let imuV := (s.lse.ego.map (·.imuV)).getD fp32.nanPat
    let imuW := (s.lse.ego.map (·.imuW)).getD fp32.nanPat
    let wheels := (Prof.members p 4).any fun k => decide (0 < (s.stream k).closed.written)
    let slipNow := wheels && (differsBy inp.wheelV 100 imuV (Prof.slipV p) || differsBy inp.wheelW 1000 imuW (Prof.slipW p))
    let slipRun := if slipNow then f.slipRun + 1 else 0
    let slipClean := if slipNow then 0 else f.slipClean + 1
    let slip := slipNow || (f.slip && decide (slipClean < Prof.exit p))
    let epochMs := max 1 (e / 1000000)
    let slipLong := decide ((2000 + epochMs - 1) / epochMs ≤ slipRun)
    -- level (R470, R471)
    let inKept (g : Verdict → Bool) : Bool := streamIds.any fun k => bound k && g (v k) && !lost (Prof.cls p k)
    let (raw, causes0) := rawLevel lost (inKept (·.lost)) (inKept (·.suspect)) slipLong (s.tsu.st = 3)
      (if egoHere then estate else 0) (pairs.any (·.persist))
    let (level, exitCnt) := nextLevel f.level f.exitCnt (Prof.exit p) raw
    let causes := causes0 + 2048 * b2n (decide (0 < exitCnt))
    -- grid (R452, R454, R455)
    let kept := f.grid.filter fun c => !inp.poisoned.contains c.1
    let recentred := kept.foldl (fun g c => match shiftCell (cu - f.cellU) (cv - f.cellV) c.1 with
      | some i => SMap.set emptyCell g i c.2
      | none => g) []
    let entering := admitEvidence (fun k => (v k).suspect) clashes ev
    let grid := updateGrid p recentred ev entering clashes
    -- tracks (R467, R468)
    let dets0 := inp.detections.filterMap fun d =>
      let src := admitSources d.sources (fun k => excludes tclashes k d.slot || lost (Prof.cls p k)) fun k => (v k).suspect
      if src = 0 ∧ !unresolved tclashes d.slot ∧ Prof.method p = 0 then none
      else placeDet p knots ((streamIds.find? (bitOf d.sources)).getD 0) { d with sources := src }
    let dropped := decide (Prof.method p = 0 ∧ 512 < dets0.length)
    let dets := if dropped then (dets0.mergeSort fun a b => decide (b.d.conf ≤ a.d.conf)).take 512 else dets0
    let (tracks, nextId, s1) :=
      if Prof.method p = 0 then s.ledger p (f.tracks.map (predict e)) dets tclashes inp.assigned
      else
        let (t, i) := latent p f.tracks f.nextId dets entering cu cv
        (t, i, s)
    -- statuses (R461)
    let masked (k : Nat) : Bool := Prof.method p = 1 && bound k && ((v k).suspect || lost (Prof.cls p k))
    let status (k : Nat) : Nat :=
      if !bound k then 0 else if masked k then 5 else if (v k).lost then 3 else if (v k).suspect then 2
      else if slip && Prof.cls p k = 4 then 4 else 1
    let suspects := (streamIds.map fun k => b2n (v k).suspect * 2 ^ k).sum
    let isLate := decide (0 < lateCount)
    let range := rangeOf p level lost
    let conflict := (grid.any fun c => cellState c.2 = 3) || tracks.any (fun t => t.flags % 2 = 1)
    let ex := (f64Floor ego.x 1000).getD 0
    let ey := (f64Floor ego.y 1000).getD 0
    let inRange (t : Track) : Bool :=
      range = 0 || decide (((t.x - ex) * (t.x - ex) + (t.y - ey) * (t.y - ey)).toNat ≤ 1000000 * range * range)
    let reused := egoHere && (estate = 1 || estate = 2)
    let validity := if level = 4 then 3 + 4 * 4 else if reused || isLate then 2 + 4 * level
      else (if level = 0 then 0 else 1) + 4 * level
    let flags := b2n f.restart + 2 * b2n reused + 4 * b2n (decide (s.tsu.st ≠ 1)) + 8 * b2n (decide (level = 3))
      + 16 * b2n isLate + 32 * b2n conflict + 64 * b2n excluded
    let shown := shownGrid range grid
    let recs := (trackOrder nextId (tracks.filter inRange)).map (trackBytes ex ey suspects)
    let f' : Fusion := { f with due := none, warm := false, restart := f.restart && warm, grid := grid, cellU := cu, cellV := cv,
                                verdicts := streamIds.foldl (fun m k => SMap.set {} m k { v k with status := status k }) f.verdicts,
                                pairs := (pairs.zipIdx).foldl (fun m x => SMap.set {} m x.2 x.1) [],
                                slipRun := slipRun, slip := slip, slipClean := slipClean, level := level,
                                exitCnt := exitCnt, tracks := tracks, nextId := nextId, unused := unused,
                                masked := (streamIds.map fun k => b2n (masked k) * 2 ^ k).sum }
    let s2 := { s1 with fusion := f' }
    let s3 := s2.bumpBy Reg.fuCnt 19 16 tooOld
    let s4 := if dropped then s3.bump Reg.fuCnt 23 20 else s3
    let s5 := if inp.poisoned = [] then s4 else s4.bump Reg.fuCnt 31 24
    let s6 := s5.bumpBy Reg.fuCnt 15 8 lateCount
    if warm then s6
    else
      let h : FrameHdr := { epoch := n, validity := validity, flags := flags, causes := causes, range := range,
                            statuses := streamIds.flatMap fun k => leBytes 1 (status k) }
      let s7 := s6.sendFrame p n (framePayload p h tRef cu cv ego shown recs) inp.readBack ext ups
      let s8 := { s7 with fusion := { s7.fusion with shown := shown, causes := causes, lastEpoch := n, validity := validity,
                                                     committed := true } }
      let s9 := if validity % 4 = 2 then s8.bump Reg.fuCnt 7 0 else s8
      if level = 4 then s9.post { fault := .fusionL4, attr := .device, gsk := 101 } else s9
  | _, _ => s

/-- The frame of an epoch in HALT (R600): every cell UNKNOWN, no tracks, the CAUSES of the last frame. -/
def haltFrame (s : State) (n : Nat) (readBack : Bool) (ext : List ExtData) (ups : List Upset) : State :=
  match s.fusion.profile with
  | none => s
  | some p =>
    let h : FrameHdr := { epoch := n, validity := 0x13, causes := s.fusion.causes, statuses := leBytes 32 0 }
    let s1 := s.sendFrame p n (framePayload p h ((n + 1) * s.epochNs) 0 0 {} [] []) readBack ext ups
    { s1 with fusion := { s1.fusion with lastEpoch := n, validity := 0x13, shown := [] , due := none } }

/-- Committing what is due: the fusion of a running epoch, or the frame of HALT. -/
def fuCommit (s : State) (inp : FusionIn) (ext : List ExtData) (ups : List Upset) : State :=
  match s.fusion.due with
  | none => s
  | some n => if s.ward.st = .halt then s.haltFrame n inp.readBack ext ups else s.fuEpoch inp ext ups

end State

open State

/-- FUSE_EPOCH (R447, R448): the profile is read and checked, and waits for the next epoch boundary. -/
def execFuseEpoch (r : EntryRef) (ext : List ExtData) (upsets : List Upset) (s : State) : Out :=
  match s.running r 1 0x51 with
  | none => .next s
  | some y =>
    if s.fusion.bind.isSome then .next (s.finish r .busy 0)
    else
      let (st, p, s1) := s.readProfile y r.encl ext upsets
      if st = .ok then .next { s1 with fusion := { s1.fusion with bind := some (r, p) } } else .next (s1.finish r st 0)

/-- FUSION_FRAME_COMMIT (R454 to R477): the epoch that is due is fused and its frame committed. In HALT the frame is due at
its deadline only (R600). -/
def execFusionFrameCommit (inp : FusionIn) (ext : List ExtData) (upsets : List Upset) (s : State) : Out :=
  if s.ward.st = .halt then .next s else .next (s.fuCommit inp ext upsets)

/-- FRAME_DEADLINE (R474, R600): the deadline passes; what is not complete is late. -/
def execFrameDeadline (inp : FusionIn) (ext : List ExtData) (upsets : List Upset) (s : State) : Out :=
  match s.fusion.due, s.fusion.profile with
  | some n, some p =>
    .next ((s.elapseToTsu ((n + 1) * s.epochNs + Prof.deadlineMs p * 1000000)).fuCommit inp ext upsets)
  | _, _ => .next s

/-- GRID_EXPORT (R478): the grid of the last committed frame, row by row, cells outside the grid as never observed.
[log 113 DEDUCED, unsafe] -/
def execGridExport (r : EntryRef) (ext : List ExtData) (upsets : List Upset) (s : State) : Out :=
  match s.running r 1 0x52 with
  | none => .next s
  | some y =>
    let (st, d, s1) := s.readRun (s.stewardOf r.encl) (y.arg 0 8) 20 ext upsets
    if st ≠ .ok then .next (s1.finish r st 0)
    else
      let g (i : Nat) : Nat := fieldAt d (8 + 2 * i) 2
      let bytes := (List.range (g 3)).flatMap fun j => (List.range (g 2)).flatMap fun i =>
        let (u, v) := (g 0 + i, g 1 + j)
        leBytes 2 (if u < 512 ∧ v < 512 then SMap.get emptyCell s1.fusion.shown (512 * v + u) else emptyCell)
      let (st2, s2) := s1.writeRun (.fusion 1) (fieldAt d 0 8) bytes ext upsets
      let s3 := s2.contribute r .ok (s2.fusion.validity % 4) 0 (g 2 ≠ 0 ∧ g 3 ≠ 0)
      .next (s3.finish r st2 0)

/-- FU_CNT_CLR (R484). -/
def execFuCntClr (who : Requester) (s : State) : Out :=
  .next (s.regCmd who .write Reg.fuCntClr fun t => t.inStates who Reg.fuCntClr .dss true fun u =>
    (.ok, 0, u.setReg Reg.fuCnt 0))

end Sys2Proof.Machine
end

