-- ==== Sys2Proof/Machine/Mover.lean ====
section
/-! DEFINITION. The movers (§7.3 to §7.6, §11.7): channel leases and pages, descriptors, transposition, poison, and
completion records. -/

namespace Sys2Proof.Machine

namespace State

/-! ### Channel pages (Tables 7.7 to 7.9) -/

def chRing (s : State) (m c : Nat) : Nat :=
  (s.reg (Reg.moverPage m c + 8)).toNat + (s.reg (Reg.moverPage m c + 0xC)).toNat * 2 ^ 32
def chCmpl (s : State) (m c : Nat) : Nat :=
  (s.reg (Reg.moverPage m c + 0x10)).toNat + (s.reg (Reg.moverPage m c + 0x14)).toNat * 2 ^ 32
/-- 2^n entries of the ring. -/
def chSize (s : State) (m c : Nat) : Nat := 2 ^ s.fld (Reg.moverPage m c + 0x18) 3 0
/-- TAIL taken modulo 2^n (R255). -/
def chTail (s : State) (m c : Nat) : Nat := s.fld (Reg.moverPage m c + 0x1C) 11 0 % s.chSize m c

/-! ### Completion records and stopping (R257 to R259) -/

/-- The signal of NOTIFY to the holder of the channel lease (R307): the PCIe block raises the enclosure's vector, a
steward or a tile takes it as an event, any other block discards it. -/
def moverSignal (s : State) (m c : Nat) : State :=
  let x := s.mchan m c
  if x.lease.gsk = 111 then s.raise (s.fld (Reg.qblk (x.encl - 1)) 7 0)
  else if x.lease.gsk < 64 ∨ (96 ≤ x.lease.gsk ∧ x.lease.gsk < 100) then
    { s with moverEvents := s.moverEvents ++ [(x.lease.gsk, m, c)] }
  else s

/-- After its record: HEAD advances, the last code shows, and the holder is signalled when the descriptor asks for it. -/
def recordEnds (m c : Nat) (r : Running) (x : Status × State) : Status × State :=
  let t := x.2.modMchan m c fun y =>
    { y with head := (y.head + 1) % x.2.chSize m c, lastStatus := r.status.code, cur := none }
  (x.1, if bitOf r.flags 2 then t.moverSignal m c else t)

/-- The completion record of one descriptor (Table 7.3), then HEAD advances and the holder is signalled. A denied record
write leaves the channel to stop: its code is answered. -/
def chRecord (s : State) (m c : Nat) (r : Running) (ups : List Upset) : Status × State :=
  let x := s.mchan m c
  let rec_ := leBytes 8 (r.tag % 2 ^ 16 + r.status.code * 2 ^ 16 + b2n r.poison * 2 ^ 24 + min r.units (2 ^ 32 - 1) * 2 ^ 32)
  recordEnds m c r (s.requestWriteP (.mover m c) (s.chCmpl m c + 8 * (x.head % s.chSize m c)) rec_
    (List.replicate 8 false) [] ups)

/-- TAG and FLAGS of a ring entry as read. -/
def peekEnds (x : Status × List Byte × State) : Nat × Nat × State :=
  if x.1 = .ok then (fieldAt x.2.1 4 2, fieldAt x.2.1 1 1, x.2.2) else (0, 0, x.2.2)

/-- TAG and FLAGS of the descriptor at HEAD, for a record written without executing it (R258); zero where the ring entry
is not readable. [log 65 DESIGN CHOICE, unsafe] -/
def chPeek (s : State) (m c : Nat) (ups : List Upset) : Nat × Nat × State :=
  let x := s.mchan m c
  peekEnds (s.readRun (.mover m c) (s.chRing m c + 64 * (x.head % s.chSize m c)) 64 [] ups)

/-- One queued descriptor completes with a code. -/
def flushOne (m c : Nat) (code : Status) (ups : List Upset) (x : Nat × Nat × State) : State :=
  (x.2.2.chRecord m c { tag := x.1, flags := x.2.1, status := code } ups).2

/-- Completing the queued descriptors up to TAIL with one code (R258). [log 65 DESIGN CHOICE, unsafe] -/
def chFlush (s : State) (m c : Nat) (code : Status) (ups : List Upset) : Nat → State
  | 0 => s
  | n + 1 =>
    if (s.mchan m c).head = s.chTail m c then s
    else (flushOne m c code ups (s.chPeek m c ups)).chFlush m c code ups n

/-- The channel stops (R258): the queued descriptors complete with the code, HEAD becomes TAIL, STOPPED. -/
def chStop (s : State) (m c : Nat) (code : Status) (ups : List Upset) : State :=
  let s1 := s.chFlush m c code ups 4096
  s1.modMchan m c fun y => { y with st := .stopped, head := s1.chTail m c, cur := none }

/-- The running descriptor and the queued ones end with a code (R258, R259). -/
def chAbort (s : State) (m c : Nat) (code : Status) : State :=
  let x := s.mchan m c
  match x.st, x.cur with
  | .running, some r => (s.chRecord m c { r with status := r.status.worse code } []).2.chStop m c code []
  | .running, none => s.chStop m c code []
  | _, _ => if x.head ≠ s.chTail m c ∧ x.st ≠ .stopped then s.chStop m c code [] else s

/-- The channel lease ends by expiry or seizure (R259, Table 4.9). [log 63 DESIGN CHOICE, unsafe] -/
def chLeaseEnd (s : State) (m c : Nat) (seized : Bool) : State :=
  let x := s.mchan m c
  if !x.lease.held then s
  else
    let s1 := s.modMchan m c fun y => { y with lease := { y.lease with held := false, broken := true, seized := seized } }
    let s2 := s1.chAbort m c (if seized then .leaseSeized else .timeout)
    s2.modMchan m c fun y => { y with st := .stopped }

/-- A lease past its expiry is ended before anything else looks at it (R163). -/
def chLeaseTick (s : State) (m c : Nat) : State :=
  let l := (s.mchan m c).lease
  if l.held ∧ l.until_ ≤ s.upNs then s.chLeaseEnd m c false else s

/-! ### Leases (R254, Table 4.9) -/

/-- The requester is the lease's holder: the block whose gasket index it records, of its enclosure. -/
def holds (s : State) (who : Requester) (l : Lease) : Bool := l.held && l.gsk == gskOf who && l.encl == s.tagOf who

/-- ACQUIRE. [log 63 DESIGN CHOICE, unsafe] -/
def chAcquire (s : State) (who : Requester) (m c : Nat) : Status × Nat × State :=
  let s := s.chLeaseTick m c
  let l := (s.mchan m c).lease
  if l.held then (.busy, 0, s)
  else (.ok, leaseWord l, s.modMchan m c fun y =>
    { y with lease := { held := true, encl := s.tagOf who, gsk := gskOf who, gen := (l.gen + 1) % 2 ^ 16,
                        until_ := s.upNs + s.leaseNs (s.tagOf who) } })

/-- RENEW and RELEASE. -/
def chRenew (s : State) (who : Requester) (m c gen : Nat) (release : Bool) : Status × Nat × State :=
  let s := s.chLeaseTick m c
  let l := (s.mchan m c).lease
  if s.holds who l ∧ l.gen = gen then
    (.ok, 0, s.modMchan m c fun y =>
      { y with lease := if release then { l with held := false } else { l with until_ := s.upNs + s.leaseNs (s.tagOf who) } })
  else if !l.held ∧ l.gen = gen ∧ l.seized then (.leaseSeized, 0, s)
  else if !l.held ∧ l.gen = gen ∧ l.broken then (.timeout, 0, s)
  else (.notFound, 0, s)

/-- A page write has an effect only when it comes from the holder (R254). -/
def byHolder (s : State) (who : Requester) (m c : Nat) (f : State → Status × Nat × State) : Status × Nat × State :=
  let s := s.chLeaseTick m c
  let l := (s.mchan m c).lease
  if s.holds who l then f s else if l.held then (.busy, 0, s) else (.notFound, 0, s)

/-! ### Descriptors (R260 to R267) -/

end State

namespace Desc
def op (d : List Byte) : Nat := fieldAt d 0 1 % 16
def flags (d : List Byte) : Nat := fieldAt d 1 1
def etype (d : List Byte) : Nat := fieldAt d 2 1 % 16
def src (d : List Byte) : Nat := fieldAt d 8 8
def dst (d : List Byte) : Nat := fieldAt d 0x10 8
def rows (d : List Byte) : Nat := fieldAt d 0x18 4
def cols (d : List Byte) : Nat := fieldAt d 0x1C 4
def planes (d : List Byte) : Nat := fieldAt d 0x20 4
def fill (d : List Byte) : Nat := fieldAt d 0x24 4
def srcP (d : List Byte) : Nat := fieldAt d 0x28 8
def dstP (d : List Byte) : Nat := fieldAt d 0x30 8
def srcR (d : List Byte) : Nat := fieldAt d 0x38 4
def dstR (d : List Byte) : Nat := fieldAt d 0x3C 4
def transpose (d : List Byte) : Bool := bitOf (flags d) 0
def srcL (d : List Byte) : Layout := Layout.ofCode (fieldAt d 3 1 % 4)
def dstL (d : List Byte) : Layout := Layout.ofCode (fieldAt d 3 1 / 4 % 4)
end Desc

/-- What a descriptor has come to: its code, whether a destination unit was written poisoned, the bytes written. -/
structure Copied where
  st : Status := .ok
  poison : Bool := false
  bytes : Nat := 0

namespace State

/-- The source goes on: OK or POISONED. -/
def goesOn (st : Status) : Bool := st == .ok || st == .poisoned

/-- Reading one element: its bits and whether its bytes came from a POISONED unit. `at2` is its place in half bytes. -/
def readElem (s : State) (who : Requester) (base at2 es : Nat) (ext : List ExtData) (ups : List Upset) :
    Status × Nat × Bool × State :=
  let a := (base + at2 / 2) % 2 ^ 64
  let n := max 1 (es / 8)
  let (st, d, m, s1) := s.readRunP who a n ext ups
  let v := leNat d
  (st, if es = 4 then (if at2 % 2 = 0 then v % 16 else v / 16) else v, m.any id, s1)

/-- The destination plane as (element index → bits, poison), in the shape after transposition. -/
def srcPlane (s : State) (who : Requester) (d : List Byte) (base : Nat) (ext : List ExtData) (ups : List Upset) :
    Status × List (Nat × Bool) × State :=
  let (r, c, es) := (Desc.rows d, Desc.cols d, elemBits (Desc.etype d))
  let t := Desc.transpose d
  let (dr, dc) := if t then (c, r) else (r, c)
  if Desc.op d = 1 then (.ok, List.replicate (dr * dc) (Desc.fill d % 2 ^ es, false), s)
  else
    (List.range (dr * dc)).foldl (fun (acc : Status × List (Nat × Bool) × State) i =>
      if !goesOn acc.1 then acc
      else
        let (j, k) := (i / dc, i % dc)
        let (sr, sc) := if t then (k, j) else (j, k)
        let (st, v, p, u) := acc.2.2.readElem who base (elemOffset (Desc.srcL d) r c es (Desc.srcR d) sr sc) es ext ups
        (acc.1.worse st, acc.2.1 ++ [(v, p)], u)) (.ok, [], s)

/-- The bytes one destination row of elements makes (R249), each with its poison. -/
def packRow (es : Nat) (l : List (Nat × Bool)) : List (Byte × Bool) :=
  if es = 4 then (List.range ((l.length + 1) / 2)).map fun i =>
    let a := l.getD (2 * i) (0, false)
    let b := l.getD (2 * i + 1) (0, false)
    (BitVec.ofNat 8 (a.1 % 16 + b.1 % 16 * 16), a.2 || b.2)
  else l.flatMap fun x => (leBytes (es / 8) x.1).map fun y => (y, x.2)

/-- Writing one run of destination bytes: those that were written count, and whether one was a poison write (Table 7.3). -/
def writePacked (s : State) (who : Requester) (a : Nat) (l : List (Byte × Bool)) (acc : Copied) (ext : List ExtData)
    (ups : List Upset) : Copied × State :=
  let a := a % 2 ^ 64
  (split a l.length).foldl (fun (x : Copied × State) p =>
    if !goesOn x.1.st then x
    else
      let run := (l.drop (p.1 - a)).take p.2
      let (st, t) := x.2.requestWriteP who (p.1 % 2 ^ 64) (run.map (·.1)) (run.map (·.2)) ext ups
      ({ st := x.1.st.worse st, poison := x.1.poison || (goesOn st && run.any (·.2)),
         bytes := x.1.bytes + (if goesOn st then p.2 else 0) }, t)) (acc, s)

/-- One destination plane (R262): LINEAR rows, or every block or tile with its padding zero. -/
def writePlaneD (s : State) (who : Requester) (d : List Byte) (base : Nat) (vals : List (Nat × Bool)) (acc : Copied)
    (ext : List ExtData) (ups : List Upset) : Copied × State :=
  let es := elemBits (Desc.etype d)
  let (dr, dc) := if Desc.transpose d then (Desc.cols d, Desc.rows d) else (Desc.rows d, Desc.cols d)
  match Desc.dstL d with
  | .linear =>
    (List.range dr).foldl (fun (a : Copied × State) r =>
      if !goesOn a.1.st then a
      else a.2.writePacked who (base + r * Desc.dstR d) (packRow es ((vals.drop (r * dc)).take dc)) a.1 ext ups) (acc, s)
  | l =>
    -- the padded plane, element by element in the order of its bytes
    let total := paddedBytes l dr dc es
    let placed := (List.range (dr * dc)).map fun i => (elemOffset l dr dc es 0 (i / dc) (i % dc), vals.getD i (0, false))
    let half (h : Nat) : Nat × Bool := match placed.find? (fun p => p.1 ≤ h ∧ h < p.1 + es / 4) with
      | some p => (p.2.1 / 16 ^ (h - p.1) % 16, p.2.2)
      | none => (0, false)
    let bytes := (List.range total).map fun i =>
      let a := half (2 * i)
      let b := half (2 * i + 1)
      (BitVec.ofNat 8 (a.1 + 16 * b.1), a.2 || b.2)
    if total = 0 then (acc, s) else s.writePacked who base bytes acc ext ups

/-- Bytes from the plane base that a layout's elements lie in. -/
def planeExtent (l : Layout) (r c es stride : Nat) : Nat :=
  match l with
  | .linear => (r - 1) * stride + (c * es + 7) / 8
  | _ => paddedBytes l r c es

/-- The planes of a source and a destination overlap (Table 7.5). -/
def planesMeet (d : List Byte) (sb db : Nat) : Bool :=
  let es := elemBits (Desc.etype d)
  let (dr, dc) := if Desc.transpose d then (Desc.cols d, Desc.rows d) else (Desc.rows d, Desc.cols d)
  decide (Desc.op d ≠ 1 ∧ sb < db + planeExtent (Desc.dstL d) dr dc es (Desc.dstR d)
    ∧ db < sb + planeExtent (Desc.srcL d) (Desc.rows d) (Desc.cols d) es (Desc.srcR d))

/-- An overlapping plane: each element comes from the source as it was or as the copy has left it, as a free value chooses, so
the destination holds a mix of original and copied elements (Table 7.5). [log 64 DESIGN CHOICE, safe] -/
def mixPlane (s : State) (who : Requester) (d : List Byte) (sb db : Nat) (vals : List (Nat × Bool)) (acc : Copied)
    (ext : List ExtData) (ups : List Upset) : Copied × State :=
  let x := s.writePlaneD who d db vals acc ext ups
  let now := (x.2.srcPlane who d sb ext []).2.1
  let (f, t) := x.2.draw
  let mix := (List.range vals.length).map fun i => if bitOf f i then now.getD i (0, false) else vals.getD i (0, false)
  (x.1, (t.writePlaneD who d db mix {} ext []).2)

/-- COPY and FILL (R261): plane by plane, each plane's reads before its writes. [log 64 DESIGN CHOICE, safe] -/
def copyRun (s : State) (who : Requester) (d : List Byte) (ext : List ExtData) (ups : List Upset) : Copied × State :=
  if Desc.rows d = 0 ∨ Desc.cols d = 0 then ({}, s)
  else
    (List.range (Desc.planes d)).foldl (fun (a : Copied × State) p =>
      if !goesOn a.1.st then a
      else
        let (st, vals, s1) := a.2.srcPlane who d ((Desc.src d + p * Desc.srcP d) % 2 ^ 64) ext ups
        if !goesOn st then ({ a.1 with st := a.1.st.worse st }, s1)
        else
          let sb := (Desc.src d + p * Desc.srcP d) % 2 ^ 64
          let db := (Desc.dst d + p * Desc.dstP d) % 2 ^ 64
          let acc := { a.1 with st := a.1.st.worse st }
          if planesMeet d sb db then s1.mixPlane who d sb db vals acc ext ups
          else s1.writePlaneD who d db vals acc ext ups)
      ({}, s)

/-- KV_WALK (R378). -/
def walkRun (s : State) (who : Requester) (d : List Byte) (ext : List ExtData) (ups : List Upset) : Copied × State :=
  let (first, count, list, pool) := (fieldAt d 0x18 4, fieldAt d 0x1C 4, fieldAt d 0x20 8, fieldAt d 0x28 8)
  let (pageB, sub, subN, step) := (fieldAt d 0x30 4, fieldAt d 0x34 4, fieldAt d 0x38 4, fieldAt d 0x3C 4)
  (List.range count).foldl (fun (a : Copied × State) i =>
    if !goesOn a.1.st then a
    else
      let (st, g8, s1) := a.2.readRun who ((list + 4 * (first + i)) % 2 ^ 64) 4 ext ups
      let g := leNat g8 % 2 ^ 24
      let acc := { a.1 with st := a.1.st.worse st }
      if !goesOn st then (acc, s1)
      else if g = 0xFFFFFF then (acc, s1)
      else
        let (st2, bs, m, s2) := s1.readRunP who ((pool + g * pageB + sub) % 2 ^ 64) subN ext ups
        let acc := { acc with st := acc.st.worse st2 }
        if !goesOn st2 then (acc, s2)
        else s2.writePacked who (Desc.dst d + i * step) (bs.zip m) acc ext ups) ({}, s)

/-- A descriptor's run (R261, R378). -/
def descRun (s : State) (who : Requester) (d : List Byte) (ext : List ExtData) (ups : List Upset) : Copied × State :=
  if Desc.op d = 2 then s.walkRun who d ext ups else s.copyRun who d ext ups

end State

open State

/-- MOVER_CH_LEASE with OPER ACQUIRE (R254). -/
def execMoverLeaseAcquire (who : Requester) (m c : Nat) (s : State) : Out :=
  .next (s.regCmd who .write (Reg.moverPage m c) fun t =>
    let t := t.chLeaseTick m c
    if (t.mchan m c).lease.held then (.busy, 0, t)
    else t.inStates who (Reg.moverPage m c) .dss true fun u => u.chAcquire who m c)

/-- MOVER_CH_LEASE with OPER RENEW (R254). -/
def execMoverLeaseRenew (who : Requester) (m c gen : Nat) (s : State) : Out :=
  .next (s.regCmd who .write (Reg.moverPage m c) fun t =>
    t.inStates who (Reg.moverPage m c) .dss true fun u => u.chRenew who m c gen false)

/-- MOVER_CH_LEASE with OPER RELEASE (R254). -/
def execMoverLeaseRelease (who : Requester) (m c gen : Nat) (s : State) : Out :=
  .next (s.regCmd who .write (Reg.moverPage m c) fun t =>
    t.inStates who (Reg.moverPage m c) .dss true fun u => u.chRenew who m c gen true)

/-- MOVER_DOORBELL (R255): the holder writes TAIL; an IDLE channel with descriptors runs. -/
def execMoverDoorbell (who : Requester) (m c tail : Nat) (s : State) : Out :=
  let k := Reg.moverPage m c + 0x1C
  .next (s.regCmd who .write k fun t => t.byHolder who m c fun u =>
    u.inStates who k .dss (u.fld k 11 0 ≠ tail % 0x1000) fun v =>
      let w := v.setFld k 11 0 tail
      let x := w.mchan m c
      (.ok, 0, if x.st = .idle ∧ x.head ≠ w.chTail m c then w.modMchan m c fun y => { y with st := .running } else w))

/-- The operation that a descriptor of a channel serves: a started entry of the channel's enclosure (R311). -/
def State.servedOp (s : State) (m c : Nat) (op : Option EntryRef) : Option EntryRef :=
  op.filter fun r => (s.mchan m c).encl == r.encl + 1 && match s.entry r with
    | some y => y.started && y.ending.isNone
    | none => false

/-- What a descriptor that ran leaves to its completion. -/
def State.descRuns (m c : Nat) (op : Option EntryRef) (d : List Byte) (x : Copied × State) : State :=
  x.2.modMchan m c fun y =>
    { y with cur := some { tag := fieldAt d 4 2, flags := Desc.flags d, status := x.1.st, poison := x.1.poison, units := x.1.bytes / 64,
                           op := x.2.servedOp m c op } }

/-- The ring entry at HEAD has been read. -/
def State.descBegin (m c : Nat) (op : Option EntryRef) (ext : List ExtData) (ups : List Upset) (x : Status × List Byte × State) : State :=
  if x.1 ≠ .ok then (x.2.2.chRecord m c { status := x.1 } []).2.chStop m c x.1 []
  else if bitOf (Desc.flags x.2.1) 1 ∧ x.2.2.chanOutst m c ≠ 0 then x.2.2
  else descRuns m c op x.2.1 (x.2.2.descRun (.mover m c) x.2.1 ext ups)

/-- DESCRIPTOR_START (R255, R256): the channel reads the descriptor at HEAD and runs it; a FENCE waits until nothing of
the channel is outstanding. A ring entry that is not readable stops the channel. Behind a gasket that is not OPEN the
mover holds its requests (R116); a lease past its expiry has stopped the channel (R259). `op` names the operation that the
descriptor serves. -/
def execDescriptorStart (m c : Nat) (op : Option EntryRef) (ext : List ExtData) (upsets : List Upset) (s : State) : Out :=
  let s := s.chLeaseTick m c
  let x := s.mchan m c
  let g := s.gasket (80 + m)
  if x.st = .running ∧ x.cur = none ∧ x.head ≠ s.chTail m c ∧ x.encl ≠ 0 ∧ g.powered ∧ !g.inReset ∧ g.st = .opened then
    .next (descBegin m c op ext upsets (s.readRun (.mover m c) (s.chRing m c + 64 * (x.head % s.chSize m c)) 64 ext upsets))
  else .next s

/-- What a descriptor adds to the operation it serves (R311, R312). -/
def State.descServed (s : State) (r : Running) (code : Status) : State :=
  match r.op with
  | none => s
  | some o => s.contribute o code (if code = .ok then 0 else ownValidity code) 0 (decide (0 < r.units))

/-- After a descriptor's record: the channel goes on, becomes IDLE at TAIL, or stops. -/
def State.descEnds (m c : Nat) (r : Running) (x : Status × State) : State :=
  let code := if goesOn x.1 then r.status else x.1
  let t := x.2.descServed r code
  if !goesOn code then t.chStop m c code []
  else if (t.mchan m c).head = t.chTail m c then t.modMchan m c fun y => { y with st := .idle }
  else t

/-- DESCRIPTOR_COMPLETE (R257, R258): the record is written, HEAD advances; any code but OK and POISONED, and a record
that may not be written, stop the channel. -/
def execDescriptorComplete (m c : Nat) (s : State) : Out :=
  let s := s.chLeaseTick m c
  let x := s.mchan m c
  match x.st, x.cur with
  | .running, some r =>
    .next (if (s.gasket (80 + m)).st = .opened then descEnds m c r (s.chRecord m c r []) else s)
  | _, _ => .next s

/-- MOVER_RESUME (R258): a STOPPED channel returns to IDLE. -/
def execMoverResume (who : Requester) (m c : Nat) (s : State) : Out :=
  let k := Reg.moverPage m c + 0x20
  .next (s.regCmd who .write k fun t => t.byHolder who m c fun u =>
    u.inStates who k .dss true fun v =>
      let x := v.mchan m c
      -- a TAIL written while STOPPED takes effect now
      let st : ChanSt := if x.head ≠ v.chTail m c then .running else .idle
      (.ok, 0, if x.st = .stopped then v.modMchan m c fun y => { y with st := st } else v))

end Sys2Proof.Machine
end

