-- ==== Sys2Proof/Machine/Lease.lean ====
section
/-! DEFINITION. Leases and their keepers (§4.8): commons lease words, expiry, and seizure orders with what each keeper
does on one (R163 to R168). -/

namespace Sys2Proof.Machine


namespace State

/-! ### Commons lease words (Table 4.8) -/

/-- The word after a grant (Table 4.9). [log 50 DEDUCED, safe] -/
def grantedWord (s : State) (w gsk encl : Nat) : Nat :=
  1 + (encl % 8) * 8 + (gsk % 128) * 0x40 + ((bitsOf w 31 16 + 1) % 2 ^ 16) * 2 ^ 16
    + ((s.upNs + s.leaseNs encl) / 1000 % 2 ^ 32) * 2 ^ 32

/-- The word after a renewal. -/
def renewedWord (s : State) (w encl : Nat) : Nat :=
  w % 2 ^ 32 + ((s.upNs + s.leaseNs encl) / 1000 % 2 ^ 32) * 2 ^ 32

/-- The holder's fields of a lease word name the requester. -/
def wordHeldBy (w gsk encl : Nat) : Bool := bitOf w 0 && bitsOf w 12 6 == gsk % 128 && bitsOf w 5 3 == encl % 8

/-- The operations of Table 4.9. -/
inductive LeaseOp where
  | acquire | renew | release
  deriving DecidableEq, Repr

/-- What a lease atomic finds and leaves (Table 4.9): status, response and the new word. [log 50 DEDUCED, safe] -/
def leaseOutcome (s : State) (op : LeaseOp) (a gsk encl gen w : Nat) : Status × List Byte × Option Nat :=
  match op with
  | .acquire =>
    if bitOf w 0 ∨ 256 ≤ (s.weave.live.filter (fun x => sliceOf x = sliceOf a)).length then
      (.busy, [], none)
    else (.ok, leBytes 8 w, some (s.grantedWord w gsk encl))
  | _ =>
    if wordHeldBy w gsk encl ∧ bitsOf w 31 16 = gen then
      (.ok, [], some (if op = .renew then s.renewedWord w encl else w / 2 * 2))
    else if !bitOf w 0 ∧ bitsOf w 31 16 = gen ∧ bitOf w 2 then (.leaseSeized, [], none)
    else if !bitOf w 0 ∧ bitsOf w 31 16 = gen ∧ bitOf w 1 then (.timeout, [], none)
    else (.notFound, [], none)

/-! ### Seizure (R167) -/

/-- A party as the orders carry it: a gasket index, or 128 + an enclosure. -/
def partyCode : Party → Nat
  | .block g => g
  | .encl e => 128 + e

/-- A holder (block, enclosure) is the party. -/
def isParty (pc gsk encl : Nat) : Bool := if pc < 128 then gsk == pc else encl == pc - 128

/-- A keeper's number among the orders. -/
def keeperIdx : Keeper → Nat
  | .commons k => k % 8
  | .mover m => 8 + m % 16
  | .kv => 24
  | .loom => 25

/-- The order is counted and shown (R177). -/
def countSeizure (s : State) (p : Party) : State :=
  let t := s.bump Reg.leaseStat 15 0
  match p with
  | .block g => t.setFld Reg.leaseStat 22 16 g
  | .encl e => (t.setFld Reg.leaseStat 22 16 0x7F).setFld Reg.leaseStat 25 23 e

/-- The lease word of a waiting append shows how its lease ended. -/
def endWord (s : State) (pid : Nat) (w : Waiter) (seized : Bool) : State :=
  match s.kvEnv pid w.r.encl [] [] with
  | none => s
  | some v => s.kvDo v (KvM.endLease v w.idx fun l => endedWord l seized)

/-- A waiting append loses its lease: the word shows how, the append completes uncommitted (R166, R368). -/
def endAppend (s : State) (pid : Nat) (w : Waiter) (seized : Bool) : State :=
  let st : Status := if seized then .leaseSeized else .timeout
  let p := s.kvPool pid
  let t := (s.setKvPool pid { p with waits := p.waits.filter (· ≠ w) }).endWord pid w seized
  if w.attn then t.attnEnd w.r st else t.finish w.r st 0

/-- A remote page lease at this keeper ends (R563). [log 127 DESIGN CHOICE, unsafe] -/
def endRemote (s : State) (f : RLease → Bool) (seized : Bool) : State :=
  let ls := s.loom.leases.map fun l =>
    if l.held && f l then { l with held := false, broken := true, seized := seized } else l
  { s with loom := { s.loom with leases := ls } }

/-- A collective that loses its barrier lease ends (R566). -/
def endBarrier (s : State) (f : Coll → Bool) (st : Status) : State :=
  let cs := s.loom.colls.map fun c => if c.leaseHeld && f c then { c with leaseHeld := false } else c
  (s.loom.colls.filter (fun c => c.leaseHeld && f c)).foldl (fun t c => t.finish c.r st 0)
    { s with loom := { s.loom with colls := cs } }

/-- What a keeper does on a seizure order (R167): it ends the named leases, setting BROKEN and SEIZED; operations that
wait on them complete with LEASE_SEIZED. -/
def keeperEnds (s : State) (idx pc : Nat) : State :=
  if idx < 8 then
    let s := s.commonsGone
    (s.weave.live.filter (fun a => sliceOf a = idx)).foldl (fun t a =>
      let w := t.rdNat a 8
      if isParty pc (bitsOf w 12 6) (bitsOf w 5 3) then t.endCommons a true else t) s
  else if idx < 24 then
    (List.range 32).foldl (fun t c =>
      let l := (t.mchan (idx - 8) c).lease
      if l.held && isParty pc l.gsk l.encl then t.chLeaseEnd (idx - 8) c true else t) s
  else if idx = 24 then
    (List.range 16).foldl (fun t pid =>
      (t.kvPool pid).waits.foldl (fun t w =>
        if isParty pc (gskOf (t.stewardOf w.r.encl)) w.r.encl then t.endAppend pid w true else t) t) s
  else
    (s.endRemote (fun l => isParty pc 127 l.encl) true).endBarrier
      (fun c => isParty pc (gskOf (s.stewardOf c.r.encl)) c.r.encl) .leaseSeized

/-- Every lease keeper. -/
def keepers : List Nat := List.range 26

/-- A seizure order is sent to every keeper (R167). -/
def seize (s : State) (p : Party) : State :=
  let t := s.countSeizure p
  { t with weave := { t.weave with seizures := t.weave.seizures ++ keepers.map fun i => (i, partyCode p, t.upNs) } }

/-- A seizure order that every keeper performs within its bound, as the steps of a state transition take it. -/
def seizeNow (s : State) (p : Party) : State :=
  keepers.foldl (fun t i => t.keeperEnds i (partyCode p)) (s.countSeizure p)

/-- The keeper's oldest order is performed and acknowledged. [log 52 DESIGN CHOICE, safe] -/
def seizureAct (s : State) (i : Nat) : State :=
  match s.weave.seizures.find? (·.1 = i) with
  | none => s
  | some o =>
    let t := { s with weave := { s.weave with seizures := s.weave.seizures.erase o } }
    t.keeperEnds i o.2.1

end State

open State

/-- LEASE_EXPIRY (R163, R166): the lease's time has come, and its keeper ends it. -/
def execLeaseExpiry (l : LeaseRef) (s : State) : Out :=
  match l with
  | .commons a =>
    .next (if s.weave.live.contains a then (s.elapseTo (s.commonsExpiry a)).endCommons a false else s)
  | .channel m c =>
    let x := (s.mchan (m % 16) (c % 32)).lease
    .next (if x.held then (s.elapseTo x.until_).chLeaseEnd (m % 16) (c % 32) false else s)
  | .page pid idx =>
    match (s.kvPool (pid % 16)).waits.find? (·.idx = idx) with
    | none => .next s
    | some w => .next ((s.elapseTo (w.since + s.leaseNs w.r.encl)).endAppend (pid % 16) w false)
  | .remote i =>
    match s.loom.leases[i]? with
    | none => .next s
    | some x => .next (if x.held then (s.elapseTo x.expiry).endRemote (· == x) false else s)
  | .barrier g r =>
    match s.loom.colls.find? (fun c => c.group = g ∧ c.rank = r ∧ c.leaseHeld) with
    | none => .next s
    | some c => .next ((s.elapseTo c.expiry).endBarrier (· == c) .timeout)

/-- SEIZURE_ORDER (R167): a keeper takes its oldest order. -/
def execSeizureOrder (k : Keeper) (s : State) : Out := .next (s.seizureAct (keeperIdx k))

end Sys2Proof.Machine
end

