-- ==== Sys2Proof/Machine/Weights.lean ====
section
/-! DEFINITION. Weights (chapter 10): leaf files and their checks, key handles and decryption on entry, LEAF_LOAD and its
outcomes, tiers and staging, POUR, bindings and EVICT. -/

namespace Sys2Proof.Machine

/-- SLOT_NOT_READY, SLOT_IN_USE and LEAF_FORMAT (Table 9.9). -/
def slotNotReady : Status := .op 0x28
def slotInUse : Status := .op 0x29
def leafFormat : Status := .op 0x2A

namespace State

/-! ### The weight window (R326) -/

/-- The enclosure's weight window, if it satisfies R326. -/
def weightWindow (s : State) (e : Nat) : Option Window :=
  let k := Reg.qblk e + 4
  if s.fld k 4 4 = 0 then none
  else match (s.windowsOf e).find? (·.index = s.fld k 3 0) with
    | none => none
    | some w => if w.target = 0 ∧ w.can 0 ∧ w.can 1 ∧ (s.ward.st ≠ .steep ∨ w.encrypted) then some w else none

/-- The memory ranges slots hold. -/
def slotRanges (s : State) : List (Nat × Nat) :=
  s.slots.filterMap fun (e : Nat × Slot) => if e.2.size = 0 then none else some (e.2.base, e.2.base + e.2.size)

/-- First fit from the lowest address, in 64 KiB units (R326). -/
def firstFit (s : State) (w : Window) (n : Nat) : Option Nat :=
  let need := roundUp n 0x10000
  let start := roundUp w.base 0x10000
  let fits (a : Nat) : Bool := decide (w.base ≤ a) && decide (a + need ≤ w.base + w.size) &&
    s.slotRanges.all fun r => decide (a + need ≤ r.1) || decide (r.2 ≤ a)
  -- the lowest free place begins at the window or where a slot ends
  let cands := start :: (s.slotRanges.map fun r => roundUp r.2 0x10000)
  (cands.filter fits).foldl (fun m a => match m with
    | none => some a
    | some b => some (min a b)) none

/-! ### The leaf file (Tables 10.2 to 10.4) -/

/-- The segment entries of a header (Table 10.3). -/
def leafSegs (h : List Byte) : List Segment :=
  (List.range (fieldAt h 0x1C 4)).map fun i =>
    let o := 0x100 + 32 * i
    { first := fieldAt h o 4, units := fieldAt h (o + 4) 4, bytes := fieldAt h (o + 8) 4, layer := fieldAt h (o + 0xC) 2,
      cls := fieldAt h (o + 0xE) 1, dst := fieldAt h (o + 0x10) 8 }

/-- Table 10.4, steps 1 to 8: the code of the first failure. A segment of no unit has no BYTES in range.
[log 160 DEDUCED, unsafe] -/
def leafCheck (s : State) (e : Nat) (l : Load) (h : List Byte) : Option Status :=
  let (hdr, nseg, body, slotB) := (fieldAt h 6 2, fieldAt h 0x1C 4, fieldAt h 0x20 8, fieldAt h 0x28 8)
  let segs := leafSegs h
  let bad1 := fieldAt h 0 4 ≠ 0x4641454C || fieldAt h 4 2 ≠ 1 || hdr = 0 || 16 < hdr || nseg = 0 || 1024 < nseg ||
    4096 * hdr < 0x100 + 32 * nseg
  let bad2 := fieldAt h 8 2 ≠ 0x0064 || 0xB1 < fieldAt h 0xA 1
  let prof := fieldAt h 0xB 1
  let bad3 := if s.ward.st = .steep then prof ≠ 2 && prof ≠ 3 else prof ≠ 1 && prof ≠ 3
  let bad4 := fieldAt h 0x18 4 ≠ 0 && fieldAt h 0x18 4 ≠ ((s.imgOf e).map (·.serial)).getD 0
  let bad5 := !allZero (sliceAt h 0x38 200) || (List.range nseg).any fun i =>
    fieldAt h (0x100 + 32 * i + 0xF) 1 ≠ 0 || fieldAt h (0x100 + 32 * i + 0x18) 8 ≠ 0
  let chain := segs.foldl (fun (acc : Nat × Bool) g =>
    (g.first + g.units, acc.2 && g.first == acc.1 && g.units != 0 && decide ((g.units - 1) * 4096 < g.bytes) &&
      decide (g.bytes ≤ g.units * 4096) && decide (g.cls ≤ 1))) (hdr, true)
  let bad6 := !chain.2 || chain.1 ≠ hdr + body
  let bad7 := segs.any (fun g => slotB < g.dst + g.units * 4096) ||
    (List.range segs.length).any fun i => (List.range i).any fun j =>
      let a := segs.getD i {}
      let b := segs.getD j {}
      decide (a.dst < b.dst + b.units * 4096) && decide (b.dst < a.dst + a.units * 4096)
  let bad8 := match s.handle l.handle with
    | some k => k.keyId != fieldAt h 0x30 8
    | none => true
  if bad1 || bad2 || bad3 || bad4 || bad5 || bad6 || bad7 then some leafFormat
  else if bad8 then some .keyUnavailable
  else none

/-- Placement (R337): every segment with its tier (0 DRAM, 1 peer, 2 Caddy) and its place; the DRAM bytes; none when a
PINNED segment or the tier does not fit. [log 88 DESIGN CHOICE, unsafe] -/
def leafPlace (l : Load) (slotBytes : Nat) (segs : List Segment) : Option (List Segment × Nat) :=
  if l.tierMode = 0 then some (segs, slotBytes)
  else
    let r := segs.foldl (fun (acc : List Segment × Nat × Nat × Bool) g =>
      let n := g.units * 4096
      if g.cls = 0 ∨ acc.2.1 + n ≤ l.limit then
        (acc.1 ++ [{ g with dst := acc.2.1 }], acc.2.1 + n, acc.2.2.1, acc.2.2.2 && decide (acc.2.1 + n ≤ l.limit))
      else
        (acc.1 ++ [{ g with tier := l.tierMode, dst := acc.2.2.1 }], acc.2.1, acc.2.2.1 + n, acc.2.2.2)) ([], 0, 0, true)
    let tiered := r.1.filter (·.tier ≠ 0)
    let sizes := tiered.map (·.units * 4096)
    let two := sizes.foldl (fun (m : Nat × Nat) x => if m.1 < x then (x, m.1) else (m.1, max m.2 x)) (0, 0)
    let fits := if l.tierMode = 1 then decide (r.2.2.1 ≤ l.tierBytes) else decide (two.1 + two.2 ≤ l.tierBytes)
    if r.2.2.2 ∧ fits then some (r.1, r.2.1 + if l.tierMode = 2 then l.tierBytes else 0) else none

/-! ### A load's steps (R336 to R338) -/

/-- A model whose slots are both EMPTY becomes unowned (R324, R348). -/
def disown (s : State) (k : Nat) : State :=
  let m := k / 2
  if (s.slot (2 * m)).st = .empty ∧ (s.slot (2 * m + 1)).st = .empty then s.setModel m {} else s

/-- A slot becomes EMPTY: memory, ring and remote lease released. -/
def emptySlot (s : State) (k : Nat) : State :=
  let t := s.setSlot k {}
  let m := t.model (k / 2)
  (if m.ptr = k + 1 then t.setModel (k / 2) { m with ptr := 0 } else t).disown k

/-- The entry of a load. -/
def loadRef (l : Load) : EntryRef := { encl := l.encl, queue := l.queue, seq := l.seq }

/-- Loads that run now. -/
def runningLoads (s : State) : Nat :=
  (s.slots.filter (fun (e : Nat × Slot) => (e.2.load.map (fun l => !l.waits)).getD false)).length

/-- An NVMe read of a load: its header, or a part of a segment (R341, R680). -/
def nvmeRead (s : State) (k seg part units : Nat) : State :=
  let x := s.slot k
  let l := x.load.getD {}
  let lba := l.source + (if seg = 0 then 0 else (x.segs.getD (seg - 1) {}).first + part)
  { s with caddy := { s.caddy with
    outst := s.caddy.outst ++ [{ id := s.caddy.nextId, slot := k, seg := seg, part := part, nsid := l.nsid, lba := lba, units := units,
                                 since := s.upNs }]
    nextId := s.caddy.nextId + 1 } }

/-- NVMe reads of slot `k`'s load that are outstanding. -/
def nvmeHeld (s : State) (k : Nat) : Nat := (s.caddy.outst.filter (·.slot = k)).length

/-- A load meets a failure; LEAF_LOAD_END completes it. -/
def loadFail (s : State) (k : Nat) (st : Status) : State :=
  s.modSlot k fun x => { x with load := x.load.map fun l => { l with fail := l.fail.or (some st) } }

/-- The header units have been read: the checks of Table 10.4, placement and allocation. -/
def loadHeader (s : State) (k : Nat) (h : List Byte) : State :=
  match (s.slot k).load with
  | none => s
  | some l =>
    match s.leafCheck l.encl l h with
    | some st => s.loadFail k st
    | none =>
      match leafPlace l (fieldAt h 0x28 8) (leafSegs h), s.weightWindow l.encl with
      | some (segs, n), some w =>
        match s.firstFit w n with
        | none => s.loadFail k .admitRefused
        | some a =>
          let ringB := if l.tierMode = 2 then l.tierBytes else 0
          s.modSlot k fun x =>
            { x with base := a, size := roundUp n 0x10000, ring := a + n - ringB, ringBytes := ringB,
                     tiered := segs.any (·.tier ≠ 0), tierMode := l.tierMode,
                     lease := if l.tierMode = 1 then l.tierBase else 0, segs := segs, source := l.source, handle := l.handle
                     load := some { l with placed := true, bodyUnits := fieldAt h 0x20 8 } }
      | _, _ => s.loadFail k .admitRefused

/-- Decryption of a segment unit by unit (R331): the tweak is the leaf unit index. -/
def decrypt (s : State) (handle first units : Nat) (ct : List Byte) : List Byte :=
  let key := ((s.handle handle).map (·.key)).getD 0
  (List.range units).flatMap fun i =>
    Aes.xts false key (first + i) ((sliceAt ct (4096 * i) 4096 ++ List.replicate 4096 0).take 4096)

/-- Ciphertext of `n` units of segment `i`, from its unit `part` on, has arrived: decrypted and written to its place (R333, R337,
R342). [log 66 DESIGN CHOICE, unsafe] -/
def loadPart (s : State) (k i part n : Nat) (ct : List Byte) (ext : List ExtData) (ups : List Upset) : State :=
  let x := s.slot k
  match x.load with
  | none => s
  | some l =>
    let g := x.segs.getD i {}
    let dst := (if g.tier = 1 then l.tierBase + g.dst else x.base + g.dst) + 4096 * part
    let (st, s1) := s.writeRun (s.stewardOf l.encl) dst (s.decrypt l.handle (g.first + part) n ct) ext ups
    if st = .ok ∨ st = .poisoned then
      s1.modSlot k fun x => { x with load := x.load.map fun l => { l with unitsDone := l.unitsDone + n } }
    else s1.loadFail k st

/-- A whole segment joins the load; one that stays on the Caddy only counts as loaded. -/
def loadSegment (s : State) (k i : Nat) (ct : List Byte) (ext : List ExtData) (ups : List Upset) : State :=
  let g := (s.slot k).segs.getD i {}
  let t := if g.tier = 2 then s.modSlot k fun x => { x with load := x.load.map fun l => { l with unitsDone := l.unitsDone + g.units } }
    else s.loadPart k i 0 g.units ct ext ups
  t.modSlot k fun x => { x with load := x.load.map fun l => if l.fail.isSome then l else { l with done := l.done ++ [i] } }

/-- A Caddy load issues its next reads, in segment order, while fewer than 64 are outstanding; a segment that stays on the Caddy
needs none (R341, R343). -/
def nvmeIssue (k : Nat) : Nat → State → State
  | 0, s => s
  | fuel + 1, s =>
    let x := s.slot k
    match x.load with
    | none => s
    | some l =>
      if l.fail.isSome ∨ !l.placed ∨ x.segs.length ≤ l.curSeg ∨ 64 ≤ s.nvmeHeld k then s
      else
        let g := x.segs.getD l.curSeg {}
        let at_ (t : State) (i u n : Nat) : State := t.modSlot k fun y =>
          { y with load := y.load.map fun l => { l with curSeg := i, curUnit := u, unitsDone := l.unitsDone + n } }
        if g.tier = 2 then nvmeIssue k fuel (at_ s (l.curSeg + 1) 0 g.units)
        else if g.units ≤ l.curUnit then nvmeIssue k fuel (at_ s (l.curSeg + 1) 0 0)
        else
          let n := min 32 (g.units - l.curUnit)
          nvmeIssue k fuel (at_ (s.nvmeRead k (l.curSeg + 1) l.curUnit n) l.curSeg (l.curUnit + n) 0)

/-- Reads a load may issue at once, with the segments passed on the way. -/
def nvmeFuel (s : State) (k : Nat) : Nat := 65 + 2 * (s.slot k).segs.length

/-- The source address of unit `u` of a leaf in memory. -/
def leafAddr (l : Load) (u : Nat) : Nat := l.source + 4096 * u

/-- A load's header from memory (KIND 0), or the NVMe read of it (KIND 1). -/
def loadBegin (s : State) (k : Nat) (ext : List ExtData) (ups : List Upset) : State :=
  match (s.slot k).load with
  | none => s
  | some l =>
    if l.waits then s
    else if l.kind = 1 then (if s.caddy.ready then s.nvmeRead k 0 0 16 else s.loadFail k .notFound)
    else
      let (st, h0, s1) := s.readRun (s.stewardOf l.encl) (leafAddr l 0) 4096 ext ups
      if st ≠ .ok then s1.loadFail k st
      else
        let n := min 16 (fieldAt h0 6 2)
        let (st2, rest, s2) := if 1 < n then s1.readRun (s1.stewardOf l.encl) (leafAddr l 1) (4096 * (n - 1)) ext ups
          else (.ok, [], s1)
        if st2 ≠ .ok then s2.loadFail k st2 else s2.loadHeader k (h0 ++ rest)

/-- A segment's ciphertext as read: it joins the load, or ends it. -/
def loadCt (k i : Nat) (ext : List ExtData) (ups : List Upset) (x : Status × List Byte × State) : State :=
  if x.1 ≠ .ok then x.2.2.loadFail k x.1 else x.2.2.loadSegment k i x.2.1 ext ups

/-- The body of a leaf in memory, in segment order (KIND 0). [log 90 DESIGN CHOICE, unsafe] -/
def loadBody (s : State) (k : Nat) (ext : List ExtData) (ups : List Upset) : State :=
  (List.range (s.slot k).segs.length).foldl (fun t i =>
    match (t.slot k).load with
    | none => t
    | some l =>
      if l.fail.isSome ∨ !l.placed ∨ l.done.contains i then t
      else
        let g := (t.slot k).segs.getD i {}
        if g.tier = 2 then t.loadSegment k i [] ext ups
        else loadCt k i ext ups (t.readRun (t.stewardOf l.encl) (leafAddr l g.first) (4096 * g.units) ext ups)) s

/-- A load waits no longer once fewer than four run. -/
def loadWake (s : State) (ext : List ExtData) (ups : List Upset) : State :=
  match (s.slots.filter (fun (e : Nat × Slot) => (e.2.load.map (·.waits)).getD false)).foldl
      (fun (m : Option (Nat × Nat)) e =>
        let t := (e.2.load.map (·.since)).getD 0
        match m with
        | none => some (t, e.1)
        | some x => if t < x.1 then some (t, e.1) else m) none with
  | none => s
  | some (_, k) =>
    if s.runningLoads < 4 then
      (s.modSlot k fun x => { x with load := x.load.map fun l => { l with waits := false } }).loadBegin k ext ups
    else s

/-- A load ends with anything but OK (Table 10.6): its memory and tier released, the slot EMPTY, LOAD_FAIL counted. -/
def loadEndBad (s : State) (k : Nat) (l : Load) (st : Status) : State :=
  let wrote := decide (l.unitsDone ≠ 0)
  let s1 := (s.bump (Reg.qblk l.encl + 8) 31 16).emptySlot k
  let s2 := { s1 with caddy := { s1.caddy with outst := s1.caddy.outst.filter (·.slot ≠ k) } }
  let s3 := s2.modEntry (loadRef l) fun y => { y with wrote := y.wrote || wrote }
  s3.finish (loadRef l) st 0

/-! ### Admission -/

/-- The locator's fields (Table 10.5, step 5 of R336). -/
def locatorOk (s : State) (b : List Byte) : Bool :=
  let (kind, tier) := (fieldAt b 0 1, fieldAt b 1 1)
  let (nsid, src, tb, tn, lim) := (fieldAt b 4 4, fieldAt b 8 8, fieldAt b 0x10 8, fieldAt b 0x18 8, fieldAt b 0x20 8)
  let steep := s.ward.st == .steep
  decide (kind ≤ 1) && decide (tier ≤ 2) && fieldAt b 2 2 == 0 && allZero (sliceAt b 0x28 24) &&
  (if kind = 0 then nsid == 0 && src % 4096 == 0 else steep) &&
  (tier == 0 || steep) && (tier != 2 || kind == 1) &&
  (if tier = 1 then tb % 4096 == 0 && s.loomBound tb else tb == 0) &&
  (if tier = 2 then tn % 0x10000 == 0 else if tier = 1 then true else tn == 0) &&
  (lim != 0) == (tier != 0) && lim % 0x10000 == 0

/-- Check 6 of LEAF_LOAD (R336): the code of the first failure, or the locator. -/
def admitLoad (s : State) (y : Entry) (e : Nat) (ext : List ExtData) (ups : List Upset) :
    Except Status (List Byte) × State :=
  let k := y.arg 8 4
  let own := s.slotOwner k
  if 63 < k ∨ (own ≠ 0 ∧ own ≠ s.ownerTag e) then (.error .notFound, s)
  else if (s.weightWindow e).isNone then (.error .badArg, s)
  else
    let x := s.slot k
    if !(x.st = .empty ∨ (x.st = .ready ∧ x.bindings = 0)) then (.error slotInUse, s)
    else
      let (st, b, s1) := s.readRun (s.stewardOf e) (y.arg 0 8) 64 ext ups
      if st ≠ .ok then (.error st, s1)
      else if !s1.locatorOk b then (.error .badArg, s1)
      else match s1.handle (y.arg 12 4) with
        | some h => if h.owner = s1.ownerTag e then (.ok b, s1) else (.error .keyUnavailable, s1)
        | none => (.error .keyUnavailable, s1)

/-- Check 6 of POUR (R345). -/
def pourCheck (s : State) (y : Entry) (e : Nat) : Status :=
  let (m, k) := (y.arg 0 4, y.arg 4 4)
  if 31 < m ∨ (s.model m).owner ≠ s.ownerTag e then .notFound
  else if k / 2 ≠ m then .badArg
  else if (s.slot k).st = .ready ∨ (s.slot k).st = .inForce then .ok else slotNotReady

/-- Check 6 of EVICT (R348). [log 89 DEDUCED, unsafe] -/
def evictCheck (s : State) (y : Entry) (e : Nat) : Status :=
  let k := y.arg 0 4
  if 63 < k ∨ s.slotOwner k ≠ s.ownerTag e then .notFound
  else if (s.slot k).st = .inForce then slotInUse
  else if (s.slot k).st = .loading then slotInUse else .ok

/-- Check 6 of a WGT entry. -/
def admitWgt (s : State) (y : Entry) (e : Nat) (ext : List ExtData) (ups : List Upset) : Status × State :=
  match y.op with
  | 1 => match s.admitLoad y e ext ups with
    | (.ok _, t) => (.ok, t)
    | (.error st, t) => (st, t)
  | 2 => (s.pourCheck y e, s)
  | _ => (s.evictCheck y e, s)

/-! ### Bindings (R344) -/

/-- A batch may bind every model it names. -/
def bindable (s : State) (models : List Nat) : Bool :=
  models.all fun m => (s.model m).ptr ≠ 0 && s.ownerUsable (s.model m).owner && (s.slot ((s.model m).ptr - 1)).st == .inForce

/-- A batch binds the in-force slot of each model it names. -/
def bindModels (s : State) (r : EntryRef) (models : List Nat) : State :=
  let ks := models.map fun m => (s.model m).ptr - 1
  (ks.foldl (fun t k => t.modSlot k fun x => { x with bindings := x.bindings + 1 }) s).modEntry r fun y =>
    { y with bound := y.bound ++ ks }

/-- The bindings of a batch end with it. -/
def unbind (s : State) (y : Entry) : State :=
  y.bound.foldl (fun t k => t.modSlot k fun x => { x with bindings := x.bindings - 1 }) s

/-- A tier that a complete slot depends on is gone (R342): the slot becomes LOST, and its bound batches end with the
code. -/
def loseSlot (s : State) (k : Nat) (st : Status) : State :=
  let x := s.slot k
  if x.st = .ready ∨ x.st = .inForce then
    let s1 := s.setSlot k { x with st := .lost, lease := 0 }
    (List.range 8).foldl (fun t e => queueIds.foldl (fun t q =>
      (t.queue e q).flight.foldl (fun t y =>
        if y.bound.contains k ∧ y.ending.isNone then t.finish { encl := e, queue := q, seq := y.seq } st 0 else t) t) t) s1
  else if x.st = .loading then s.loadFail k st
  else s

/-- A slot's remote lease has ended. -/
def remoteLeaseLost (s : State) (st : Status) (p : Nat → Bool) : State :=
  (List.range 64).foldl (fun t k => if (t.slot k).lease ≠ 0 ∧ p (t.slot k).lease then t.loseSlot k st else t) s

/-- Waiting EVICTs of an entry. -/
def evictDone (s : State) (v : Evict) : State :=
  let s1 := { s with evicts := s.evicts.filter (· ≠ v) }
  (s1.emptySlot v.slot).finish { encl := v.encl, queue := v.queue, seq := v.seq } .ok 0

end State

open State

/-- LEAF_LOAD (R336): admitted again, the slot becomes LOADING and its header is read; a fifth load waits. -/
def execLeafLoad (r : EntryRef) (ext : List ExtData) (upsets : List Upset) (s : State) : Out :=
  match s.running r 2 1 with
  | none => .next s
  | some y =>
    let k := y.arg 8 4
    if ((s.slot k).load.map (fun l => decide (loadRef l = r))).getD false then .next s
    else match s.admitLoad y r.encl ext upsets with
      | (.error st, t) => .next ((t.bump (Reg.qblk r.encl + 8) 31 16).finish r st 0)
      | (.ok b, t) =>
        let l : Load :=
          { encl := r.encl, queue := r.queue, seq := r.seq, kind := fieldAt b 0 1, tierMode := fieldAt b 1 1,
            nsid := fieldAt b 4 4, source := fieldAt b 8 8, tierBase := fieldAt b 0x10 8, tierBytes := fieldAt b 0x18 8,
            limit := fieldAt b 0x20 8, handle := y.arg 12 4, since := t.upNs, waits := decide (4 ≤ t.runningLoads) }
        let m := t.model (k / 2)
        let t1 := t.setModel (k / 2) { m with owner := t.ownerTag r.encl }
        .next ((t1.setSlot k { st := .loading, load := some l }).loadBegin k ext upsets)

/-- LEAF_LOAD_END (R338): the load's outcome. A leaf in memory is read through the decryptor here; a Caddy load ends when
its NVMe reads have completed or failed; an entry that has ended already (rouse, budget, abort) takes its load with it.
[log 90 DESIGN CHOICE, unsafe] -/
def execLeafLoadEnd (k : Nat) (ext : List ExtData) (upsets : List Upset) (s : State) : Out :=
  match (s.slot k).load with
  | none => .next s
  | some l0 =>
    let gone := match s.entry (loadRef l0) with
      | none => true
      | some y => y.ending.isSome
    let code := match s.entry (loadRef l0) with
      | some y => (y.ending.map (·.status)).getD .abortedByRouse
      | none => .abortedByRouse
    if gone then .next ((s.loadEndBad k l0 code).loadWake ext upsets)
    else if l0.waits then .next s
    else
      let s1 := if l0.kind = 0 then s.loadBody k ext upsets else s
      match (s1.slot k).load with
      | none => .next s1
      | some l =>
        match l.fail with
        | some st => .next ((s1.loadEndBad k l st).loadWake ext upsets)
        | none =>
          if l.placed ∧ (if l.kind = 0 then l.done.length = (s1.slot k).segs.length
              else (s1.slot k).segs.length ≤ l.curSeg ∧ s1.nvmeHeld k = 0) then
            .next (((s1.modSlot k fun x => { x with st := .ready, load := none }).finish (loadRef l) .ok 0).loadWake ext upsets)
          else .next s1

/-- Where the next segment of `n` bytes goes in the staging ring, in ring order. -/
def State.ringPlace (x : Slot) (n : Nat) : Nat := if x.ringBytes < x.ringPos + n then 0 else x.ringPos

/-- The places that the segments of a layer will take in the staging ring, each with its size. -/
def State.ringSpans (x : Slot) : List Segment → List (Nat × Nat)
  | [] => []
  | g :: l =>
    let p := ringPlace x (4096 * g.units)
    (p, 4096 * g.units) :: ringSpans { x with ringPos := p + 4096 * g.units } l

/-- A fill that has not completed still reads one of these places of the ring (R343). -/
def State.ringBusy (s : State) (x : Slot) (spans : List (Nat × Nat)) : Bool :=
  s.tiles.any fun (t : Nat × Tile) => t.2.fills.any fun f => spans.any fun p =>
    decide (f.src < x.ring + p.1 + p.2 ∧ x.ring + p.1 < f.src + f.len)

/-- STAGING_COMPLETE (R343): the CADDY_STREAM segments of a layer, read from the Caddy through the decryptor into the
staging ring in ring order, and the layer's fill entries handed to the tiles. Ring space is taken again only after every fill of
the layer it held has completed. A read error ends the batch. -/
def execStagingComplete (k layer : Nat) (r : EntryRef) (fills : List (Nat × FillSpec)) (ext : List ExtData)
    (upsets : List Upset) (s : State) : Out :=
  let x := s.slot k
  let segs := x.segs.filter (fun g => g.layer = layer ∧ g.tier = 2)
  match s.entry r with
  | none => .next s
  | some y =>
    if x.st ≠ .inForce ∧ x.st ≠ .ready ∨ segs.isEmpty ∨ !y.bound.contains k ∨ y.ending.isSome ∨ s.ringBusy x (ringSpans x segs) then
      .next s
    else
      let (st, s1) := segs.foldl (fun (acc : Status × State) g =>
        if acc.1 ≠ .ok then acc
        else if (acc.2.handle x.handle).isNone then (.keyUnavailable, acc.2)
        else
          let (st, ct) := extRead ext ((x.source + g.first) * 4096) (4096 * g.units)
          if st ≠ .ok then (st, acc.2)
          else
            let x1 := acc.2.slot k
            let pos := ringPlace x1 (4096 * g.units)
            let (w, t) := acc.2.writeRun (acc.2.stewardOf r.encl) (x1.ring + pos) (acc.2.decrypt x.handle g.first g.units ct) ext upsets
            (if w = .poisoned then .ok else w, t.modSlot k fun z => { z with ringPos := pos + 4096 * g.units })) (.ok, s)
      if st ≠ .ok then .next (s1.finish r st 0)
      else .next (fills.foldl (fun t f => t.modTile f.1 fun z => addFills z [f.2]) s1)

/-- POUR (R345): the model pointer switches in one step. -/
def execPour (r : EntryRef) (s : State) : Out :=
  match s.running r 2 2 with
  | none => .next s
  | some y =>
    let st := s.pourCheck y r.encl
    let (m, k) := (y.arg 0 4, y.arg 4 4)
    if st ≠ .ok then .next (s.finish r st 0)
    else if (s.slot k).st = .inForce then .next (s.finish r .ok 0)
    else
      let old := (s.model m).ptr
      let s1 := if old = 0 then s else s.modSlot (old - 1) fun x => { x with st := if x.st = .inForce then .ready else x.st }
      let s2 := (s1.modSlot k fun x => { x with st := .inForce }).setModel m { s1.model m with ptr := k + 1 }
      .next ((s2.bump (Reg.qblk r.encl + 8) 15 0).finish r .ok 0)

/-- EVICT (R348): an EMPTY slot completes at once; a READY or LOST one waits for its bindings to end. -/
def execEvict (r : EntryRef) (s : State) : Out :=
  match s.running r 2 3 with
  | none => .next s
  | some y =>
    let st := s.evictCheck y r.encl
    let k := y.arg 0 4
    let v : Evict := { encl := r.encl, queue := r.queue, seq := r.seq, slot := k }
    if st ≠ .ok then .next (s.finish r st 0)
    else if (s.slot k).st = .empty then .next (s.finish r .ok 0)
    else if s.evicts.contains v then .next s
    else if (s.slot k).bindings = 0 then .next (s.evictDone v)
    else .next { s with evicts := s.evicts ++ [v] }

/-- EVICT_RELEASE (R348): a waiting EVICT whose slot has no binding left releases it. -/
def execEvictRelease (k : Nat) (s : State) : Out :=
  match s.evicts.find? (·.slot = k) with
  | none => .next s
  | some v =>
    let ended := match s.entry { encl := v.encl, queue := v.queue, seq := v.seq } with
      | none => true
      | some y => y.ending.isSome
    if ended then .next { s with evicts := s.evicts.filter (· ≠ v) }
    else if (s.slot k).bindings = 0 ∧ (s.slot k).st ≠ .inForce then .next (s.evictDone v)
    else .next s

end Sys2Proof.Machine
end

