-- ==== Sys2Proof/Machine/Gasket.lean ====
section
/-! DEFINITION. Gaskets and block resets (§3.5): draining, sealing, opening, what a forced seal and a reset do to
requests, which writes take effect, and what a block holds after its reset (R116 to R120, R103). -/

namespace Sys2Proof.Machine

namespace State

/-- Every request still addressed to block `g` completes with a code; the block's later responses are discarded and
counted (R116, R118). -/
def failTo (s : State) (g : Nat) (st : Status) : State :=
  let qs := s.weave.outst.filter (·.dst = g)
  (qs.foldl (fun t q => t.respDone q st []) s).bumpBy (Reg.gskStat g) 31 16 qs.length

/-- Requests outstanding to or from block `g`. -/
def gskOutst (s : State) (g : Nat) : Bool :=
  s.weave.outst.any (fun q => q.src = g || q.dst = g)

/-- The gasket enters SEALED. -/
def gskSeal (s : State) (g : Nat) : State := s.modGasket g fun x => { x with st := .sealed }

/-- OPEN to DRAINING; a drain with nothing outstanding seals at DRAIN_COMPLETE. -/
def gskDrain (s : State) (g : Nat) : State :=
  if (s.gasket g).st = .opened then s.modGasket g fun x => { x with st := .draining, since := s.upNs, bound := 0 } else s

/-- A drain the warden begins with a timeout of its own. -/
def gskDrainFor (s : State) (g ns : Nat) : State :=
  if (s.gasket g).st = .opened then s.modGasket g fun x => { x with st := .draining, since := s.upNs, bound := ns } else s

/-- When the drain of a gasket is forced. -/
def drainEnd (s : State) (g : Nat) : Nat :=
  let x := s.gasket g
  x.since + (if x.bound = 0 then 100000 * s.fld (Reg.gskCtl g) 15 8 else x.bound)

/-- The drain timeout ends a drain by force (Table 3.9). [log 129 DESIGN CHOICE, safe] -/
def gskForce (s : State) (g : Nat) : State :=
  ((s.failTo g (if s.ward.st = .rouse then .abortedByRouse else .timeout)).setFld (Reg.gskStat g) 9 9 1).gskSeal g

/-- A drain taken to its end within its bound: forced where requests are outstanding. -/
def gskShut (s : State) (g : Nat) : State :=
  let s1 := s.gskDrain g
  if (s1.gasket g).st = .sealed then s1
  else if s1.gskOutst g then s1.gskForce g else s1.gskSeal g

/-- A SEALED gasket of a powered block out of reset opens. -/
def gskOpen (s : State) (g : Nat) : State :=
  let x := s.gasket g
  if x.st = .sealed ∧ x.powered ∧ !x.inReset then s.setGasket g { x with st := .opened } else s

/-! ### The end of an enclosure abort (Table 4.7 step 5) -/

/-- The gaskets of the enclosure's tiles are all SEALED. -/
def tilesSealed (s : State) (e : Nat) : Bool :=
  (List.range 64).all fun g => s.tileOwner g ≠ e || (s.gasket g).st == .sealed

/-- Every enclosure whose abort waits for its gaskets alone is ABORTED once they are SEALED, and the abort is counted (R176). -/
def abortsEnd (s : State) : State :=
  (List.range 8).foldl (fun t e =>
    let x := t.enclSt e
    if x.st = .aborting ∧ x.closing ∧ t.tilesSealed e then
      (t.setEncl e { st := .aborted }).bump (Reg.enclStat e) 31 16
    else t) s

/-! ### Which blocks serve an enclosure (R120) -/

/-- A window meets the commons slice `k`. -/
def windowOnSlice (w : Window) (k : Nat) : Bool := decide (w.base < commonsBase k + 0x400000 ∧ commonsBase k < w.top)

/-- Block `g` serves enclosure `e`. [log 128 DESIGN CHOICE, unsafe] -/
def serves (s : State) (g e : Nat) : Bool :=
  if g < 64 then s.tileOwner g == e && s.present e
  else if g < 72 then (s.windowsOf e).any (windowOnSlice · (g - 64))
  else if 96 ≤ g ∧ g < 100 then s.present e && bitOf (s.enclRec e).stewards (g - 96)
  else if g = 100 ∨ g = 101 then s.isSafety e && (s.driveImg).isSome
  else false

/-- Block `g` serves a SAFETY enclosure other than 0. -/
def servesSafety (s : State) (g : Nat) : Bool := (List.range 8).any fun e => decide (e ≠ 0) && s.isSafety e && s.serves g e

/-- The states in which Table 3.10 allows a reset of block `g` alone. -/
def resetAllowed (st : DevState) (g : Nat) : Bool :=
  if g < 72 ∨ (80 ≤ g ∧ g < 102) then st == .drive || st == .steep || st == .service
  else if 103 ≤ g ∧ g < 111 then st == .steep || st == .service
  else if 72 ≤ g ∧ g < 80 then st == .service
  else false

/-- A RESET or DRAIN of block `g` takes effect now (R119, R120). -/
def mayReset (s : State) (g : Nat) : Bool := resetAllowed s.ward.st g && (s.ward.st == .service || !s.servesSafety g)
def mayDrain (s : State) (g : Nat) : Bool := s.ward.st == .service || !s.servesSafety g

/-! ### Block reset and power (R118, R119, R103) -/

/-- The entries steward `k` holds, and the loads it runs, end with a code; its queues stop (Table 3.10). -/
def stewardStop (s : State) (k : Nat) (st : Status) : State :=
  (List.range 8).foldl (fun t e =>
    if t.present e ∧ t.stewardOf e = .steward k e then
      let t1 := (List.range 64).foldl (fun u i =>
        if ((u.slot i).load.map (·.encl)) = some e then u.loadFail i st else u) t
      queueIds.foldl (fun u q =>
        if u.fld (Reg.qpage e q + 0x10) 31 31 = 1 then u.setQueue e q { u.queue e q with stopped := true } else u)
        (t1.endAll e st)
    else t) s

/-- What the block was doing ends with a code (§3.5, R605). -/
def blockStop (s : State) (g : Nat) (st : Status) : State :=
  if g < 64 then (s.tileStop g st).modTile g fun x => { x with st := .idle }
  else if 80 ≤ g ∧ g < 96 then
    (List.range 32).foldl (fun t c => t.modMchan (g - 80) c fun x =>
      { x with st := .idle, cur := none, head := t.chTail (g - 80) c }) s
  else if 96 ≤ g ∧ g < 100 then s.stewardStop (g - 96) st
  else if g = 100 then
    let t := s.stopJobs (fun _ => true) st
    (match t.lse.bind with
      | some b => t.finish b.1.r st (solveResult 0 0 4 0)
      | none => t).lseClear
  else if g = 101 then
    let t := match s.fusion.bind with
      | some b => s.finish b.1 st 0
      | none => s
    { t with fusion := { lastEpoch := s.fusion.lastEpoch, validity := s.fusion.validity, causes := s.fusion.causes,
                         committed := s.fusion.committed } }
  else if 103 ≤ g ∧ g < 111 then s.portOff (g - 103)
  else s

/-- R118: a block that is reset or powered down behind a gasket that is not SEALED. -/
def gskCut (s : State) (g : Nat) : State :=
  if (s.gasket g).st = .sealed then s
  else ((s.failTo g .blockReset).setFld (Reg.gskStat g) 8 8 1).gskSeal g

/-- A block reset begins (R118, R119): the gasket cuts, the work ends, the block's leases are seized. -/
def blockReset (s : State) (g : Nat) : State :=
  let s1 := (s.gskCut g).blockStop g .blockReset
  (((s1.modGasket g fun x => { x with inReset := true, since := s.upNs }).setFld (Reg.gskStat g) 31 16 0).seize (.block g)).abortsEnd

/-- The block after its reset (Table 3.10). [log 58 DESIGN CHOICE, safe] -/
def blockFresh (s : State) (g : Nat) : State :=
  if g < 64 then
    let t := s.zeroRange (tileBase g) (tileBase g + 0x200000)
    (t.setListOf (.tsram g) []).setTile g {}
  else if g < 72 then
    let t := s.zeroRange (commonsBase (g - 64)) (commonsBase (g - 64) + 0x400000)
    let u := t.setListOf (.commons (g - 64)) []
    { u with weave := { u.weave with
        live := u.weave.live.filter (fun a => sliceOf a ≠ g - 64), seizures := u.weave.seizures.filter (·.1 ≠ g - 64) } }
  else if g < 80 then
    s.modChan (g - 72) fun c => { c with lost := true, fresh := [], dirty := [], ceTimes := [], ceReported := false }
  else if g < 96 then
    (List.range 32).foldl (fun t c => t.modMchan (g - 80) c fun x => { x with st := .idle }) s
  else if 103 ≤ g ∧ g < 111 ∧ s.ward.st = .steep ∧ s.isLoomPort (g - 103) then s.portUp (g - 103)
  else s

/-- CE and UE of an SRAM array clear on a block reset (R210). -/
def countsClear (s : State) (g : Nat) : State :=
  if g < 64 then s.setFld (Reg.tileEccCnt g) 19 0 0
  else if g < 72 then s.setFld (Reg.cmnEccCnt (g - 64)) 19 0 0
  else s

/-- The block is released; its gasket stays SEALED (R119). -/
def blockRelease (s : State) (g : Nat) : State :=
  (s.blockFresh g).countsClear g |>.modGasket g fun x => { x with inReset := false }

/-- A block is powered down (R103, R118); `quiet` is the first application of the DRIVE image after a reset. -/
def powerDown (s : State) (g : Nat) (quiet : Bool) : State :=
  let down (t : State) : State := t.modGasket g fun x => { x with powered := false }
  if quiet then down (s.gskSeal g)
  else down (((s.gskShut g).blockStop g .blockReset).seize (.block g))

/-- A tile is powered up and its TSRAM initialised (R103). [log 38 DESIGN CHOICE, unsafe] -/
def powerUp (s : State) (g : Nat) : State :=
  (s.blockFresh g).modGasket g fun x => { x with powered := true, inReset := false }

/-- Powering blocks that leave reset. [log 38 DESIGN CHOICE, unsafe] -/
def powerBlocks (s : State) (gs : List Nat) : State :=
  gs.foldl (fun t g => t.modGasket g fun x => { x with powered := true }) s

/-- A GSK register write whose gasket protects a SAFETY block (R120). -/
def gskLocked (s : State) (who : Requester) (g : Nat) : State := s.sysErr 1 (Reg.gskCtl g) (s.tagOf who)

/-- A write to GSK_CTL_g (R119, R120, R133, R702, R731). A RESET or DRAIN that R119 or R120 refuses has no effect and sets
LOCKED_WRITE in every state; the rest follows the state set: DRAIN_TO is stored, RESET acts, then CMD. -/
def gskCtlWrite (s : State) (who : Requester) (g v : Nat) : State :=
  let dest := bitsOf v 15 8
  let reset := bitOf v 4
  let drain := decide (v % 4 = 1)
  let opens := decide (v % 4 = 2)
  let resetOk := decide (g < 119) && s.mayReset g
  let drainOk := decide (g < 119) && s.mayDrain g
  let acts := decide (g < 119) && (decide (dest ≠ s.fld (Reg.gskCtl g) 15 8) || opens || reset && resetOk || drain && drainOk)
  let s1 := if reset && !resetOk || drain && decide (g < 119) && !drainOk then s.gskLocked who g else s
  if !(who = .warden ∨ who = .security ∨ WSet.dss.has s.ward.st) then
    (if acts then s1.sysErr 3 (Reg.gskCtl g) (s.tagOf who) else s1)
  else if 119 ≤ g then s1
  else
    let s2 := if 1 ≤ dest then s1.setFld (Reg.gskCtl g) 15 8 dest else s1
    let s3 := if reset && resetOk then s2.blockReset g else s2
    if drain && drainOk then s3.gskDrain g else if opens then s3.gskOpen g else s3

/-- A command of GSK_CTL_g that leaves DRAIN_TO as it stands. -/
def gskWrite (s : State) (who : Requester) (g cmd : Nat) : State :=
  s.regCmd who .write (Reg.gskCtl g) fun t => (.ok, 0, t.gskCtlWrite who g (t.fld (Reg.gskCtl g) 15 8 * 256 + cmd))

end State

open State

/-- GASKET_DRAIN (R116). -/
def execGasketDrain (who : Requester) (g : Nat) (s : State) : Out := .next (s.gskWrite who (g % 128) 1)

/-- GASKET_OPEN (R116). -/
def execGasketOpen (who : Requester) (g : Nat) (s : State) : Out := .next (s.gskWrite who (g % 128) 2)

/-- BLOCK_RESET (R119, R120). -/
def execBlockReset (who : Requester) (g : Nat) (s : State) : Out := .next (s.gskWrite who (g % 128) 0x10)

/-- GASKET_DRAIN_COMPLETE (R116): nothing is outstanding in either direction. -/
def execGasketDrainComplete (g : Nat) (s : State) : Out :=
  .next (if (s.gasket (g % 128)).st = .draining ∧ !s.gskOutst (g % 128) then (s.gskSeal (g % 128)).abortsEnd else s)

/-- DRAIN_TIMEOUT (R116): DRAIN_TO has elapsed. -/
def execDrainTimeout (g : Nat) (s : State) : Out :=
  let g := g % 128
  .next (if (s.gasket g).st = .draining then
    ((s.elapseTo (s.drainEnd g)).gskForce g).abortsEnd else s)

end Sys2Proof.Machine
end

