-- ==== Sys2Proof/Machine/Loom.lean ====
section
/-! DEFINITION. The loom layer (§17.1 to §17.3): membership as this device sees it, requests sent and held, packets that
pass through, and the tunnel. -/

namespace Sys2Proof.Machine

namespace Reg
def loomVote : Nat := 0x0A0020
def loomTunAddr (k : Nat) : Nat := 0x0A0030 + 4 * k
def loomRreset : Nat := 0x0A0050
def loomCntClr : Nat := 0x0A00F0
def mbox (e off : Nat) : Nat := qblk e + off
end Reg

namespace State

/-! ### This device as a member -/

/-- The device is a member (R548). -/
def isMember (s : State) : Bool :=
  s.ward.st == .steep && (s.loom.st == .member || s.loom.st == .coordinator || s.loom.st == .electing)

/-- LOOM_TUN_ADDR0 to 3, in order of transmission. -/
def tunAddr (s : State) : Nat := beNat ((List.range 4).flatMap fun k => leBytes 4 (s.reg (Reg.loomTunAddr k)).toNat)

/-- MAC 1 has the options JUMBO. -/
def ownJumbo (s : State) : Bool := bitOf (((s.portOf 0x11).map (·.options)).getD 0) 1

/-- What a view says of this device. -/
def ownRec (s : State) : MemberRec :=
  let m := s.steepImg.getD {}
  { node := s.nodeId, role := m.loomRole, tunnel := decide (m.tunnel = 1), addr := s.tunAddr, udp := m.udpPort,
    jumbo := s.ownJumbo }

/-- The other members of the present view. -/
def others (s : State) : List Nat := (s.loom.view.members.map (·.node)).filter (· ≠ s.nodeId)

/-! ### Requests of this device (R549, R554, R537) -/

/-- A new route to n may not apply yet: requests are outstanding over another (R554). -/
def switching (s : State) (n via : Nat) : Bool := s.liveReqs.any fun q => q.node = n && q.via ≠ via

/-- The gasket of a link: its Brikel port, or MAC 1. -/
def viaGasket (via : Nat) : Nat := if via < 8 then 103 + via else 114

/-- A request goes out over a link. -/
def sendReq (s : State) (q : LReq) (via : Nat) (p : Pkt) : State :=
  let l := s.loom.outst.map fun x => if x.tid = q.tid then { x with via := via, held := none, since := s.upNs } else x
  let w := s.weave.outst.map fun x => if x.id = q.wid then { x with dst := viaGasket via } else x
  { s with loom := { s.loom with outst := l }, weave := { s.weave with outst := w } }.sendPkt via p

/-- A request is sent when its route applies, a tracker entry is free and none of its node waits before it. -/
def trySend (s : State) (q : LReq) (p : Pkt) : State :=
  match s.viaOf (s.routeTo q.node) with
  | none => s
  | some (via, t) =>
    if t.switching q.node via ∨ (via < 8 ∧ 1024 ≤ t.trackerUse via) then s else t.sendReq q via p

/-- A loom-bound request of weave request `w` (R549): completed without being sent, sent, or held. `data` follows the
header. -/
def issueLoom (s : State) (w : WReq) (encl node opc size addr : Nat) (data : List Byte) : State :=
  let s1 := { s with weave := { s.weave with outst := s.weave.outst ++ [{ w with dst := 127 }] } }
  if !s.inView node then
    s1.respDone w (if s.loom.seen.contains node then .peerLost else .notFound) []
  else if s.routeTo node = .none then s1.respDone w .peerLost []
  else
    let h : LHdr := { dst := node, src := s.nodeId, opc := opc, encl := encl, tid := s.loom.nextTid, size := size, addr := addr }
    let p := lpkt 0 h data
    let q : LReq := { tid := s.loom.nextTid, wid := w.id, src := w.src, encl := encl, node := node, via := 127, opc := opc,
                      since := s.upNs, held := some p }
    let waits := s.loom.outst.any fun x => x.node = node && x.held.isSome
    let s2 := { s1 with loom := { s1.loom with outst := s1.loom.outst ++ [q], nextTid := (s1.loom.nextTid + 1) % 2 ^ 16 } }
    if waits then s2 else s2.trySend q p

/-- Held requests of a node are sent in order as far as its route lets them (R554, R556). -/
def sendHeld (s : State) (n : Nat) : State :=
  (s.loom.outst.filter (·.node = n)).foldl (fun t q =>
    match q.held with
    | none => t
    | some p =>
      if (t.loom.outst.any fun x => x.node = n && x.held.isSome && decide (x.tid ≠ q.tid)
          && ((t.loom.outst.findIdx? (· = x)).getD 0 < (t.loom.outst.findIdx? (· = q)).getD 0)) then t
      else match t.routeTo n with
        | .none => t.loomDone q .peerLost []
        | _ => t.trySend q p) s

/-! ### Packets of others (R553, R571) -/

/-- A packet given to the route of its destination; none when it has no route. -/
def sendTo (s : State) (node : Nat) (p : Pkt) : Option State :=
  (s.viaOf (s.routeTo node)).map fun x => x.2.sendPkt x.1 p

/-- A response to an inbound request. -/
def answer (s : State) (h : LHdr) (st : Status) (d : List Byte) : State :=
  let r : LHdr := { dst := h.src, src := s.nodeId, opc := if d = [] then opcRstat else opcRdata, encl := h.encl, tid := h.tid,
                    status := st.code, size := d.length - 1 }
  (s.sendTo h.src (lpkt 1 r d)).getD s

/-- A packet for another node is forwarded with one more hop; a request that cannot be is answered PEER_LOST. -/
def forward (s : State) (p : Pkt) : State :=
  let h := LHdr.read p.body
  match s.sendTo h.dst { p with body := { h with hops := h.hops + 1 }.bytes ++ p.body.drop 16 } with
  | some t => t
  | none => if p.lvc = 0 then s.answer h .peerLost [] else s

/-- The front packet of a link's buffer, when it has the opcode: it leaves the buffer, and is acted on, forwarded, answered
PEER_LOST in ROUSE (R571), or discarded on a link barred by R552 or when its source is in no present view (Table 17.7 step 5). -/
def inbound (s : State) (via lvc opc : Nat) (f : State → LHdr → List Byte → State) : State :=
  match s.linkOf via with
  | none => s
  | some x =>
    match (x.rxOf lvc).buf with
    | [] => s
    | p :: _ =>
      let h := LHdr.read p.body
      if h.opc ≠ opc then s
      else
        let t := s.setLink via (x.accept lvc)
        if via < 8 ∧ (s.bport via).barred then t
        else if s.ward.st = .rouse then (if lvc = 0 then t.answer h .peerLost [] else t)
        else if !t.isMember ∨ !t.inView h.src then t
        else if h.dst ≠ t.nodeId then t.forward p
        else f t h (p.body.drop 16)

/-! ### The tunnel (R555 to R557) -/

/-- The frame limit of a session. -/
def frameLimit (s : State) (peer : Nat) : Nat :=
  if s.ownJumbo && ((s.memberRec peer).map (·.jumbo)).getD false then 32 else 5

/-- Flits are sent only while a packet, a NAK, a replay or a changed credit limit waits. -/
def flitsDue (x : LinkLayer) : Bool := decide (0 < x.resend) || x.waiting || x.nak || x.nextCvc ≠ 3

/-- Up to `n` flits of a session's link layer. -/
def takeFlits (now : Nat) : Nat → LinkLayer → List (List Byte) × LinkLayer
  | 0, x => ([], x)
  | n + 1, x =>
    if flitsDue x then
      let (f, y) := x.next now true
      -- the NAK has been sent with this flit; it stands until the missing flit comes, and asks for one flit at a time
      let more := decide (0 < y.resend) || y.waiting || y.nextCvc ≠ 3
      if more then let (fs, z) := takeFlits now n y; (f :: fs, z) else ([f], y)
    else ([], x)

/-- The tunnel header and flits of a frame (Table 17.1). -/
def tunnelPayload (s : State) (x : Session) (fl : List (List Byte)) : List Byte :=
  [0x4B, 0x01, BitVec.ofNat 8 fl.length, 0] ++ leBytes 4 ((s.steepImg.map (·.loomId)).getD 0) ++ leBytes 2 s.nodeId
    ++ leBytes 2 x.peer ++ leBytes 4 x.gen ++ fl.flatten

/-- A frame leaves. -/
def sendFrameT (s : State) (k : Nat) (x : Session) (fl : List (List Byte)) : State :=
  let t := s.setSession k x
  { t with loom := { t.loom with frames := t.loom.frames ++ [(x.peer, s.tunnelPayload x fl)] } }

/-- A session ends as a link does in DOWN (R557, R560). -/
def sessionDead (s : State) (k : Nat) : State := (s.viaLost (16 + k)).dropSession k

/-- A discarded tunnel frame (R555). -/
def tunDrop (s : State) : State := s.bump Reg.loomTunStat 31 16

/-- The largest frame MAC 1 takes (Table 13.1). -/
def macLimit (s : State) : Nat := if s.ownJumbo then 9018 else 1518

/-- The flits of a received frame reach the session's link layer; a protocol error ends the session. -/
def tunFlits (s : State) (k : Nat) : List (List Byte) → State
  | [] => s
  | f :: fs =>
    match s.session k with
    | none => s
    | some x =>
      let r := x.link.receive f s.upNs
      let t := s.setSession k { x with link := r.x, answerDue := x.answerDue || r.data, packetAt := if r.data then s.upNs else x.packetAt }
      if r.proto then t.sessionDead k else t.tunFlits k fs

/-- The 256-byte flits of a payload. -/
def flitsOf : Nat → List Byte → List (List Byte)
  | 0, _ => []
  | n + 1, bs => bs.take 256 :: flitsOf n (bs.drop 256)

/-- A tunnel frame, its UDP payload given (R555, R556). -/
def tunnelRx (s : State) (f : List Byte) (csumOk tagged : Bool) : State :=
  let src := fieldAt f 8 2
  let n := fieldAt f 2 1
  let len := (if tagged then 18 else 14) + 40 + 8 + f.length + 4
  if !s.isMember ∨ !s.ownTunnel then s
  else if !csumOk ∨ fieldAt f 0 1 ≠ 0x4B ∨ fieldAt f 1 1 ≠ 1 ∨ fieldAt f 4 4 ≠ (s.steepImg.map (·.loomId)).getD 0
      ∨ fieldAt f 10 2 ≠ s.nodeId ∨ !s.inView src ∨ f.length ≠ 16 + 256 * n ∨ n = 0 ∨ s.frameLimit src < n
      ∨ s.macLimit < len then s.tunDrop
  else match s.openSession src with
    | none => s.tunDrop
    | some (k, t) =>
      match t.session k with
      | none => t
      | some x =>
        let gen := fieldAt f 12 4
        let t1 := if x.peerGen = gen then t
          else if x.peerGen = 0 then t.setSession k { x with peerGen := gen }
          else (t.viaLost (16 + k)).setSession k { x with peerGen := gen, link := .fresh 64 64 8, answerDue := false }
        t1.tunFlits k (flitsOf n (f.drop 16))

end State

open State

/-- LOOM_RDATA (R558, R560): a response with data. -/
def execLoomRdata (via : Nat) (s : State) : Out :=
  .next (s.inbound via 1 opcRdata fun t h d =>
    match t.liveReqs.find? (fun q => q.tid = h.tid ∧ q.node = h.src) with
    | some q => t.loomDone q (Status.ofCode h.status) (d.take (h.size + 1))
    | none => t)

/-- LOOM_RSTAT (R558, R560, R550): a response of a status; ACCESS_DENIED raises the partition fault on the requesting
enclosure. -/
def execLoomRstat (via : Nat) (s : State) : Out :=
  .next (s.inbound via 1 opcRstat fun t h _ =>
    match t.liveReqs.find? (fun q => q.tid = h.tid ∧ q.node = h.src) with
    | some q =>
      let u := t.loomDone q (Status.ofCode h.status) []
      if h.status = Status.accessDenied.code then (u.bump (Reg.denyCnt q.encl) 15 0).raisePartition q.encl q.src else u
    | none => t)

/-- LOOM_REQUEST_TIMEOUT (R560): 100 ms without a response. -/
def execLoomRequestTimeout (tid : Nat) (s : State) : Out :=
  match s.liveReqs.find? (·.tid = tid) with
  | none => .next s
  | some q => .next ((s.elapseTo (q.since + 100000000)).loomDone q .timeout [])

/-- ROUTE_SWITCH (R554): the requests outstanding over the old route have completed, and those that waited are sent. -/
def execRouteSwitch (n : Nat) (s : State) : Out := .next (s.sendHeld n)

/-- TUNNEL_FRAME_RX (R555). -/
def execTunnelFrameRx (frame : List Byte) (csumOk tagged : Bool) (s : State) : Out :=
  .next (s.tunnelRx frame csumOk tagged)

/-- TUNNEL_FRAME_SEND (R556): the frame limit is reached, or 2 µs have passed since its first flit. -/
def execTunnelFrameSend (k : Nat) (s : State) : Out :=
  match s.session k with
  | none => .next s
  | some x =>
    let (fl, y) := takeFlits s.upNs (s.frameLimit x.peer) x.link
    if fl = [] then .next s
    else
      let t := if fl.length < s.frameLimit x.peer then s.elapse 2000 else s
      .next (t.sendFrameT k { x with link := y, answerDue := false } fl)

/-- TUNNEL_NULL_FLIT (R556): a DATA flit is unanswered and nothing else waits. -/
def execTunnelNullFlit (k : Nat) (s : State) : Out :=
  match s.session k with
  | none => .next s
  | some x =>
    if x.answerDue ∧ !flitsDue x.link then
      let (f, y) := x.link.flit 0 x.link.seq []
      .next (s.sendFrameT k { x with link := y, answerDue := false } [f])
    else .next s

/-- TUNNEL_SESSION_IDLE (R556): no packet for IDLE_MS and an empty replay buffer. -/
def execTunnelSessionIdle (k : Nat) (s : State) : Out :=
  match s.session k with
  | none => .next s
  | some x =>
    if x.link.unacked = [] ∧ !x.link.waiting then
      .next ((s.elapseTo (x.packetAt + 1000000 * s.fld Reg.loomTunCfg 7 0)).dropSession k)
    else .next s

/-- TUNNEL_SESSION_DEAD (R557): the ACK has not advanced for DEAD_MS with flits unacknowledged. -/
def execTunnelSessionDead (k : Nat) (s : State) : Out :=
  match s.session k with
  | none => .next s
  | some x =>
    if x.link.unacked ≠ [] then
      .next ((s.elapseTo (x.link.ackAt + 1000000 * s.fld Reg.loomTunCfg 23 16)).sessionDead k)
    else .next s

end Sys2Proof.Machine
end

