-- ==== Sys2Proof/Machine/Coll.lean ====
section
/-! DEFINITION. Collectives (§17.5): the chain and the ring, reduction in rank order, what each rank writes, and how a group
ends (R564 to R566, R402). -/

namespace Sys2Proof.Machine

/-- Operators of the Collective family (Table 9.5), in the order the table lists them. -/
def cAllReduce : Nat := 0x40
def cAllGather : Nat := 0x41
def cReduceScatter : Nat := 0x42
def cBroadcast : Nat := 0x43
def cBarrier : Nat := 0x44

/-- The chunk of R564. [log 124 DESIGN CHOICE, unsafe] -/
def chunkLen : Nat := 16384

/-- Bytes of one element of a collective. -/
def collElem (et : Nat) : Nat := if et % 4 < 2 then 4 else 2

/-- Elements as ranks carry them (R565): BF16 and FP16 widened exactly to FP32. -/
def collWide (et : Nat) (bs : List Byte) : List Nat :=
  let n := collElem et
  (List.range (bs.length / n)).map fun i =>
    let x := fieldAt bs (n * i) n
    match et % 4 with
    | 2 => (vuWiden bf16 x).1
    | 3 => (vuWiden fp16 x).1
    | _ => x

/-- Results rounded once to the destination type (R565), with the flags raised. -/
def collNarrow (et : Nat) (ws : List Nat) : List Byte × Nat :=
  ws.foldl (fun (acc : List Byte × Nat) w =>
    let (v, fl) := match et % 4 with
      | 2 => vuToFloat bf16 false w
      | 3 => vuToFloat fp16 false w
      | _ => (w, 0)
    (acc.1 ++ leBytes (collElem et) v, acc.2 ||| fl)) ([], 0)

/-- The smaller of two FP32 values: a NaN gives the canonical NaN, −0 is smaller than +0 (R292 mirrored). -/
def vuMin2 (x y : Nat) : Nat :=
  match (fp32.read y).lt? (fp32.read x) with
  | none => fp32.nanPat
  | some true => y
  | some false => if (fp32.read x).isZero && (fp32.read y).isZero then max x y else x

/-- x ⊕ y (R565). [log 124 DESIGN CHOICE, unsafe] -/
def collOp (et op x y : Nat) : Nat × Nat :=
  if et % 4 = 0 then
    match op % 3 with
    | 0 => ((x + y) % 2 ^ 32, 0)
    | 1 => (if toSigned 32 y < toSigned 32 x then y else x, 0)
    | _ => (if toSigned 32 x < toSigned 32 y then y else x, 0)
  else
    match op % 3 with
    | 0 => vuAdd x y
    | 1 => (vuMin2 x y, 0)
    | _ => (vuMax2 x y, 0)

/-- x ⊕ y over two chunks. -/
def collSum (et op : Nat) : List Nat → List Nat → List Nat × Nat
  | x :: xs, y :: ys =>
    let (v, f) := collOp et op x y
    let (vs, g) := collSum et op xs ys
    (v :: vs, f ||| g)
  | _, _ => ([], 0)

/-- Words on the wire. -/
def wordsBytes (ws : List Nat) : List Byte := ws.flatMap (leBytes 4)
def bytesWords (bs : List Byte) : List Nat := (List.range (bs.length / 4)).map fun i => fieldAt bs (4 * i) 4

namespace Coll

/-- Bytes of one rank's slice. -/
def slice (c : Coll) : Nat := c.desc.bytes / max 1 c.size
/-- Chunks of a length. -/
def chunksIn (n : Nat) : Nat := (n + chunkLen - 1) / chunkLen
/-- Chunks of one slice in the ring, and of the whole chain. -/
def perSlice (c : Coll) : Nat := chunksIn c.slice
def chunks (c : Coll) : Nat := if c.op = cBarrier then 1 else chunksIn c.desc.bytes
/-- Bytes [lo, hi) of chunk i. -/
def span (c : Coll) (i : Nat) : Nat × Nat := (chunkLen * i, min c.desc.bytes (chunkLen * (i + 1)))
/-- Elements of the collective (Table 9.9). -/
def count (c : Coll) : Nat := if c.op = cBarrier then 0 else c.desc.bytes / collElem c.desc.etype
/-- The top rank. -/
def top (c : Coll) : Bool := decide (c.rank + 1 = c.size)

/-- What must have passed upward, or round the ring, before this rank's entry is complete. -/
def needUp (c : Coll) : Nat :=
  if c.op = cAllGather then (c.size - 1) * c.perSlice else c.chunks
/-- What must have passed downward. -/
def needDown (c : Coll) : Nat :=
  if c.op = cAllGather ∨ c.op = cBroadcast then 0
  else if c.op = cReduceScatter then
    ((List.range c.chunks).filter (fun i => decide ((c.span i).1 < (c.rank + 1) * c.slice))).length
  else c.chunks

/-- The pieces of slice `k`, bytes [lo, lo + n), in the destination: (address, offset in the data, length). -/
def places (c : Coll) (k lo n : Nat) : List (Nat × Nat × Nat) :=
  let row := c.slice / max 1 c.rows
  (List.range c.rows).filterMap fun j =>
    let a := max lo (j * row)
    let b := min (lo + n) ((j + 1) * row)
    if a < b then some (c.desc.dst + j * c.stride + k * row + (a - j * row), a - lo, b - a) else none

end Coll

namespace State

def coll (s : State) (r : EntryRef) : Option Coll := s.loom.colls.find? (·.r = r)
def setColl (s : State) (c : Coll) : State :=
  { s with loom := { s.loom with colls := s.loom.colls.map fun x => if x.r = c.r then c else x } }
def dropColl (s : State) (r : EntryRef) : State :=
  { s with loom := { s.loom with colls := s.loom.colls.filter (·.r ≠ r) } }
/-- A loom message leaves the device (§17.1). [log 147 DESIGN CHOICE, safe] -/
def say (s : State) (m : LoomMsg) : State := { s with loom := { s.loom with sent := s.loom.sent ++ [m] } }

/-- ABORT_GROUP is sent down and up the chain (R566). -/
def abortGroup (s : State) (c : Coll) (st : Status) : State :=
  let t := if 0 < c.rank then s.say (.abortGroup c.group (c.rank - 1) st.code) else s
  if c.rank + 1 < c.size then t.say (.abortGroup c.group (c.rank + 1) st.code) else t

/-- A rank's collective ends with a code other than OK and POISONED (R566). -/
def collFail (s : State) (c : Coll) (st : Status) : State :=
  let t := (s.abortGroup c st).dropColl c.r
  if (t.attnOf c.r).isSome then t.attnEnd c.r st else t.finish c.r st 0

/-- An entry that has ended leaves its collective; any end but OK and POISONED ends the group (R566). -/
def collEnded (s : State) (r : EntryRef) (st : Status) : State :=
  match s.coll r with
  | none => s
  | some c => if st = .ok ∨ st = .poisoned then s.dropColl r else (s.abortGroup c st).dropColl r

/-- The collective has passed everything: the entry completes, or the attention operator that gathered. -/
def collDone (s : State) (c : Coll) : State :=
  if c.needUp ≤ c.up ∧ c.needDown ≤ c.down then
    let t := (s.dropColl c.r).contribute c.r (if c.poison then .poisoned else .ok) 0 c.fpsum (c.op != cBarrier)
    match t.attnOf c.r with
    | some a => t.attnFinish a [] []
    | none =>
      let bad := ((t.entry c.r).map (·.poisoned)).getD false
      t.finish c.r (if bad then .poisoned else .ok) 0
  else s.setColl c

/-- One chunk read from this member's memory. -/
def collRead (s : State) (c : Coll) (a n : Nat) (ext : List ExtData) (ups : List Upset) :
    Status × List Byte × Bool × State :=
  let (st, d, m, t) := s.readRunP (s.stewardOf c.r.encl) a n ext ups
  (st, d, m.any id, t)

/-- A destination write; a poisoned chunk is written as poison (R565, R189). -/
def collWrite (s : State) (c : Coll) (a : Nat) (d : List Byte) (poison : Bool) (ext : List ExtData) (ups : List Upset) :
    Status × State :=
  s.writeRunP (s.stewardOf c.r.encl) a d (List.replicate d.length poison) ext ups

/-- The write went on. -/
def collOk (st : Status) : Bool := st == .ok || st == .poisoned

/-- Writing a chunk of slice `k` from byte `lo` of the slice. -/
def gatherWrite (s : State) (c : Coll) (k lo : Nat) (d : List Byte) (poison : Bool) (ext : List ExtData) (ups : List Upset) :
    Status × State :=
  (c.places k lo d.length).foldl (fun (acc : Status × State) x =>
    if collOk acc.1 then
      let (st, t) := acc.2.collWrite c x.1 (sliceAt d x.2.1 x.2.2) poison ext ups
      (acc.1.worse st, t)
    else acc) (.ok, s)

/-- A rank waits at a collective step with a barrier lease at the next rank (R566). -/
def collHold (s : State) (c : Coll) : Coll :=
  if 1 < c.size then { c with leaseHeld := true, expiry := s.upNs + s.leaseNs c.r.encl } else c

/-- The top rank's result of chunk i goes down (Table 17.4). -/
def collTop (s : State) (c : Coll) (i : Nat) (d : List Byte) (ext : List ExtData) (ups : List Upset) : State :=
  let (lo, _) := c.span i
  let own := c.rank * c.slice
  let part := if c.op = cReduceScatter then d.drop (own - lo) else d
  let base := if c.op = cReduceScatter then c.desc.dst + (max lo own - own) else c.desc.dst + lo
  let touches := c.op ≠ cReduceScatter || decide (own < lo + d.length)
  let (st, s1) := if part = [] ∨ !touches then (Status.ok, s) else s.collWrite c base part c.poison ext ups
  if !collOk st then s1.collFail c st
  else
    let send := decide (0 < c.rank) && (c.op ≠ cReduceScatter || decide (lo < own))
    let s2 := if send then s1.say (.coll c.group (c.rank - 1) true i d c.poison) else s1
    s2.collDone { c with down := c.down + 1 }

/-- A chunk on its way up reaches this rank: reduced with the local contribution (R565), or passed on. -/
def collUp (s : State) (c : Coll) (i : Nat) (d : List Byte) (poison first : Bool) (ext : List ExtData) (ups : List Upset) : State :=
  let (lo, hi) := c.span i
  if c.op = cBarrier then
    let c1 := { c with up := c.up + 1 }
    if c.top then
      let s1 := if 0 < c.rank then s.say (.coll c.group (c.rank - 1) true 0 [] false) else s
      s1.collDone { c1 with down := 1 }
    else (s.say (.coll c.group (c.rank + 1) false 0 [] false)).collDone c1
  else if c.op = cBroadcast then
    let (st, s1) := if first then (Status.ok, s) else s.collWrite c (c.desc.dst + lo) d poison ext ups
    if !collOk st then s1.collFail c st
    else
      let s2 := if c.top then s1 else s1.say (.coll c.group (c.rank + 1) false i d poison)
      s2.collDone { c with up := c.up + 1, poison := c.poison || poison }
  else
    let (st, loc, bad, s1) := s.collRead c (c.desc.src + lo) (hi - lo) ext ups
    if !collOk st then s1.collFail c st
    else
      let mine := collWide c.desc.etype loc
      let (ws, fl) := if first then (mine, 0) else collSum c.desc.etype c.desc.op (bytesWords d) mine
      let c1 := { c with up := c.up + 1, poison := c.poison || poison || bad, fpsum := c.fpsum ||| fl }
      if c.top then
        let (out, fl2) := collNarrow c.desc.etype ws
        s1.collTop { c1 with fpsum := c1.fpsum ||| fl2 } i out ext ups
      else (s1.say (.coll c.group (c.rank + 1) false i (wordsBytes ws) (poison || bad))).collDone c1

/-- A chunk on its way down reaches this rank. -/
def collDown (s : State) (c : Coll) (i : Nat) (d : List Byte) (poison : Bool) (ext : List ExtData) (ups : List Upset) : State :=
  if c.op = cBarrier then
    let s1 := if 0 < c.rank then s.say (.coll c.group (c.rank - 1) true 0 [] false) else s
    s1.collDone { c with down := 1 }
  else
    let (lo, hi) := c.span i
    let own := c.rank * c.slice
    let scatter := c.op = cReduceScatter
    let a := if scatter then max lo own else lo
    let b := if scatter then min hi (own + c.slice) else hi
    let (st, s1) := if a < b then
        s.collWrite c (c.desc.dst + (if scatter then a - own else a)) (sliceAt d (a - lo) (b - a)) poison ext ups
      else (Status.ok, s)
    if !collOk st then s1.collFail c st
    else
      let send := decide (0 < c.rank) && (!scatter || decide (lo < own))
      let s2 := if send then s1.say (.coll c.group (c.rank - 1) true i d poison) else s1
      s2.collDone { c with down := c.down + 1, poison := c.poison || poison }

/-- A slice's chunk comes round the ring (Table 17.4). -/
def collRing (s : State) (c : Coll) (i : Nat) (d : List Byte) (poison : Bool) (ext : List ExtData) (ups : List Upset) : State :=
  let k := i / max 1 c.perSlice
  let (st, s1) := s.gatherWrite c k (chunkLen * (i % max 1 c.perSlice)) d poison ext ups
  if !collOk st then s1.collFail c st
  else
    let next := (c.rank + 1) % max 1 c.size
    let s2 := if next ≠ k then s1.say (.coll c.group next false i d poison) else s1
    s2.collDone { c with up := c.up + 1, poison := c.poison || poison }

/-- The collective that the entry names, as its current state is (the ring's, or the chain's). -/
def collAgain (s : State) (r : EntryRef) (f : State → Coll → State) : State :=
  match s.coll r with
  | some c => f s c
  | none => s

/-- This rank's own slice enters the ring: `inPlace` when it lies in the destination already. -/
def ringStart (s : State) (c : Coll) (inPlace : Bool) (ext : List ExtData) (ups : List Upset) : State :=
  (List.range c.perSlice).foldl (fun t j => t.collAgain c.r fun t c =>
    let lo := chunkLen * j
    let n := min chunkLen (c.slice - lo)
    let (st, d, bad, t1) := if inPlace then
        (c.places c.rank lo n).foldl (fun (acc : Status × List Byte × Bool × State) x =>
          let (st, d, b, t') := acc.2.2.2.collRead c x.1 x.2.2 ext ups
          (acc.1.worse st, acc.2.1 ++ d, acc.2.2.1 || b, t')) (.ok, [], false, t)
      else t.collRead c (c.desc.src + lo) n ext ups
    if !collOk st then t1.collFail c st
    else
      let (w, t2) := if inPlace then (Status.ok, t1) else t1.gatherWrite c c.rank lo d bad ext ups
      if !collOk w then t2.collFail c w
      else
        let t3 := if 1 < c.size then
            t2.say (.coll c.group ((c.rank + 1) % c.size) false (c.rank * c.perSlice + j) d bad)
          else t2
        t3.setColl { c with poison := c.poison || bad }) s
    |>.collAgain c.r collDone

/-- All ranks are present and agree: this rank's data passes; rank 0 sends the first chunks up (Table 17.4). -/
def collGo (s : State) (c : Coll) (ext : List ExtData) (ups : List Upset) : State :=
  let c := { c with go := true }
  let s1 := s.setColl c
  if c.op = cAllGather then s1.ringStart c c.inPlace ext ups
  else if c.rank ≠ 0 then s1
  else (List.range c.chunks).foldl (fun t i => t.collAgain c.r fun t c =>
    if c.op = cBroadcast then
      let (lo, hi) := c.span i
      let (st, d, bad, t1) := t.collRead c (c.desc.src + lo) (hi - lo) ext ups
      if !collOk st then t1.collFail c st else t1.collUp c i d bad true ext ups
    else t.collUp c i [] false true ext ups) s1

/-- A collective of the entry starts on this rank and waits until all ranks are present (R320): a token goes up the chain with what
the ranks below have agreed on, and down again. A second rank of the group on one device ends both with GROUP_MISMATCH.
[log 124 DESIGN CHOICE, unsafe] -/
def collBegin (s : State) (c : Coll) (ext : List ExtData) (ups : List Upset) : State :=
  match s.loom.colls.find? (fun x => x.group = c.group && 1 < c.size && x.r ≠ c.r) with
  | some x => (s.collFail x (.op 0x18)).finish c.r (.op 0x18) 0
  | none =>
    if (s.coll c.r).isSome then s
    else
      let c := s.collHold c
      let s1 := { s with loom := { s.loom with colls := s.loom.colls ++ [c] } }
      if c.size ≤ 1 then s1.collGo c ext ups
      else if c.rank = 0 then s1.say (.collReady c.group 1 false c.op c.size c.count true)
      else s1

/-- A token of presence reaches this rank (R320, R566): on its way up it is compared with the own entry and passed on; the top rank
turns it; on its way down every rank's data passes when all agree, and rank 0 ends the group when they do not (Table 9.9).
[log 124 DESIGN CHOICE, unsafe] -/
def collToken (s : State) (c : Coll) (cop size count : Nat) (down agree : Bool) (ext : List ExtData) (ups : List Upset) : State :=
  let ok := agree && (down || (decide (cop = c.op) && decide (size = c.size) && decide (count = c.count)))
  let pass (d : Bool) (n : Nat) (t : State) : State := t.say (.collReady c.group n d c.op c.size c.count ok)
  if c.go ∨ (c.rank = 0 ∧ !down) then s
  else if !down ∧ !c.top then pass false (c.rank + 1) s
  else
    let t := if 0 < c.rank then pass true (c.rank - 1) s else s
    if ok then t.collGo c ext ups else if c.rank = 0 then t.collFail c (.op 0x18) else t

/-- A Collective entry that has started. -/
def collStart (s : State) (r : EntryRef) (op : Nat) (d : CollDesc) (ext : List ExtData) (ups : List Upset) : State :=
  match s.running r 1 op with
  | some y =>
    s.collBegin { r := r, op := op, rank := y.arg 18 2, size := max 1 (y.arg 16 2), group := y.arg 20 4, desc := d } ext ups
  | none => s

/-- The gather of an attention operator whose rows this member has written (R402). -/
def gatherStart (s : State) (r : EntryRef) (ext : List ExtData) (ups : List Upset) : State :=
  match s.attnOf r, s.entry r with
  | some a, some y =>
    if a.gather ∧ a.merged.length = a.heads ∧ y.ending.isNone then
      s.collBegin { r := r, op := cAllGather, rank := y.arg 18 2, size := max 1 (y.arg 16 2), group := y.arg 20 4,
                    desc := { dst := a.out, bytes := a.rows * a.rowBytes, etype := if a.outFp32 then 1 else 2 }, rows := a.rows, stride := a.rowBytes, inPlace := true } ext ups
    else s
  | _, _ => s

/-- A chunk of a group arrives, or a token of presence; a chunk is taken once this rank's data passes. -/
def collTake (s : State) (r : EntryRef) (cop size count : Nat) (down : Bool) (i : Nat) (d : List Byte) (poison : Bool)
    (token : Option Bool) (ext : List ExtData) (ups : List Upset) : State :=
  s.collAgain r fun s c =>
    match token with
    | some agree => s.collToken c cop size count down agree ext ups
    | none =>
      if !c.go then s
      else if c.op = cAllGather then s.collRing c i d poison ext ups
      else if down then s.collDown c i d poison ext ups
      else if c.rank = 0 then s
      else s.collUp c i d poison false ext ups

/-- Group entries of a GROUP_ID in flight (R320). -/
def groupEntries (s : State) (g : Nat) : List EntryRef :=
  (List.range 8).flatMap fun e => queueIds.flatMap fun q =>
    (s.queue e q).flight.filterMap fun (y : Entry) =>
      if y.cls = 1 ∧ 1 < y.arg 16 2 ∧ y.arg 20 4 = g ∧ y.ending.isNone then some { encl := e, queue := q, seq := y.seq } else none

/-- Every group entry of a GROUP_ID on this device ends with a code. [log 125 DESIGN CHOICE, unsafe] -/
def endGroup (s : State) (g : Nat) (st : Status) : State :=
  (s.groupEntries g).foldl (fun t r =>
    let t1 := t.dropColl r
    if (t1.attnOf r).isSome then t1.attnEnd r st else t1.finish r st 0) s

end State

open State

/-- ALL_REDUCE (R564, R565). -/
def execAllReduce (r : EntryRef) (d : CollDesc) (ext : List ExtData) (upsets : List Upset) (s : State) : Out :=
  .next (s.collStart r cAllReduce d ext upsets)

/-- ALL_GATHER (R564), and the gather that ends an attention operator (R402). -/
def execAllGather (r : EntryRef) (d : CollDesc) (ext : List ExtData) (upsets : List Upset) (s : State) : Out :=
  .next (if (s.attnOf r).isSome then s.gatherStart r ext upsets else s.collStart r cAllGather d ext upsets)

/-- REDUCE_SCATTER (R564, R565). -/
def execReduceScatter (r : EntryRef) (d : CollDesc) (ext : List ExtData) (upsets : List Upset) (s : State) : Out :=
  .next (s.collStart r cReduceScatter d ext upsets)

/-- BROADCAST (R564). -/
def execBroadcast (r : EntryRef) (d : CollDesc) (ext : List ExtData) (upsets : List Upset) (s : State) : Out :=
  .next (s.collStart r cBroadcast d ext upsets)

/-- BARRIER (R564). -/
def execBarrier (r : EntryRef) (s : State) : Out := .next (s.collStart r cBarrier {} [] [])

/-- LOOM_COLL (R320, R564 to R566): a chunk reaches this rank's engine, or a `token` of presence with what the ranks agree on; `cop`,
`size` and `count` are the sender's operator, group size and number of elements. -/
def execLoomColl (r : EntryRef) (cop size count : Nat) (down : Bool) (chunk : Nat) (data : List Byte) (poison : Bool)
    (token : Option Bool) (ext : List ExtData) (upsets : List Upset) (s : State) : Out :=
  .next (s.collTake r cop size count down chunk data poison token ext upsets)

/-- ABORT_GROUP (R566): this rank's entry ends with the code, or PEER_LOST when a member was lost (R321). -/
def execAbortGroup (group status : Nat) (s : State) : Out := .next (s.endGroup group (Status.ofCode status))

end Sys2Proof.Machine
end

