-- ==== Sys2Proof/Machine/LoomMember.lean ====
section
/-! DEFINITION. Membership and the vote (§17.6, §17.7): hello, joining, views, heartbeats, election, leaving, and the Cozy
vote up to COMMIT (R552, R567 to R573). -/

namespace Sys2Proof.Machine

namespace State

/-- A message to every other member of the present view. -/
def sayAll (s : State) (f : Nat → LoomMsg) : State := s.others.foldl (fun t n => t.say (f n)) s

def modLoom (s : State) (f : Loom → Loom) : State := { s with loom := f s.loom }
def modVote (s : State) (f : Vote → Vote) : State := s.modLoom fun l => { l with vote := f l.vote }

/-- LOOM_CFG.HB_MS and LOST_HB. -/
def hbNs (s : State) : Nat := 1000000 * s.fld Reg.loomCfg 7 0
def lostHb (s : State) : Nat := s.fld Reg.loomCfg 11 8

/-- This device is the coordinator of its view. -/
def isCoord (s : State) : Bool := s.ward.st == .steep && s.loom.st == .coordinator

/-! ### The vote (R573) -/

/-- The open vote ends without COMMIT on the coordinator: ABORT to all, VOTE_PROPOSE completes BUSY. -/
def voteAbortAll (s : State) : State :=
  let v := s.loom.vote
  if v.st ≠ .opened then s
  else
    let t := (s.sayAll fun n => .abort n v.id).modVote fun v => { v with st := .aborted, entry := none }
    match v.entry with
    | some r => t.finish r .busy 0
    | none => t

/-- A vote that a change of view ends (R573). -/
def voteViewChange (s : State) : State :=
  if s.loom.vote.st ≠ .opened then s
  else if s.isCoord then s.voteAbortAll
  else s.modVote fun v => { v with st := .aborted }

/-- The coordinator takes a cast vote. -/
def castTaken (s : State) (n id : Nat) (yes : Bool) : State :=
  let v := s.loom.vote
  if !s.isCoord ∨ v.st ≠ .opened ∨ v.id ≠ id then s
  else if !yes then s.voteAbortAll
  else
    let ys := if v.yes.contains n then v.yes else v.yes ++ [n]
    if (s.loom.view.members.map (·.node)).all ys.contains then
      let t := (s.sayAll fun m => .commit m id).modVote fun v =>
        { v with st := .committed, yes := ys, holding := true, holdSince := s.upNs, entry := none }
      match v.entry with
      | some r => t.finish r .ok 0
      | none => t
    else s.modVote fun v => { v with yes := ys }

/-- This member casts (R573). [log 126 DESIGN CHOICE, unsafe] -/
def castOwn (s : State) (yes : Bool) : State :=
  let id := s.loom.vote.id
  let t := s.modVote fun v => { v with ownCast := true, ownYes := yes }
  if s.isCoord then t.castTaken s.nodeId id yes else t.say (.cast s.loom.view.coord id yes)

/-- A latched wake request or a rouse trigger is held (R573). -/
def holdsWake (s : State) : Bool := s.ward.wake || s.loom.vote.withdrawn && s.loom.vote.st == .opened

/-- A vote opens at this member; a member that holds a wake request casts no by itself. -/
def voteOpens (s : State) (id toMs : Nat) (entry : Option EntryRef) : State :=
  let t := s.modLoom fun l =>
    { l with vote := { st := .opened, id := id, since := s.upNs, toMs := toMs, entry := entry } }
  if s.ward.wake then t.castOwn false else t

/-! ### Views (R569, R570) -/

/-- A member is lost to this device (Table 17.7); `groups` are the GROUP_IDs with a rank on it. -/
def memberLost (s : State) (n : Nat) (groups : List Nat) : State :=
  let s1 := (s.loom.outst.filter (·.node = n)).foldl (fun t q => t.loomDone q .peerLost []) s
  let s2 := groups.foldl (fun t g => t.endGroup g .peerLost) s1
  let s3 := s2.endRemote (fun l => l.node = n) true
  (s3.remoteLeaseLost .peerLost (fun a => nodeOf a = n)).bump Reg.loomCnt 7 0

/-- A new view takes effect at this member. -/
def viewIn (s : State) (v : View) (groups : List Nat) : State :=
  let gone := s.others.filter fun n => !(v.members.map (·.node)).contains n
  let s1 := s.voteViewChange
  let seen := s1.loom.seen ++ (v.members.map (·.node)).filter (fun n => !s1.loom.seen.contains n)
  let s2 := s1.modLoom fun l =>
    { l with view := v, seen := seen, missed := l.missed.filter (fun m => (v.members.map (·.node)).contains m.1),
             claims := [], acks := [], acked := false, beatAt := s1.upNs,
             st := if v.coord = s1.nodeId then .coordinator else .member }
  gone.foldl (fun t n => t.memberLost n groups) s2

/-- The coordinator issues a view (R569). [log 126 DESIGN CHOICE, unsafe] -/
def issueView (s : State) (members : List MemberRec) (links : List LinkRec) (groups : List Nat) : State :=
  let v : View := { seq := (s.loom.view.seq + 1) % 2 ^ 32, coord := s.nodeId, members := members, links := links }
  let t := s.viewIn v groups
  t.sayAll fun n => .view n v.seq

/-- A view without node n. -/
def viewWithout (s : State) (n : Nat) (groups : List Nat) : State :=
  s.issueView (s.loom.view.members.filter (·.node ≠ n)) (s.loom.view.links.filter fun l => l.a ≠ n ∧ l.b ≠ n) groups

/-- The device stops being a member: its outstanding loom requests and group entries complete with the code. -/
def loomOut (s : State) (st : Status) : State :=
  let s1 := s.loom.outst.foldl (fun t q => t.loomDone q st []) s.voteViewChange
  let s2 := s1.loom.colls.foldl (fun t c => t.endGroup c.group st) s1
  s2.modLoom fun l =>
    { l with st := .none, view := { seq := l.view.seq }, seen := [], missed := [], claims := [], acks := [], acked := false,
             delayed := [], vote := { l.vote with st := if l.vote.st = .opened then .aborted else l.vote.st } }

/-- The coordinator is lost (R569): the election begins. -/
def coordLost (s : State) : State :=
  if s.loom.st ≠ .member then s
  else
    let t := (s.voteViewChange).modLoom fun l =>
      { l with st := .electing, lostAt := s.upNs, claims := [], claimAt := s.upNs, acks := [], acked := false }
    if t.ownRec.role = 2 then
      let u := (t.others.filter (· ≠ t.loom.view.coord)).foldl (fun u n => u.say (.claim n)) t
      u.modLoom fun l => { l with claims := [u.nodeId] }
    else t

/-! ### Joining (R568) -/

/-- The coordinator judges a device that asks to join. -/
def judgeJoin (s : State) (j : JoinRec) : State :=
  if s.loom.vote.st = .opened then s.modLoom fun l => { l with delayed := l.delayed ++ [j] }
  else if j.loomId ≠ (s.steepImg.map (·.loomId)).getD 0 then s.say (.joinAnswer j.who.node Status.badArg.code)
  else if s.inView j.who.node ∨ 1024 ≤ s.loom.view.members.length ∨ 16 < j.group then
    s.say (.joinAnswer j.who.node Status.admitRefused.code)
  else s.issueView (s.loom.view.members ++ [j.who]) (s.loom.view.links ++ j.links) []

/-- JOIN_REQs that waited for the vote (§17 corner cases). -/
def judgeDelayed (s : State) : State :=
  if s.loom.vote.st = .opened ∨ !s.isCoord then s
  else s.loom.delayed.foldl judgeJoin (s.modLoom fun l => { l with delayed := [] })

/-- The pending JOIN, or LEAVE, of this device completes. -/
def joinEnds (s : State) (st : Status) : State :=
  match s.loom.joining with
  | some (r, _) => (s.modLoom fun l => { l with joining := none }).finish r st 0
  | none => s
/-- A LEAVE under way ends OK (R568). [log 126 DESIGN CHOICE, unsafe] -/
def leaveEnds (s : State) : State :=
  match s.loom.leaving with
  | some (r, _) => (s.modLoom fun l => { l with leaving := none }).finish r .ok 0
  | none => s

end State

open State

/-- HELLO (R552): LOOM_ID, NODE_ID and TUNNEL of the partner on an ACTIVE link; a link to another loom, to the own NODE_ID,
or that would join more than 16 members carries HELLO only and counts in LINK_ABORT. -/
def execHello (p loomId node : Nat) (tunnel : Bool) (s : State) : Out :=
  let p := p % 8
  let es := s.linkEdges
  let mine := groupOf es s.nodeId
  let theirs := groupOf es node
  let merged := mine ++ theirs.filter fun n => !mine.contains n
  let bad := loomId ≠ (s.steepImg.map (·.loomId)).getD 0 || decide (node = s.nodeId) || decide (16 < merged.length)
  .next (
    if (s.bport p).st ≠ .active then s
    else
      let t := s.modBport p fun b => { b with hello := true, barred := bad, peerNode := node, peerTunnel := tunnel }
      if bad then t.bump Reg.loomCnt 31 24 else t)

/-- JOIN (R567, R568). -/
def execJoin (r : EntryRef) (s : State) : Out :=
  .next (match s.running r 4 1 with
    | none => s
    | some y =>
      if s.isMember then s.finish r .ok 0
      else if s.loom.joining.isSome then (if s.loom.joining.map (·.1) = some r then s else s.finish r .busy 0)
      else if y.arg 16 2 ≠ 0xFFFF then
        (s.modLoom fun l => { l with joining := some (r, s.upNs) }).say (.joinReq (y.arg 16 2))
      else if s.ownRec.role = 2 then
        let t := s.viewIn { seq := s.loom.view.seq + 1, coord := s.nodeId, members := [s.ownRec], links := s.ownLinks } []
        t.finish r .ok 0
      else s.finish r .notFound 0)

/-- JOIN_REQ (R568): judged by the coordinator, forwarded to it by any other member. -/
def execJoinReq (j : JoinRec) (s : State) : Out :=
  .next (
    if s.isCoord then s.judgeJoin j
    else if s.isMember then s.say (.joinForward s.loom.view.coord j.who.node)
    else s)

/-- JOIN_REFUSAL (R568): the coordinator's answer BAD_ARG or ADMIT_REFUSED. -/
def execJoinRefusal (loomIdDiffers : Bool) (s : State) : Out :=
  .next (s.joinEnds (if loomIdDiffers then .badArg else .admitRefused))

/-- JOIN_TIMEOUT (R568): no answer within 1 s. -/
def execJoinTimeout (s : State) : Out :=
  match s.loom.joining with
  | none => .next s
  | some (_, t) => .next ((s.elapseTo (t + 1000000000)).joinEnds .timeout)

/-- VIEW (R570): a new view from the coordinator; `groups` are the GROUP_IDs with a rank on a node it removes. -/
def execView (seq coord : Nat) (members : List MemberRec) (links : List LinkRec) (groups : List Nat) (s : State) : Out :=
  .next (
    if s.ward.st ≠ .steep then s
    else if members.any (·.node = s.nodeId) then
      (if s.isMember ∧ seq ≤ s.loom.view.seq then s
       else if s.isMember ∨ s.loom.joining.isSome then
         (s.viewIn { seq := seq, coord := coord, members := members, links := links } groups).joinEnds .ok
       else s)
    else if s.isMember ∧ s.loom.view.seq < seq then (s.loomOut .peerLost).leaveEnds
    else s)

/-- HEARTBEAT_TIMER (R569): the coordinator sends HEARTBEAT to every member; what went unanswered counts, except in the 2 s
after its own exit from Cozy sleep (R576). -/
def execHeartbeatTimer (s : State) : Out :=
  .next (
    if !s.isCoord ∨ s.ward.cozy then s
    else
      let t := s.elapseTo (s.loom.beatAt + s.hbNs)
      let quiet := s.loom.exitAt ≠ 0 && decide (t.upNs < s.loom.exitAt - 1 + 2000000000)
      let m := t.others.map fun n => (n, if quiet then 0 else SMap.get 0 t.loom.missed n + 1)
      (t.sayAll fun n => .heartbeat n).modLoom fun l =>
        { l with missed := m.foldl (fun a x => SMap.set 0 a x.1 x.2) [], beatAt := t.upNs })

/-- HEARTBEAT (R569): a heartbeat from the coordinator is answered; an answer clears the member's count. -/
def execHeartbeat (from_ : Nat) (s : State) : Out :=
  .next (
    if !s.isMember ∨ !s.inView from_ ∨ s.ward.cozy then s
    else if s.isCoord then s.modLoom fun l => { l with missed := SMap.set 0 l.missed from_ 0 }
    else if from_ = s.loom.view.coord then
      (s.say (.heartbeatAnswer from_)).modLoom fun l => { l with beatAt := s.upNs }
    else s)

/-- HEARTBEAT_LOSS (R569): LOST_HB heartbeats missed; the coordinator removes the member, a member loses its coordinator.
`groups` are the GROUP_IDs with a rank on the lost member. -/
def execHeartbeatLoss (n : Nat) (groups : List Nat) (s : State) : Out :=
  .next (
    if !s.isMember ∨ !s.inView n ∨ n = s.nodeId ∨ s.ward.cozy then s
    else if s.isCoord then
      (if s.lostHb ≤ SMap.get 0 s.loom.missed n then (s.viewWithout n groups).judgeDelayed else s)
    else if n = s.loom.view.coord ∧ s.loom.st = .member then
      (s.elapseTo (s.loom.beatAt + s.lostHb * s.hbNs)).coordLost
    else s)

/-- CLAIM (R569): heard and kept until its window ends. -/
def execClaim (n : Nat) (s : State) : Out :=
  .next (
    if !s.isMember ∨ s.loom.acked ∨ !s.inView n then s
    else s.modLoom fun l =>
      { l with claims := l.claims ++ [n], claimAt := if l.claims = [] then s.upNs else l.claimAt })

/-- CLAIM_WINDOW_END (R569): 20 ms after the first claim the lowest claimant is acknowledged. -/
def execClaimWindowEnd (s : State) : Out :=
  .next (match lowest s.loom.claims with
    | none => s
    | some n =>
      if s.loom.acked then s
      else
        let t := (s.elapseTo (s.loom.claimAt + 20000000)).modLoom fun l => { l with acked := true }
        if n = s.nodeId then t.modLoom fun l => { l with acks := l.acks ++ [n] } else t.say (.claimAck n))

/-- CLAIM_ACK (R569): with more than half of the last view's members, the claimant becomes coordinator. `groups` are the
GROUP_IDs with a rank on the lost coordinator. -/
def execClaimAck (n : Nat) (groups : List Nat) (s : State) : Out :=
  .next (
    if s.loom.st ≠ .electing ∨ !s.inView n ∨ !s.loom.claims.contains s.nodeId then s
    else
      let acks := if s.loom.acks.contains n then s.loom.acks else s.loom.acks ++ [n]
      let t := s.modLoom fun l => { l with acks := acks }
      if t.loom.view.members.length < 2 * acks.length then t.viewWithout t.loom.view.coord groups else t)

/-- ELECTION_TIMEOUT (R569): no coordinator 500 ms after the loss. -/
def execElectionTimeout (s : State) : Out :=
  .next (if s.loom.st = .electing then (s.elapseTo (s.loom.lostAt + 500000000)).loomOut .peerLost else s)

/-- LEAVE (R567). -/
def execLeave (r : EntryRef) (s : State) : Out :=
  .next (match s.running r 4 2 with
    | none => s
    | some _ =>
      if !s.isMember then s.finish r .ok 0
      else if s.loom.leaving.isSome then s
      else
        let t := s.modLoom fun l => { l with leaving := some (r, s.upNs) }
        if s.isCoord then t.sayAll fun n => .leave n else t.say (.leave s.loom.view.coord))

/-- LEAVE_MESSAGE (R569, R571): the coordinator removes the member at once; when the coordinator leaves, the election
begins. -/
def execLeaveMessage (n : Nat) (groups : List Nat) (s : State) : Out :=
  .next (
    if !s.isMember ∨ !s.inView n then s
    else if s.isCoord then (s.viewWithout n groups).judgeDelayed
    else if n = s.loom.view.coord then s.coordLost
    else s)

/-- LEAVE_TIMEOUT (R567): 100 ms without a new view. -/
def execLeaveTimeout (s : State) : Out :=
  match s.loom.leaving with
  | none => .next s
  | some (_, t) => .next (((s.elapseTo (t + 100000000)).loomOut .peerLost).leaveEnds)

/-- VOTE_PROPOSE (R567, R573). -/
def execVotePropose (r : EntryRef) (s : State) : Out :=
  .next (match s.running r 4 3 with
    | none => s
    | some y =>
      if s.loom.vote.entry = some r then s
      else if !s.isCoord then s.finish r .notFound 0
      else if s.loom.vote.st = .opened then s.finish r .busy 0
      else
        let id := (s.loom.nextVote + 1) % 2 ^ 16
        let t := (s.sayAll fun n => .propose n id).modLoom fun l => { l with nextVote := id }
        (t.voteOpens id (if y.arg 0 4 = 0 then 1000 else y.arg 0 4) (some r)).judgeDelayed)

/-- VOTE_CAST (R567, R573): YES on a member that holds a wake request completes BUSY and casts no. -/
def execVoteCast (r : EntryRef) (s : State) : Out :=
  .next (match s.running r 4 4 with
    | none => s
    | some y =>
      let yes := y.arg 2 1 % 2 = 1
      if s.loom.vote.st ≠ .opened ∨ s.loom.vote.id ≠ y.arg 0 2 then s.finish r .notFound 0
      else if yes ∧ s.holdsWake then ((s.finish r .busy 0).castOwn false).judgeDelayed
      else ((s.finish r .ok 0).castOwn yes).judgeDelayed)

/-- PROPOSE (R573): a vote opens at this member; a device in ROUSE casts no. -/
def execPropose (coord id : Nat) (s : State) : Out :=
  .next (
    if s.ward.st = .rouse then s.say (.cast coord id false)
    else if s.isMember ∧ coord = s.loom.view.coord ∧ !s.isCoord then s.voteOpens id 1000 none
    else s)

/-- CAST_VOTE_RECEIVED (R573). -/
def execCastVoteReceived (n id : Nat) (yes : Bool) (s : State) : Out :=
  .next ((if s.inView n then s.castTaken n id yes else s).judgeDelayed)

/-- VOTE_TIMEOUT (R573): members that have not cast count as no. -/
def execVoteTimeout (s : State) : Out :=
  .next (if s.isCoord ∧ s.loom.vote.st = .opened then
    ((s.elapseTo (s.loom.vote.since + 1000000 * s.loom.vote.toMs)).voteAbortAll).judgeDelayed else s)

/-- LOOM_RRESET_WRITE (R572): node and key; REMOTE_RESET is sent by the coordinator alone. -/
def execLoomRresetWrite (who : Requester) (v : Nat) (s : State) : Out :=
  .next (s.regCmd who .write Reg.loomRreset fun t =>
    t.inStates who Reg.loomRreset .steep (v / 2 ^ 16 % 2 ^ 16 = 0xB7E1) fun u =>
      (.ok, 0, if v / 2 ^ 16 % 2 ^ 16 = 0xB7E1 ∧ u.isCoord then u.say (.remoteReset (v % 1024)) else u))

/-- LOOM_CNT_CLR (R577). -/
def execLoomCntClr (who : Requester) (s : State) : Out :=
  .next (s.regCmd who .write Reg.loomCntClr fun t =>
    t.inStates who Reg.loomCntClr .ss true fun u => (.ok, 0, (u.setReg Reg.loomCnt 0).setFld Reg.loomTunStat 31 16 0))

end Sys2Proof.Machine
end

