-- ==== Sys2Proof/Machine/Reset.lean ====
section
/-! DEFINITION. Reset (§3.4): the twelve sources, what each scope of Table 3.6 keeps, loss of power, and the qualifier of
RESET_N (R107 to R115, R733). -/

namespace Sys2Proof.Machine

namespace State

/-- The reset is held: a source is active, or the release has not run. -/
def inReset (s : State) : Bool := s.power.phase == .held && s.ward.st == .boot

/-- The rails have been given up until VDD_AON is removed (R99). -/
def railsLost (s : State) : Bool := decide (2 ≤ s.power.railTries)

/-- The warden runs: rails are supplied and no reset is held. -/
def wardenRuns (s : State) : Bool := !(s.ward.st == .off) && !(s.ward.st == .standby) && !s.inReset

/-- Registers of the AON domain (§23 Corner cases) that a Pin or Warm reset keeps (Table 3.6), as they stand. -/
def keptRegs (s : State) (sc : Scope) : List (Nat × Word) :=
  let keep (m : List (Nat × Word)) (k : Nat) (w : Word) : List (Nat × Word) := SMap.set (regReset k) m k w
  let whole := [Reg.rstCause, Reg.rstSnap, Reg.safeActive, Reg.safeFatalId, Reg.safeFatalT 0, Reg.safeFatalT 1,
    Reg.safeTxcfg 0, Reg.safeTxcfg 1] ++ (if sc = .warm then [Reg.rstStrap] else [])
  let m := whole.foldl (fun m k => keep m k (s.reg k)) []
  (List.range 8).foldl (fun m p => keep m (Reg.blkWake p) (s.reg (Reg.blkWake p) &&& 2)) m

/-- The device after a reset of a scope has cleared it (Table 3.6): the values of the AON domain it keeps, the fuses, the boot
flash and the model's own counters; everything else at its reset value, every gasket SEALED, memory lost. Safety frames of
the warden ROM follow when SAFE_TXCFG0.VALID stands (R604). [log 14 DESIGN CHOICE, safe] -/
def cleared (s : State) (sc : Scope) : State :=
  let aon := !(sc == .full)
  -- after a failure of the rails they wait for the retry, or for good (R99)
  let tried := aon && decide (1 ≤ s.power.railTries)
  { pending := s.pending
    freeCtr := s.freeCtr
    upNs := s.upNs
    regs := if aon then s.keptRegs sc else []
    ward := { proofRetry := aon && s.ward.proofRetry }
    park := if aon then { fault := s.park.fault, wakeRun := s.park.wakeRun } else {}
    power := { strapDue := !(sc == .warm) || (s.inReset && s.power.strapDue)
               railMain := !tried || s.power.railMain
               railMem := !tried || s.power.railMem
               railsUp := aon && s.power.railsUp
               railFail := if tried then s.power.railFail else 0
               railTries := if tried then s.power.railTries else 0
               strapRaw := if sc == .warm then s.power.strapRaw else 0
               aonXtal := aon && s.power.aonXtal
               refOk := aon && s.power.refOk }
    safe := { rom := aon && s.fld (Reg.safeTxcfg 0) 31 31 = 1 }
    nor := s.nor
    sec := { fuses := s.sec.fuses }
    sb := { brisk := sc == .warm && s.sb.brisk } }

/-- RST_SNAP at a reset (R125). [log 31 DESIGN CHOICE, unsafe] -/
def snapshot (s : State) : Word :=
  let draining := (List.range 119).any fun g => (s.gasket g).st == .draining
  BitVec.ofNat 32 (s.ward.st.code + 16 * b2n s.ward.resident + 32 * b2n s.ward.asleep + 64 * b2n draining)

/-- A reset source becomes active (R107, R110): the device is in BOOT, held until the release. A source that joins another
adds its bit and widens the scope. [log 30 DESIGN CHOICE, safe] -/
def resetBy (s : State) (src : ResetSource) : State :=
  if s.ward.st = .off then s
  else if src.scope = .full then s.cleared .full
  else
    let snap := if s.inReset then s.reg Reg.rstSnap else s.snapshot
    let cause := (s.reg Reg.rstCause).toNat ||| 2 ^ src.bit
    let t := ((s.cleared src.scope).setReg Reg.rstCause (BitVec.ofNat 32 cause)).setReg Reg.rstSnap snap
    { t with
      power := { t.power with thermalHold := src == .thermal || (s.inReset && s.power.thermalHold) }
      pcie := { t.pcie with sticky := if src == .pcie || src == .software then s.pcie.sticky else 0 } }

/-- The exit from STANDBY (R733): the Warm scope, no bit of RST_CAUSE, the rails requested. [log 22 DEDUCED, unsafe] -/
def standbyExit (s : State) : State :=
  if s.ward.st = .standby then (s.cleared .warm).setReg Reg.rstSnap s.snapshot else s

/-- Software full reset (R115). -/
def softReset (s : State) : State := s.resetBy .software

/-- Options of the PCIe 5.0 port that let a link reset through (R112): before the DRIVE image is applied it always acts. -/
def pcieResets (s : State) : Bool :=
  match s.driveImg with
  | none => true
  | some d => match d.port 0 with
    | none => false
    | some p => decide (p.role = 1) && bitOf p.options 0

end State

open State

/-- POWER_ON_RESET (R107): VDD_AON below its threshold, or first power-up. -/
def execPowerOnReset (s : State) : Out := .next (s.cleared .full)

/-- LOSS_OF_VDD_AON (R17). -/
def execLossOfVddAon (s : State) : Out :=
  let t := s.cleared .full
  .next { t with ward := { t.ward with st := .off }, power := { t.power with railMain := false, railMem := false } }

/-- CORE_BOR (R107); VDD_CORE and VDD_SRAM are watched while Group M stands. [log 30 DESIGN CHOICE, safe] -/
def execCoreBor (s : State) : Out := .next (if s.power.railsUp then s.resetBy .coreBor else s)

/-- IO_BOR (R107). -/
def execIoBor (s : State) : Out := .next (s.resetBy .ioBor)

/-- RESET_N_ASSERT (R108): low for `lowNs`. Between 100 ns and 1 µs the outcome is free: the whole reset, or nothing.
[log 35 DEDUCED, safe] -/
def execResetNAssert (lowNs : Nat) (s : State) : Out :=
  if lowNs < 100 then .next s
  else if 1000 ≤ lowNs then .next ((s.resetBy .pin).elapse lowNs)
  else
    let (v, t) := s.draw
    .next (if v % 2 = 1 then (t.resetBy .pin).elapse lowNs else t)

/-- THERMAL_TRIP (R105, R107). -/
def execThermalTrip (s : State) : Out := .next (s.resetBy .thermal)

/-- SOFTWARE_FULL_RESET (R115): a write to RST_SW. -/
def execSoftwareFullReset (who : Requester) (v : Nat) (s : State) : Out :=
  .next (s.regCmd who .write Reg.rstSw fun t => t.inStates who Reg.rstSw .all (v % 2 ^ 32 = 0xA5C3) fun u =>
    (.ok, 0, if v % 2 ^ 32 = 0xA5C3 then u.softReset else u))

/-- PCIE_HOT_RESET (R112): hot reset, or link-down, as the PCIE reset source when the port lets it through. -/
def execPcieHotReset (s : State) : Out :=
  .next (if s.wardenRuns ∧ s.pcieResets then s.resetBy .pcie else s)

end Sys2Proof.Machine
end

