-- ==== Sys2Proof/Machine/Faults.lean ====
section
/-! DEFINITION. Faults (§18.4, §18.6): safety frames, the fault classes and their reactions, attribution, the enclosure abort
of Table 4.7, and entry to the safe state (R587 to R592, R599 to R604). -/

namespace Sys2Proof.Machine

namespace State

/-! ### Safety frames (R602 to R604) -/

/-- DATA_ID of the safety frame. -/
def safeDataId : Nat := 0x5AFE

/-- The FAULT pins are at the fault level (R601). -/
def faultLevel (s : State) : Bool := s.safe.latchP || s.safe.latchN

/-- Something is captured in SAFE_FATAL_ID. -/
def captured (s : State) : Bool := s.fld Reg.safeFatalId 31 31 = 1

/-- TSU at the captured fault's detection. -/
def fatalTime (s : State) : Nat := (s.reg (Reg.safeFatalT 0)).toNat + (s.reg (Reg.safeFatalT 1)).toNat * 2 ^ 32

/-- The payload (Table 18.9). -/
def safePayload (s : State) (last rom : Bool) : List Byte :=
  let sstat := b2n s.faultLevel + 2 * b2n (s.ward.st == .halt) + 4 * b2n rom
    + 8 * b2n (decide ((s.reg Reg.safeActive).toNat ≠ 0)) + 16 * b2n s.ward.resident + 32 * b2n last
    + 64 * b2n s.parked + 128 * b2n s.park.agree
  let cap (n : Nat) : Nat := if s.captured then n else 0
  leBytes 4 (if s.fusion.committed then s.fusion.lastEpoch else 0) ++ leBytes 1 s.fusion.validity
    ++ leBytes 1 s.ward.st.code ++ leBytes 1 sstat ++ leBytes 1 (cap (s.fld Reg.safeFatalId 17 16))
    ++ leBytes 2 (cap (s.fld Reg.safeFatalId 15 0)) ++ leBytes 2 (s.fld Reg.safeActive 15 0)
    ++ leBytes 2 (s.fld Reg.rstCause 11 0) ++ leBytes 1 (s.fld Reg.safeProofStat 7 0) ++ leBytes 1 s.tsu.st
    ++ leBytes 8 (cap s.fatalTime) ++ leBytes 4 s.fusion.causes ++ leBytes 12 0

/-- The last frame is given to the bus and its moment has not come (frames begin at least 1 ms apart, R603). -/
def framePending (s : State) : Bool := decide (s.safe.sent ≠ 0 ∧ s.upNs < s.safe.lastBegin)

/-- A frame begins on the bus, at the earliest 1 ms after the one before; one that has not begun yet is replaced. ROM frames
carry SENDER_TIME 0 and TIMEBASE 0 (R604). -/
def frameBegin (s : State) (due : Nat) (payload : List Byte) (rom : Bool) : State :=
  let c := SMap.get 0 s.str.outbound safeDataId
  let s0 := if s.framePending then
    { s with str := { s.str with outbound := SMap.set 0 s.str.outbound safeDataId ((c + 2 ^ 32 - 1) % 2 ^ 32) } } else s
  let tsu := s0.tsu
  let (h, s1) := (if rom then { s0 with tsu := {} } else s0).outbound safeDataId payload
  let at_ := if s.framePending then s.safe.lastBegin
    else if s.safe.sent = 0 then s.upNs else max s.upNs (s.safe.lastBegin + 1000000)
  { s1 with tsu := tsu, safe := { s1.safe with
      lastFrame := h ++ payload, lastBegin := at_, sent := s1.safe.sent + (if s.framePending then 0 else 1),
      txOk := decide (at_ ≤ due + 5000000), waiting := none, late := false } }

/-- The warden schedules safety frames (R603). [log 130 DESIGN CHOICE, unsafe] -/
def framesOn (s : State) : Bool := s.safe.running && !s.safe.paused

/-- A frame falls due; one that waits for the bus has its content replaced. [log 130 DESIGN CHOICE, unsafe] -/
def frameDue (s : State) (last busFree : Bool) : State :=
  if !s.framesOn then s
  else
    let s1 := { s with safe := { s.safe with dueAt := s.upNs } }
    let p := s1.safePayload last false
    let due := (s1.safe.waiting.map (·.1)).getD s1.upNs
    if busFree then s1.frameBegin due p false
    else { s1 with safe := { s1.safe with waiting := some (due, p) } }

/-- An event frame (R603): the bus is free unless a frame already waits for it. -/
def eventFrame (s : State) : State := s.frameDue false s.safe.waiting.isNone

/-- A change of device state, with its event frame. [log 15 DESIGN CHOICE, unsafe] -/
def transit (s : State) (st : DevState) (causes : Nat) : State := (s.goto st causes).eventFrame

/-- Cause bits of WARD_TRANS_CAUSE (Table 1.11). -/
def cParkOff : Nat := 0x001
def cRouseCmd : Nat := 0x002
def cWakeDrive : Nat := 0x004
def cParkDisc : Nat := 0x008
def cSettleFail : Nat := 0x010
def cSettleTimeout : Nat := 0x020
def cModeCmd : Nat := 0x040
/-- Causes of WARD_TRANS_CAUSE that a fault or its trigger sets (Table 1.11). [log 34 DESIGN CHOICE, unsafe] -/
def cFatal : Nat := 0x080
def cProofFail : Nat := 0x100
def cRouseTimeout : Nat := 0x200
def cBootFail : Nat := 0x400
def cProofPass : Nat := 0x800

/-! ### AF and LG (Table 18.3) -/

/-- An AF fault: counted, and its bit of SAFE_ACTIVE latched; a bit newly set brings an event frame. -/
def activeFault (s : State) (bit : Nat) : State :=
  let s1 := s.bump Reg.safeCnt 7 0
  if s1.fld Reg.safeActive bit bit = 1 then s1 else ((s1.setFld Reg.safeActive bit bit 1).sbEvent 2).eventFrame

/-- A logged fault. -/
def logged (s : State) : State := s.bump Reg.safeCnt 23 16

/-! ### Work that ends with a code -/

/-- Everything of an enclosure ends with a code: loads, admitted entries, its tiles' kernels, its mover channels and its LSE
jobs (R231, R258). -/
def stopEncl (s : State) (e : Nat) (st : Status) : State :=
  let s1 := (List.range 64).foldl (fun u i =>
    if ((u.slot i).load.map (·.encl)) = some e then u.loadFail i st else u) s
  let s2 := (s1.stopJobs (fun j => j.r.encl = e) st).endAll e st
  let s3 := (List.range 64).foldl (fun t i => if t.tileOwner i = e then t.tileStop i st else t) s2
  (List.range 512).foldl (fun t i =>
    if (t.mchan (i / 32) (i % 32)).encl = e + 1 then t.chAbort (i / 32) (i % 32) st else t) s3

/-- The commanded proof and the injection of no further effect; SAFE_PROOF_STAT shows the proof stopped. -/
def proofStopped (s : State) : State :=
  let t := match s.safe.proof with
    | none => s
    | some p => (s.setReg Reg.safeProofStat (BitVec.ofNat 32 (3 + 4 * p.scope)))
  { t with safe := { t.safe with proof := none, inject := none } }

/-! ### The safe state (Table 18.7) -/

/-- The first SF or SR fault since VALID was cleared is captured (R592). -/
def capture (s : State) (id : FaultId) (cls encl gsk : Nat) : State :=
  if s.captured then s
  else
    ((((s.setReg Reg.safeFatalId (BitVec.ofNat 32
        (id.code + cls * 0x10000 + encl % 16 * 0x40000 + gsk % 128 * 0x400000 + 0x80000000))).setReg
      (Reg.safeFatalT 0) (BitVec.ofNat 32 s.tsu.time)).setReg (Reg.safeFatalT 1)
      (BitVec.ofNat 32 (s.tsu.time / 2 ^ 32)))).sbEvent 1

/-- Both FAULT latches are set: FAULT_P high, FAULT_N low. -/
def latchFault (s : State) : State := { s with safe := { s.safe with latchP := true, latchN := true } }

/-- The gaskets that stay OPEN in HALT (step 4). -/
def staysOpen (g : Nat) : Bool := (72 ≤ g && g < 80) || g == 101 || g == 102 || g == 111 || g == 112 || 116 ≤ g

/-- Steps 3 to 6: HALT is declared, admissions close and work ends with BLOCK_RESET, gaskets drain with a timeout of 0.5 ms,
leases are seized, Brikel ports are DISABLED, the INVALID frame of the epoch in progress and the event safety frame go out. -/
def haltEntry (s : State) (causes : Nat) : State :=
  let n := s.epochNow
  let s0 := s.goto .halt causes
  let s1 := { s0 with ward := { s0.ward with cozy := false, asleep := false, zeroFill := false } }
  let s2 := (List.range 8).foldl (fun t e => t.stopEncl e .blockReset) s1
  let s3 := (List.range 119).foldl (fun t g => if staysOpen g then t else t.gskDrainFor g 500000) s2.proofStopped
  let s4 := ((List.range 8).filter s3.present).foldl (fun t e => t.seizeNow (.encl e)) s3
  let s5 := (List.range 8).foldl portOff s4
  (s5.haltFrame n true [] []).eventFrame

/-- An SF fault (R587, R592, R599). `causes` is the trigger of Table 1.2 it is. [log 34 DESIGN CHOICE, unsafe] -/
def fatal (s : State) (id : FaultId) (encl gsk causes : Nat) : State :=
  if s.ward.st = .halt then s.logged
  else if !s.wardenRuns then s
  else (((s.capture id 1 encl gsk).latchFault).haltEntry (causes ||| cFatal))

/-- An SR fault: captured unless HALT holds, the pins set by hardware, and the device reset by its source.
[log 29 DEDUCED, unsafe] -/
def fatalWarden (s : State) (id : FaultId) (src : ResetSource) : State :=
  ((if s.ward.st = .halt then s.logged else s.capture id 2 0xF 118).latchFault).resetBy src

/-! ### Attribution (R588) -/

/-- The enclosures a report is attributed to; none for a device-level report. -/
def attributed (s : State) (r : Report) : Option (List Nat) :=
  match r.attr with
  | .device => none
  | .tag e => some (if e < 8 ∧ s.present e then [e] else [])
  | .scrub a => some ((List.range 8).filter fun e => (s.windowsOf e).any (·.covers a 1))
  | .block g => some ((List.range 8).filter fun e => s.serves g e && (decide (g < 100) || e ≠ 0))

/-- MECH_ENABLE bit in the image that holds the enclosure's record. -/
def mechOn (s : State) (e bit : Nat) : Bool := bitOf ((s.imgOf e).map (·.mech) |>.getD 0) bit

/-- Table 4.7, steps 1 to 4: a QM enclosure is aborted. Its work completes with ACCESS_DENIED, the gaskets of its tiles drain
with a timeout of 1 ms, its leases are seized; step 5 follows when the gaskets are SEALED. -/
def enclAbort (s : State) (e : Nat) : State :=
  let en := s.enclSt e
  if en.st = .aborted ∨ en.closing then s
  else
    let s1 := (s.stopEncl e .accessDenied).bump Reg.safeCnt 15 8
    let s2 := (List.range 64).foldl (fun t g => if t.tileOwner g = e then t.gskDrainFor g 1000000 else t) s1
    ((s2.seizeNow (.encl e)).setEncl e { st := .aborting, closing := true }).abortsEnd

/-- A compute report under R590: the second within 10 s is SF. -/
def computeRule (s : State) (id : FaultId) (encl : Nat) (r : Report) : State :=
  let last := SMap.get 0 s.safe.computeAt r.unit
  let t := { s with safe := { s.safe with computeAt := SMap.set 0 s.safe.computeAt r.unit (s.upNs + 1) } }
  if last ≠ 0 ∧ s.upNs < last - 1 + 10000000000 then t.fatal id encl r.gsk cFatal
  else (t.bump Reg.safeCnt 31 24).activeFault 5

/-- An uncorrectable memory error of enclosure 1 in DRIVE: SF on the fourth report within 1 s (Table 18.4). -/
def memUeDrive (s : State) (r : Report) : State :=
  let recent := s.upNs :: s.safe.memUeAt.filter fun t => s.upNs < t + 1000000000
  let t := { s with safe := { s.safe with memUeAt := recent } }
  if 4 ≤ recent.length then t.fatal .memUe 1 r.gsk cFatal else t.logged

/-- The faults under the compute rule. -/
def isCompute : FaultId → Bool
  | .proofMismatch => true
  | .vuResidue => true
  | .lseChecksum => true
  | .assignMismatch => true
  | _ => false

/-- The reaction to a report attributed to a SAFETY enclosure, or device-level (`encl` 0xF) (Table 18.4). -/
def reactSafety (s : State) (r : Report) (encl : Nat) : State :=
  match r.fault with
  | .parkDisc => s.activeFault 0
  | .overTemp => s.activeFault 1
  | .ceRate => s.activeFault 2
  | .dramHot => s.logged
  | .aonXtal => s.activeFault 3
  | .proofCmd => s.activeFault 4
  | .stewardHang => if s.serves r.gsk 1 ∧ s.ward.st = .drive then s.fatal .stewardHang encl r.gsk cFatal else s.activeFault 6
  | .safeFrameTx => if s.ward.st = .drive then s.fatal .safeFrameTx encl r.gsk cFatal else s.activeFault 7
  | .memUe =>
    if encl = 1 ∧ s.ward.st = .drive then s.memUeDrive r
    else if encl = 1 ∧ (s.ward.st = .service ∨ s.ward.st = .halt) then s.logged
    else s.fatal .memUe encl r.gsk cFatal
  | .wardenUe => s.fatalWarden .wardenUe .safetyFatal
  | .proofMismatch => s.computeRule r.fault encl r
  | .vuResidue => s.computeRule r.fault encl r
  | .lseChecksum => s.computeRule r.fault encl r
  | .assignMismatch => s.computeRule r.fault encl r
  | .wardClock => s.fatalWarden .wardClock .safetyFatal
  | .lockstep => s.fatalWarden .lockstep .safetyFatal
  | .wardenWdog => s.fatalWarden .wardenWdog .watchdog
  | f => s.fatal f encl r.gsk cFatal

/-- The reaction to a report attributed to QM enclosures alone. -/
def reactQm (s : State) (r : Report) (es : List Nat) : State :=
  let abortOr (t : State) (bit : Nat) : State :=
    if es.any (t.mechOn · bit) then (es.filter (t.mechOn · bit)).foldl enclAbort t else t.logged
  match r.fault with
  | .memUe => abortOr s 32
  | .poisonOverflow => es.foldl enclAbort s
  | .partition => es.foldl enclAbort s
  | .stewardHang => s.activeFault 6
  | f =>
    if isCompute f then
      abortOr { s with safe := { s.safe with computeAt := SMap.set 0 s.safe.computeAt r.unit (s.upNs + 1) } } 33
    else s.logged

/-- The fault collector classifies a report and reacts (R588, R589). MEM_UE leaves out a report of POISON_WRITE, which Table 18.4
gives no class. -/
def react (s : State) (r : Report) : State :=
  if r.event = some .poisonWrite then s
  else match s.attributed r with
  | none => s.reactSafety r 0xF
  | some [] => s.logged
  | some es =>
    match es.find? s.isSafety with
    | some e => s.reactSafety r e
    | none => s.reactQm r es

/-- A block the warden resets as part of a reaction (R120, R605): its gasket drains by force first. -/
def wardenReset (s : State) (g : Nat) : State := (s.gskShut g).blockReset g

end State

open State

/-- FAULT_REPORT (R587): the collector receives the oldest report. A report that carries the injection tag goes to the proof
sequencer alone (R593): it proves the checker of a commanded injection good. [log 33 DESIGN CHOICE, unsafe] -/
def execFaultReport (tagged : Bool) (s : State) : Out :=
  .next (
    if tagged then
      (match s.safe.inject with
      | none => s
      | some i => ({ s with safe := { s.safe with inject := none } }).finish i.r .ok 0)
    else match s.safe.reports with
    | [] => s
    | r :: rs => ({ s with safe := { s.safe with reports := rs } }).react r)

/-- SAFETY_FRAME_PERIOD (R603): a period after the latest frame fell due the next one does. `busFree`: the bus takes it;
`readBack`: the transmit checker's comparison holds (R433). -/
def execSafetyFramePeriod (busFree readBack : Bool) (s : State) : Out :=
  .next (
    if !s.framesOn then s
    else
      let t := (s.elapseTo (s.safe.dueAt + 1000000 * s.fld (Reg.safeTxcfg 1) 15 8))
      if busFree && !readBack then
        { t with safe := { t.safe with dueAt := t.upNs, waiting := some (t.upNs, t.safePayload false false) } }.holdBack
      else t.frameDue false busFree)

/-- SAFE_FRAME_TX_LATE (R589): 5 ms after its due time a frame still waits for the bus. -/
def execSafeFrameTxLate (s : State) : Out :=
  match s.safe.waiting with
  | none => .next s
  | some (due, _) =>
    let t := s.elapseTo (due + 5000000)
    .next (if s.safe.late then t
      else ({ t with safe := { t.safe with late := true, txOk := false } }).reactSafety { fault := .safeFrameTx } 0xF)

/-- ROM_SAFETY_FRAME (R604): the warden ROM sends the next frame, the first one at once. -/
def execRomSafetyFrame (s : State) : Out :=
  .next (
    if !s.safe.rom ∨ s.inReset then s
    else
      let t := if s.safe.sent = 0 then s else s.elapseTo (s.safe.lastBegin + 1000000 * s.fld (Reg.safeTxcfg 1) 15 8)
      t.frameBegin t.upNs (t.safePayload false true) true)

/-- FAULT_PIN_MISMATCH (R601): a pin disagrees with its expected level for 10 µs; both latches are set. -/
def execFaultPinMismatch (s : State) : Out :=
  .next (if s.wardenRuns then ((s.elapse 10000).latchFault).fatal .faultPin 0xF 118 cFatal else s)

/-- STEWARD_HANG (R586, R605): the steward's progress count has stood for 10 ms. The warden resets it, unless the fault is
SF. -/
def execStewardHang (k : Nat) (s : State) : Out :=
  let g := 96 + k % 4
  .next (
    if !s.wardenRuns ∨ !(s.gasket g).powered ∨ (s.gasket g).inReset then s
    else
      let t := (s.elapse 10000000).react { fault := .stewardHang, attr := .block g, gsk := g }
      if t.ward.st = .halt then t else t.wardenReset g)

/-- The expected count of a clock window (R584): clocks in 10 µs of a divider of 6.4 GHz; of the 25 MHz reference for 8.
[log 36 DESIGN CHOICE, unsafe] -/
def expectedCount (s : State) (d : Nat) : Nat :=
  if d = 8 then 250
  else 64000 / max 1 (if d < 4 then s.fld Reg.clkDivLo (8 * d + 7) (8 * d) else s.fld Reg.clkDivHi (8 * d - 25) (8 * d - 32))

/-- CLOCK_MON_WINDOW (R584): a window of domain `d` in the order of CLOCKS, or of the reference (8), ends with a count.
[log 36 DESIGN CHOICE, unsafe] -/
def execClockMonWindow (d count : Nat) (s : State) : Out :=
  let x := expectedCount s d
  let off := if x ≤ count then count - x else x - count
  .next (
    if !s.wardenRuns ∨ s.ward.asleep ∨ 8 < d then s
    else
      let t := s.elapse 10000
      if 100 * off ≤ (if d = 8 then 15 else 2) * x then t
      else if d = 4 then t.fatalWarden .wardClock .safetyFatal
      else t.fatal .clockMon 0xF 118 cFatal)

/-- PLL_UNLOCK (R584). -/
def execPllUnlock (s : State) : Out :=
  .next (if s.wardenRuns ∧ s.power.pllLock then
    ({ s with power := { s.power with pllLock := false } }).fatal .pllUnlock 0xF 118 cFatal else s)

/-- VOLT_MON (R585): rail 1 to 6 as PWR_STAT.RAIL_FAIL codes them, 7 VDD_AON, 8 VDD_IO33, out of its window for 2 µs. -/
def execVoltMon (rail : Nat) (s : State) : Out :=
  .next (if s.wardenRuns ∧ 1 ≤ rail ∧ rail ≤ 8 then (s.elapse 2000).fatal .voltMon 0xF 118 cFatal else s)

/-- LOCKSTEP_MISMATCH (Table 3.5, R587). -/
def execLockstepMismatch (s : State) : Out :=
  .next (if s.wardenRuns then s.fatalWarden .lockstep .safetyFatal else s)

/-- WARDEN_WATCHDOG_EXPIRY (R114): paused in COZY. -/
def execWardenWatchdogExpiry (s : State) : Out :=
  .next (if s.wardenRuns ∧ !s.ward.asleep then s.fatalWarden .wardenWdog .watchdog else s)

/-- AON_XTAL_LOSS (R589, R95): the AON domain is back on its internal oscillator. [log 32 DESIGN CHOICE, safe] -/
def execAonXtalLoss (s : State) : Out :=
  .next (if s.power.aonXtal then ({ s with power := { s.power with aonXtal := false } }).activeFault 3 else s)

/-- SAFE_CNT_CLR (R607). -/
def execSafeCntClr (who : Requester) (s : State) : Out :=
  .next (s.regCmd who .write 0x0700F0 fun t => t.inStates who 0x0700F0 .dss true fun u => (.ok, 0, u.setReg Reg.safeCnt 0))

end Sys2Proof.Machine
end

