-- ==== Sys2Proof/Machine/PowerEv.lean ====
section
/-! DEFINITION. Rails, the core voltage, the AON crystal, temperature and the power cap (§3.1 to §3.3: R95, R97, R99, R104,
R105). -/

namespace Sys2Proof.Machine

namespace State

/-- 50 µs after VID_CORE last moved (R97). -/
def vidReady (s : State) : Nat := if s.power.vidAt = 0 then s.upNs else s.power.vidAt - 1 + 50000

/-- The warden runs with its clocks: not in Cozy sleep. -/
def wardenAwake (s : State) : Bool := s.wardenRuns && !s.ward.asleep

/-- PWR_TEMP.MAX_C as a signed number (Table 3.19). -/
def maxC (s : State) : Int := toSigned 9 (s.fld Reg.pwrTemp 8 0)

/-- The hottest of the sensors and its index; the lowest index where several are equal. [log 28 DESIGN CHOICE, unsafe] -/
def hottest (l : List Int) : Int × Nat :=
  let m := l.foldl (fun (a b : Int) => if a < b then b else a) (l.getD 0 0)
  (m, l.findIdx (· = m))

/-- Step 8 of Table 3.7: WEAVE and CORE are released and DRAM is initialised. -/
def toInit (s : State) : State :=
  let u := s.powerBlocks ((List.range 8).map (64 + ·) ++ (List.range 20).map (80 + ·))
  { u with power := { u.power with phase := .initialising } }

/-- A thermal wait of step 8 ends when the hottest sensor reads 115 °C or less (§3.4). -/
def thermalEnds (s : State) : State := if s.power.phase = .trained ∧ !s.power.thermalHold then s.toInit else s

end State

open State

/-- RAIL_VALID_TIMEOUT (R99): 20 ms after the enables a rail (coded as PWR_STAT.RAIL_FAIL) is not valid. -/
def execRailValidTimeout (rail : Nat) (s : State) : Out :=
  .next (
    if !s.inReset ∨ s.power.railsUp ∨ !s.power.railMain ∨ s.railsLost ∨ rail = 0 ∨ 6 < rail then s
    else
      let t := s.elapse 20000000
      { t with power := { t.power with
          railMain := false, railMem := false, railTries := s.power.railTries + 1
          railFail := if s.power.railTries = 1 then rail else t.power.railFail } })

/-- RAIL_RETRY (R99): 100 ms after the first failure both enables rise again. -/
def execRailRetry (s : State) : Out :=
  .next (
    if s.power.railTries = 1 ∧ !s.power.railMain then
      let t := s.elapse 100000000
      { t with power := { t.power with railMain := true, railMem := true } }
    else s)

/-- VID_STEP (R97): one step of VID_CORE up or down within 0 to 20, at most one each 50 µs. -/
def execVidStep (up : Bool) (s : State) : Out :=
  .next (
    if !s.wardenAwake ∨ (if up then 20 ≤ s.power.vid else s.power.vid = 0) then s
    else
      let t := s.elapseTo s.vidReady
      { t with power := { t.power with
          vid := if up then t.power.vid + 1 else t.power.vid - 1, vidAt := t.upNs + 1 } })

/-- AON_XTAL_SWITCH (R95): the monitor has counted 1024 good cycles. [log 32 DESIGN CHOICE, safe] -/
def execAonXtalSwitch (s : State) : Out :=
  .next (if s.ward.st = .off then s else { s with power := { s.power with aonXtal := true } })

/-- TEMP_SAMPLE (R105, R131, §3.4): the readings of the sensors, in °C. [log 28 DESIGN CHOICE, unsafe] -/
def execTempSample (readings : List Int) (s : State) : Out :=
  .next (
    if !s.wardenAwake ∨ readings = [] then s
    else
      let h := hottest (readings.take 16)
      let c := h.1
      let s0 := s.setReg Reg.pwrTemp (BitVec.ofNat 32 (ofSigned 9 c + h.2 * 512))
      let thr : Int := s0.fld Reg.pwrTempThr 7 0
      let s1 := if thr ≤ c ∧ s.maxC < thr then s0.sbEvent 7 else s0
      let throttled := decide (thr ≤ c) || (s1.power.throttled && decide (thr - 5 < c))
      let s2 := ({ s1 with power := { s1.power with
        throttled := throttled, thermalHold := s1.power.thermalHold && decide (115 < c) } }).thermalEnds
      if 125 ≤ c then s2.reactSafety { fault := .overTemp } 0xF else s2)

/-- POWER_CAP_CHECK (R104): every 100 µs in STEEP the estimate, in W, is compared with PWR_CAP; no cap acts elsewhere. -/
def execPowerCapCheck (watts : Nat) (s : State) : Out :=
  .next (
    if s.ward.st = .steep ∧ !s.ward.asleep then
      let t := s.elapseTo ((s.upNs / 100000 + 1) * 100000)
      { t with power := { t.power with capThrottled := decide (t.fld Reg.pwrCap 7 0 < watts) } }
    else { s with power := { s.power with capThrottled := false } })

end Sys2Proof.Machine
end

