-- ==== Sys2Proof/Machine/Images.lean ====
section
/-! DEFINITION. Images in the device (§2.4 to §2.6, §22.4): the facts the checks run against, the boot flash, what an image
puts in force, the memory keys that go with it, and idleness for a re-image. -/

namespace Sys2Proof.Machine

/-! ### Address ranges -/

/-- What two ranges [lo, hi) share. -/
def rangeMeet (a b : Nat × Nat) : List (Nat × Nat) :=
  if max a.1 b.1 < min a.2 b.2 then [(max a.1 b.1, min a.2 b.2)] else []

/-- A range without another. -/
def rangeMinus (a b : Nat × Nat) : List (Nat × Nat) :=
  (if a.1 < min a.2 b.1 then [(a.1, min a.2 b.1)] else []) ++ (if max a.1 b.2 < a.2 then [(max a.1 b.2, a.2)] else [])

/-- A range without any of several. -/
def rangeMinusAll (a : Nat × Nat) (l : List (Nat × Nat)) : List (Nat × Nat) :=
  l.foldl (fun (acc : List (Nat × Nat)) b => acc.flatMap (rangeMinus · b)) [a]

/-- The range of a window. -/
def Window.range (w : Window) : Nat × Nat := (w.base, w.top)

namespace State

/-! ### Facts for the checks (R78) -/

/-- The boot source is host push (Table 3.15). -/
def hostPush (s : State) : Bool := s.fld Reg.rstStrap 4 4 = 1

/-- Provisioned, unrevoked signer slots with their keys (R621). [log 8 PRESUMED, unsafe] -/
def signerKeys (s : State) : List (Nat × Nat) :=
  ((List.range 4).map fun i => (i, s.sec.fuses.keys.getD i 0)).filter fun (k : Nat × Nat) =>
    k.2 ≠ 0 && !bitOf s.sec.fuses.revoked k.1

/-- The device facts; `place` is the profile a boot place demands (R82). -/
def imgFacts (s : State) (place : Nat) : ImgFacts :=
  { keys := s.signerKeys, rollback := s.sec.fuses.rollback, usable := s.usable, hostPush := s.hostPush, place := place,
    drive := s.img.drive }

/-- The PROFILE byte of an object whose directory stands (R91). -/
def imgProfile (bs : List Byte) (f : ImgFail) : Nat :=
  let p := fieldAt bs (dirOffset bs 1) 1
  if 0xA ≤ f.code ∧ (p = 1 ∨ p = 2) then p else 0

/-- WARD_IMG_ERR takes a failed check (R91), its low 16 item bits [log 158 DESIGN CHOICE, unsafe]; a bundle reports SECTION 0xF and PROFILE 0 (R619). -/
def imgError (s : State) (f : ImgFail) (bs : List Byte) (bundle : Bool) : State :=
  s.setReg Reg.imgErr (BitVec.ofNat 32
    (f.code + (if bundle then 0xF else f.section_) * 0x100 + (f.item % 0x10000) * 0x1000
      + (if bundle then 0 else imgProfile bs f) * 0x10000000))

/-- A failed check of the stored STEEP image stands in WARD_IMG_ERR: step 5 of SETTLE (R83) or a DRIVE image applied in SERVICE
(R86) judged it (R91). -/
def settleErr (s : State) (f : ImgFail) : State :=
  s.setReg Reg.imgErr (BitVec.ofNat 32 (f.code + f.section_ * 0x100 + f.item % 0x10000 * 0x1000 + 0x20000000))

/-- LAST_OK and LAST_PROFILE of WARD_IMG_STAT (R90). -/
def imgDone (s : State) (ok : Bool) (profile : Nat) : State :=
  (s.setFld Reg.imgStat 2 2 (b2n ok)).setFld Reg.imgStat 4 3 profile

/-- A load that fails a check: reported under R77. -/
def imgFails (s : State) (f : ImgFail) (bs : List Byte) : State :=
  (s.imgError f bs false).imgDone false (imgProfile bs f)

/-! ### The boot flash (R683 to R685) -/

/-- A stored byte; an erased one reads 0xFF. [log 9 DESIGN CHOICE, unsafe; 12 DESIGN CHOICE, safe] -/
def norByte (s : State) (a : Nat) : Byte := SMap.get 0xFF s.nor a
/-- `n` stored bytes from `a`. -/
def norBytes (s : State) (a n : Nat) : List Byte := (List.range n).map fun i => s.norByte (a + i)
/-- Storing bytes. [log 12 DESIGN CHOICE, safe] -/
def norWrite (s : State) (a : Nat) (bs : List Byte) : State :=
  { s with nor := (List.range bs.length).foldl (fun (m : List (Nat × Byte)) i => SMap.set 0xFF m (a + i) (bs.getD i 0)) s.nor }

/-- The directory at a sector (0 D0, 1 D1), when it is valid. -/
def norDir (s : State) (i : Nat) : Option (List Byte) :=
  let d := s.norBytes (0x1000 * i) 64
  if fieldAt d 0 4 = 0x52494446 ∧ fieldAt d 0x3C 4 = crc32c (d.take 0x3C) then some d else none

/-- The sector of the active directory: the valid one with the larger SEQ, D0 where they are equal. -/
def norActive (s : State) : Option Nat :=
  match s.norDir 0, s.norDir 1 with
  | some a, some b => some (if fieldAt a 4 4 < fieldAt b 4 4 then 1 else 0)
  | some _, none => some 0
  | none, some _ => some 1
  | none, none => none

/-- The valid directories, the active one first. -/
def norDirs (s : State) : List (List Byte) :=
  match s.norActive with
  | none => []
  | some i => (s.norDir i).toList ++ (s.norDir (1 - i)).toList

/-- The object a directory names at `off` (0x08 bundle, 0x10 DRIVE image, 0x18 STEEP image), read at most a byte past the
largest length the checks allow. -/
def norObject (s : State) (d : List Byte) (off cap : Nat) : List Byte :=
  s.norBytes (fieldAt d off 4) (min (fieldAt d (off + 4) 4) (cap + 1))

/-! ### What an image puts in force -/

/-- Numbers as the little-endian bytes of a register. -/
def packBytes : List Nat → Nat
  | [] => 0
  | b :: bs => b % 256 + 256 * packBytes bs

/-- The registers of a block range at their reset values. -/
def clearRegs (s : State) (lo hi : Nat) : State :=
  { s with regs := s.regs.filter fun (r : Nat × Word) => decide (r.1 < lo ∨ hi ≤ r.1) }

/-- The queue registers and queues of enclosures 2 to 7 at their reset values. -/
def clearQueues (s : State) : State :=
  let t := s.clearRegs (Reg.qblk 2) (Reg.qblk 8)
  { t with queues := t.queues.filter fun (q : Nat × Queue) => decide (q.1 < 32) }

/-- Channels per enclosure in force, in ascending order (R252). -/
def channelCounts (s : State) : List Nat :=
  match s.img.force with
  | .none => List.replicate 8 0
  | .drive => (List.range 8).map fun e => if s.present e then (s.img.drive.map (·.moverCh.getD e 0)).getD 0 else 0
  | .both => (List.range 8).map fun e =>
      if !s.present e then 0
      else if e = 0 then (s.img.drive.map (·.moverCh.getD 0 0)).getD 0
      else if e = 1 then 0 else (s.img.steep.map (·.moverCh.getD e 0)).getD 0

/-- The enclosure of the `i`-th channel, plus one; 0 unassigned. -/
def channelOwner : List Nat → Nat → Nat → Nat
  | [], _, _ => 0
  | n :: ns, e, i => if i < n then e + 1 else channelOwner ns (e + 1) (i - n)

/-- The warden assigns the mover channels (R252): channel i is channel i / 16 of mover i mod 16. One that changes hands
starts idle with its page at reset. -/
def assignChannels (s : State) : State :=
  let counts := s.channelCounts
  (List.range 512).foldl (fun t i =>
    let (m, c) := (i % 16, i / 16)
    let o := channelOwner counts 0 i
    if (t.mchan m c).encl = o then t
    else (t.clearRegs (Reg.moverPage m c) (Reg.moverPage m c + 0x40)).setMchan m c { encl := o }) s

/-- The block is one the images in force use (R732). -/
def usedBlock (s : State) (g : Nat) : Bool :=
  if g < 64 then s.tileOwner g ≠ 0xF && !s.img.spareOut.contains g
  else if g < 103 then true
  else if g < 111 then (s.portOf (0x40 + (g - 103))).isSome
  else if g = 111 then (s.portOf 0).isSome
  else if g = 112 then (s.portOf 1).isSome
  else if g < 116 then (s.portOf (0x10 + (g - 113))).isSome
  else decide (g < 119)

/-- The gaskets of the blocks in use open, every other one is sealed (R732). -/
def openUsed (s : State) (keep : Nat → Bool) : State :=
  (List.range 119).foldl (fun t g => if keep g then t else if t.usedBlock g then t.gskOpen g else t.gskShut g) s

/-- A tile powers up when it is owned and powers down when it is not (R103). -/
def powerTiles (s : State) (quiet : Bool) : State :=
  (List.range 64).foldl (fun t i =>
    if t.tileOwner i = 0xF ∨ t.img.spareOut.contains i then
      (if (t.gasket i).powered ∨ quiet then t.powerDown i quiet else t)
    else if (t.gasket i).powered then t else t.powerUp i) s

/-- The enclosures an image holds, RUNNING. -/
def enclTable (m : Image) : List (Nat × Encl) :=
  ((List.range 8).filter m.present).map fun e => (e, { st := .running })

/-- The registers that show the DRIVE image: dividers, T_DISC, weave configuration, the kept safety-frame values (R94, R47,
R170, R604). -/
def showDrive (s : State) (m : Image) : State :=
  let port := (m.ports.find? Port.carriesSafety).getD {}
  ((((((s.setReg Reg.clkDivLo (BitVec.ofNat 32 (packBytes (m.clocks.take 4)))).setReg Reg.clkDivHi
    (BitVec.ofNat 32 (packBytes (m.clocks.drop 4)))).setFld Reg.parkCtl 24 16 m.tDisc).setReg Reg.weaveCfg
    (BitVec.ofNat 32 ((List.range 4).foldl (fun n v => n + m.routes.getD v 0 % 2 * 2 ^ v) 0 + m.vc3 * 256))).setReg
    Reg.weaveCredit (BitVec.ofNat 32 (packBytes m.credits))).setReg (Reg.safeTxcfg 0)
    (BitVec.ofNat 32 (m.canId % 2 ^ 29 + b2n (bitOf m.canId 31) * 2 ^ 29 + b2n (decide (port.id = 0x31)) * 2 ^ 30 + 2 ^ 31))).setReg
    (Reg.safeTxcfg 1) (BitVec.ofNat 32 (port.options % 256 + m.canPeriod % 256 * 256))

/-- The port in the ROOT role: the outbound regions reach the PCIe addresses that the warden assigned below it (R678). -/
def rootOut (s : State) : State :=
  if s.pcieRoot then
    (List.range 8).foldl (fun t r => (t.setReg (0x110010 + 8 * r) (BitVec.ofNat 32 (r * 2 ^ 28))).setReg (0x110014 + 8 * r) 0) s
  else s

/-- The DRIVE image is applied: at boot (R82, §3.4 step 9), or in SERVICE (R81, R89). -/
def applyDrive (s : State) (m : Image) (boot : Bool) : State :=
  let s1 := { s with
    img := { s.img with drive := some m, force := .drive, bootDrive := if boot then some m else s.img.bootDrive }
    power := { s.power with imgDiv := true, wdogMs := m.wdogMs, phase := .done }
    weave := { s.weave with run := true, slot := if boot then 0 else s.weave.slot }
    enclD := enclTable m
    safe := if boot then { s.safe with running := true, rom := false, paused := false, dueAt := s.upNs } else s.safe }
  let s2 := ((s1.showDrive m).assignChannels).rootOut
  let s3 := if boot then s2.powerBlocks ((List.range 12).map (100 + ·) ++ [112, 113, 114, 115]) else s2
  (s3.powerTiles boot).openUsed fun _ => false

/-- Slots and handles of the enclosures an owner tag names are emptied and destroyed. -/
def emptyOwned (s : State) (own : Nat → Bool) : State :=
  let t := (List.range 64).foldl (fun t k => if own (t.slotOwner k) then t.emptySlot k else t) s
  { t with handles := t.handles.filter fun h => !own h.owner }

/-- A tile scrubbed: TSRAM zero with good code, list empty, OVERFLOW clear (R119). -/
def scrubTile (s : State) (t : Nat) : State := (s.blockFresh t).setFld (Reg.tileEccCnt t) 25 25 0

/-- Zero with good code in the ranges. -/
def zeroRanges (s : State) (l : List (Nat × Nat)) : State := l.foldl (fun t r => t.zeroRange r.1 r.2) s

/-! ### Memory keys (Table 20.8) -/

/-- Windows in force of a device in STEEP: those of enclosures 0 and 1, and the STEEP image's. -/
def windowsNow (s : State) : List Window := (List.range 8).flatMap s.windowsOf

/-- A slot takes a fresh 512-bit key from the random source (R629). -/
def loadKey (s : State) (k : Nat) : State :=
  let (v, t) := s.draw
  let l := (t.sec.slots ++ List.replicate 9 0).take 9
  { t with sec := { t.sec with slots := l.set k (v % 2 ^ 512 + 1) } }

/-- Fresh keys in several slots. -/
def loadKeys (s : State) (ks : List Nat) : State := ks.foldl loadKey s

/-- Boot stage 6: the DRIVE key set (Table 20.8). -/
def bootKeys (s : State) : State := s.loadKeys (List.range 9)

/-- SETTLE step 6: the DRIVE keys of slots 2 to 8 are saved and STEEP keys loaded. -/
def steepKeys (s : State) : State :=
  ({ s with sec := { s.sec with saved := some (s.sec.slots.drop 2) } }).loadKeys [2, 3, 4, 5, 6, 7, 8]

/-- ROUSE step 6: the STEEP keys are destroyed and the saved DRIVE keys restored. -/
def driveKeys (s : State) : State :=
  match s.sec.saved with
  | none => s
  | some l => { s with sec := { s.sec with slots := s.sec.slots.take 2 ++ l, saved := none } }

/-- A fresh key in slot `e` (a re-image or ENCL_RESTART that names enclosure e). -/
def freshKey (s : State) (e : Nat) : State := if e < 2 ∨ 8 ≤ e then s else s.loadKey e

/-! ### The STEEP image (Table 1.5 steps 4 to 6) -/

/-- KV pools the image declares for the enclosures become UNFORMATTED (Table 11.1). -/
def declarePools (s : State) (m : Image) (named : Nat → Bool) : State :=
  m.pools.foldl (fun t p => if named p.owner then t.setKvPool p.id { st := .unformatted } else t) s

/-- SETTLE steps 3 and 4: the DRIVE enclosure is frozen and resident; lent tiles are scrubbed. -/
def freezeDrive (s : State) : State :=
  let lend := (s.img.drive.map (·.lend)).getD 0
  let s1 := ((List.range 64).foldl (fun t g => if t.tileOwner g ≠ 0xF then t.gskShut g else t) s).seizeNow (.encl 1)
  let s2 := { s1 with ward := { s1.ward with resident := true } }
  (List.range 64).foldl (fun t g => if bitOf lend g ∧ (t.gasket g).powered ∧ !(t.gasket g).inReset then t.scrubTile g else t) s2

/-- SETTLE steps 5 and 6: the STEEP image is applied to the rest, its ports and memory are prepared. -/
def applySteep (s3 : State) (m : Image) : State :=
  let d := s3.img.drive.getD {}
  let s4 := { s3 with
    img := { s3.img with force := .both, spareOut := [],
                         keptRegs := s3.regs.filter fun (r : Nat × Word) => decide (Reg.qblk 2 ≤ r.1 ∧ r.1 < Reg.qblk 8) }
    keptQueues := s3.queues.filter fun (q : Nat × Queue) => decide (32 ≤ q.1)
    enclS := enclTable m }
  let s5 := ((s4.clearQueues.assignChannels).setFld Reg.weaveCfg 15 8 m.vc3).powerTiles false
  let s6 := (List.range 8).foldl (fun t p => if t.isLoomPort p then t.portUp p else t) (s5.declarePools m fun _ => true)
  let s7 := s6.steepKeys
  let s8 := s7.zeroRanges ((m.windows.filter fun w => w.target = 1 || (w.target = 0 && !w.encrypted)).map (·.range))
  (s8.powerBlocks [112, 114]).openUsed fun g => decide (g < 64) && d.owner g = 1 && !bitOf d.lend g

/-! ### Re-images (R87, R88) -/

/-- The enclosure is idle (R88, R350): no admitted command, no live KV sequence, no held lease, no slot with bindings. -/
def enclIdle (s : State) (e : Nat) (besides : EntryRef) : Bool :=
  let entries := queueIds.all fun q =>
    (s.queue e q).flight.all fun y => decide ({ encl := e, queue := q, seq := y.seq } = besides)
  let kv := (((s.steepImg.map (·.pools)).getD []).filter (·.owner = e)).all fun p => (s.kvPool p.id).opens = 0
  let words := s.weave.live.all fun a => bitsOf (s.rdNat a 8) 5 3 ≠ e
  let chans := s.movers.all fun (c : Nat × MChan) => !(c.2.lease.held && c.2.lease.encl == e)
  let remote := s.loom.leases.all fun l => !(l.held && l.encl == e)
  let slots := (List.range 64).all fun k => s.slotOwner k ≠ s.ownerTag e || (s.slot k).bindings = 0
  entries && kv && words && chans && remote && slots

end State
end Sys2Proof.Machine
end

