-- ==== Sys2Proof/Machine/Queues.lean ====
section
/-! DEFINITION. Command queues (§9.2 to §9.5): rings and counts, reading an entry, the completion record with its PHASE and
interrupt, and what ends with an entry (R295 to R297, R302, R306, R310, R312). -/

namespace Sys2Proof.Machine

namespace State

/-! ### Queue pages (Table 9.10) -/

def qTailKey (e q : Nat) : Nat := Reg.qpage e q + 0x14
def qCheadKey (e q : Nat) : Nat := Reg.qpage e q + 0x1C
def qIrq (e q : Nat) : Nat := Reg.qpage e q + 0x28

/-- Entries of the ring. -/
def qSize (s : State) (e q : Nat) : Nat := 2 ^ s.fld (qCfg e q) 3 0
/-- Bases of the command ring and the completion ring. -/
def qRing (s : State) (e q : Nat) : Nat := (s.reg (Reg.qpage e q)).toNat + (s.reg (Reg.qpage e q + 4)).toNat * 2 ^ 32
def qCmpl (s : State) (e q : Nat) : Nat := (s.reg (Reg.qpage e q + 8)).toNat + (s.reg (Reg.qpage e q + 12)).toNat * 2 ^ 32
def qChead (s : State) (e q : Nat) : Nat := (s.reg (qCheadKey e q)).toNat

/-- Queue `q` of enclosure `e` exists (R294). -/
def qExists (s : State) (e q : Nat) : Bool := s.present e && decide (q < (s.enclRec e).queues)

/-- Entries between TAKEN and TAIL (R295). -/
def qHeld (s : State) (e q : Nat) : Nat :=
  let n := s.qSize e q
  (s.fld (qTailKey e q) 11 0 % n + n - (s.queue e q).taken % n) % n

/-- Completion records written and not acknowledged. -/
def qUnacked (s : State) (e q : Nat) : Nat := ((s.queue e q).completed + 2 ^ 32 - s.qChead e q) % 2 ^ 32

def modQueue (s : State) (e q : Nat) (f : Queue → Queue) : State := s.setQueue e q (f (s.queue e q))

/-- The queue stops with a code (R297). -/
def qStop (s : State) (e q : Nat) (st : Status) : State :=
  s.modQueue e q fun x => { x with stopped := true, lastStatus := st.code }

/-- The steward that serves the enclosure runs (R297, Table 3.10), its requests not held behind its gasket (R116). -/
def stewardRuns (s : State) (e : Nat) : Bool :=
  let g := gskOf (s.stewardOf e)
  (s.gasket g).powered && !(s.gasket g).inReset && (s.gasket g).st == .opened

/-- Stewards serve queues (R313): from the application of the DRIVE image, outside STANDBY, OFF and Cozy sleep. -/
def queuesServed (s : State) : Bool := s.answers && s.power.phase == .done

/-! ### Reading an entry (R295, R297) -/

/-- The 64 bytes at the queue's TAKEN, or the code that stops the queue. -/
def readEntry (s : State) (e q : Nat) (ext : List ExtData) (ups : List Upset) : Status × List Byte × State :=
  s.readRun (s.stewardOf e) (s.qRing e q + 64 * ((s.queue e q).taken % s.qSize e q)) 64 ext ups

/-- The next SEQ of a queue, told apart from those of its earlier enablings. -/
def nextSeq (x : Queue) : Nat := x.life * 2 ^ 32 + x.taken

/-- What a WAIT on an entry of queue `q` finds when it is taken (R303): its completion, or nothing when that entry has not
completed or is not yet taken. -/
def waitFor (s : State) (e : Nat) (w : Nat × Nat) : Wait :=
  let x := s.queue e w.1
  let ahead := decide ((w.2 + 2 ^ 32 - x.taken) % 2 ^ 32 < 2 ^ 31)
  { queue := w.1, seq := w.2, life := x.life, done := if ahead then none else x.past.find? (·.seq = w.2) }

/-- An entry is taken with these bytes; it stands among the entries in flight. Time that it waits on another queue counts
against its budget. [log 75 DESIGN CHOICE, safe] -/
def takeEntry (s : State) (e q : Nat) (bytes : List Byte) : State :=
  let x := s.queue e q
  let y : Entry := { seq := nextSeq x, bytes := bytes, takenNs := s.upNs }
  let ws := y.waitWords.map (s.waitFor e)
  s.setQueue e q { x with
    taken := (x.taken + 1) % 2 ^ 32
    flight := x.flight ++ [{ y with waits := ws, early := ws.any fun w => w.queue != q && w.done.isNone }] }

/-- Entries of the enclosure that wait for a completed one learn of it (R303, R309). -/
def tellWaits (s : State) (r : EntryRef) (p : Past) : State :=
  queueIds.foldl (fun t q =>
    let x := t.queue r.encl q
    t.setQueue r.encl q { x with flight := x.flight.map fun y =>
      { y with waits := y.waits.map fun w =>
          if w.queue = r.queue ∧ w.seq = r.seq % 2 ^ 32 ∧ w.life ≤ r.seq / 2 ^ 32 ∧ w.done = none then { w with done := some p } else w } }) s

/-! ### Interrupts (R306) -/

/-- The queue raises its interrupt. -/
def qRaise (s : State) (e q : Nat) : State :=
  (s.modQueue e q fun x => { x with armed := false, acked := false, raised := x.raised + 1 }).raise (s.fld (qIrq e q) 7 0)

/-- The interrupt rises when enough records are pending, or at the first one when TIME_US is zero.
[log 87 DESIGN CHOICE, unsafe] -/
def qJudge (s : State) (e q : Nat) : State :=
  let x := s.queue e q
  if x.armed ∧ x.notify ≠ [] ∧ (s.fld (qIrq e q) 15 8 ≤ x.notify.length ∨ s.fld (qIrq e q) 31 16 = 0) then s.qRaise e q else s

/-! ### Completion (R302) -/

/-- The kernels of an entry stop (its tiles' launches are its own). -/
def stopTiles (s : State) (r : EntryRef) (st : Status) : State :=
  (List.range 64).foldl (fun t i =>
    if ((t.tile i).launch.map (fun l => decide ((⟨l.encl, l.queue, l.seq⟩ : EntryRef) = r))).getD false then t.tileStop i st else t) s

/-- The appends of an entry that wait for pages leave their pools. -/
def dropWaits (s : State) (r : EntryRef) : State :=
  (List.range 16).foldl (fun t pid =>
    match (t.kvPool pid).waits.find? (·.r = r), t.kvEnv pid r.encl [] [] with
    | some w, some v => t.dropWaiter v w
    | some w, none => t.setKvPool pid { t.kvPool pid with waits := (t.kvPool pid).waits.filter (· ≠ w) }
    | none, _ => t) s

/-- The streams and the fusion input that an entry had bound are bound no longer. -/
def dropInputs (s : State) (r : EntryRef) : State :=
  { s with
    str := { s.str with bind := s.str.bind.filter (fun (b : EntryRef × List StreamRec) => b.1 ≠ r) }
    fusion := { s.fusion with bind := s.fusion.bind.filter (fun (b : EntryRef × List Byte) => b.1 ≠ r) } }

/-- The mover descriptors that run for an entry end (R258, R312). -/
def dropDescs (s : State) (r : EntryRef) (st : Status) : State :=
  if st.permits then s
  else
    (List.range 512).foldl (fun t k =>
      if ((t.mchan (k / 32) (k % 32)).cur.bind (·.op)) = some r then t.chAbort (k / 32) (k % 32) st else t) s

/-- What runs for an entry ends with it (R312, R344, R389, R412, R448, R500, R566): kernels, jobs, bindings, an attention
operator, a collective, a waiting append, mover descriptors. -/
def release (s : State) (r : EntryRef) (y : Entry) (st : Status) : State :=
  (((((((((s.stopTiles r st).unbind y).modEntry r fun z => { z with bound := [] }).attnUndo r).collEnded r st).dropJobs
    (·.r = r)).dropEgoBind r).dropWaits r).dropInputs r).dropDescs r st

/-- The completion record of an entry that has ended (Table 9.6). -/
def recordOf (s : State) (e q : Nat) (y : Entry) (d : Ending) : List Byte :=
  let x := s.queue e q
  let phase := (x.completed / s.qSize e q + 1) % 2
  let dur := if d.unchecked ∨ !y.started then 0 else min ((y.endNs - y.startNs) / 1000) 0xFFFFFFFF
  leBytes 4 y.tag ++ leBytes 4 y.seq ++ leBytes 1 d.status.code ++ leBytes 1 d.validity
    ++ leBytes 1 (d.fpsum ||| y.fpsum)
    ++ leBytes 1 (phase + 2 * b2n d.skipped + 4 * b2n (d.part || (y.wrote && !d.status.permits))) ++ leBytes 1 y.cls ++ leBytes 1 y.op ++ leBytes 2 0
    ++ leBytes 8 d.result ++ leBytes 4 dur ++ leBytes 4 0

/-- The write of an entry's completion record. [log 77 DESIGN CHOICE, unsafe] -/
def writeRecord (s : State) (r : EntryRef) (y : Entry) (d : Ending) (ext : List ExtData) (ups : List Upset) : Status × State :=
  let (e, q) := (r.encl, r.queue)
  s.writeRun (s.stewardOf e) (s.qCmpl e q + 32 * ((s.queue e q).completed % s.qSize e q)) (s.recordOf e q y d) ext ups

/-- After the write of record `idx`: COMPLETED and what NOTIFY asks for; a denial stops the queue (R297). -/
def recorded (r : EntryRef) (y : Entry) (d : Ending) (idx : Nat) (x : Status × State) : State :=
  let (e, q) := (r.encl, r.queue)
  if x.1 = .accessDenied then x.2.qStop e q x.1
  else if x.1 ≠ .ok ∧ x.1 ≠ .poisoned then x.2
  else
    let p : Past := { seq := y.seq % 2 ^ 32, status := d.status, validity := d.validity }
    ((x.2.tellWaits r p).modQueue e q fun z =>
      { z with completed := (z.completed + 1) % 2 ^ 32
               flight := z.flight.filter (·.seq ≠ y.seq)
               past := if y.seq / 2 ^ 32 = z.life then (p :: z.past).take 512 else z.past
               armed := z.armed || (y.notify && z.acked)
               acked := z.acked && !y.notify
               notify := if y.notify then z.notify ++ [(idx, x.2.upNs)] else z.notify }).qJudge e q

/-- The record of an ended entry is written, over no record that waits for its acknowledgement (R296); its denial stops the
queue, and a record that could not be written waits (R297). [log 77 DESIGN CHOICE, unsafe; 78 DEDUCED, safe] -/
def complete (s : State) (r : EntryRef) (ext : List ExtData) (ups : List Upset) : State :=
  match s.entry r with
  | none => s
  | some y =>
    match y.ending with
    | none => s
    | some d =>
      if s.qSize r.encl r.queue ≤ s.qUnacked r.encl r.queue then s
      else
        let t := s.release r y d.status
        -- the flags of kernels that have just been stopped count too (Table 9.6)
        let z := (t.entry r).getD y
        recorded r y d (t.queue r.encl r.queue).completed (t.writeRecord r z d ext ups)

/-- An entry that a rouse ends is read: the command that carries the trigger brings no data of a ring outside the device, whose
bytes are free. [log 7 DESIGN CHOICE, safe; 153 DEDUCED, unsafe] -/
def abortRead (s : State) (e q : Nat) : Status × List Byte × State :=
  let x := s.readEntry e q [] []
  if x.1 = .timeout then (.ok, x.2.2.drawBytes 64) else x

/-- Every entry of a queue that a rouse ends (R27): those taken, and those whose doorbell came before, also where the queue
stands stopped; their records are written while the ring takes them. [log 153 DEDUCED, unsafe] -/
def abortQueue (s : State) (e q : Nat) : State :=
  if !s.qOn e q then s
  else
    let s1 := ((List.range (s.qHeld e q)).foldl (fun (acc : Bool × State) _ =>
      if !acc.1 ∨ !acc.2.stewardRuns e then acc
      else
        let (st, d, t) := acc.2.abortRead e q
        if st ≠ .ok then (false, t.qStop e q st) else (true, t.takeEntry e q d)) (true, s)).2
    let s2 := (s1.queue e q).flight.foldl (fun t y => t.finish ⟨e, q, y.seq⟩ .abortedByRouse 0) s1
    (s2.queue e q).flight.foldl (fun t y => if t.qUnacked e q < t.qSize e q then t.complete ⟨e, q, y.seq⟩ [] [] else t) s2

end State

open State

/-- IRQ_TIME_EXPIRY (R306): the oldest pending record has waited TIME_US. -/
def execIrqTimeExpiry (e q : Nat) (s : State) : Out :=
  let (e, q) := (e % 8, q % 16)
  .next (
    match (s.queue e q).notify with
    | [] => s
    | n :: _ =>
      if (s.queue e q).armed then (s.elapseTo (n.2 + 1000 * s.fld (qIrq e q) 31 16)).qRaise e q else s)

end Sys2Proof.Machine
end

