-- ==== Sys2Proof/Machine/Rouse.lean ====
section
/-! DEFINITION. Wakes and the return to DRIVE (§1.4, §1.6 to §1.8, §17.7): wake requests and what they do to a vote, rouse
triggers, the steps of Table 1.6, HALT by its bound, and the PARK and WAKE_IN inputs (R27 to R29, R32 to R42). -/

namespace Sys2Proof.Machine

namespace Reg
def voteStat : Nat := 0x0A0020
end Reg

namespace State

/-! ### Wake requests (§17.7) -/

/-- A wake pattern on each LOOM port whose link is in SLEEP (R575, R576). -/
def wakePeers (s : State) : State :=
  (List.range 8).foldl (fun t p =>
    if t.isLoomPort p ∧ (t.bport p).st = .sleep then t.bump (Reg.blkWake p) 31 16 else t) s

/-- The coordinator calls the sleep off after COMMIT, before its own entry (R575). [log 25 DEDUCED, safe] -/
def lateAbort (s : State) : State :=
  let id := s.loom.vote.id
  (((s.sayAll fun n => .abort n id).modVote fun v => { v with st := .aborted, holding := false }).setFld Reg.voteStat 3 3 1).wakePeers

/-- An open vote ends for this member: it casts no, or withdraws its yes (R573, Table 1.7). -/
def voteLeaves (s : State) : State :=
  let v := s.loom.vote
  if v.holding then s.lateAbort
  else if v.st ≠ .opened then s
  else if s.isCoord then s.voteAbortAll
  else if !v.ownCast then s.castOwn false
  else if v.ownYes ∧ !v.withdrawn then
    (s.say (.withdraw s.loom.view.coord v.id)).modVote fun v => { v with withdrawn := true }
  else s

/-- A wake request (§17.7): it ends STANDBY, is latched from the start of Cozy entry, and acts on an open vote. -/
def wakeRequest (s : State) : State :=
  if s.ward.st = .standby then s.standbyExit
  else if s.ward.st ≠ .steep then s
  else if s.ward.cozy then { s with ward := { s.ward with wake := true } }
  else s.voteLeaves.judgeDelayed

/-! ### ROUSE (Table 1.6) -/

/-- Steps 2 to 4 towards the loom: the vote, the message to the coordinator, and this device's part of the loom. -/
def leaveLoom (s : State) (st : Status) : State :=
  let s1 := s.voteLeaves
  let s2 := if !s1.isMember then s1
    else if s1.isCoord then s1.sayAll fun n => .leave n
    else s1.say (.leave s1.loom.view.coord)
  let s3 := s2.loom.outst.foldl (fun t q => t.loomDone q st []) s2
  let l := s3.loom
  { s3 with loom := { sent := l.sent, frames := l.frames, gens := l.gens, nextVote := l.nextVote, nextTid := l.nextTid } }

/-- Tenant work ends with ABORTED_BY_ROUSE (R27): commands admitted or rung for, mover channels, LSE jobs, loads; every
command of enclosure 0 in flight (a commanded proof, a re-image) with them. [log 153 DEDUCED, unsafe] -/
def abortTenants (s : State) : State :=
  let s1 := (s.proofStopped.stopJobs (fun j => j.r.encl = 0) .abortedByRouse).endAll 0 .abortedByRouse
  let s2 := (List.range 6).foldl (fun t i => t.stopEncl (i + 2) .abortedByRouse) s1
  let s3 := (List.range 6).foldl (fun t i => queueIds.foldl (fun u q => u.abortQueue (i + 2) q) t) s2
  { s3 with attns := [], evicts := s3.evicts.filter (·.encl < 2) }

/-- Step 3: the gaskets of STEEP are shut, the leases of its enclosures seized. [log 114 DESIGN CHOICE, unsafe] -/
def shutSteep (s : State) : State :=
  let gs := (List.range 64).filter (fun g => 2 ≤ s.tileOwner g ∧ s.tileOwner g ≠ 0xF) ++ (List.range 8).map (103 + ·) ++ [112, 114]
  let s1 := gs.foldl gskShut s
  ((List.range 6).filter fun i => s.present (i + 2)).foldl (fun t i => t.seizeNow (.encl (i + 2))) s1

/-- Step 5: lent tiles are taken back and scrubbed. A tile in reset is initialised by its release. -/
def scrubLent (s : State) : State :=
  let lend := (s.img.drive.map (·.lend)).getD 0
  (List.range 64).foldl (fun t g => if bitOf lend g ∧ (t.gasket g).powered ∧ !(t.gasket g).inReset then t.scrubTile g else t) s

/-- What R633 writes with zero after DRIVE is declared. -/
def fillRanges (s : State) : List (Nat × Nat) :=
  let w := (s.img.steep.map (·.windows)).getD []
  let d := ((s.img.drive.map (·.windows)).getD []).filter fun x => decide (2 ≤ x.encl)
  ((w.filter (·.target = 1)).map (·.range)) ++
    (w.filter fun x => x.target = 0 && !x.encrypted).flatMap fun x => d.flatMap fun y => rangeMeet x.range y.range

/-- Step 6: the structure of the DRIVE image on tiles, windows, shares and ports; what belonged to STEEP goes. -/
def restoreDrive (s : State) : State :=
  let fill := s.fillRanges
  let own (t : Nat) : Nat := (s.img.drive.map (·.owner t)).getD 0xF
  let s1 := (s.emptyOwned (fun o => decide (9 ≤ o))).driveKeys
  let s2 := { s1 with
    img := { s1.img with force := .drive, fill := fill, keptRegs := [] }
    pools := []
    enclS := []
    sec := { s1.sec with quotes := [], svcNonce := none }
    keptQueues := [] }
  let s3 := s2.clearQueues.assignChannels
  let s4 := s.img.keptRegs.foldl (fun t (r : Nat × Word) => t.setReg r.1 r.2) { s3 with queues := s3.queues ++ s.keptQueues }
  let s5 := (List.range 8).foldl portOff (s4.setFld Reg.weaveCfg 15 8 ((s.img.drive.map (·.vc3)).getD 0))
  (List.range 64).foldl (fun t g =>
    let x := t.gasket g
    if own g = 0xF then (if x.powered then t.powerDown g false else t)
    else if own g < 2 ∧ !x.powered ∧ !x.inReset then t.powerUp g
    else t) s5

/-- A block that the DRIVE image needs and that is still in a block reset (Table 1.7). -/
def rouseWaits (s : State) : Option Nat :=
  (List.range 103).find? fun g =>
    (s.gasket g).inReset && (if g < 64 then s.tileOwner g == 1 && !s.img.spareOut.contains g else true)

/-- Step 7, once no block is waited for: the DRIVE-enclosure proof. -/
def rouseProof (s : State) : State :=
  match s.rouseWaits with
  | some g => { s with ward := { s.ward with phase := .trapped, waitBlock := g + 1 } }
  | none =>
    { s with ward := { s.ward with phase := .selfProof, waitBlock := 0 }
             safe := { s.safe with proof := some { scope := 1, since := s.upNs } } }

/-- ROUSE begins (Table 1.6 steps 1 to 6, R32); `since` is when the trigger was detected. NVMe reads under way are left to
complete into the sealed gasket (Table 1.7). -/
def rouseEnter (s : State) (causes since : Nat) : State :=
  let both := decide (s.img.force = .both)
  let s1 := s.leaveLoom .abortedByRouse
  let s2 := s1.transit .rouse causes
  let s3 := { s2 with
    ward := { s2.ward with since := since, cozy := false, asleep := false, wake := false, rouseCauses := 0, waitBlock := 0,
                           zeroFill := both }
    caddy := { orphans := s2.caddy.orphans ++ s2.caddy.outst.map fun (q : NvmeReq) => q.id, nextId := s2.caddy.nextId }
    fusion := { s2.fusion with due := none } }
  let s4 := s3.abortTenants
  (if both then s4.shutSteep.scrubLent.restoreDrive else s4).rouseProof

/-- A rouse trigger (R19, R20, Table 1.7). In the cycle in which a safety-fatal fault has taken the device to HALT only its
bit is recorded. -/
def rouseTrigger (s : State) (causes : Nat) : State :=
  if s.ward.st = .settle then s.rouseEnter causes s.upNs
  else if s.ward.st = .steep then
    (if s.ward.cozy then
      { s with ward := { s.ward with
          wake := true, rouseCauses := s.ward.rouseCauses ||| causes
          since := if s.ward.rouseCauses = 0 then s.upNs else s.ward.since } }
    else s.rouseEnter causes s.upNs)
  else if s.ward.st = .rouse ∨ (s.ward.st = .halt ∧ s.sameCycle) then s.absorb causes
  else s

/-- 300 ms from the trigger without DRIVE (R34). -/
def rouseBound (s : State) : Nat := s.ward.since + 300000000
def rouseExpire (s : State) : State := (s.elapseTo s.rouseBound).fatal .rouseTimeout 0xF 118 cRouseTimeout

/-! ### PARK (§1.8) -/

/-- Effective PARK became "not parked" at an agreeing sample (Table 1.9). -/
def parkOff (s : State) : State :=
  match s.ward.st with
  | .standby => s.wakeRequest
  | .settle => s.rouseTrigger cParkOff
  | .steep => (if s.ward.cozy then s else s.wakeRequest).rouseTrigger cParkOff
  | .rouse => s.rouseTrigger cParkOff
  | .service => s.softReset
  | _ => s

/-- The discrepancy fault is raised (Table 1.9). -/
def discFault (s : State) : State :=
  let s1 := s.reactSafety { fault := .parkDisc } 0xF
  match s1.ward.st with
  | .standby => s1.wakeRequest
  | .settle => s1.rouseTrigger cParkDisc
  | .steep => (if s1.ward.cozy then s1 else s1.wakeRequest).rouseTrigger cParkDisc
  | .rouse => s1.rouseTrigger cParkDisc
  | .service => s1.softReset
  | _ => s1

/-- T_disc in samples (R39). -/
def tDisc (s : State) : Nat := s.fld Reg.parkCtl 24 16

/-- One sample of PARK_A and PARK_B as judged (R37 to R42). Disagreeing samples count from the first one after a reset.
[log 19 DEDUCED, safe; 150 DEDUCED, unsafe] -/
def parkJudge (s : State) (a b : Bool) : State :=
  let p := s.park
  let was := s.parked
  let agree := a != b
  let disc := if agree then 0 else min 1023 (p.disc + 1)
  let raised := decide (s.tDisc < disc) && !p.fault
  let fault := p.fault || raised
  let agreed := if agree then a else p.agreed
  let run := if agree then min 50 (p.run + 1) else 0
  let now := !fault && agreed
  let t := { s with park := { p with
    aRaw := a, bRaw := b, agree := agree, agreed := agreed, fault := fault, run := run
    clearReady := fault && decide (run = 50), disc := disc, hold := if now then min 4095 (p.hold + 1) else 0 } }
  if raised then t.discFault
  else if was && !now then t.parkOff
  else if !was && now && t.ward.cozy then t.wakeRequest
  else t

/-- PARK and WAKE_IN are sampled: the AON domain runs and no reset is held. -/
def samples (s : State) : Bool := !(s.ward.st == .off) && !s.inReset

/-- When sample instant `n` falls, by the model's clock: 32.768 kHz cycle floor(n × 32768 / 1000), so that a period has 33
or 32 cycles and 1000 periods span 32 768 (R37). [log 149 DESIGN CHOICE, unsafe] -/
def sampleAt (n : Nat) : Nat := n * 32768 / 1000 * 30517578125 / 1000000

/-- The first sample instant from `lo` on that does not lie in the past. [log 149 DESIGN CHOICE, unsafe] -/
def nextInstant (s : State) (lo : Nat) : Nat :=
  let n := s.upNs / 1000000
  max lo (if s.upNs ≤ sampleAt n then n else if s.upNs ≤ sampleAt (n + 1) then n + 1 else n + 2)

/-- The next sample instant of PARK (R37), and a sample at it. -/
def parkSample (s : State) (a b : Bool) : State :=
  if s.samples then
    let n := s.nextInstant s.park.parkNext
    let t := s.elapseTo (sampleAt n)
    ({ t with park := { t.park with parkNext := n + 1 } }).parkJudge a b
  else s

/-- A latched discrepancy fault is cleared when CLEAR_READY (R41). -/
def clearDisc (s : State) : State :=
  if s.park.clearReady then
    { s with park := { s.park with fault := false, clearReady := false, hold := 0 } }.setFld Reg.safeActive 0 0 0
  else s

/-- One sample of WAKE_IN as classified (R28, R29). In ROUSE and HALT it has no effect; a wake with drive intent decided in the
cycle of the transition there is one more trigger of that cycle (R19). [log 19 DEDUCED, safe] -/
def wakeJudge (s : State) (high : Bool) : State :=
  let n := s.park.wakeRun
  let t := { s with park := { s.park with wakeRun := if high then n + 1 else 0 } }
  if s.ward.st = .rouse ∨ s.ward.st = .halt then
    (if high ∧ n + 1 = 5 ∧ s.sameCycle ∧ (s.ward.prev = .steep ∨ s.ward.prev = .settle) then t.rouseTrigger cWakeDrive else t)
  else if high ∧ n + 1 = 5 then t.wakeRequest.rouseTrigger cWakeDrive
  else if !high ∧ 1 ≤ n ∧ n ≤ 4 then t.wakeRequest
  else t

/-- The next sample instant of WAKE_IN, one of those of PARK (R28), and a sample at it. [log 149 DESIGN CHOICE, unsafe] -/
def wakeSample (s : State) (high : Bool) : State :=
  if s.samples then
    let n := s.nextInstant s.park.wakeNext
    let t := s.elapseTo (sampleAt n)
    ({ t with park := { t.park with wakeNext := n + 1 } }).wakeJudge high
  else s

/-- `k` samples alike. -/
def parkSamples (s : State) (a b : Bool) : Nat → State
  | 0 => s
  | k + 1 => (s.parkSample a b).parkSamples a b k

def wakeSamples (s : State) : Nat → State
  | 0 => s
  | k + 1 => (s.wakeSample true).wakeSamples k

end State

open State

/-- PARK_SAMPLE (R37, R38). -/
def execParkSample (a b : Bool) (s : State) : Out := .next (s.parkSample a b)

/-- PARK_DISC_FAULT (R39): the channels stay apart, both at `level`, until the count exceeds T_disc. -/
def execParkDiscFault (level : Bool) (s : State) : Out :=
  .next (if s.park.fault then s else s.parkSamples level level (s.tDisc + 1 - s.park.disc))

/-- PARK_CLEAR_READY (R41): the channels agree on `parked` until 50 samples in the present run have agreed. -/
def execParkClearReady (parked : Bool) (s : State) : Out :=
  .next (if s.park.fault then s.parkSamples parked (!parked) (50 - s.park.run) else s)

/-- WAKE_IN_SAMPLE (R28). -/
def execWakeInSample (high : Bool) (s : State) : Out := .next (s.wakeSample high)

/-- WAKE_DRIVE_INTENT (R28): the run of high samples reaches its fifth. -/
def execWakeDriveIntent (s : State) : Out := .next (s.wakeSamples (5 - s.park.wakeRun))

/-- ROUSE_TIMEOUT (R34). -/
def execRouseTimeout (s : State) : Out := .next (if s.ward.st = .rouse then s.rouseExpire else s)

/-- BLOCK_RESET_RELEASE (R119, Table 3.10): the block is released; a ROUSE that waited for it goes on (Table 1.7). -/
def execBlockResetRelease (g : Nat) (s : State) : Out :=
  let g := g % 128
  .next (
    if !(s.gasket g).inReset then s
    else
      let t := s.blockRelease g
      if t.ward.st = .rouse ∧ t.ward.phase = .trapped then t.rouseProof else t)

/-- BLOCK_RESET_NOT_RELEASED (Table 1.7): 2 ms have passed; a lent tile that the DRIVE image marks spare is left out, else the
device enters HALT under R34. -/
def execBlockResetNotReleased (g : Nat) (s : State) : Out :=
  let g := g % 128
  .next (
    if s.ward.st ≠ .rouse ∨ s.ward.phase ≠ .trapped ∨ !(s.gasket g).inReset then s
    else
      let t := s.elapseTo ((s.gasket g).since + 2000000)
      let d := t.img.drive.getD {}
      if g < 64 ∧ bitOf d.lend g ∧ bitOf d.spare g then
        ({ t with img := { t.img with spareOut := if t.img.spareOut.contains g then t.img.spareOut else t.img.spareOut ++ [g] } }).rouseProof
      else t.fatal .rouseTimeout 0xF 118 cRouseTimeout)

end Sys2Proof.Machine
end

