-- ==== Sys2Proof/Machine/Modes.lean ====
section
/-! DEFINITION. Mode requests and the life of the device (§1.2, §1.5, §18.5): guards and refusals, SETTLE, SERVICE, STANDBY,
epoch boundaries, the declarations of STEEP and DRIVE, self-proofs, and the SAFE commands (R17 to R21, R30 to R33, R41, R47, R50, R591,
R593 to R598, R633, R634). -/

namespace Sys2Proof.Machine

namespace Reg
def sbStatus : Nat := 0x0F0000
end Reg

namespace State

/-! ### Where a request comes from (§1.2, R652) -/

/-- The sideband command that is open completes (R651). -/
def sbDone (s : State) (st : Status) (guard : Nat) : State :=
  match s.sb.cmdOpen with
  | none => s
  | some c =>
    ({ s with sb := { s.sb with cmdStatus := st.code, cmdInfo := guard % 16 + c % 16 * 16, cmdOpen := none, cmdDone := true } }).sbEvent 3

/-- The request stands at its source and has not been decided. -/
def modeOpen (s : State) (op : Nat) : ModeSource → Bool
  | .entry r => (s.running r 0 op).isSome
  | .sideband => s.sb.cmdOpen == some op && s.answers

/-- The request completes OK. [log 17 DESIGN CHOICE, safe] -/
def modeOk (s : State) : ModeSource → State
  | .entry r => s.finish r .ok 0
  | .sideband => s.sbDone .ok 0

/-- The request completes with STATE_REFUSED for a guard (R18, R24, R652). [log 17 DESIGN CHOICE, safe] -/
def modeRefuse (s : State) (g : Guard) : ModeSource → State
  | .entry r => (s.refuse .cfg .queue g r.encl).endEntry r { status := .stateRefused, unchecked := true }
  | .sideband => ((s.refuse .cfg .sideband g 0).setFld Reg.sbStatus 0 0 1).sbDone .stateRefused g.code

/-- A request that loses to a trigger of its own cycle, which the next command brings (R19). -/
def modePreempted (s : State) (cause : Nat) (src : ModeSource) : State :=
  let t := s.modeRefuse .preempted src
  { t with ward := { t.ward with also := t.ward.also ||| cause } }

/-! ### Guards (Table 1.2) -/

/-- All queues of enclosures other than 0 and 1 are empty, and no image load is in progress (R84). -/
def queuesIdle (s : State) : Bool :=
  ((List.range 6).all fun i => queueIds.all fun q =>
    !s.qOn (i + 2) q || ((s.queue (i + 2) q).flight.isEmpty && s.qHeld (i + 2) q = 0))
  && !s.imageLoading

/-- The guard that refuses a SETTLE request (Table 1.2, R84); of several that fail the first in the table's order is
recorded. [log 151 DESIGN CHOICE, unsafe] -/
def settleGuard (s : State) : Option Guard :=
  if s.ward.st ≠ .drive then some .noTransition
  else if s.park.hold < 2000 then some .parkHold
  else if s.anyActive then some .activeFault
  else if s.img.steep.isNone then some .noSteepImage
  else if !s.queuesIdle then some .queuesBusy
  else none

/-- The guard that refuses a request from DRIVE that needs the PARK hold and no active fault, the first in the table's order.
[log 151 DESIGN CHOICE, unsafe] -/
def parkGuard (s : State) : Option Guard :=
  if s.ward.st ≠ .drive then some .noTransition
  else if s.park.hold < 2000 then some .parkHold
  else if s.anyActive then some .activeFault
  else none

/-! ### Enclosure work that a mode change ends (R314) -/

/-- The entries of an enclosure that are not complete end: a compiled graph that runs on its tiles with OK, the others with BUSY.
[log 21 DESIGN CHOICE, unsafe; 83 DESIGN CHOICE, unsafe] -/
def endBusy (s : State) (e : Nat) : State :=
  let s1 := queueIds.foldl (fun t q => (t.queue e q).flight.foldl (fun u y =>
    if y.cls = 1 ∧ (y.op = 0x70 ∨ y.op = 0x71) ∧ y.started ∧ y.tiles ≠ 0 then u.finish ⟨e, q, y.seq⟩ .ok 0 else u) t) s
  s1.stopEncl e .busy

/-- Bindings in waiting are dropped with their entries (R448, R500, R412). -/
def dropBinds (s : State) : State :=
  { s with str := { s.str with bind := none }, fusion := { s.fusion with bind := none }, lse := { s.lse with bind := none } }

/-! ### Epoch boundaries -/

/-- The bound of SETTLE (R30). -/
def settleBound (s : State) : Nat := s.ward.since + 1500000000

/-- DRIVE is declared (Table 1.2, R32, R601, R703, Table 23.9); ROUSE_10US saturates. [log 152 DESIGN CHOICE, unsafe] -/
def declareDrive (s : State) : State :=
  let s1 := match s.ward.st with
    | .proof =>
      { s with ward := { s.ward with proofRetry := false }, safe := { s.safe with latchP := false, latchN := false } }
    | _ => s.setFld Reg.transTime 15 0 (min 0xFFFF ((s.upNs - s.ward.since) / 10000))
  (if s1.sealSet then s1 else s1.setFld Reg.sysSeal 2 0 5).transit .drive cProofPass

/-- What the boundary does to the state machine: the wait and the warm-up epoch of PROOF and ROUSE, step 2 of SETTLE. -/
def boundaryPhase (s : State) : State :=
  match s.ward.phase with
  | .waitEpoch =>
    if s.ward.st = .settle then { s with ward := { s.ward with phase := .settling } }
    else
      let t := { s with ward := { s.ward with phase := .warmUp } }
      if t.ward.st = .rouse then t.fuRestart else t
  | .warmUp => s.declareDrive
  | _ => s

/-- A RUN_GRAPH_CONT of enclosure 1 binds its models afresh at each epoch start (R346); one that cannot ends with
SLOT_NOT_READY. [log 83 DESIGN CHOICE, unsafe] -/
def rebindGraphs (s : State) : State :=
  queueIds.foldl (fun t q => (t.queue 1 q).flight.foldl (fun (u : State) y =>
    let r : EntryRef := { encl := 1, queue := q, seq := y.seq }
    if y.cls = 1 ∧ y.op = 0x71 ∧ y.tiles ≠ 0 ∧ y.ending.isNone then
      let v := (u.unbind y).modEntry r fun z => { z with bound := [] }
      let ms := y.bound.map (· / 2)
      if v.bindable ms then v.bindModels r ms else v.finish r slotNotReady 0
    else u) t) s

/-- The work of a boundary that ends epoch `n` (R432, R448, R450, R479, R499, R600): the epoch's data are taken over and its frame
falls due; bindings in waiting take effect, except at the boundary of SETTLE (R314). -/
def boundaryWork (s : State) (n : Nat) (ext : List ExtData) (ups : List Upset) : State :=
  if s.ward.st = .halt then
    (if s.fusion.profile.isSome then { s with fusion := { s.fusion with due := some n } } else s)
  else
    let lives := s.epochLives
    let s1 := if lives then s.fuTake else s
    let s2 := if lives || s1.delivers then s1.closeSummaries else s1
    let s3 := if s2.ward.st = .settle then s2 else s2.applyBind
    let s4 := s3.fuDue n
    let s5 := if lives then s4.egoSlide n s4.wheelShift ext ups else s4
    if s5.ward.st = .settle then s5 else (((s5.fuBind).egoBind ext ups)).rebindGraphs

/-- The TSU crosses the next multiple of the epoch length. A bound of ROUSE or SETTLE that ends before it acts instead. -/
def boundary (s : State) (ext : List ExtData) (ups : List Upset) : State :=
  if !s.tsuRuns then s
  else
    let n := s.epochNow
    let t := s.elapseToTsu s.nextBoundary
    if s.ward.st = .rouse ∧ s.rouseBound < t.upNs then s.rouseExpire
    else if s.ward.st = .settle ∧ s.settleBound < t.upNs then
      (s.elapseTo s.settleBound).rouseEnter cSettleTimeout s.settleBound
    else (t.boundaryWork n ext ups).boundaryPhase

/-! ### SETTLE (Table 1.5) -/

/-- The checks that step 5 repeats (R83). [log 47 DESIGN CHOICE, unsafe] -/
def settleCheck (s : State) (m : Image) : Option ImgFail :=
  let d := s.img.drive.getD {}
  firstFail [checkWindows (s.imgFacts 0) m, checkPorts (s.imgFacts 0) m, checkPair d m, checkResident d m]

/-- The epoch that step 2 completed: a solve or a frame that is still open ends with its deadline. -/
def finishEpoch (s : State) (ext : List ExtData) (ups : List Upset) : State :=
  let s1 := match s.lse.ego with
    | some x => if x.phase = EgoPhase.idle then s else s.egoLate ext ups
    | none => s
  match s1.fusion.due, s1.fusion.profile with
  | some n, some p => (s1.elapseToTsu ((n + 1) * s1.epochNs + Prof.deadlineMs p * 1000000)).fuCommit {} ext ups
  | _, _ => s1

/-- What the NVMe root port finds at step 6 (R679): a device, an NVM Express controller, its speed code and width.
[log 144 DESIGN CHOICE, safe] -/
def caddyFinds (s : State) (present nvme : Bool) (speed width : Nat) : State :=
  if (s.portOf 1).isSome then
    { s with caddy := { present := present, ready := present && nvme, speed := if present then speed % 4 else 0,
                        width := if present then width % 8 else 0 } }
  else s

/-- Steps 3 to 7; SETTLE_MS saturates. [log 20 DESIGN CHOICE, unsafe; 152 DESIGN CHOICE, unsafe] -/
def settleSteps (s : State) (present nvme : Bool) (speed width : Nat) : State :=
  let s1 := ((s.endBusy 1).dropBinds).freezeDrive
  match s1.img.steep with
  | none => s1.rouseEnter cSettleFail s1.upNs
  | some m =>
    match s1.settleCheck m with
    | some f => (s1.settleErr f).rouseEnter cSettleFail s1.upNs
    | none =>
      if s1.sec.rngFail then s1.rouseEnter cSettleFail s1.upNs
      else
      let s2 := (s1.applySteep m).caddyFinds present nvme speed width
      (s2.setFld Reg.transTime 31 16 (min 0xFFFF ((s2.upNs - s2.ward.since) / 1000000))).transit .steep 0

/-! ### SERVICE (R634) -/

/-- The authorisation record is valid (Table 20.9). -/
def authValid (s : State) (b : List Byte) (len : Nat) : Bool :=
  let slot := fieldAt b 6 1
  let f := s.sec.fuses
  decide (len = 160 ∧ b.length = 160 ∧ fieldAt b 0 4 = 0x41435653 ∧ fieldAt b 4 2 = 1 ∧ slot < 4 ∧ f.keys.getD slot 0 ≠ 0
    ∧ fieldAt b 8 8 = f.deviceId ∧ s.sec.svcNonce = some (sliceAt b 0x10 32))
  && !bitOf f.revoked slot && bitOf f.service slot
  && P384.verify (sha384 (b.take 0x40)) (f.keys.getD slot 0) (fieldAt b 0x40 48) (fieldAt b 0x70 48)

/-- Entry to SERVICE (Table 1.2). [log 21 DESIGN CHOICE, unsafe] -/
def enterService (s : State) (src : ModeSource) (perms : Nat) : State :=
  let s1 := { s with sec := { s.sec with perms := perms % 16 } }
  let s2 := (List.range 7).foldl (fun t i => t.endBusy (i + 1)) (s1.modeOk src)
  let s3 := (List.range 64).foldl (fun t g => if t.tileOwner g ≠ 0xF then t.gskShut g else t) s2.dropBinds
  { s3 with fusion := { s3.fusion with due := none } }.transit .service cModeCmd

/-- The guard NOT_AUTHORISED, evaluated on the record read; in the TEST lifecycle it holds without one. -/
def authorise (s : State) (src : ModeSource) (b : List Byte) (len : Nat) : State :=
  if s.sec.fuses.life = 0 then s.enterService src 0xF
  else
    let ok := s.authValid b len
    let t := { s with sec := { s.sec with svcNonce := none } }
    if ok then t.enterService src (fieldAt b 0x30 4) else t.modeRefuse .notAuthorised src

/-! ### STANDBY -/

/-- STANDBY: the request completes, outputs stop after the LAST frame, the rails are released, everything but the AON domain
is lost; PARK and its T_disc are judged on there as before (R38, R39, Table 1.9).
[log 22 DEDUCED, unsafe] -/
def enterStandby (s : State) (src : ModeSource) (ext : List ExtData) (ups : List Upset) : State :=
  let d := (match src with | .entry r => (s.modeOk src).complete r ext ups | .sideband => s.modeOk src).frameDue true true
  let u := ((d.cleared .warm).setFld (Reg.safeTxcfg 0) 31 31 0).setReg Reg.parkCtl (s.reg Reg.parkCtl)
  { u with
    park := s.park
    ward := { u.ward with st := .standby, prev := .drive }
    safe := {}
    power := { u.power with railMain := false, railMem := false, railsUp := false, refOk := false } }

/-! ### Self-proof (§18.5) -/

/-- The proof that runs ends: SAFE_PROOF_STAT (Table 18.11). `result` 1 pass, 2 fail; `step` the failing one. -/
def proofStat (s : State) (p : ProofRun) (result : Nat) : State :=
  s.setReg Reg.safeProofStat (BitVec.ofNat 32
    (result + 4 * p.scope + p.fail * 8 + min 0xFFFF ((s.upNs - p.since) / 10000) * 0x10000))

/-- ROUSE step 8 (R32): gaskets of the DRIVE image open but those of QM tiles while R633 is due, RESIDENT is cleared, the
Strainer delivers again. -/
def rouseOpen (s : State) : State :=
  let t := s.openUsed fun g =>
    decide (g < 64 ∧ 2 ≤ s.tileOwner g ∧ s.tileOwner g ≠ 0xF) && (s.ward.zeroFill || !((s.enclSt (s.tileOwner g)).st == .running))
  { t with ward := { t.ward with resident := false, phase := .waitEpoch } }.resumeStreams

/-- A proof of PROOF or ROUSE ends (R21, R34, R598). -/
def stateProofEnds (s : State) (pass : Bool) : State :=
  if s.ward.st = .proof then
    (if pass then { s with ward := { s.ward with phase := .waitEpoch } }
     else if s.ward.proofRetry then s.fatal .proofFail 0xF 118 cProofFail
     else ({ s with ward := { s.ward with proofRetry := true } }).fatalWarden .proofFail .proofFail)
  else if s.ward.st = .rouse then
    (if pass then s.rouseOpen else s.fatal .proofFail 0xF 118 cProofFail)
  else s

/-- The running proof ends as its checkers have proved. -/
def proofEnds (s : State) : State :=
  match s.safe.proof with
  | none => s
  | some p =>
    let pass := decide (p.fail = 0)
    let t := { s.proofStat p (if pass then 1 else 2) with safe := { s.safe with proof := none } }
    match p.entry with
    | some r =>
      let u := t.finish r (if pass then .ok else .integrity) (p.fail + min 0xFFFF ((s.upNs - p.since) / 10000) * 0x10000)
      if pass then u else u.activeFault 4
    | none => t.stateProofEnds pass

/-- Admission of PROOF_RUN at check 6 (R596). [log 131 DESIGN CHOICE, unsafe] -/
def proofAdmit (s : State) (scope : Nat) : Bool :=
  (scope = 0 && s.ward.st == .service) || (scope = 1 && (s.ward.st == .steep || s.ward.st == .service))

/-- The AF bit a fault identifier names (R591): SAFE_ACTIVE's. -/
def activeBit (id : Nat) : Option Nat :=
  match id with
  | 0x01 => some 0 | 0x02 => some 1 | 0x03 => some 2 | 0x05 => some 3 | 0x06 => some 4 | 0x07 => some 6 | 0x08 => some 7
  | 0x20 => some 5 | 0x21 => some 5 | 0x22 => some 5 | 0x23 => some 5
  | _ => none

/-- The targets a mechanism of Table 18.2 accepts (R597); none for a reserved bit or a reaction. -/
def injectTarget (mech t : Nat) : Bool :=
  if mech = 0 then decide (t < 72 ∨ t = 118)
  else if mech = 1 ∨ mech = 2 then decide (72 ≤ t ∧ t < 80)
  else if mech = 3 then decide (t < 80 ∨ t = 118)
  else if mech = 4 ∨ mech = 5 then decide (t < 64)
  else if mech = 6 ∨ mech = 7 then decide (t = 100)
  else if mech = 8 ∨ mech = 9 then decide (t = 102)
  else if mech = 10 ∨ mech = 11 then decide (t < 119)
  else if mech = 12 then decide (t < 9)
  else if mech = 13 then decide (1 ≤ t ∧ t < 9)
  else if mech = 16 then decide (96 ≤ t ∧ t < 100)
  else if mech = 14 ∨ mech = 15 ∨ (17 ≤ mech ∧ mech < 21) then decide (t = 0xFFFF)
  else false

/-- The checker of the mechanism sits in one block, which the target names. -/
def perBlock (mech : Nat) : Bool := decide (mech < 12 ∨ mech = 16)

/-- Admission of INJECT at check 6 (R597). [log 131 DESIGN CHOICE, unsafe] -/
def injectAdmit (s : State) (mech t : Nat) : Bool :=
  injectTarget mech t &&
    (if s.ward.st = .service then true
     else if s.ward.st = .drive ∨ s.ward.st = .steep then
       perBlock mech && !((List.range 8).any fun e => s.isSafety e && s.serves t e)
     else false)

/-- Check 6 of the SAFE commands. -/
def admitSafe (s : State) (y : Entry) : Status :=
  if y.op = 1 then (if s.proofAdmit (y.arg 0 1) then .ok else .badArg)
  else if y.op = 2 then (if (activeBit (y.arg 0 2)).isSome then .ok else .badArg)
  else if s.injectAdmit (y.arg 0 2) (y.arg 2 2) then .ok else .badArg

/-- FAULT_CLEAR of an identifier (R41, R591). [log 23 DESIGN CHOICE, unsafe] -/
def faultClear (s : State) (id : Nat) : Status × State :=
  match activeBit id with
  | none => (.badArg, s)
  | some b =>
    if id = 1 then (if s.park.fault ∧ !s.park.clearReady then (.busy, s) else (.ok, s.clearDisc))
    else if id = 2 ∧ 120 ≤ s.maxC then (.busy, s)
    else (.ok, s.setFld Reg.safeActive b b 0)

/-- The tiles of the DRIVE image's QM enclosures (R633), an aborted one's left shut. -/
def qmTiles (s : State) : List Nat :=
  (List.range 64).filter fun g =>
    let e := s.tileOwner g
    decide (2 ≤ e ∧ e ≠ 0xF) && (s.enclSt e).st == .running && !s.img.spareOut.contains g

end State

open State

/-- SETTLE (R17, R30): the request is judged; accepted, it completes OK and step 1 of Table 1.5 follows. -/
def execSettle (src : ModeSource) (pre : Bool) (s : State) : Out :=
  .next (
    if !s.modeOpen 1 src then s
    else if pre then s.modePreempted cModeCmd src
    else match s.settleGuard with
      | some g => s.modeRefuse g src
      | none =>
        let t := (s.modeOk src).transit .settle cModeCmd
        { t with ward := { t.ward with phase := .waitEpoch, since := t.upNs } })

/-- ROUSE (R17, R32): the request is a rouse trigger in STEEP and completes OK. -/
def execRouse (src : ModeSource) (pre : Bool) (s : State) : Out :=
  .next (
    if !s.modeOpen 2 src then s
    else if pre then s.modePreempted cRouseCmd src
    else if s.ward.st ≠ .steep then s.modeRefuse .noTransition src
    else (s.modeOk src).rouseTrigger cRouseCmd)

/-- SERVICE_ENTER (R634): the record comes from the entry's buffer, or from Map-L. -/
def execServiceEnter (src : ModeSource) (pre : Bool) (ext : List ExtData) (upsets : List Upset) (s : State) : Out :=
  .next (
    if !s.modeOpen 3 src then s
    else if pre then s.modePreempted cModeCmd src
    else match s.parkGuard with
      | some g => s.modeRefuse g src
      | none =>
        match src with
        | .sideband => s.authorise src s.sb.record 160
        | .entry r =>
          match s.entry r with
          | none => s
          | some y =>
            if y.arg 8 4 = 160 ∧ s.sec.fuses.life ≠ 0 then
              let (st, b, t) := s.readRun (s.stewardOf r.encl) (y.arg 0 8) 160 ext upsets
              -- the entry ends with the code of a read that fails (R300)
              if st = .ok then t.authorise src b 160 else t.finish r st 0
            else s.authorise src [] (y.arg 8 4))

/-- STANDBY (R17): outputs stop after the LAST frame and the rails are released. -/
def execStandby (src : ModeSource) (pre : Bool) (ext : List ExtData) (upsets : List Upset) (s : State) : Out :=
  .next (
    if !s.modeOpen 4 src then s
    else if pre then s.modePreempted cModeCmd src
    else match s.parkGuard with
      | some g => s.modeRefuse g src
      | none => s.enterStandby src ext upsets)

/-- EPOCH_BOUNDARY (R450). -/
def execEpochBoundary (ext : List ExtData) (upsets : List Upset) (s : State) : Out := .next (s.boundary ext upsets)

/-- STEEP_DECLARED (R30): the steps of Table 1.5 end; `present` and `nvme` say what the NVMe root port finds.
[log 20 DESIGN CHOICE, unsafe] -/
def execSteepDeclared (present nvme : Bool) (speed width : Nat) (ext : List ExtData) (upsets : List Upset) (s : State) : Out :=
  .next (
    if s.ward.st ≠ .settle then s
    else
      let t := if s.ward.phase = .waitEpoch then s.boundary ext upsets else s
      if t.ward.st ≠ .settle then t
      else
        let u := t.finishEpoch ext upsets
        if u.settleBound < u.upNs then u.rouseEnter cSettleTimeout u.settleBound
        else u.settleSteps present nvme speed width)

/-- SETTLE_TIMEOUT (R31). [log 3 DESIGN CHOICE, safe] -/
def execSettleTimeout (s : State) : Out :=
  .next (if s.ward.st = .settle then (s.elapseTo s.settleBound).rouseEnter cSettleTimeout s.settleBound else s)

/-- The bound of a proof (R594, R595), and its last step. -/
def proofEnd (p : ProofRun) : Nat := p.since + (if p.scope = 0 then 38000000 else 12000000)
def proofSteps (p : ProofRun) : Nat := if p.scope = 0 then 14 else 11

/-- PROOF_COMPLETE (R21, R594 to R598): the proof that runs ends `us` µs on, within its bound. -/
def execProofComplete (us : Nat) (s : State) : Out :=
  .next (
    match s.safe.proof with
    | none => s
    | some p =>
      let t := s.elapseTo (min (s.upNs + 1000 * us) (proofEnd p))
      if s.ward.st = .rouse ∧ s.rouseBound < t.upNs then s.rouseExpire else t.proofEnds)

/-- PROOF_CHECKER_TIMEOUT (R593): 50 µs after its injection the checker of proof step `step` has not reported; step 0 is the
checker of a commanded injection. -/
def execProofCheckerTimeout (step : Nat) (s : State) : Out :=
  .next (
    if step = 0 then
      (match s.safe.inject with
      | none => s
      | some i =>
        let t := s.elapseTo (i.since + 50000)
        (({ t with safe := { t.safe with inject := none } }).finish i.r .integrity 0).activeFault 4)
    else match s.safe.proof with
      | none => s
      | some p =>
        if proofSteps p < step then s
        else
          let t := s.elapse 50000
          if p.fail ≠ 0 then t else { t with safe := { t.safe with proof := some { p with fail := step } } })

/-- PROOF_RUN (R596). -/
def execProofRun (r : EntryRef) (s : State) : Out :=
  .next (match s.running r 5 1 with
    | none => s
    | some y =>
      if !s.proofAdmit (y.arg 0 1) then s.finish r .badArg 0
      else if s.safe.proof.isSome then
        (if (s.safe.proof.bind (·.entry)) = some r then s else s.finish r .busy 0)
      else { s with safe := { s.safe with proof := some { scope := y.arg 0 1, entry := some r, since := s.upNs } } })

/-- FAULT_CLEAR (R591). -/
def execFaultClear (r : EntryRef) (s : State) : Out :=
  .next (match s.running r 5 2 with
    | none => s
    | some y => let (st, t) := s.faultClear (y.arg 0 2); t.finish r st 0)

/-- INJECT (R597): the error is injected; the checker's report, or its absence, ends the command. -/
def execInject (r : EntryRef) (s : State) : Out :=
  .next (match s.running r 5 3 with
    | none => s
    | some y =>
      if !s.injectAdmit (y.arg 0 2) (y.arg 2 2) then s.finish r .badArg 0
      else match s.safe.inject with
        | some i => if i.r = r then s else s.finish r .busy 0
        | none =>
          { s with safe := { s.safe with inject := some { mech := y.arg 0 2, target := y.arg 2 2, r := r, since := s.upNs } } })

/-- DISC_CLEAR (R47): a write of one to WARD_PARK_CTL [0]; a refused one is recorded as of the command queues and enclosure 0. [log 24 DESIGN CHOICE, unsafe] -/
def execDiscClear (who : Requester) (s : State) : Out :=
  .next (s.regCmd who .write Reg.parkCtl fun t =>
    if accepts t.ward.st .safe then (.ok, 0, t.clearDisc)
    else (.ok, 0, (t.refuse .safe .queue .pair 0).sysErr 3 Reg.parkCtl (t.tagOf who)))

/-- WARD_REFUSE_CLR (R50). -/
def execWardRefuseClr (who : Requester) (mask : Nat) (s : State) : Out :=
  .next (s.regCmd who .write Reg.refuseClr fun t => t.inStates who Reg.refuseClr .all (mask % 128 ≠ 0) fun u =>
    (.ok, 0, (List.range 7).foldl (fun v c => if bitOf mask c then v.setReg (Reg.refuseCnt c) 0 else v) u))

/-- ZERO_FILL_COMPLETE (R633): the fill and the tiles' initialisation end; the gaskets of the DRIVE image's QM enclosures
open. [log 26 DESIGN CHOICE, safe] -/
def execZeroFillComplete (s : State) : Out :=
  .next (
    if !s.ward.zeroFill ∨ s.ward.st ≠ .drive then s
    else
      let s1 := s.zeroRanges s.img.fill
      let s2 := (List.range 64).foldl (fun t g =>
        if 2 ≤ t.tileOwner g ∧ t.tileOwner g ≠ 0xF ∧ !(t.gasket g).powered then t.powerUp g else t) s1
      let s3 := s2.qmTiles.foldl gskOpen s2
      { s3 with ward := { s3.ward with zeroFill := false }, img := { s3.img with fill := [] } })

end Sys2Proof.Machine
end

