-- ==== Sys2Proof/Machine/Boot.lean ====
section
/-! DEFINITION. Boot and images at run time (§2.5, §2.6, §3.4, §20.2, §22.4): the strap, the release order, DRAM training and
initialisation, the boot chain from xSPI NOR, IMAGE_LOAD by state and profile, and ENCL_RESTART (R80 to R89, R111, R121, R123,
R157, R179, R201, R202, R619, R620, R684). -/

namespace Sys2Proof.Machine

/-! ### The strap (R121, Table 3.12) -/

/-- Lower boundaries of the sixteen windows, in 0.1 mV. -/
def strapEdges : List Nat :=
  [931, 1072, 1237, 1431, 1656, 1910, 2204, 2548, 2943, 3396, 3925, 4533, 5232, 6039, 6977, 8059]

/-- The code of a reading in 0.1 mV; none outside every window. -/
def strapCode (v : Nat) : Option Nat :=
  if v < 931 ∨ 9306 < v then none else some ((strapEdges.filter (· ≤ v)).length - 1)

/-- RST_STRAP for a reading (R126, R123). -/
def strapWord (v : Nat) : Nat :=
  match strapCode v with
  | none => 0x1000
  | some c => c + c / 8 * 0x10 + (0x50 + 2 * (c % 8)) * 0x20

/-! ### DRAM capacity (R179) -/

/-- A density in 512 MiB units lies in the range of R179. -/
def densityOk (d : Nat) : Bool := decide (1 ≤ d ∧ d ≤ 16)

/-- Channel `m` fails training: the reference is out of range, its density differs, or training itself failed. -/
def trainFails (densities fails : List Nat) (m : Nat) : Bool :=
  let ref := densities.getD 0 0
  !densityOk ref || densities.getD m 0 != ref || fails.contains m

/-- Usable bytes for a channel capacity in 512 MiB units. -/
def usableOf (units : Nat) : Nat := 8 * (units * 0x20000000) * 15 / 16

namespace State

/-! ### The boot chain (R620) -/

/-- A stage ends the boot: the boot-source rules are exhausted (R684, R686). -/
def bootExhausted (s : State) : State := s.fatal .bootFault 0xF 118 cBootFail

/-- A firmware bundle that has passed its checks runs (R620). -/
def startFw (s : State) (b : List Byte) : State :=
  { s with sec := { s.sec with
      fwDigest := sliceAt b (fieldAt b 8 4 - 0xA0) 48, fwVersion := fieldAt b 0x10 4, fwSigner := fieldAt b 0xF 1 } }

/-- A bundle is checked (R619). -/
def tryBundle (s : State) (b : List Byte) : Bool × State :=
  match checkBundle (s.imgFacts 0) b with
  | none => (true, s.startFw b)
  | some f => (false, s.imgError f b true)

/-- The first bundle of several that passes. -/
def bundleFrom (s : State) : List (List Byte) → Bool × State
  | [] => (false, s)
  | b :: bs => let (ok, t) := s.tryBundle b; if ok then (true, t) else t.bundleFrom bs

/-- Warden and security block, PERI and MEM leave reset (Table 3.7 steps 5 to 7); DRAM training begins. -/
def toTraining (s : State) : State :=
  { s.powerBlocks (List.range 8 |>.map (72 + ·)) with power := { s.power with phase := .training } }

/-- Boot stages 1 and 2, with the fuses read. -/
def bootWarden (s : State) : State :=
  if s.fld Reg.rstStrap 12 12 = 1 then
    ({ s with uart := { s.uart with raw := some s.power.strapRaw } }).fatal .bootFault 0xF 118 cFatal
  else if s.sec.fuses.life = 2 then s.fatal .bootFault 0xF 118 cFatal
  else if s.hostPush then
    { s with pcie := { s.pcie with push := if s.pcie.linkUp then .waitBundle else .idle, waitSince := s.upNs } }
  else
    let (ok, t) := s.bundleFrom (s.norDirs.map fun d => s.norObject d 8 0x200000)
    if ok then t.toTraining else t.bootExhausted

/-- The release of Table 3.7 up to step 7. `strap` is the reading where the strap is sampled, in 0.1 mV. -/
def leaveReset (s : State) (strap : Nat) : State :=
  let s1 := { s with power := { s.power with
    phase := .training, strapDue := false, railMain := true, railMem := true, railsUp := true, railTries := 0, refOk := true,
    pllLock := true, strapRaw := if s.power.strapDue then strap else s.power.strapRaw } }
  let s2 := if s.power.strapDue then s1.setReg Reg.rstStrap (BitVec.ofNat 32 (strapWord strap)) else s1
  (((s2.powerBlocks [111, 116, 117, 118]).sbEvent 6).bootWarden)

/-- The DRIVE image of the boot source is checked (R82). -/
def tryDrive (s : State) (b : List Byte) : Bool × State :=
  match checkImage (s.imgFacts 1) b with
  | none => (true, (s.imgDone true 1).applyDrive (readImage b) true)
  | some f => (false, s.imgFails f b)

/-- The first DRIVE image of several that passes. -/
def driveFrom (s : State) : List (List Byte) → Bool × State
  | [] => (false, s)
  | b :: bs => let (ok, t) := s.tryDrive b; if ok then (true, t) else t.driveFrom bs

/-- The checks of a STEEP image against the DRIVE image (steps 22 and 23). -/
def checkAgainst (s : State) (m : Image) : Option ImgFail :=
  let d := s.img.drive.getD {}
  firstFail [checkPair d m, checkResident d m]

/-- A checked STEEP image is stored, or its failure reported. -/
def storeSteep (s : State) (b : List Byte) : Status × State :=
  match s.checkAgainst (readImage b) with
  | some f => (f.status, s.imgFails f b)
  | none => (.ok, { s with img := { s.img with steep := some (readImage b) } }.imgDone true 2)

/-- The STEEP image of the boot source (R82). -/
def trySteep (s : State) (b : List Byte) : Bool × State :=
  match checkImage (s.imgFacts 2) b with
  | some f => (false, s.imgFails f b)
  | none => let (st, t) := s.storeSteep b; (st == .ok, t)

/-- Boot stage 6 and the entry to PROOF (R620, R21, R594): the DRIVE keys need the random source.
[log 47 DESIGN CHOICE, unsafe] -/
def bootEnds (s : State) : State :=
  if s.sec.rngFail then s.fatal .bootFault 0xF 118 cFatal
  else
    let t := s.bootKeys.transit .proof 0
    { t with ward := { t.ward with phase := .selfProof, since := t.upNs }, safe := { t.safe with proof := some { since := t.upNs } } }

/-- Stages 4 to 6 from xSPI NOR (R684). -/
def bootNor (s : State) : State :=
  let (ok, t) := s.driveFrom (s.norDirs.map fun d => s.norObject d 0x10 0x40000)
  if !ok then t.bootExhausted
  else
    let d := s.norDirs.getD 0 []
    (if fieldAt d 0x1C 4 = 0 then t else (t.trySteep (s.norObject d 0x18 0x40000)).2).bootEnds

/-! ### IMAGE_LOAD (R81 to R89) -/

/-- Another IMAGE_LOAD that started before (R84). [log 42 DESIGN CHOICE, unsafe] -/
def loadBusy (s : State) (r : EntryRef) (y : Entry) : Bool :=
  queueIds.any fun q => (s.queue r.encl q).flight.any fun x =>
    x.cls = 0 && x.op = 0x10 && x.started && x.ending.isNone && decide ((⟨r.encl, q, x.seq⟩ : EntryRef) ≠ r)
      && decide (x.startNs < y.startNs ∨ (x.startNs = y.startNs ∧ (q < r.queue ∨ (q = r.queue ∧ x.seq < y.seq))))

/-- A refusal of Table 2.15. [log 42 DESIGN CHOICE, unsafe] -/
def loadRefused (s : State) (r : EntryRef) (g : Guard) : State :=
  (s.refuse .cfg .queue g r.encl).endEntry r { status := .stateRefused, unchecked := true }

/-- REIMAGE_MASK names only enclosures 2 to 7 that have a record in the STEEP image in force or in the new one. -/
def maskOk (s : State) (mask : Nat) (m : Image) : Bool :=
  mask % 256 ≠ 0 && mask % 4 = 0 && (List.range 8).all fun e => !bitOf mask e || s.present e || m.present e

/-- The re-image is applied to the named enclosures (R88), all idle. [log 43 DESIGN CHOICE, unsafe] -/
def reimage (s : State) (mask : Nat) (m : Image) : State :=
  let named (e : Nat) : Bool := e < 8 && bitOf mask e
  let old := s.img.steep.getD {}
  let lend := (s.img.drive.map (·.lend)).getD 0
  let s1 := (List.range 64).foldl (fun t g => if named (t.tileOwner g) then t.gskShut g else t) s
  let s2 := (List.range 64).foldl (fun (t : State) g =>
    if bitOf lend g ∧ old.owner g ≠ m.owner g ∧ (t.gasket g).powered ∧ !(t.gasket g).inReset then t.scrubTile g else t) s1
  let s3 := old.pools.foldl (fun t p => if named p.owner then t.setKvPool p.id {} else t) s2
  let s4 := (List.range 8).foldl (fun t p =>
    if t.isLoomPort p ∧ (m.port (0x40 + p)).map (·.role) ≠ some 1 then t.portOff p else t) s3
  let ups := (List.range 8).filter fun p => !s.isLoomPort p && (m.port (0x40 + p)).map (·.role) == some 1
  let handles := s4.handles.filter fun h => !((List.range 8).any fun e => named e && h.owner = s.ownerTag e)
  let s5 := { s4 with img := { s4.img with steep := some m }, handles := handles }
  let s6 := (List.range 8).foldl (fun t e =>
    if named e then (t.setEncl e (if !m.present e then {} else { s.enclSt e with st := .running })).freshKey e else t) s5
  let s7 := ((s6.declarePools m named).assignChannels.setFld Reg.weaveCfg 15 8 m.vc3).powerTiles false
  let s8 := ups.foldl portUp s7
  ((List.range 13).map (103 + ·) ++ (List.range 64).filter fun g => named (s8.tileOwner g)).foldl
    (fun t g => if t.usedBlock g then t.gskOpen g else t.gskShut g) s8

/-- IMAGE_LOAD of a checked image in STEEP. [log 47 DESIGN CHOICE, unsafe] -/
def loadSteep (s : State) (r : EntryRef) (mask : Nat) (b : List Byte) : State :=
  let m := readImage b
  if !s.maskOk mask m then s.finish r .badArg 0
  else match firstFail [s.checkAgainst m, checkReimage mask (s.img.steep.getD {}) m] with
    | some f => (s.imgFails f b).finish r f.status 0
    | none =>
      if (List.range 8).any fun e => bitOf mask e && !s.enclIdle e r then s.finish r .busy 0
      else if s.sec.rngFail then s.finish r .keyUnavailable 0
      else ((s.reimage mask m).imgDone true 2).finish r .ok 0

/-- The stored STEEP image is checked again (R86): one that fails is discarded, its failure reported (R91). -/
def recheckSteep (t : State) : State :=
  match t.img.steep.bind t.checkAgainst with
  | none => t
  | some f => { t.settleErr f with img := { t.img with steep := none } }

/-- IMAGE_LOAD of a checked DRIVE image in SERVICE: applied, and the stored STEEP image judged against it (R86, R89). -/
def loadDrive (s : State) (r : EntryRef) (b : List Byte) : State :=
  match checkLive (s.img.bootDrive.getD {}) (readImage b) with
  | some f => (s.imgFails f b).finish r f.status 0
  | none => ((s.applyDrive (readImage b) false).imgDone true 1).recheckSteep.finish r .ok 0

/-- An IMAGE_LOAD with its bytes at hand. -/
def imageLoad (s : State) (r : EntryRef) (mask : Nat) (b : List Byte) : State :=
  match checkImage (s.imgFacts 0) b with
  | some f => (s.imgFails f b).finish r f.status 0
  | none =>
    let drive := decide ((readImage b).profile = 1)
    if s.ward.st = .service then
      (if drive then s.loadDrive r b else let (st, t) := s.storeSteep b; t.finish r st 0)
    else if drive then s.loadRefused r (if s.ward.st = .steep then .residentTarget else .noTransition)
    else if s.ward.st = .steep then s.loadSteep r mask b
    else if mask % 256 ≠ 0 then s.finish r .badArg 0
    else let (st, t) := s.storeSteep b; t.finish r st 0

/-! ### ENCL_RESTART (R157, R350) -/

/-- An aborted enclosure starts again: tiles scrubbed, pools unformatted, slots emptied, handles destroyed, a fresh key, gaskets
OPEN. [log 44 DESIGN CHOICE, unsafe] -/
def enclRestart (s : State) (e : Nat) : State :=
  let tag := s.ownerTag e
  let s1 := (List.range 64).foldl (fun t g =>
    if t.tileOwner g = e ∧ (t.gasket g).powered ∧ !(t.gasket g).inReset then t.scrubTile g else t) s
  let s2 := match s.steepImg with
    | none => s1
    | some m => s1.declarePools m (· == e)
  let s3 := ((s2.emptyOwned (· == tag)).freshKey e).setEncl e { s.enclSt e with st := .running }
  (List.range 64).foldl (fun t g => if t.tileOwner g = e then t.gskOpen g else t) s3

/-- What ENCL_RESTART of `e` answers, and its effect. -/
def restartCmd (s : State) (e : Nat) : Status × State :=
  if 8 ≤ e ∨ !s.present e then (.notFound, s)
  else if s.isSafety e then (.badArg, s)
  else if (s.enclSt e).st = .aborting then (.busy, s)
  else if (List.range 64).any fun k => s.slotOwner k = s.ownerTag e && (s.slot k).bindings != 0 then (.busy, s)
  else if (s.enclSt e).st ≠ .aborted then (.ok, s)
  else if s.sec.rngFail then (.keyUnavailable, s)
  else (.ok, s.enclRestart e)

end State

open State

/-- RESET_RELEASE (R111): the last source has ended and the rails stand; `strap` is the STRAP reading in 0.1 mV. -/
def execResetRelease (strap : Nat) (s : State) : Out :=
  .next (if s.inReset ∧ !s.railsLost ∧ s.power.railMain then s.leaveReset strap else s)

/-- DRAM_TRAINING_DONE (R201, R179): the densities the channels reported, in 512 MiB units, and the channels whose training
failed. A thermal hold keeps step 8 waiting (§3.4). -/
def execDramTrainingDone (densities fails : List Nat) (s : State) : Out :=
  .next (
    if s.power.phase ≠ .training ∨ s.sec.fwDigest = [] ∨ s.ward.st ≠ .boot then s
    else
      let t := (List.range 8).foldl (fun u m => u.modChan m fun c =>
        let d := densities.getD m 0
        let bad := trainFails densities fails m
        { c with trained := !bad, trainFail := bad, linkEcc := !bad, rawCh := if densityOk d then d else 0 }) s
      if (List.range 8).any (trainFails densities fails) then t.fatal .bootFault 0xF 118 cFatal
      else
        let u := { t with usable := usableOf (densities.getD 0 0) }
        if u.power.thermalHold then { u with power := { u.power with phase := .trained } } else u.toInit)

/-- DRAM_INIT_DONE (R202): DRAM holds zero with good code. -/
def execDramInitDone (s : State) : Out :=
  .next (
    if s.power.phase ≠ .initialising ∨ s.ward.st ≠ .boot then s
    else
      let t := s.zeroRange 0 s.usable
      { t with
        power := { t.power with phase := .imageWait }
        pcie := if t.hostPush then { t.pcie with push := .waitDrive, attempts := 0, tried := false, waitSince := t.upNs } else t.pcie })

/-- BOOT_IMAGE_LOADED (R82, R620): the images from xSPI NOR. -/
def execBootImageLoaded (s : State) : Out :=
  .next (if s.power.phase = .imageWait ∧ s.ward.st = .boot ∧ !s.hostPush then (s.sbBusy 50000000).bootNor else s)

/-- IMAGE_LOAD (R81). -/
def execImageLoad (r : EntryRef) (ext : List ExtData) (upsets : List Upset) (s : State) : Out :=
  .next (match s.running r 0 0x10 with
    | none => s
    | some y =>
      if s.loadBusy r y then s.finish r .busy 0
      else
        let (st, b, t) := s.readRun (s.stewardOf r.encl) (y.arg 0 8) (min (y.arg 8 4) 0x40001) ext upsets
        if st ≠ .ok then t.finish r st 0 else (t.sbBusy 50000000).imageLoad r (y.arg 12 1) b)

/-- ENCL_RESTART (R157). -/
def execEnclRestart (r : EntryRef) (s : State) : Out :=
  .next (match s.running r 0 0x11 with
    | none => s
    | some y => let (st, t) := s.restartCmd (y.arg 0 1); t.finish r st 0)

end Sys2Proof.Machine
end

