-- ==== Sys2Proof/Machine/Cozy.lean ====
section
/-! DEFINITION. Cozy sleep (§3.3, §16.9, §17.7): COMMIT and its hold, withdrawal and late abort, entry, the two ends of sleep,
the Brikel wake and the remote reset (R35, R101, R102, R205, R426, R540, R541, R572, R574 to R576). -/

namespace Sys2Proof.Machine

namespace State

/-- Cozy sleep entry begins (R574): a LAST safety frame, frames paused, the LOOM ports leave their links, the TSU is captured. -/
def cozyEnter (s : State) : State :=
  let s1 := s.frameDue true true
  let s2 := { s1 with
    ward := { s1.ward with cozy := true, asleep := false, wake := false, rouseCauses := 0 }
    safe := { s1.safe with paused := true }
    tsu := { s1.tsu with cozyTime := s1.tsu.time, cozyFrom := s1.upNs } }
  (List.range 8).foldl portCozy (s2.modVote fun v => { v with holding := false })

/-- A commons slice that a window of enclosure 0 or 1 overlaps stays powered (Table 3.4). -/
def sliceKept (s : State) (k : Nat) : Bool := ((s.windowsOf 0) ++ (s.windowsOf 1)).any (windowOnSlice · k)

/-- Arrays that Cozy sleep does not retain come back with zero and good code (R102). [log 40 DESIGN CHOICE, safe] -/
def cozyArrays (s : State) : State :=
  let s1 := (List.range 64).foldl (fun t g =>
    if (t.gasket g).powered ∧ t.tileOwner g ≠ 1 then
      (t.zeroRange (tileBase g) (tileBase g + 0x200000)).setListOf (.tsram g) [] else t) s
  (List.range 8).foldl (fun t k =>
    if s.sliceKept k then t
    else
      let u := (t.zeroRange (commonsBase k) (commonsBase k + 0x400000)).setListOf (.commons k) []
      { u with weave := { u.weave with live := u.weave.live.filter fun a => sliceOf a ≠ k } }) s1

/-- The TSU after sleep (R426): the captured value and the 32.768 kHz cycles the AON domain counted.
[log 39 DESIGN CHOICE, safe] -/
def cozyTsu (s : State) (cycles : Nat) : State :=
  { s with tsu := { s.tsu with
      time := (s.tsu.cozyTime + cycles * 30517578125 / 1000000) % 2 ^ 64, frac := 0, st := 2, good := 0, holdSince := s.upNs } }

/-- SRAM scrubbing restarts from word 0 (R193). -/
def cozyScrub (s : State) : State :=
  let s1 := (List.range 64).foldl (fun t g => t.setTram g { t.tram g with scrubAt := 0 }) s
  (List.range 8).foldl (fun t k => t.setCram k { t.cram k with scrubAt := 0 }) s1

/-- Exit from Cozy sleep: memory, slots, clocks, frames and links come back; then what was latched acts. -/
def cozyExit (s : State) (cycles : Nat) : State :=
  let causes := s.ward.rouseCauses
  let since := s.ward.since
  let s1 := { s with
    ward := { s.ward with cozy := false, asleep := false, wake := false, rouseCauses := 0 }
    power := { s.power with pllLock := true }
    chans := s.chans.map fun (c : Nat × Chan) => (c.1, { c.2 with selfRefresh := false })
    slots := s.slots.map fun (x : Nat × Slot) => (x.1, { x.2 with bindings := 0 })
    safe := { s.safe with paused := false, dueAt := s.upNs }
    loom := { s.loom with exitAt := s.upNs + 1 } }
  let s2 := ((s1.cozyArrays).cozyTsu cycles).cozyScrub
  let s3 := if s2.fld Reg.loomCfg 24 24 = 1 then s2.wakePeers else s2
  let s4 := (List.range 8).foldl (fun t p => if t.isLoomPort p then t.portUp p else t) s3
  if causes = 0 then s4 else s4.rouseEnter causes since

/-- Cozy entry is complete: clocks stop, DRAM is in self-refresh, VDD_CORE at its lowest (Tables 3.2, 3.4, R205). -/
def cozyAsleep (s : State) : State :=
  let s1 := (List.range 8).foldl (fun t p => if (t.bport p).st = .disabled then t else t.portSleep p) s
  { s1 with
    ward := { s1.ward with asleep := true }
    power := { s1.power with pllLock := false, vid := 0, vidAt := s1.upNs + 1 }
    chans := s1.chans.map fun (c : Nat × Chan) => (c.1, { c.2 with selfRefresh := true, dirty := [] }) }

end State

open State

/-- COMMIT (R574): a member that has not withdrawn begins Cozy sleep entry. -/
def execCommit (id : Nat) (s : State) : Out :=
  let v := s.loom.vote
  .next (
    if s.ward.st ≠ .steep ∨ !s.isMember ∨ s.isCoord ∨ v.st ≠ .opened ∨ v.id ≠ id then s
    else
      let t := s.modVote fun v => { v with st := .committed }
      if v.withdrawn ∨ s.ward.cozy then t else t.cozyEnter)

/-- COMMIT_HOLD_EXPIRY (R574): HOLD_MS after COMMIT the coordinator enters. -/
def execCommitHoldExpiry (s : State) : Out :=
  .next (
    if s.loom.vote.holding ∧ s.isCoord then
      (s.elapseTo (s.loom.vote.holdSince + 1000000 * s.fld Reg.loomCfg 23 16)).cozyEnter
    else s)

/-- WITHDRAW (R573, R575): member `n` takes back its yes. -/
def execWithdraw (n id : Nat) (s : State) : Out :=
  let v := s.loom.vote
  .next (
    if !s.isCoord ∨ v.id ≠ id ∨ !s.inView n ∨ s.ward.cozy then s
    else if v.holding then s.lateAbort.judgeDelayed
    else s.voteAbortAll.judgeDelayed)

/-- VOTE_ABORT (R573, R575): the coordinator's ABORT reaches this member; during its entry it is a latched wake. -/
def execVoteAbort (id : Nat) (s : State) : Out :=
  let v := s.loom.vote
  .next (
    if s.ward.st ≠ .steep ∨ v.id ≠ id ∨ s.isCoord then s
    else if s.ward.cozy ∧ !s.ward.asleep then
      ({ s with ward := { s.ward with wake := true } }).modVote fun v => { v with st := .aborted }
    else if v.st = .opened then s.modVote fun v => { v with st := .aborted }
    else s)

/-- COZY_ENTRY_COMPLETE (R101): `cycles` is the AON count should a latched wake end sleep at once. -/
def execCozyEntryComplete (cycles : Nat) (s : State) : Out :=
  .next (
    if !s.ward.cozy ∨ s.ward.asleep then s
    else if s.ward.wake then s.cozyAsleep.cozyExit cycles
    else s.cozyAsleep)

/-- COZY_EXIT_COMPLETE (R102): sleep ends on a latched wake; `cycles` is the AON count of R426. -/
def execCozyExitComplete (cycles : Nat) (s : State) : Out :=
  .next (if s.ward.asleep ∧ s.ward.wake then s.cozyExit cycles else s)

/-- BRIKEL_WAKE (R541): the detector of a port in SLEEP registers activity. -/
def execBrikelWake (p : Nat) (s : State) : Out :=
  .next (if (s.bport (p % 8)).st = .sleep then (s.setFld (Reg.blkWake (p % 8)) 1 1 1).wakeRequest else s)

/-- REMOTE_RESET (R572, R113): taken as a reset source only from the coordinator of the present view with the own LOOM_ID. -/
def execRemoteReset (from_ loomId : Nat) (s : State) : Out :=
  .next (
    if s.ward.asleep then s
    else
      match s.steepImg with
      | some m =>
        if s.ward.st = .steep ∧ s.isMember ∧ from_ = s.loom.view.coord ∧ loomId = m.loomId ∧ m.remoteReset = 1 then
          s.resetBy .loomRemote
        else s.bump Reg.loomCnt 23 16
      | none => s.bump Reg.loomCnt 23 16)

end Sys2Proof.Machine
end

