-- ==== Sys2Proof/Machine/Patrol.lean ====
section
/-! DEFINITION. What the arrays do by themselves (§5.5 to §5.8): the patrol scrubber, the rate of correctable events, the clear
of the channel's counters, refresh polling and calibration (R181, R192, R193, R195, R203, R204, R208). -/

namespace Sys2Proof.Machine

/-- The first address of data granule `g` of channel `m` (R180 read backwards). -/
def granuleAddr (m g : Nat) : Nat :=
  let d := 32 * g
  let row := d / 256 * 0x800
  row + (m % 8 ^^^ bitsOf row 19 17) * 256 + d % 256

namespace State

/-- The scrubber at one unit (R192): a correctable unit is corrected, an uncorrectable one poisoned, a poisoned one left; a read
whose link ECC failed three times is LINK_UE (R191). -/
def scrubUnit (s : State) (p : Place) (u : Nat) (linkUe : Bool) : State :=
  match s.unitState p u linkUe with
  | .clean => s
  | .correctable b => (s.logEvent p u 0xF .ce).correctUnit p u b
  | .uncorrectable => (s.logEvent p u 0xF (ueEvent linkUe p)).poisonUnit p u
  | .poisoned => s

/-- The scrubber at the unit its read reaches (R183). -/
def scrubAt (s : State) (p : Place) (ups : List Upset) (u : Nat) : State :=
  let t := s.found p ups u
  if t.unitState p u (linkUeAt ups u) = .clean then s else t.scrubUnit p u (linkUeAt ups u)

/-- The scrubber at several units, with what it meets there. -/
def scrubUnits (s : State) (p : Place) (us : List Nat) (ups : List Upset) : State :=
  us.foldl (fun t u => t.scrubAt p ups u) (s.applyUpsets p us ups)

/-- An SRAM array is scrubbed: powered, out of reset, its clock running (R193). -/
def sramScrubs (s : State) (g : Nat) : Bool := (s.gasket g).powered && !(s.gasket g).inReset && !s.ward.asleep

/-- One visit of an array's scrubber. -/
def scrubVisit (s : State) (ups : List Upset) : ArrayRef → State
  | .tile t =>
    let t := t % 64
    let k := (s.tram t).scrubAt
    if !s.sramScrubs t then s
    else (s.setTram t { s.tram t with scrubAt := (k + 1) % 0x40000 }).scrubUnits (.tsram t) [tileBase t + 8 * k] ups
  | .commons c =>
    let c := c % 8
    let k := (s.cram c).scrubAt
    if !s.sramScrubs (64 + c) then s
    else (s.setCram c { s.cram c with scrubAt := (k + 1) % 0x80000 }).scrubUnits (.commons c) [commonsBase c + 8 * k] ups
  | .warden =>
    let bad := ups.any fun x =>
      let synd := (x.data.map fun i => sramColumns.getD i 0).foldl (· ^^^ ·) 0 ^^^ (x.check.map fun j => 1 <<< j).foldl (· ^^^ ·) 0
      (match sramCode.decode false false synd with | .uncorrectable => true | _ => false)
    if bad ∧ s.wardenAwake then s.post { fault := .wardenUe } else s
  | .dram m =>
    let m := m % 8
    let c := s.chan m
    if !c.trained ∨ c.selfRefresh ∨ s.usable = 0 then s
    else
      let g := c.scrubAt
      let t := s.setChan m { c with scrubAt := (g + 1) % (c.rawCh * 0x100000), dirty := c.dirty.filter (· ≠ g) }
      t.scrubUnits (.dram m) (((List.range 15).map fun i => granuleAddr m (15 * g + i)).filter (· < s.usable)) ups

/-- CE_RATE (R195): the count of the sliding second exceeds CE_THR and has not been reported since it fell to half. -/
def ceRate (s : State) (m : Nat) : State :=
  let c := s.chan m
  let live := c.ceTimes.filter fun t => s.upNs < t + second
  if s.fld (Reg.mcEccCtl m) 23 16 < live.length ∧ !c.ceReported then
    (s.setChan m { c with ceReported := true }).post { fault := .ceRate, attr := .block (72 + m), gsk := 72 + m }
  else s

end State

open State

/-- SCRUB_VISIT (R192): `upsets` are the flipped bits the visit finds. -/
def execScrubVisit (array : ArrayRef) (upsets : List Upset) (s : State) : Out := .next (s.scrubVisit upsets array)

/-- CE_RATE (R195). -/
def execCeRate (m : Nat) (s : State) : Out := .next (s.ceRate (m % 8))

/-- MC_CNT_CLR (R208). -/
def execMcCntClr (who : Requester) (m : Nat) (s : State) : Out :=
  .next (s.regCmd who .write (Reg.mcEccCtl (m % 8)) fun t =>
    t.inStates who (Reg.mcEccCtl (m % 8)) .dss true fun u => (.ok, 0, u.setReg (Reg.mcEccCnt (m % 8)) 0))

/-- The code of the highest refresh rate: above every multiplier a device reports (R203). [log 41 DESIGN CHOICE, unsafe] -/
def highestRate : Nat := 255

/-- REFRESH_RATE_POLL (R203): the multiplier the devices report; one that is hot is refreshed at the highest rate and reported.
[log 41 DESIGN CHOICE, unsafe] -/
def execRefreshRatePoll (m rate : Nat) (hot : Bool) (s : State) : Out :=
  let m := m % 8
  .next (
    if !(s.chan m).trained ∨ (s.chan m).selfRefresh then s
    else
      let t := s.modChan m fun c => { c with hot := hot, refreshRate := if hot then highestRate else rate }
      if hot ∧ !(s.chan m).hot then t.post { fault := .dramHot, gsk := 72 + m } else t)

/-- ZQ_CALIBRATION (R204): the channel pauses for at most 1 µs and its timing is updated; nothing else changes. -/
def execZqCalibration (m : Nat) (s : State) : Out :=
  .next (if (s.chan (m % 8)).trained ∧ !(s.chan (m % 8)).selfRefresh then s.elapse 1000 else s)

end Sys2Proof.Machine
end

