-- ==== Sys2Proof/Machine/Security.lean ====
section
/-! DEFINITION. The security block (chapter 20): debug, identity keys, the SEC operations, key handles, key slots, the random
source, and the SVC commands with UPDATE of the boot flash and the fuses (R617 to R630, R635 to R640, R685). -/

namespace Sys2Proof.Machine

namespace Reg
def secReqLo : Nat := 0x060010
def secReqHi : Nat := 0x060014
def secReqCtl : Nat := 0x060018
def secReqStat : Nat := 0x06001C
end Reg

/-- The ASCII bytes of a text. -/
def ascii (t : String) : List Byte := t.toList.map fun c => BitVec.ofNat 8 c.toNat

namespace State

/-! ### Debug and lifecycle (R618, R640) -/

/-- Requests that need the device's secrets are open (R624, Table 20.6). -/
def keysOpen (s : State) : Bool := s.sec.fuses.life = 1 && s.debugState ≠ 1

/-! ### Identity keys (R622) -/

/-- A private scalar of the identity: the first derivation that is not zero and lies below the group order.
[log 8 PRESUMED, unsafe] -/
def idScalar (info : String) : Nat :=
  let cand (i : Nat) : Nat :=
    beNat (Sha.hkdf (beBytes 48 Config.uds) [] (ascii info ++ (if i = 0 then [] else [BitVec.ofNat 8 i])) 48)
  ((List.range 256).map cand |>.find? fun k => k ≠ 0 && decide (k < P384.order)).getD 0

/-- IDK_S and IDK_A. -/
def idkS : Nat := idScalar "GLATIN-Y64-IDK-S"
def idkA : Nat := idScalar "GLATIN-Y64-IDK-A"

/-- A public key as uncompressed SEC1, 97 bytes. -/
def sec1 (k : Nat) : List Byte := 0x04 :: (beBytes 48 (P384.publicOf k).1 ++ beBytes 48 (P384.publicOf k).2)

/-! ### Requests (R623) -/

/-- The states that admit an operation (Table 20.4). -/
def secAdmits (st : DevState) (op : Nat) : Bool :=
  if op = 4 then st == .drive
  else if op = 5 then !(st == .off || st == .standby)
  else st == .drive || st == .steep || st == .service

/-- The running request ends. -/
def secEnd (s : State) (st : Status) : State := { s with sec := { s.sec with running := none, status := st } }

/-- SEC_REQ_CTL.GO: a request starts, ends at once, or overruns the one that runs. [log 132 DESIGN CHOICE, unsafe] -/
def secGo (s : State) : State :=
  let op := s.fld Reg.secReqCtl 3 0
  if s.sec.running.isSome then s.setFld Reg.secReqStat 1 1 1
  else if op = 0 ∨ 5 < op then s.secEnd .badArg
  else if !secAdmits s.ward.st op then s.secEnd .stateRefused
  else
    let buf := (s.reg Reg.secReqLo).toNat / 64 * 64 + (s.reg Reg.secReqHi).toNat * 2 ^ 32
    { s with sec := { s.sec with running := some { op := op, buf := buf } } }

/-- A request of an operation runs: its buffer's first `n` bytes are read, and `f` ends it. -/
def secRun (s : State) (op n : Nat) (ext : List ExtData) (ups : List Upset) (f : State → Nat → List Byte → State) : State :=
  match s.sec.running with
  | none => s
  | some q =>
    if q.op ≠ op then s
    else
      let (st, b, t) := s.readRun .security q.buf n ext ups
      if st ≠ .ok then t.secEnd st else f t q.buf b

/-- Output is written and the request ends. -/
def secWrite (s : State) (addr : Nat) (bs : List Byte) (ext : List ExtData) (ups : List Upset) : State :=
  let (st, t) := s.writeRun .security addr bs ext ups
  t.secEnd st

/-- The quote of R624, unsigned. [log 8 PRESUMED, unsafe; 132 DESIGN CHOICE, unsafe] -/
def quoteBody (s : State) (nonce : List Byte) : List Byte :=
  let serial (i : Option Image) : Nat := (i.map (·.serial)).getD 0
  leBytes 4 0x544F5551 ++ leBytes 2 1 ++ leBytes 1 s.ward.st.code ++ leBytes 1 s.secStat ++ leBytes 8 s.sec.fuses.deviceId
    ++ nonce ++ leBytes 1 s.sec.fuses.rollback ++ leBytes 3 0 ++ leBytes 4 (serial s.img.drive) ++ leBytes 4 (serial s.img.steep)
    ++ leBytes 4 0 ++ beBytes 48 Config.romDigest ++ s.sec.fwDigest ++ (s.img.bootDrive.map (·.digest)).getD (leBytes 48 0)
    ++ (s.img.steep.map (·.digest)).getD (leBytes 48 0) ++ leBytes 8 s.tsu.time ++ leBytes 8 0

/-- A 32-byte service nonce is drawn (R623, R653). -/
def drawNonce (s : State) : List Byte × State :=
  let (b, t) := s.drawBytes 32
  (b, { t with sec := { t.sec with svcNonce := some b } })

/-! ### Key handles (R626 to R628) -/

/-- KEY_UNWRAP may name this enclosure (Table 20.6 check 2). -/
def unwrapEncl (s : State) (e : Nat) : Bool :=
  if s.ward.st = .steep then decide (2 ≤ e ∧ e < 8) && s.present e
  else e = 1 || (decide (e < 8) && s.isQm e)

/-- A handle is created on the lowest free index; GEN counts the reuses of it. [log 91 DESIGN CHOICE, unsafe] -/
def newHandle (s : State) (e keyId key : Nat) : Nat × State :=
  let i := ((List.range 256).find? fun i => !(s.handles.any (·.id % 256 = i))).getD 0
  let g := SMap.get 0 s.sec.gens i % 0xFFFF + 1
  let id := i + e * 0x100 + g * 0x10000
  (id, { s with
    handles := s.handles ++ [{ id := id, encl := e, owner := s.ownerTag e, keyId := keyId, key := key }]
    sec := { s.sec with gens := SMap.set 0 s.sec.gens i g } })

/-- The checks of Table 20.6 in order: the code of the first that fails, or the model key. -/
def unwrapCheck (s : State) (b : List Byte) : Status × Nat :=
  let e := fieldAt b 0x20 1
  let nonce := sliceAt b 0 32
  let x := beNat (sliceAt b 0x31 48)
  let y := beNat (sliceAt b 0x61 48)
  if !s.keysOpen then (.keyUnavailable, 0)
  else if !s.unwrapEncl e ∨ !allZero (sliceAt b 0x21 7) then (.badArg, 0)
  else if !s.sec.quotes.contains nonce then (.keyUnavailable, 0)
  else if fieldAt b 0x30 1 ≠ 4 ∨ !P384.onCurve x y ∨ !allZero (sliceAt b 0x91 7) then (.badArg, 0)
  else
    let kek := Sha.hkdf (P384.ecdh idkA x y) nonce (ascii "GLATIN-Y64-KW" ++ leBytes 1 e ++ sliceAt b 0x28 8) 32
    match KeyWrap.unwrap kek (sliceAt b 0x98 72) with
    | none => (.integrity, 0)
    | some k => if 256 ≤ s.handles.length then (.admitRefused, 0) else (.ok, leNat k)

/-- A slot still needs the handle (R628). -/
def handleUsed (s : State) (id : Nat) : Bool :=
  (List.range 64).any fun k =>
    let x := s.slot k
    (x.st == .loading && (x.load.map (·.handle)) == some id) || (x.st != .empty && x.tierMode = 2 && x.handle = id)

/-! ### SVC commands (R635 to R640) -/

/-- PERMS grants the operation: bits 0 UPDATE, 1 DIAG, 2 FUSE, 3 DEBUG. -/
def svcAllowed (s : State) (op action : Nat) : Bool :=
  if op = 1 then bitOf s.sec.perms 0
  else if op = 2 then bitOf s.sec.perms 1 && (action ≠ 1 || bitOf s.sec.perms 3)
  else bitOf s.sec.perms 2

/-- R635: an SVC command without its permission. -/
def svcRefused (s : State) (r : EntryRef) : State :=
  (s.refuse .svc .queue .notAuthorised r.encl).endEntry r { status := .stateRefused, unchecked := true }

/-- A running SVC command of an operation (and, for DIAG and FUSE, of an action), refused without its permission.
[log 80 DESIGN CHOICE, unsafe] -/
def svcRun (s : State) (r : EntryRef) (op action : Nat) (f : Entry → State) : State :=
  match s.running r 6 op with
  | none => s
  | some y =>
    if op ≠ 1 ∧ y.arg 0 1 ≠ action then s
    else if !s.svcAllowed op (y.arg 0 1) then s.svcRefused r
    else f y

/-- Boot-flash regions the valid directories reference. -/
def norRegions (s : State) : List (Nat × Nat) :=
  s.norDirs.flatMap fun d => [8, 0x10, 0x18].filterMap fun o =>
    if fieldAt d (o + 4) 4 = 0 then none else some (fieldAt d o 4, fieldAt d o 4 + fieldAt d (o + 4) 4)

/-- The lowest sector from which `n` bytes meet no referenced region. [log 48 DESIGN CHOICE, unsafe] -/
def norFree (s : State) (n : Nat) : Nat :=
  let rs := s.norRegions
  let cands := 0x2000 :: (rs.map fun (r : Nat × Nat) => max 0x2000 (roundUp r.2 0x1000))
  let ok := cands.filter fun a => rs.all fun (r : Nat × Nat) => decide (a + roundUp n 0x1000 ≤ r.1 / 0x1000 * 0x1000 ∨ roundUp r.2 0x1000 ≤ a)
  ok.foldl min (ok.getD 0 0x2000)

/-- Erasing the sectors of a range. -/
def norErase (s : State) (a n : Nat) : State :=
  { s with nor := s.nor.filter fun (b : Nat × Byte) => decide (b.1 < a / 0x1000 * 0x1000 ∨ roundUp (a + n) 0x1000 ≤ b.1) }

/-- UPDATE writes an object, then the directory that is not active (R685); an empty object erases the STEEP image.
[log 48 DESIGN CHOICE, unsafe] -/
def norUpdate (s : State) (target : Nat) (obj : List Byte) : State :=
  let at_ := s.norFree obj.length
  let old := match s.norActive with
    | some i => s.norBytes (0x1000 * i) 64
    | none => leBytes 64 0
  let sector := match s.norActive with
    | some i => 0x1000 * (1 - i)
    | none => 0
  let off := if target = 0 then 8 else if target = 1 then 0x10 else 0x18
  let d0 := putAt (leBytes 4 0x52494446 ++ leBytes 4 (fieldAt old 4 4 + 1) ++ sliceAt old 8 24 ++ leBytes 28 0) off
    (leBytes 4 (if obj = [] then 0 else at_) ++ leBytes 4 obj.length)
  let s1 := if obj = [] then s else (s.norErase at_ obj.length).norWrite at_ obj
  (s1.norErase sector 64).norWrite sector (d0 ++ leBytes 4 (crc32c d0))

/-- UPDATE checks its object in full (R637): the failure to report, if any, and whether it is a bundle's. -/
def updateCheck (s : State) (target : Nat) (b : List Byte) : Option ImgFail :=
  if target = 0 then checkBundle (s.imgFacts 0) b
  else if target = 1 then checkImage (s.imgFacts 1) b
  else
    let d := match s.norDirs with
      | a :: _ => readImage (s.norObject a 0x10 0x40000)
      | [] => {}
    firstFail [checkImage (s.imgFacts 2) b, checkPair d (readImage b), checkResident d (readImage b)]

/-- A fuse operation ends (R638): programmed and read back; a read-back that differs leaves the field old or new.
[log 133 DESIGN CHOICE, safe] -/
def fuseProgram (s : State) (r : EntryRef) (readBack : Bool) (f : Fuses → Fuses) : State :=
  if readBack then ({ s with sec := { s.sec with fuses := f s.sec.fuses } }).finish r .ok 0
  else
    let (v, t) := s.draw
    (if v % 2 = 1 then { t with sec := { t.sec with fuses := f t.sec.fuses } } else t).finish r .integrity 0

/-- A FUSE command that its row of Table 20.11 refuses with BAD_ARG, or performs; none is performed in RETIRED.
[log 132 DESIGN CHOICE, unsafe] -/
def fuseCmd (s : State) (r : EntryRef) (fop : Nat) (readBack : Bool) (refused : Entry → Bool) (f : Entry → Fuses → Fuses) :
    State :=
  s.svcRun r 3 fop fun y =>
    if s.sec.fuses.life = 2 ∨ refused y then s.finish r .badArg 0 else s.fuseProgram r readBack (f y)

/-- Provisioned, unrevoked slots. -/
def liveSlots (s : State) : List Nat := s.signerKeys.map (·.1)

/-- The fuse fields but UDS in the order of Table 20.1, each in whole bytes. [log 134 DESIGN CHOICE, unsafe] -/
def fuseDump (s : State) : List Byte :=
  let f := s.sec.fuses
  leBytes 1 (2 ^ f.life - 1) ++ leBytes 8 f.deviceId ++ ((List.range 4).flatMap fun i => beBytes 49 (f.keys.getD i 0))
    ++ leBytes 1 (f.revoked % 16) ++ leBytes 1 (f.service % 16) ++ leBytes 8 (2 ^ f.rollback - 1) ++ leBytes 1 (b2n f.debugSealed)

/-- Debug opens (R640): handles destroyed, the quote list cleared, fresh keys for every slot.
[log 135 DESIGN CHOICE, unsafe] -/
def debugOpens (s : State) : State :=
  { s with handles := [], sec := { s.sec with
      opened := true, quotes := [], svcNonce := none, loads := s.sec.loads ++ (List.range 9).filter fun k => !s.sec.loads.contains k } }

/-- A key slot whose load waits takes a fresh key (R629, R199). -/
def keySlotLoad (s : State) (k : Nat) : State :=
  if !s.sec.loads.contains k then s
  else ({ s with sec := { s.sec with loads := s.sec.loads.filter (· ≠ k) } }).loadKey k

end State

open State

/-- QUOTE (R624): the secret of the signature comes from the random source (R630). [log 132 DESIGN CHOICE, unsafe] -/
def execQuote (ext : List ExtData) (upsets : List Upset) (s : State) : Out :=
  .next (s.secRun 1 32 ext upsets fun t buf nonce =>
    if !t.keysOpen ∨ t.sec.rngFail then t.secEnd .keyUnavailable
    else
      let body := t.quoteBody nonce
      let (k, t) := t.draw
      let sig := P384.sign (sha384 body) idkS k
      let u := { t with sec := { t.sec with quotes := (nonce :: t.sec.quotes).take 16 } }
      u.secWrite (buf + 0x100) (body ++ leBytes 48 sig.1 ++ leBytes 48 sig.2) ext upsets)

/-- KEY_UNWRAP (R625, R626). A rouse that came while it ran for a STEEP enclosure ends it (§20 corner cases). -/
def execKeyUnwrap (ext : List ExtData) (upsets : List Upset) (s : State) : Out :=
  .next (s.secRun 2 0xE0 ext upsets fun t buf b =>
    if t.ward.st = .rouse ∧ 2 ≤ fieldAt b 0x20 1 then t.secEnd .abortedByRouse
    else
      let (st, k) := t.unwrapCheck b
      if st ≠ .ok then t.secEnd st
      else
        let (id, u) := t.newHandle (fieldAt b 0x20 1) (fieldAt b 0x28 8) k
        u.secWrite (buf + 0xE0) (leBytes 4 id) ext upsets)

/-- KEY_DESTROY (R628). -/
def execKeyDestroy (ext : List ExtData) (upsets : List Upset) (s : State) : Out :=
  .next (s.secRun 3 4 ext upsets fun t _ b =>
    let id := leNat b
    if (t.handle id).isNone then t.secEnd .notFound
    else if t.handleUsed id then t.secEnd .busy
    else ({ t with handles := t.handles.filter (·.id ≠ id) }).secEnd .ok)

/-- NONCE (R623). -/
def execNonce (ext : List ExtData) (upsets : List Upset) (s : State) : Out :=
  .next (s.secRun 4 0 ext upsets fun t buf _ =>
    if t.sec.rngFail then t.secEnd .keyUnavailable
    else let (b, u) := t.drawNonce; u.secWrite buf b ext upsets)

/-- ID_PUBKEY (R623): UDS is unreadable in RETIRED (R618). [log 132 DESIGN CHOICE, unsafe] -/
def execIdPubkey (ext : List ExtData) (upsets : List Upset) (s : State) : Out :=
  .next (s.secRun 5 0 ext upsets fun t buf _ =>
    if t.sec.fuses.life = 2 then t.secEnd .keyUnavailable
    else
      let (st, u) := t.writeRun .security buf (sec1 idkS) ext upsets
      if st ≠ .ok then u.secEnd st else u.secWrite (buf + 0x80) (sec1 idkA) ext upsets)

/-- KEY_SLOT_LOAD (R629). -/
def execKeySlotLoad (k : Nat) (s : State) : Out := .next (s.keySlotLoad k)

/-- RANDOM_HEALTH_FAIL (R630). -/
def execRandomHealthFail (s : State) : Out :=
  .next (if s.wardenRuns then
    ({ s with sec := { s.sec with rngFail := true } }).reactSafety { fault := .proofCmd } 0xF else s)

/-- UPDATE (R637, R685). [log 48 DESIGN CHOICE, unsafe] -/
def execUpdate (r : EntryRef) (readBack : Bool) (ext : List ExtData) (upsets : List Upset) (s : State) : Out :=
  .next (s.svcRun r 1 0 fun y =>
    let target := y.arg 12 1
    if s.hostPush ∨ 3 < target then s.finish r .badArg 0
    else if target = 3 then if readBack then (s.norUpdate 3 []).finish r .ok 0 else s.finish r .integrity 0
    else
      let cap := if target = 0 then 0x200001 else 0x40001
      let (st, b, t) := s.readRun (s.stewardOf r.encl) (y.arg 0 8) (min (y.arg 8 4) cap) ext upsets
      if st ≠ .ok then t.finish r st 0
      else match t.updateCheck target b with
        | some f => (t.imgError f b (decide (target = 0))).finish r f.status 0
        | none => if readBack then (t.norUpdate target b).finish r .ok 0 else t.finish r .integrity 0)

/-- DEBUG_OPEN (R640). -/
def execDebugOpen (r : EntryRef) (s : State) : Out :=
  .next (s.svcRun r 2 1 fun _ =>
    if s.debugState = 2 then s.finish r .badArg 0
    else if s.sec.rngFail then s.finish r .keyUnavailable 0
    else s.debugOpens.finish r .ok 0)

/-- FUSE_DUMP (R638). -/
def execFuseDump (r : EntryRef) (ext : List ExtData) (upsets : List Upset) (s : State) : Out :=
  .next (s.svcRun r 2 2 fun y =>
    let (st, t) := s.writeRun (s.stewardOf r.encl) (y.arg 8 8) s.fuseDump ext upsets
    t.finish r st 0)

/-- ADVANCE_ROLLBACK (Table 20.11). -/
def execAdvanceRollback (r : EntryRef) (readBack : Bool) (s : State) : Out :=
  .next (s.fuseCmd r 1 readBack
    (fun y => decide (y.arg 4 4 ≤ s.sec.fuses.rollback ∨ 64 < y.arg 4 4
      ∨ ((s.driveImg).map (·.securityVersion)).getD 0 < y.arg 4 4 ∨ s.sec.fwVersion < y.arg 4 4))
    fun y f => { f with rollback := y.arg 4 4 })

/-- REVOKE_SLOT (Table 20.11). -/
def execRevokeSlot (r : EntryRef) (readBack : Bool) (s : State) : Out :=
  .next (s.fuseCmd r 2 readBack
    (fun y => decide (4 ≤ y.arg 1 1) || ((s.driveImg).map (·.signerSlot)) == some (y.arg 1 1) || s.sec.fwSigner = y.arg 1 1
      || s.liveSlots == [y.arg 1 1])
    fun y f => { f with revoked := f.revoked ||| 2 ^ y.arg 1 1 })

/-- PROVISION_SLOT (Table 20.11): the key lies at the buffer. -/
def execProvisionSlot (r : EntryRef) (readBack : Bool) (ext : List ExtData) (upsets : List Upset) (s : State) : Out :=
  .next (match s.running r 6 3 with
    | none => s
    | some y =>
      let (st, b, t) := if y.arg 0 1 = 3 ∧ s.svcAllowed 3 3 then s.readRun (s.stewardOf r.encl) (y.arg 8 8) 49 ext upsets else (.ok, [], s)
      if st ≠ .ok then t.finish r st 0
      else t.fuseCmd r 3 readBack
        (fun y => decide (4 ≤ y.arg 1 1) || t.sec.fuses.keys.getD (y.arg 1 1) 0 ≠ 0 || (P384.point (beNat b)).isNone)
        fun y f => { f with keys := f.keys.set (y.arg 1 1) (beNat b) })

/-- SERVICE_SLOT (Table 20.11). -/
def execServiceSlot (r : EntryRef) (readBack : Bool) (s : State) : Out :=
  .next (s.fuseCmd r 4 readBack
    (fun y => decide (4 ≤ y.arg 1 1 ∨ s.sec.fuses.keys.getD (y.arg 1 1) 0 = 0))
    fun y f => { f with service := f.service ||| 2 ^ y.arg 1 1 })

/-- SEAL_DEBUG (Table 20.11). -/
def execSealDebug (r : EntryRef) (readBack : Bool) (s : State) : Out :=
  .next (s.fuseCmd r 5 readBack (fun _ => decide (s.debugState = 1)) fun _ f => { f with debugSealed := true })

/-- A debug port that was OPEN stays so when LIFECYCLE moves on, until the next reset (R640).
[log 135 DESIGN CHOICE, unsafe] -/
def State.keepOpen (wasOpen : Bool) (life : Nat) (t : State) : State :=
  { t with sec := { t.sec with opened := t.sec.opened || (wasOpen && t.sec.fuses.life ≠ life) } }

/-- LIFECYCLE (Table 20.11). -/
def execLifecycle (r : EntryRef) (readBack : Bool) (s : State) : Out :=
  .next ((s.fuseCmd r 6 readBack (fun y => decide (y.arg 4 4 ≤ s.sec.fuses.life ∨ 2 < y.arg 4 4))
    fun y f => { f with life := y.arg 4 4 }).keepOpen (decide (s.debugState = 1)) s.sec.fuses.life)

end Sys2Proof.Machine
end

