-- ==== Sys2Proof/Machine/HostBoot.lean ====
section
/-! DEFINITION. The PCIe 5.0 port's link and host push (R676, R686): objects posted through the boot page, their
attempts and time bounds, and outbound requests that end with the link. -/

namespace Sys2Proof.Machine

namespace Reg
def bootAddrLo : Nat := 0x110100
def bootAddrHi : Nat := 0x110104
def bootLen : Nat := 0x110108
def bootCtl : Nat := 0x11010C
end Reg

namespace State

def setPush (s : State) (p : PushSt) : State :=
  { s with pcie := { s.pcie with push := p, attempts := 0, tried := false, waitSince := s.upNs } }

/-- The last object is in: the boot ends (R686). -/
def pushDone (s : State) : State := (s.setPush .done).bootEnds

/-- A post that fails sets RESULT and leaves STATE; the fifth on one object exhausts the boot-source rules, except that BOOT goes
on without a STEEP image once the DRIVE image is in (R82, Table 20.3). [log 45 DESIGN CHOICE, safe] -/
def pushFail (s : State) (result : Nat) : State :=
  let t := { s with pcie := { s.pcie with result := result % 256, attempts := s.pcie.attempts + 1 } }
  if t.pcie.attempts < 5 then t
  else if t.pcie.push = .waitSteep then t.pushDone
  else ({ t with pcie := { t.pcie with push := .failed } }).bootExhausted

/-- The bytes of the posted object that the host delivers. [log 45 DESIGN CHOICE, safe] -/
def posted (s : State) (ext : List ExtData) : List Byte :=
  if !s.pcie.linkUp ∨ !s.pcie.busMaster then []
  else
    let (st, b) := extRead ext ((s.reg Reg.bootAddrLo).toNat + (s.reg Reg.bootAddrHi).toNat * 2 ^ 32) (s.reg Reg.bootLen).toNat
    if st = .ok then b else []

/-- An object that passes its check moves STATE on; one that fails reports the code of Table 2.14. -/
def pushTried (ok : Bool) (t : State) (f : State → State) : State :=
  if ok then f t else ({ t with pcie := { t.pcie with tried := true } }).pushFail (t.fld Reg.imgErr 7 0)

/-- PCIE_BOOT_CTL.GO (R686). [log 45 DESIGN CHOICE, safe] -/
def bootPost (s : State) (ext : List ExtData) : State :=
  let obj := s.fld Reg.bootCtl 1 0
  let late (t : State) : State := let (v, u) := t.draw; u.pushFail v
  if s.ward.st ≠ .boot then s
  else match s.pcie.push with
    | .waitBundle =>
      if obj ≠ 0 then late s else let (ok, t) := s.tryBundle (s.posted ext); pushTried ok t fun u => (u.setPush .idle).toTraining
    | .waitDrive =>
      if obj ≠ 1 then late s else let (ok, t) := s.tryDrive (s.posted ext); pushTried ok t fun u => u.setPush .waitSteep
    | .waitSteep =>
      if obj = 3 then s.pushDone
      else if obj ≠ 2 then late s
      else let (ok, t) := s.trySteep (s.posted ext); pushTried ok t fun u => u.pushDone
    | _ => s

/-- A response for the outbound request `id` is at hand: the weave request it was made for can be answered (R676). -/
def pcieAnswer (s : State) (id : Nat) (st : Status) (d : List Byte) : State :=
  { s with
    pcie := { s.pcie with outst := s.pcie.outst.filter (·.id ≠ id) }
    weave := { s.weave with outst := s.weave.outst.map fun q => if q.id = id then { q with status := st, data := d } else q } }

/-- Timeouts of outbound requests (R676). -/
def pcieTimeouts (s : State) (ids : List Nat) : State :=
  (ids.foldl (fun t i => t.pcieAnswer i .timeout []) s).bumpBy Reg.pcieCnt 15 8 ids.length

end State

open State

/-- PCIE_LINK_UP (R686): speed and width as PCIE_STAT codes them; under host push the wait for the bundle begins. -/
def execPcieLinkUp (speed width : Nat) (s : State) : Out :=
  .next (
    if !(s.gasket 111).powered ∨ (s.gasket 111).inReset then s
    else
      let t := { s with pcie := { s.pcie with linkUp := true, speed := speed % 8, width := width % 16, upSince := s.upNs } }
      if t.hostPush ∧ t.ward.st = .boot ∧ t.pcie.push = .idle ∧ t.sec.fwDigest = [] ∧ t.power.phase ≠ .held then t.setPush .waitBundle
      else t)

/-- PCIE_LINK_DOWN (R676, R112): outstanding outbound requests complete with TIMEOUT at once; the loss of a link that was up
is the PCIE reset source where the port lets it through. -/
def execPcieLinkDown (s : State) : Out :=
  let t := s.pcieTimeouts (s.pcie.outst.map (·.id))
  let u := { t with pcie := { t.pcie with linkUp := false, speed := 0, width := 0 } }
  .next (if s.pcie.linkUp ∧ u.wardenRuns ∧ u.pcieResets then u.resetBy .pcie else u)

/-- PCIE_BOOT_GO (R686): PCIE_BOOT_CTL is written with OBJ and GO through the boot page. -/
def execPcieBootGo (obj : Nat) (ext : List ExtData) (s : State) : Out :=
  .next (if s.ward.st = .boot ∧ s.answers then (s.setFld Reg.bootCtl 1 0 (obj % 4)).bootPost ext else s)

/-- BOOT_PUSH_TIMEOUT (R686): no bundle post within 60 s of link-up, or no DRIVE post within 60 s of WAIT_DRIVE; once
the object has been posted the limit no longer applies. [log 46 DEDUCED, unsafe] -/
def execBootPushTimeout (s : State) : Out :=
  .next (
    if (s.pcie.push = .waitBundle ∧ s.pcie.linkUp ∨ s.pcie.push = .waitDrive) ∧ !s.pcie.tried ∧ s.ward.st = .boot then
      let t := s.elapseTo (s.pcie.waitSince + 60000000000)
      ({ t with pcie := { t.pcie with push := .failed } }).bootExhausted
    else s)

/-- WAIT_STEEP_TIMEOUT (R686): 5 s of WAIT_STEEP count as DONE. -/
def execWaitSteepTimeout (s : State) : Out :=
  .next (if s.pcie.push = .waitSteep ∧ s.ward.st = .boot then (s.elapseTo (s.pcie.waitSince + 5000000000)).pushDone else s)

/-- PCIE_CNT_CLR (R693). -/
def execPcieCntClr (who : Requester) (s : State) : Out :=
  .next (s.regCmd who .write 0x1100F0 fun t => t.inStates who 0x1100F0 .dss true fun u => (.ok, 0, u.setReg Reg.pcieCnt 0))

end Sys2Proof.Machine
end

