-- ==== Sys2Proof/Machine/Uart.lean ====
section
/-! DEFINITION. The UART (§22.5): sampling and framing, parity, break and overrun, the FIFOs and the register rows. -/

namespace Sys2Proof.Machine

namespace Reg
def uartBaud : Nat := 0x100000
def uartCfg : Nat := 0x100004
def uartData : Nat := 0x100008
def uartStat : Nat := 0x10000C
def uartCnt : Nat := 0x100010
end Reg

/-- Majority of samples 7, 8 and 9 of bit `i` (R688). -/
def bitVote (l : List Bool) (i : Nat) : Bool :=
  decide (2 ≤ b2n (l.getD (16 * i + 7) true) + b2n (l.getD (16 * i + 8) true) + b2n (l.getD (16 * i + 9) true))

/-- Samples 0 to 9 of bit `i` are all low. -/
def lowThrough (l : List Bool) (i : Nat) : Bool := (List.range 10).all fun j => !l.getD (16 * i + j) true

/-- The samples from the first run of `n` high samples on, if there is one. -/
def afterHigh (n : Nat) : Nat → List Bool → Option (List Bool)
  | k, [] => if n ≤ k then some [] else none
  | k, b :: bs => if n ≤ k then some (b :: bs) else afterHigh n (if b then k + 1 else 0) bs

/-- The first low sample after a falling edge among samples 0 to 9 of bit `i`. -/
def edgeAt (l : List Bool) (i : Nat) : Option Nat :=
  ((List.range 9).find? fun j => l.getD (16 * i + j) true && !l.getD (16 * i + j + 1) true).map (16 * i + · + 1)

/-- The bit number of the stop bit. -/
def stopBit (format : Nat) : Nat := if format = 1 ∨ format = 2 then 10 else 9

/-- What one character yields (Table 22.5): the entry, the high samples that arm the next start, and the sample from which the
next start is looked for. -/
def frameChar (format : Nat) (l : List Bool) : UartEntry × Nat × Nat :=
  let par := format = 1 ∨ format = 2
  let data := (List.range 8).foldl (fun a i => a + b2n (bitVote l (i + 1)) * 2 ^ i) 0
  let pbit := par ∧ bitVote l 9
  let odd := popCount 8 data % 2 = 1
  let pe : Bool := par && (if format = 1 then decide (odd ≠ (pbit : Prop)) else decide (odd ↔ (pbit : Prop)))
  let st := stopBit format
  let next := 16 * st + 10
  if bitVote l st then ({ data := data, pe := pe }, 0, if l.getD (16 * st + 9) true then next else next - 1)
  else match edgeAt l st with
    | some j => ({ data := data, pe := pe, fe := true }, 0, j)
    | none =>
      if lowThrough l st ∧ data = 0 ∧ ¬ pbit then ({ fe := true, brk := true }, 1, next)
      else ({ data := data, pe := pe, fe := true }, 1, next)

namespace State

/-- The UART runs: under the ROM and firmware until the DRIVE image is applied, then when PORTS lists it (R692). -/
def uartOn (s : State) : Bool :=
  if s.img.force = .none then !(s.power.phase == .held) else (s.portOf 0x50).isSome

/-- Both FIFOs emptied and the receiver re-armed (R691). -/
def uartFlush (s : State) : State := { s with uart := { s.uart with rx := [], tx := [], needHigh := 16, line := [] } }

/-- A completed character goes to the receive FIFO, or is discarded when it is full (R691). -/
def uartStore (s : State) (e : UartEntry) : State :=
  let s1 := if e.fe then s.bump Reg.uartCnt 31 16 else s
  let s2 := if e.brk then s1.setFld Reg.uartStat 18 18 1 else s1
  if 64 ≤ s2.uart.rx.length then (s2.setFld Reg.uartStat 16 16 1).bump Reg.uartCnt 15 0
  else { s2 with uart := { s2.uart with rx := s2.uart.rx ++ [e] } }

end State

open State

/-- UART_CHARACTER_RX (R688 to R691): further samples of the line, 16 to a bit; the receiver takes the next character once they
hold it to sample 9 of its stop bit, or passes over a false start. -/
def execUartCharacterRx (samples : List Bool) (s : State) : Out :=
  if !s.uartOn then .next s
  else
    let all := s.uart.line ++ samples
    let wait (n : Nat) (l : List Bool) : State := { s with uart := { s.uart with needHigh := n, line := l } }
    match afterHigh s.uart.needHigh 0 all with
    | none => .next (wait s.uart.needHigh (all.reverse.takeWhile id))
    | some rest =>
      let l := rest.dropWhile id
      let format := s.fld Reg.uartCfg 1 0
      if l.length < 10 then .next (wait 0 l)
      else if bitVote l 0 then .next (wait 0 (l.drop 10))
      else if l.length < 16 * stopBit format + 10 then .next (wait 0 l)
      else
        let (e, arm, n) := frameChar format l
        .next ((wait arm (l.drop n)).uartStore e)

/-- UART_CHARACTER_TX (R687): the transmitter finishes the oldest byte of its FIFO. [log 147 DESIGN CHOICE, safe] -/
def execUartCharacterTx (s : State) : Out :=
  match s.uart.tx with
  | [] => .next s
  | c :: rest => if s.uartOn then .next { s with uart := { s.uart with tx := rest, out := s.uart.out ++ [c] } } else .next s

/-- UART_DATA_WRITE (R691): a byte to the transmit FIFO, discarded with TX_OVF when it is full. -/
def execUartDataWrite (who : Requester) (v : Nat) (s : State) : Out :=
  .next (s.regCmd who .write Reg.uartData fun t =>
    if 64 ≤ t.uart.tx.length then (.ok, 0, t.setFld Reg.uartStat 17 17 1)
    else (.ok, 0, { t with uart := { t.uart with tx := t.uart.tx ++ [v % 256] } }))

/-- UART_DATA_READ (R694): the oldest entry is returned and removed; VALID is clear when there is none. -/
def execUartDataRead (who : Requester) (s : State) : Out :=
  .next (s.regCmd who .read Reg.uartData fun t =>
    match t.uart.rx with
    | [] => (.ok, 0, t)
    | e :: rest => (.ok, e.data + b2n e.pe * 0x100 + b2n e.fe * 0x200 + b2n e.brk * 0x400 + 0x80000000,
        { t with uart := { t.uart with rx := rest } }))

/-- UART_CFG_WRITE (R691): a change of the format empties both FIFOs. -/
def execUartCfgWrite (who : Requester) (v : Nat) (s : State) : Out :=
  .next (s.regCmd who .write Reg.uartCfg fun t =>
    if t.fld Reg.uartCfg 1 0 = v % 4 then (.ok, 0, t) else (.ok, 0, (t.setFld Reg.uartCfg 1 0 (v % 4)).uartFlush))

/-- UART_BAUD_WRITE (R687): a divisor below 512 changes nothing; a change of the divisor empties both FIFOs. -/
def execUartBaudWrite (who : Requester) (v : Nat) (s : State) : Out :=
  .next (s.regCmd who .write Reg.uartBaud fun t =>
    let d := v % 2 ^ 24
    if d < 512 ∨ t.fld Reg.uartBaud 23 0 = d then (.ok, 0, t) else (.ok, 0, (t.setFld Reg.uartBaud 23 0 d).uartFlush))

end Sys2Proof.Machine
end

