-- ==== Sys2Proof/Machine/RegWrite.lean ====
section
/-! DEFINITION. A write to any register (§23.2, §23.3): the rules of the registers that are more than storage, over the field
by field write of R2 to R5 and the commands that have rows of their own. -/

namespace Sys2Proof.Machine

/-- What a command answered, as the outcome of a register access. -/
def answered (s : State) (o : Out) : Status × Nat × State :=
  match o with
  | .next t => (t.resp, t.respData, t)
  | _ => (s.resp, s.respData, s)

/-- A command's state. -/
def after (s : State) (o : Out) : State :=
  match o with
  | .next t => t
  | _ => s

namespace State

/-! ### Queue pages (R295, R297, R306, R323) -/

/-- ENABLE is set: TAKEN and COMPLETED start from 0; entries still in flight keep apart from the new ones. [log 84 DEDUCED, unsafe; 85 DESIGN CHOICE, unsafe] -/
def qEnable (s : State) (e q : Nat) : State :=
  s.modQueue e q fun x =>
    { x with taken := 0, completed := 0, life := x.life + b2n !x.flight.isEmpty, stopped := false, past := [], notify := [], armed := true, acked := false }

/-- A write to SYS_Q_CFG. [log 86 DEDUCED, unsafe] -/
def writeQCfg (s : State) (who : Requester) (e q v : Nat) : Status × Nat × State :=
  let k := qCfg e q
  if s.qOn e q then (if bitOf v 31 then (.busy, 0, s) else (.ok, 0, s.setFld k 31 31 0))
  else
    let t := (s.regStore k (BitVec.ofNat 32 v) (s.tagOf who) (stateFree who)).1
    (.ok, 0, if t.qOn e q then t.qEnable e q else t)

/-- A write to SYS_Q_CHEAD: a value beyond COMPLETED has no effect; records before CHEAD are no longer pending.
[log 84 DEDUCED, unsafe] -/
def writeChead (s : State) (e q v : Nat) : State :=
  let v := v % 2 ^ 32
  let ahead := (v + 2 ^ 32 - (s.queue e q).completed) % 2 ^ 32
  if 0 < ahead ∧ ahead < 2 ^ 31 then s
  else
    (s.setReg (qCheadKey e q) (BitVec.ofNat 32 v)).modQueue e q fun x =>
      { x with acked := true, notify := x.notify.filter fun (n : Nat × Nat) => decide ((n.1 + 2 ^ 32 - v) % 2 ^ 32 < 2 ^ 31) }

/-- SYS_Q_CTL.RESUME. -/
def qResume (s : State) (e q : Nat) : State := s.modQueue e q fun x => { x with stopped := false }

/-- A write in the page of queue `q` at page offset `o`. -/
def writeQPage (s : State) (who : Requester) (e q o v : Nat) : Status × Nat × State :=
  let (t, act) := s.regStore (Reg.qpage e q + o) (BitVec.ofNat 32 v) (s.tagOf who) (stateFree who)
  if o < 0x10 then (if s.qOn e q then (.busy, 0, s) else (.ok, 0, t))
  else if o = 0x10 then s.writeQCfg who e q v
  else if o = 0x1C then (.ok, 0, s.writeChead e q v)
  else if o = 0x28 then (.ok, 0, t.qJudge e q)
  else if o = 0x2C then (.ok, 0, if bitOf act 0 then t.qResume e q else t)
  else (.ok, 0, t)

/-! ### The other registers of a queue block (R352, R578, R695) -/

/-- A write to a queue block outside its queue pages. [log 145 DESIGN CHOICE, unsafe] -/
def writeQblk (s : State) (who : Requester) (e off v : Nat) (up : Bool) (ext : List ExtData) (ups : List Upset) :
    Status × Nat × State :=
  let k := Reg.qblk e + off
  let tag := s.tagOf who
  let put (x : Nat) : State := (s.regStore k (BitVec.ofNat 32 x) tag (stateFree who)).1
  let steep := decide (s.ward.st = .steep)
  if off = 4 then
    (if (List.range 64).any fun n => s.slotOwner n = s.ownerTag e && (s.slot n).st != .empty then (.busy, 0, s) else (.ok, 0, put v))
  else if off = 0x10 ∨ off = 0x14 then
    (.ok, 0, if steep ∧ s.fld (Reg.qblk e + 0x18) 31 31 = 1 then s else put v)
  else if off = 0x18 then
    (if steep ∧ s.fld k 31 31 = 1 then (.ok, 0, if bitOf v 31 then s else s.setFld k 31 31 0)
     else
       let t := put v
       (.ok, 0, if steep ∧ bitOf v 31 then t.setReg (Reg.qblk e + 0x1C) 0 else t))
  else if 0x40 ≤ off ∧ off < 0x100 ∧ (off - 0x40) / 0x40 < 3 then
    let m := (off - 0x40) / 0x40
    let o := (off - 0x40) % 0x40
    let on := s.netOn e m
    if s.macOwner m ≠ some e then (.ok, 0, s)
    else if o = 0x1C then answered s (execNetTxDoorbell who e m v up ext ups s)
    else if (o = 0 ∨ o = 4 ∨ o = 0x14 ∨ o = 0x18) ∧ on then (.ok, 0, s)
    else if o = 8 then
      let t := put (if on then v / 2 ^ 31 * 2 ^ 31 + (s.reg k).toNat % 2 ^ 31 else v)
      (.ok, 0, if !on ∧ t.netOn e m then t.setReg (Reg.net e m 0x0C) 0 else t)
    else (.ok, 0, put v)
  else (.ok, 0, put v)

/-! ### Mover channels (R254, R255) -/

/-- A write to a mover channel's page at page offset `o`. The completions BUSY and NOT_FOUND of a write that is not the
holder's, and BUSY while RUNNING, come before the state set (R702). -/
def writeMover (s : State) (who : Requester) (m c o v : Nat) : Status × Nat × State :=
  let k := Reg.moverPage m c + o
  let stored (w : State) : Status × Nat × State := (.ok, 0, (w.regStore k (BitVec.ofNat 32 v) (w.tagOf who) (stateFree who)).1)
  if o = 0 then
    (match v / 2 ^ 13 % 4 with
     | 1 => answered s (execMoverLeaseAcquire who m c s)
     | 2 => answered s (execMoverLeaseRenew who m c (v / 2 ^ 16 % 2 ^ 16) s)
     | 3 => answered s (execMoverLeaseRelease who m c (v / 2 ^ 16 % 2 ^ 16) s)
     | _ => s.byHolder who m c fun w =>
        w.inStates who k .dss (decide (v / 2 ^ 16 % 2 ^ 16 ≠ (w.mchan m c).lease.gen)) fun u => (.ok, 0, u))
  else if o = 0x1C then answered s (execMoverDoorbell who m c v s)
  else if o = 0x20 then (if bitOf v 0 then answered s (execMoverResume who m c s) else s.byHolder who m c fun w => (.ok, 0, w))
  else
    s.byHolder who m c fun w =>
      if 8 ≤ o ∧ o < 0x1C ∧ (w.mchan m c).st = .running then (.busy, 0, w) else stored w

/-! ### The sideband mailboxes (R656) -/

/-- Host software frees the outbound mailbox: MBOX_FREE. -/
def mboxOutAck (s : State) : State := ({ s with sb := { s.sb with outFull := false } }).sbEvent 5
/-- Host software posts the inbound mailbox: MBOX_IN. -/
def mboxInPost (s : State) : State := ({ s with sb := { s.sb with inFull := true } }).sbEvent 4
/-- A word of the inbound mailbox, while it is free. -/
def mboxInWord (s : State) (w v : Nat) : State :=
  if s.sb.inFull then s
  else { s with sb := { s.sb with inBox := s.sb.inBox.take (4 * w) ++ leBytes 4 v ++ s.sb.inBox.drop (4 * w + 4) } }

/-! ### Any register -/

/-- Counters of denials are cleared (R175). -/
def denyClear (s : State) (mask : Nat) : State :=
  (List.range 8).foldl (fun t e => if bitOf mask e then t.setReg (Reg.denyCnt e) 0 else t) s

/-- PEAK takes NOW (R172). -/
def peakClear (s : State) : State :=
  { s with weave := { s.weave with peak := (s.weave.outst.filter (·.counted)).length } }

/-- The image seal is set by a write (R703). -/
def sealWrite (s : State) : State := if s.sealSet then s else s.setFld Reg.sysSeal 2 0 3

/-- TSU_CFG with SRC_SEL NONE: the TSU runs free at the nominal rate (R421). -/
def tsuCfgActs (s : State) : State := if s.srcSel = 3 then { s with tsu := { s.tsu with rate := nominalRate, src := 0 } } else s

/-- The actions of a stored write: the W1S and WO bits in `act` of the register at block `b`, offset `off`. -/
def regActs (t : State) (who : Requester) (b off act v : Nat) (ext : List ExtData) : State :=
  let on (i : Nat) : Bool := bitOf act i
  let run (c : Bool) (f : State → Out) (x : State) : State := if c then after x (f x) else x
  if b = 0x00 then (if off = 0x10 ∧ on 0 then t.sealWrite else t)
  else if b = 0x01 ∧ off = 0x144 then run (act ≠ 0) (execWardRefuseClr who act) t
  else if b = 0x04 ∧ off = 0x20 then run (act ≠ 0) (execSoftwareFullReset who v) t
  else if b = 0x05 ∧ off = 0x850 then t.denyClear act
  else if b = 0x06 ∧ off = 0x18 then (if on 31 then t.secGo else t)
  else if b = 0x07 ∧ off = 0xF0 then run (on 0) (execSafeCntClr who) t
  else if b = 0x08 ∧ off = 0x20 then (if on 31 then t.peakClear else t)
  else if b = 0x09 ∧ off = 0x400 then run (act ≠ 0) (execKvCntClr act) t
  else if b = 0x0A ∧ off = 0x50 then run (act ≠ 0) (execLoomRresetWrite who v) t
  else if b = 0x0A ∧ off = 0xF0 then run (on 0) (execLoomCntClr who) t
  else if b = 0x0B ∧ off = 0x14 then t.tsuCfgActs
  else if b = 0x0C ∧ off = 0x300 then run (on 1) (execStrCntClrStreams who) (run (on 0) (execStrCntClrPorts who) t)
  else if b = 0x0D ∧ off = 0x14 then run (on 0) (execFuCntClr who) t
  else if b = 0x0E ∧ off = 0xF0 then run (on 0) (execLseCntClr who) t
  else if b = 0x0F ∧ off = 0x14 then
    let x := if on 0 then t.mboxOutAck else t
    if on 1 then x.mboxInPost else x
  else if b = 0x0F ∧ off = 0xF0 then (if on 0 then t.setReg 0x0F0020 0 else t)
  else if b = 0x11 ∧ off = 0xF0 then run (on 0) (execPcieCntClr who) t
  else if b = 0x11 ∧ off = 0x10C then (if on 31 then t.bootPost ext else t)
  else if 0x18 ≤ b ∧ b < 0x20 ∧ off = 0x120 then run (on 31) (execMcCntClr who (b - 0x18)) t
  else if 0x30 ≤ b ∧ b < 0x38 ∧ off = 0 then
    run (on 1) (execLinkDownCmd (b - 0x30)) (run (on 0) (execRetrainCmd (b - 0x30)) t)
  else if 0x30 ≤ b ∧ b < 0x38 ∧ off = 0x1C then run (on 0) (execWakePatternSend (b - 0x30)) t
  else if 0x30 ≤ b ∧ b < 0x38 ∧ off = 0xF0 then run (on 0) (execBlkCntClr (b - 0x30)) t
  else if 0x40 ≤ b ∧ b < 0x80 ∧ off = 0xF0 then
    run (on 3) (execTileCntClrBank (b - 0x40)) (run (on 2) (execTileCntClrPf (b - 0x40)) (run (on 1) (execTileCntClrVu (b - 0x40))
      (run (on 0) (execTileCntClrProof (b - 0x40)) t)))
  else t

/-- A write that has reached the register at key `k` (R2 to R5, R701 to R704). -/
def writeReg (s : State) (who : Requester) (k v : Nat) (up : Bool) (ext : List ExtData) (ups : List Upset) :
    Status × Nat × State :=
  let b := k / 0x10000
  let off := k % 0x10000
  let stored (_ : Unit) : Status × Nat × State :=
    let (t, act) := s.regStore k (BitVec.ofNat 32 v) (s.tagOf who) (stateFree who)
    (.ok, 0, t.regActs who b off act v ext)
  if 0x38 ≤ b ∧ b < 0x40 then
    (if 0x100 ≤ off ∧ off < 0x500 then s.writeQPage who (b - 0x38) ((off - 0x100) / 0x40) ((off - 0x100) % 0x40) v
     else s.writeQblk who (b - 0x38) off v up ext ups)
  else if 0x20 ≤ b ∧ b < 0x30 ∧ 0x1000 ≤ off ∧ off < 0x1800 then
    s.writeMover who (b - 0x20) ((off - 0x1000) / 0x40) ((off - 0x1000) % 0x40) v
  else if b = 0x05 ∧ off < 0x200 ∧ off % 4 = 0 then (.ok, 0, s.gskCtlWrite who (off / 4) v)
  else if k = Reg.parkCtl then (if bitOf v 0 then answered s (execDiscClear who s) else (.ok, 0, s))
  else if k = 0x100000 then answered s (execUartBaudWrite who v s)
  else if k = 0x100004 then answered s (execUartCfgWrite who v s)
  else if k = 0x100008 then answered s (execUartDataWrite who v s)
  else if b = 0x0F ∧ 0x60 ≤ off ∧ off < 0x80 ∧ off % 4 = 0 then
    s.inStates who k .dss (decide (v ≠ (s.regView k).toNat)) fun u => (.ok, 0, u.mboxInWord ((off - 0x60) / 4) v)
  else if b = 0x0A ∧ 0x30 ≤ off ∧ off < 0x40 ∧ s.loom.sessions ≠ [] then (.ok, 0, s)
  else stored ()

/-- A register write as a whole: the checks of R698, then the register's own rule. -/
def regWrite (s : State) (who : Requester) (k v : Nat) (aligned up : Bool) (ext : List ExtData) (ups : List Upset) : State :=
  match s.regGate who .write k aligned with
  | some (st, t) => t.respond st 0
  | none =>
    let (st, d, t) := s.writeReg who (k / 4 * 4) v up ext ups
    t.respond st d

/-- A register read as a whole. -/
def regReadBy (s : State) (who : Requester) (k : Nat) (aligned : Bool) : State :=
  match s.regGate who .read k aligned with
  | some (st, t) => t.respond st 0
  | none => let (w, t) := s.regRead k; t.respond .ok w.toNat

/-- Register writes of blocks' engines that are on their way take effect, in order (R149, R704); the link of a MAC whose
transmit doorbell one writes is up or down as it may be. [log 155 DESIGN CHOICE, unsafe] -/
def regsLand (s : State) : State :=
  s.regDue.foldl (fun t w =>
    let (up, u) := t.draw
    u.regWrite w.1 w.2.1 w.2.2 true (up % 2 = 1) [] []) { s with regDue := [] }

/-- A write by a command with a row of its own. -/
def regCmdW (s : State) (who : Requester) (k v : Nat) : State := s.regWrite who k v true false [] []

end State

open State

/-- REGISTER_WRITE (R2 to R6, R698, R701 to R704): `key` is block index × 0x1_0000 + offset; `aligned` says that the request
is one naturally aligned 32-bit word, `macUp` that the link of the MAC is up (a transmit doorbell). -/
def execRegisterWrite (who : Requester) (key v : Nat) (aligned macUp : Bool) (ext : List ExtData) (upsets : List Upset)
    (s : State) : Out :=
  .next (s.regsLand.regWrite who (key % 0x1000000) v aligned macUp ext upsets)

/-- SYS_SEAL (R703, R710). -/
def execSysSeal (who : Requester) (s : State) : Out := .next (s.regCmdW who Reg.sysSeal 1)

/-- QUEUE_DOORBELL (R295): a write of SYS_Q_TAIL. -/
def execQueueDoorbell (who : Requester) (e q tail : Nat) (s : State) : Out :=
  .next (s.regCmdW who (qTailKey (e % 8) (q % 16)) tail)

/-- QUEUE_RESUME (R297): a write of one to SYS_Q_CTL.RESUME. -/
def execQueueResume (who : Requester) (e q : Nat) (s : State) : Out :=
  .next (s.regCmdW who (Reg.qpage (e % 8) (q % 16) + 0x2C) 1)

/-- QUEUE_ENABLE (R323): a write of SYS_Q_CFG with ENABLE set; `cfg` gives its other bits. -/
def execQueueEnable (who : Requester) (e q cfg : Nat) (s : State) : Out :=
  .next (s.regCmdW who (qCfg (e % 8) (q % 16)) (cfg % 2 ^ 31 + 2 ^ 31))

/-- QUEUE_DISABLE (R323): a write of SYS_Q_CFG with ENABLE clear. -/
def execQueueDisable (who : Requester) (e q cfg : Nat) (s : State) : Out :=
  .next (s.regCmdW who (qCfg (e % 8) (q % 16)) (cfg % 2 ^ 31))

/-- COMPLETION_ACK (R306): a write of SYS_Q_CHEAD. -/
def execCompletionAck (who : Requester) (e q chead : Nat) (s : State) : Out :=
  .next (s.regCmdW who (qCheadKey (e % 8) (q % 16)) chead)

/-- WEAVE_PEAK_CLR (R172). -/
def execWeavePeakClr (who : Requester) (s : State) : Out := .next (s.regCmdW who Reg.weaveOutst (2 ^ 31))

/-- GSK_DENY_CLR (R175). -/
def execGskDenyClr (who : Requester) (mask : Nat) (s : State) : Out := .next (s.regCmdW who Reg.denyClr mask)

/-- SB_MBOX_OUT_ACK (R656). -/
def execSbMboxOutAck (who : Requester) (s : State) : Out := .next (s.regCmdW who 0x0F0014 1)

/-- SB_MBOX_IN_POST (R656). -/
def execSbMboxInPost (who : Requester) (s : State) : Out := .next (s.regCmdW who 0x0F0014 2)

/-- SB_CNT_CLR (R671). -/
def execSbCntClr (who : Requester) (s : State) : Out := .next (s.regCmdW who 0x0F00F0 1)

end Sys2Proof.Machine
end

