-- ==== Sys2Proof/Machine/Sideband.lean ====
section
/-! DEFINITION. The sideband bus (chapter 21): Map-S and Map-L, transfers with their pointers and snapshots, commands,
mailboxes, Host Notify and the bus-hang cure. -/

namespace Sys2Proof.Machine

namespace Reg
def sbCnt : Nat := 0x0F0020
def sbCtl : Nat := 0x0F0004
end Reg

namespace State

/-- The interface answers at its addresses (R645, R666). -/
def sbAnswers (s : State) : Bool := s.answers && s.fld Reg.rstStrap 12 12 = 0

/-- A bit of SB_STATUS is set (Table 21.8). -/
def sbFlag (s : State) (i : Nat) : State := s.setFld Reg.sbStatus i i 1

/-- DISCARDED, when `c` holds. -/
def sbDiscard (s : State) (c : Bool) : State := if c then s.sbFlag 3 else s

/-- The Map-S address. -/
def sbBase (s : State) : Nat := s.fld Reg.rstStrap 11 5

/-! ### What the maps hold (Tables 21.2, 21.4) -/

/-- Map-S FLAGS. -/
def sbFlags (s : State) : Nat :=
  b2n s.ward.resident + 2 * b2n s.ward.cozy + 4 * b2n s.anyActive + 8 * b2n (s.safe.latchP || s.safe.latchN)
    + 16 * b2n s.parked + 32 * b2n s.park.agree + 64 * b2n s.img.steep.isSome + 128 * b2n s.img.drive.isSome

/-- A byte of Map-S (Table 21.2). -/
def mapS (s : State) (a : Nat) : Nat :=
  let b := s.sb
  match a % 256 with
  | 0x00 => 0x64
  | 0x01 => 0xB1
  | 0x02 => s.ward.st.code + 16 * s.ward.prev.code
  | 0x03 => s.sbFlags
  | 0x04 => s.fld Reg.rstCause 7 0
  | 0x05 => s.fld Reg.rstCause 11 8
  | 0x06 => ofSigned 8 (max (-128) (min 127 s.maxC))
  | 0x07 => Field.get s.viewPwr 7 0
  | 0x08 => Field.get (s.regView Reg.sbStatus) 7 0
  | 0x09 => b.cmdStatus
  | 0x0A => b.cmdInfo
  | 0x0B => b.cmdSeq
  | 0x0C => s.fld Reg.safeFatalId 7 0
  | 0x0D => s.fld Reg.safeFatalId 15 8
  | 0x0E => s.fld Reg.safeActive 7 0
  | 0x0F => s.fusion.validity
  | 0x18 => b.notifyEn
  | 0x19 => b.pend
  | 0x1A => b2n b.brisk
  | 0x1B => b.win
  | 0x1C => b2n b.outFull + 2 * b2n b.inFull
  | a => if 0x20 ≤ a ∧ a < 0x28 then s.tsu.time / 256 ^ (a - 0x20) % 256 else 0

/-- A byte of the register window (R657): enclosure 0's 32-bit read, without its side effects. [log 138 DEDUCED, unsafe] -/
def sbWindow (s : State) (o : Nat) : Nat :=
  let b := s.sb.win
  let w :=
    if s.fld Reg.sbCtl 0 0 = 0 ∨ !s.regsAnswer b ∨ (0x38 ≤ b ∧ b < 0x40 ∧ !s.classAdmits b o (b - 0x38)) then 0
    else (s.regView (b * 0x10000 + o / 4 * 4)).toNat
  w / 256 ^ (o % 4) % 256

/-- A byte of Map-L (Table 21.4). -/
def mapL (s : State) (a : Nat) : Nat :=
  let a := a % 0x10000
  let byte (v base : Nat) : Nat := v / 256 ^ (a - base) % 256
  if a < 2 then byte 0x64 0
  else if a = 2 then 0xB1
  else if a = 3 then s.fld Reg.rstStrap 3 0
  else if 8 ≤ a ∧ a < 0x10 then byte s.sec.fuses.deviceId 8
  else if a = 0x10 then s.sbBase
  else if 0x100 ≤ a ∧ a < 0x102 then byte (s.fld Reg.safeFatalId 15 0) 0x100
  else if a = 0x102 then s.fld Reg.safeFatalId 17 16
  else if a = 0x103 then s.fld Reg.safeFatalId 21 18
  else if 0x108 ≤ a ∧ a < 0x110 then byte ((s.reg (Reg.safeFatalT 0)).toNat + (s.reg (Reg.safeFatalT 1)).toNat * 2 ^ 32) 0x108
  else if 0x110 ≤ a ∧ a < 0x112 then byte (s.fld Reg.rstCause 15 0) 0x110
  else if a = 0x112 then s.fld Reg.rstSnap 7 0
  else if 0x200 ≤ a ∧ a < 0x220 then (s.sb.outBox.getD (a - 0x200) 0).toNat
  else if 0x220 ≤ a ∧ a < 0x240 then (s.sb.inBox.getD (a - 0x220) 0).toNat
  else if 0x400 ≤ a ∧ a < 0x4A0 then (s.sb.record.getD (a - 0x400) 0).toNat
  else if 0x4A0 ≤ a ∧ a < 0x4C0 then ((s.sec.svcNonce.getD []).getD (a - 0x4A0) 0).toNat
  else if 0x8000 ≤ a then s.sbWindow (a - 0x8000)
  else 0

/-- A byte of a map, Map-L addresses standing from 0x1_0000. -/
def mapByte (s : State) (a : Nat) : Byte := BitVec.ofNat 8 (if 0x10000 ≤ a then s.mapL (a - 0x10000) else s.mapS a)

/-- The multi-byte field an address lies in: first address and length (R649). -/
def multiField (a : Nat) : Option (Nat × Nat) :=
  if 0x18000 ≤ a then some (a / 4 * 4, 4)
  else
    let l : List (Nat × Nat) :=
      [(0x04, 2), (0x0C, 2), (0x20, 8), (0x10000, 2), (0x10008, 8), (0x10100, 2), (0x10108, 8), (0x10110, 2)]
    l.find? fun (f : Nat × Nat) => decide (f.1 ≤ a ∧ a < f.1 + f.2)

/-! ### Reads (R646, R647, R649) -/

/-- One byte of a read; `first` says that the read begins at it. -/
def sbReadByte (s : State) (a : Nat) (first : Bool) : Byte × State :=
  match multiField a with
  | none => (s.mapByte a, s)
  | some (base, n) =>
    let take : List Byte := (List.range n).map fun i => s.mapByte (base + i)
    let snap : List Byte :=
      if first ∨ a = base then take
      else match s.sb.snap with
        | some (b, l) => if b = base then l else take
        | none => take
    (snap.getD (a - base) 0, { s with sb := { s.sb with snap := some (base, snap) } })

/-- `n` bytes from the pointer of a map. -/
def sbRead (s : State) (large first : Bool) : Nat → List Byte × State
  | 0 => ([], s)
  | n + 1 =>
    let a := if large then 0x10000 + s.sb.lPtr else s.sb.sPtr
    let (b, t) := s.sbReadByte a first
    let u := { t with sb :=
      if large then { t.sb with lPtr := (t.sb.lPtr + 1) % 0x10000 } else { t.sb with sPtr := (t.sb.sPtr + 1) % 256 } }
    let (l, v) := u.sbRead large false n
    (b :: l, v)

/-! ### Commands (R651 to R653) -/

/-- A command is answered in the cycle of its decision. -/
def sbAnswer (s : State) (c : Nat) (st : Status) (guard : Nat) : State :=
  ({ s with sb := { s.sb with cmdStatus := st.code, cmdInfo := guard % 16 + c % 16 * 16, cmdDone := true } }).sbEvent 3

/-- A command with its argument is taken at a STOP. [log 136 DEDUCED, unsafe] -/
def sbTake (s : State) (c arg : Nat) : State :=
  let t := ({ s with sb := { s.sb with cmdSeq := (s.sb.cmdSeq + 1) % 256, cmdDone := false } }).sbBusy (if c = 3 then 5000000 else 100000)
  if 1 ≤ c ∧ c ≤ 4 ∧ !accepts t.ward.st .cfg then
    ((t.refuse .cfg .sideband .pair 0).sbFlag 0).sbAnswer c .stateRefused Guard.pair.code
  else if c = 6 ∧ t.ward.st ≠ .drive then (t.sbFlag 0).sbAnswer c .stateRefused (t.fld Reg.refuseLast 11 8)
  else if c = 0 ∨ 7 < c ∨ arg ≠ (if c = 7 then 0xA5C3 else 0) then t.sbAnswer c .badArg 0
  else if t.sb.cmdOpen.isSome then t.sbAnswer c .busy 0
  else { t with sb := { t.sb with cmdOpen := some c } }

/-- The inbound mailbox is freed by the controller (R656). [log 137 DEDUCED, unsafe] -/
def sbInAck (s : State) : State := ({ s with sb := { s.sb with inFull := false } }).raise (s.fld Reg.sbCtl 15 8)

/-- MODE (R658). -/
def sbSetMode (s : State) (v : Nat) : State := { s with sb := { s.sb with brisk := decide (v % 2 = 1) } }

/-- One byte written to Map-S outside the command buffer (R650). -/
def sbPutS (s : State) (a v : Nat) : State :=
  let b := s.sb
  match a with
  | 0x08 => s.setReg Reg.sbStatus (s.reg Reg.sbStatus &&& ~~~ (BitVec.ofNat 32 (v % 256 &&& 0x3B)))
  | 0x18 => { s with sb := { b with notifyEn := v % 256 } }
  | 0x19 => { s with sb := { b with pend := b.pend - (b.pend &&& v) } }
  | 0x1A => s.sbSetMode v
  | 0x1B => { s with sb := { b with win := v % 256 } }
  | 0x1C => if bitOf v 2 then s.sbInAck else s
  | _ => s

/-- The last value a transfer wrote to an address. -/
def lastAt (l : List (Nat × Nat)) (a : Nat) : Option Nat := (l.reverse.find? (fun (x : Nat × Nat) => x.1 = a)).map (·.2)

/-- A write transfer to Map-S ends at a STOP: pointer and data (R646, R648, R651). -/
def sbWriteS (s : State) (ptr : Nat) (data : List Byte) : State :=
  let l : List (Nat × Nat) := (List.range data.length).map fun i => ((ptr + i) % 256, (data.getD i 0).toNat)
  let s1 := l.foldl (fun (t : State) (x : Nat × Nat) => t.sbPutS x.1 x.2)
    { s with sb := { s.sb with sPtr := (ptr + data.length) % 256 } }
  match lastAt l 0x10 with
  | none => s1
  | some c =>
    if lastAt l 0x11 = some (255 - c) then s1.sbTake c ((lastAt l 0x12).getD 0 + 256 * (lastAt l 0x13).getD 0)
    else s1.sbFlag 3

/-- A byte of a page is committed to Map-L; the second component says that it was discarded. -/
def sbPutL (s : State) (a : Nat) (v : Byte) : State × Bool :=
  if 0x200 ≤ a ∧ a < 0x220 ∧ !s.sb.outFull then ({ s with sb := { s.sb with outBox := s.sb.outBox.set (a - 0x200) v } }, false)
  else if 0x400 ≤ a ∧ a < 0x4A0 then ({ s with sb := { s.sb with record := s.sb.record.set (a - 0x400) v } }, false)
  else (s, true)

/-- The bytes of a page have been stored; a page of the outbound mailbox fills it (R656). -/
def sbLDone (page : Nat) (none_ : Bool) (x : State × Bool) : State :=
  let t := x.1.sbDiscard x.2
  if none_ ∨ x.2 then t
  else if page = 0x200 then
    let u := { t.sbBusy 50000 with sb := { (t.sbBusy 50000).sb with outFull := true } }
    if u.pcieRoot then u else u.raise (u.fld Reg.sbCtl 15 8)
  else t.sbBusy 50000

/-- A write transfer to Map-L ends at a STOP (R647, R654, R655). -/
def sbWriteL (s : State) (ptr : Nat) (data : List Byte) : State :=
  let page := ptr / 32 * 32
  sbLDone page (data = []) ((List.range data.length).foldl (fun (acc : State × Bool) i =>
    let (t, d) := acc.1.sbPutL (page + (ptr + i) % 32) (data.getD i 0)
    (t, acc.2 || d)) ({ s with sb := { s.sb with lPtr := page + (ptr + data.length) % 32 } }, false))

/-- A write transfer; `stop` is false when a repeated START ends it (R648). [log 137 DEDUCED, unsafe] -/
def sbWrite (s : State) (large : Bool) (bytes : List Byte) (stop : Bool) : State :=
  if large then
    match bytes with
    | hi :: lo :: data =>
      let ptr := hi.toNat * 256 + lo.toNat
      if stop then s.sbWriteL ptr data else ({ s with sb := { s.sb with lPtr := ptr } }).sbDiscard (data ≠ [])
    | _ => s.sbFlag 3
  else
    match bytes with
    | [] => s
    | p :: data =>
      if stop then s.sbWriteS p.toNat data else ({ s with sb := { s.sb with sPtr := p.toNat } }).sbDiscard (data ≠ [])

/-! ### Host Notify (R661 to R663) -/

/-- The bytes of a notify attempt (R662). [log 140 DEDUCED, unsafe] -/
def notifyBytes (s : State) : List Byte :=
  [0x10, BitVec.ofNat 8 (2 * s.sbBase), BitVec.ofNat 8 s.sb.pend,
    BitVec.ofNat 8 (s.ward.st.code + 16 * b2n (s.safe.latchP || s.safe.latchN) + 32 * b2n s.anyActive)]

/-- A notify attempt fails; the eighth ends the sequence. -/
def notifyFails (s : State) : State :=
  let t := (s.bump Reg.sbCnt 31 16)
  let n := s.sb.fails + 1
  if 8 ≤ n then ({ t with sb := { t.sb with notifying := false, fails := 0 } }).sbFlag 1
  else { t with sb := { t.sb with fails := n } }

end State

open State

/-- SB_ADDRESS_MATCH (R645, R660, R666): a START with the Map-S or Map-L address. `busy` says that a cause of Table 21.5 that
may still last does last. In STANDBY and during Cozy entry and sleep the match is a wake request.
[log 27 DESIGN CHOICE, safe] -/
def execSbAddressMatch (busy : Bool) (s : State) : Out :=
  .next (
    if s.fld Reg.rstStrap 12 12 = 1 then s
    else if s.ward.st = .standby ∨ s.ward.cozy then s.wakeRequest
    else if s.sbAnswers ∧ busy ∧ s.upNs < s.sb.busyUntil then (s.bump Reg.sbCnt 15 0).sbFlag 5
    else s)

/-- SB_WRITE_TRANSFER (R646 to R648, R650 to R655): the data bytes of an acknowledged write to Map-S or (`large`) Map-L;
`stop` says that a STOP ends it, else a repeated START. [log 139 DESIGN CHOICE, safe] -/
def execSbWriteTransfer (large : Bool) (bytes : List Byte) (stop : Bool) (s : State) : Out :=
  .next (if s.sbAnswers then s.sbWrite large bytes stop else s)

/-- SB_READ_TRANSFER (R646, R647, R649): `n` bytes from the pointer. -/
def execSbReadTransfer (large : Bool) (n : Nat) (s : State) : Out :=
  .next (
    if s.sbAnswers then
      let (l, t) := s.sbRead large true n
      { t with sb := { t.sb with lastRead := l } }
    else s)

/-- SB_WAKE (R653): the open command WAKE completes OK; it is a plain wake and a wake request. -/
def execSbWake (s : State) : Out := .next (if s.sb.cmdOpen = some 5 then (s.sbDone .ok 0).wakeRequest else s)

/-- SB_NONCE (R653): the open command NONCE draws the service nonce. -/
def execSbNonce (s : State) : Out :=
  .next (
    if s.sb.cmdOpen ≠ some 6 then s
    else if s.sec.rngFail then s.sbDone .keyUnavailable 0
    else (s.drawNonce.2).sbDone .ok 0)

/-- SB_RESET (R653): the open command RESET completes OK and the SIDEBAND source becomes active. -/
def execSbReset (s : State) : Out :=
  .next (if s.sb.cmdOpen = some 7 then (s.sbDone .ok 0).resetBy .sideband else s)

/-- SB_MBOX_IN_ACK (R656): Map-S MBOX.IN_ACK. -/
def execSbMboxInAck (s : State) : Out := .next (if s.sbAnswers then s.sbInAck else s)

/-- SB_MODE (R658): a write of Map-S MODE. -/
def execSbMode (v : Nat) (s : State) : Out := .next (if s.sbAnswers then s.sbSetMode v else s)

/-- NOTIFY_ATTEMPT (R662, R663): `ok` says that every byte is acknowledged. [log 139 DESIGN CHOICE, safe] -/
def execNotifyAttempt (ok : Bool) (s : State) : Out :=
  .next (
    if !s.sb.notifying ∨ !s.sbAnswers then s
    else
      let t := { s with sb := { s.sb with lastNotify := s.notifyBytes } }
      if ok then { t with sb := { t.sb with notifying := false, fails := 0 } } else t.notifyFails)

/-- SCL_LOW_TIMEOUT (R665): SCL low for more than 35 ms; `attempt` says that a notify attempt was on the bus. -/
def execSclLowTimeout (attempt : Bool) (s : State) : Out :=
  .next (
    if !s.sbAnswers then s
    else
      let t := s.sbFlag 4
      if attempt ∧ t.sb.notifying then t.notifyFails else t)

end Sys2Proof.Machine
end

