-- ==== Sys2Proof/Machine/WeaveOps.lean ====
section
/-! DEFINITION. The commands of the weave (chapter 4): reads, writes and atomics with their responses, the lease atomics of
commons words, the time wheel and the timeout of a seizure. -/

namespace Sys2Proof.Machine

namespace State

/-! ### Issue (R148, R152, R116) -/

/-- One request: 1 to 256 bytes that do not cross a 256-byte boundary (R148). -/
def oneRequest (a len : Nat) : Bool := decide (1 ≤ len ∧ a % 256 + len ≤ 256)

/-- The tracker of a controller or slice is full for the tag: a share of it is usable only by SAFETY enclosures.
[log 53 DESIGN CHOICE, unsafe] -/
def trackerFull (s : State) (who : Requester) (dst : Nat) : Bool :=
  let n := (s.weave.outst.filter fun q => q.dst = dst && q.counted).length
  let qm := s.isQm (s.tagOf who)
  if unchecked who then false
  else if 64 ≤ dst ∧ dst < 72 then decide ((if qm then 96 else 128) ≤ n)
  else if 72 ≤ dst ∧ dst < 80 then decide ((if qm then 288 else 384) ≤ n)
  else false

/-- The mover channel a request comes from, plus one. -/
def chanOf : Requester → Nat
  | .mover _ c => c + 1
  | _ => 0

/-- A request stands in the trackers with the answer that its response will carry. -/
def track (s : State) (who : Requester) (dst : Nat) (st : Status) (d : List Byte) (read : Bool := false) : State :=
  let counted := decide (64 ≤ dst ∧ dst < 80) && !unchecked who
  let q : WReq := { id := s.weave.nextId, src := gskOf who, dst := dst, tag := s.tagOf who, vc := if unchecked who then 2 else 0, chan := chanOf who,
                    counted := counted, read := read, status := st, data := d }
  let outst := s.weave.outst ++ [q]
  { s with weave := { s.weave with
    outst := outst, nextId := s.weave.nextId + 1, peak := max s.weave.peak (outst.filter (·.counted)).length } }

/-- An outbound request through the PCIe 5.0 port (R676): it awaits its completion, or ends with TIMEOUT while the link is
down. -/
def pcieIssue (s : State) (who : Requester) (a : Nat) (write : Bool) : State :=
  match s.gasketAnswer 111 with
  | some st => s.track who 127 st []
  | none =>
    if s.pcie.linkUp then
      let r := bitsOf a 30 28
      let at_ := (s.reg (0x110010 + 8 * r)).toNat + (s.reg (0x110014 + 8 * r)).toNat * 2 ^ 32 + a % 2 ^ 28
      let t := s.track who 111 .ok [] !write
      { t with pcie := { t.pcie with outst := t.pcie.outst ++ [{ id := s.weave.nextId, addr := at_, write := write, since := s.upNs }] } }
    else (s.bump Reg.pcieCnt 15 8).track who 111 .timeout []

/-- A loom-bound request (R139, R549): the weave request and the transaction for it. -/
def loomIssue (s : State) (who : Requester) (addr opc size top : Nat) (d : List Byte) : State :=
  let w : WReq := { id := s.weave.nextId, src := gskOf who, tag := s.tagOf who, vc := 3, chan := chanOf who, read := opc = opcRead }
  ({ s with weave := { s.weave with nextId := s.weave.nextId + 1 } }).issueLoom w (s.tagOf who) (nodeOf addr) opc size
    (localOf addr + top * 2 ^ 60) d

/-- The requester as its gasket tags it (R153, Table 4.5): the LSE and the fusion unit with the enclosure of a job in progress,
a steward with that of a queue it serves, the PCIe port with that of a mapped BAR, whatever the operand says.
[log 55 DESIGN CHOICE, unsafe] -/
def asTagged (s : State) (who : Requester) : Requester :=
  let pick (l : List Nat) (e : Nat) : Nat := if l.contains e then e else l.headD e
  match who with
  | .lse e => .lse (pick ((s.lse.solver.toList ++ s.lse.assigner.toList ++ s.lse.suspended.toList).map (·.r.encl)) e)
  | .fusion e => .fusion (pick ((s.fusion.bind.map (·.1.encl)).toList ++ (if s.fusion.profile.isSome then [1] else [])) e)
  | .steward k e => .steward k (pick ((List.range 8).filter fun x => s.present x && bitOf (s.enclRec x).stewards k) e)
  | .pcie e => .pcie (pick (0 :: (List.range 8).filter fun x => s.fld (0x110054 + 8 * x) 31 31 = 1) e)
  | w => w

/-- A request as the weave takes it: stalled, denied at its gasket, lost on its way with a parity error (R583), sent to the
loom or through the PCIe port, or performed at its target by `f`. A request that a closed gasket answered is no longer
addressed to the block (R116, R117). An atomic that is no single request inside a 256-byte block completes with BAD_ARG
(R151). -/
def request (s : State) (who : Requester) (op : WOp) (addr len : Nat) (ups : List Upset) (loom : State → State)
    (f : State → Status × List Byte × State) : State :=
  let a := localOf addr
  let dst := (placeOf s.usable a).gasket
  if s.stalls who ∨ (op ≠ .atomic ∧ !oneRequest a len) then s
  else match s.windowCheck who op addr len with
    | some r =>
      (s.deny (s.tagOf who) (gskOf who) (if r = 3 then 3 else opCode op) r addr (!unchecked who)).track who 127 .accessDenied []
    | none =>
      if op = .atomic ∧ !oneRequest a len then s.track who 127 .badArg []
      else match flitOf ups addr with
      | some (r, false) => (s.flitLost (s.tagOf who) r).track who 127 .integrity []
      | _ =>
      if s.loomBound addr then loom s
      else if s.trackerFull who dst then s
      else if placeOf s.usable a = .pcieOut ∧ op ≠ .atomic then s.pcieIssue who a (op == .write)
      else
        let (st, d, t) := f s.commonsTick
        t.track who (if (blockAt a).isNone ∧ (s.gasketAnswer dst).isSome then 127 else dst) st d (op == .read)

/-! ### Performing at a target -/

/-- Register space is named. -/
def isRegs (s : State) (a : Nat) : Bool := match placeOf s.usable a with | .regs _ => true | _ => false

/-- A read at a local target: a register, an array, or the Caddy's space, which answers with `ext`. -/
def readAt (s : State) (who : Requester) (addr len : Nat) (ext : List ExtData) (ups : List Upset) : Status × List Byte × State :=
  let a := localOf addr
  if s.isRegs a then
    let t := s.regReadBy who (a - 0x1200000000) (decide (len = 4 ∧ a % 4 = 0))
    (t.resp, if t.resp = .ok then leBytes len t.respData else [], t)
  else
    let (st, d, _, t) := s.requestP who addr len ext ups
    (st, d, t)

/-- A write at a local target. -/
def writeAt (s : State) (who : Requester) (addr : Nat) (d : List Byte) (poison up : Bool) (ext : List ExtData) (ups : List Upset) :
    Status × State :=
  let a := localOf addr
  if s.isRegs a then
    let t := s.regWrite who (a - 0x1200000000) (leNat d) (decide (d.length = 4 ∧ a % 4 = 0)) up ext ups
    (t.resp, t)
  else s.requestWriteP who addr d (List.replicate d.length poison) ext ups

/-- A word lies under a live lease. -/
def leased (s : State) (a size : Nat) : Bool := s.weave.live.any fun w => decide (a < w + 8 ∧ w < a + size)

/-- An atomic of R151 at a local target. -/
def atomicAt (s : State) (who : Requester) (a size : Nat) (op : AtomicOp) (x y : Nat) (ups : List Upset) : Status × List Byte × State :=
  let p := placeOf s.usable a
  let ok := match p with | .dram _ => true | .commons _ => true | _ => false
  if !ok ∨ !(size = 4 ∨ size = 8) ∨ a % size ≠ 0 then (.badArg, [], s)
  else match s.gasketAnswer p.gasket with
    | some st => (st, [], s)
    | none =>
      if s.leased a size then (.busy, [], s)
      else s.memAtomic a size (s.slotKey who a size) (s.tagOf who) ups fun old => (.ok, leBytes size old, atomicResult op size old x y)

/-- A lease atomic (R165). -/
def leaseAt (s : State) (who : Requester) (op : LeaseOp) (a gen : Nat) (ups : List Upset) : Status × List Byte × State :=
  let p := placeOf s.usable a
  let ok := match p with | .commons _ => true | _ => false
  if !ok ∨ a % 8 ≠ 0 then (.badArg, [], s)
  else match s.gasketAnswer p.gasket with
    | some st => (st, [], s)
    | none =>
      let tag := s.tagOf who
      let (st, d, t) := s.memAtomic a 8 0 tag ups fun w => s.leaseOutcome op a (gskOf who) tag (gen % 2 ^ 16) w
      let live := match op with
        | .acquire => if t.weave.live.contains a then t.weave.live else t.weave.live ++ [a]
        | .renew => t.weave.live
        | .release => t.weave.live.filter (· ≠ a)
      (st, d, if st = .ok then { t with weave := { t.weave with live := live } } else t)

/-- A lease atomic as a request; one that is loom-bound has no transaction to travel in. [log 54 DESIGN CHOICE, unsafe] -/
def leaseReq (s : State) (who : Requester) (op : LeaseOp) (addr gen : Nat) (ups : List Upset) : State :=
  let who := s.asTagged who
  s.request who .atomic addr 8 ups (fun t => t.track who 127 .badArg []) fun t => t.leaseAt who op (localOf addr) gen ups

/-- Codes of the atomics in a loom-bound address. -/
def atomicCode : AtomicOp → Nat
  | .fetchAdd => 0 | .swap => 1 | .compareSwap => 2 | .minSigned => 3 | .maxSigned => 4

/-- The block of a lease keeper, where it has one of its own. -/
def keeperBlock : Keeper → Option Nat
  | .commons k => some (64 + k % 8)
  | .mover m => some (80 + m % 16)
  | .kv => none
  | .loom => none

end State

open State

/-- WEAVE_READ (R148 to R156, R187): one read request of `len` bytes. -/
def execWeaveRead (who : Requester) (addr len : Nat) (ext : List ExtData) (upsets : List Upset) (s : State) : Out :=
  let s := s.regsLand
  let who := s.asTagged who
  .next (s.request who .read addr len upsets (fun t => t.loomIssue who addr opcRead (len - 1) 0 []) fun t =>
    t.readAt who addr len ext upsets)

/-- WEAVE_WRITE (R148 to R156, R188, R189): one write request; `poison` is its poison flag. -/
def execWeaveWrite (who : Requester) (addr : Nat) (data : List Byte) (poison macUp : Bool) (ext : List ExtData)
    (upsets : List Upset) (s : State) : Out :=
  let s := s.regsLand
  let who := s.asTagged who
  .next (s.request who .write addr data.length upsets (fun t => t.loomIssue who addr opcWrite (data.length - 1) 0 data) fun t =>
    let (st, u) := t.writeAt who addr data poison macUp ext upsets
    (st, [], u))

/-- WEAVE_ATOMIC (R151, R188). -/
def execWeaveAtomic (who : Requester) (addr size : Nat) (op : AtomicOp) (x y : Nat) (upsets : List Upset) (s : State) : Out :=
  let s := s.regsLand
  let who := s.asTagged who
  .next (s.request who .atomic addr size upsets
    (fun t => t.loomIssue who addr opcAtomic (size - 1) (atomicCode op) (leBytes size x ++ leBytes size y)) fun t =>
      t.atomicAt who (localOf addr) size op x y upsets)

/-- WEAVE_RESPONSE (R149): the response of an outstanding request returns; a request that still awaits the loom or the PCIe port
has none. `parity`: the router that finds a parity error in it, which discards it (R583). -/
def execWeaveResponse (id : Nat) (parity : Option Nat) (s : State) : Out :=
  .next (
    match s.weave.outst.find? (·.id = id) with
    | none => s
    | some q =>
      if (s.loom.outst.any fun l => l.wid = id) ∨ (s.pcie.outst.any fun p => p.id = id) then s
      else match parity with
        | none => s.respDone q q.status q.data
        | some r => (s.flitLost q.tag r).respDone q .integrity [])

/-- LEASE_ACQUIRE (R165, Table 4.9). -/
def execLeaseAcquire (who : Requester) (addr : Nat) (upsets : List Upset) (s : State) : Out :=
  .next (s.leaseReq who .acquire addr 0 upsets)

/-- LEASE_RENEW (R165, Table 4.9). -/
def execLeaseRenew (who : Requester) (addr gen : Nat) (upsets : List Upset) (s : State) : Out :=
  .next (s.leaseReq who .renew addr gen upsets)

/-- LEASE_RELEASE (R165, Table 4.9). -/
def execLeaseRelease (who : Requester) (addr gen : Nat) (upsets : List Upset) (s : State) : Out :=
  .next (s.leaseReq who .release addr gen upsets)

/-- WHEEL_SLOT (R159): the next of the 64 slots begins. [log 59 DESIGN CHOICE, safe] -/
def execWheelSlot (s : State) : Out :=
  .next (if s.weave.run then { s with weave := { s.weave with slot := (s.weave.slot + 1) % 64 } } else s)

/-- SEIZURE_ACK_TIMEOUT (R606): the keeper's oldest order is not acknowledged within 50 µs. The warden resets the keeper's
block, which ends the leases, where R119 allows it and it serves no SAFETY enclosure; else the event is SF.
[log 52 DESIGN CHOICE, safe] -/
def execSeizureAckTimeout (k : Keeper) (s : State) : Out :=
  let i := keeperIdx k
  .next (
    match s.weave.seizures.find? (·.1 = i) with
    | none => s
    | some o =>
      let t := s.elapseTo (o.2.2 + 50000)
      let sf (g : Nat) : State := let (v, u) := t.draw; u.fatal (.unnamed v) 0xF g cFatal
      match keeperBlock k with
      | none => sf 118
      | some g =>
        if resetAllowed t.ward.st g ∧ !((List.range 8).any fun e => t.isSafety e && t.serves g e) then (t.seizureAct i).wardenReset g
        else sf g)

end Sys2Proof.Machine
end

