-- ==== Sys2Proof/Machine/LoomTx.lean ====
section
/-! DEFINITION. Inbound loom transactions (R550, R558, R561 to R563): checked against the LOOM_EXPORT windows, performed under
the window's enclosure and answered; messages to a mailbox ring; remote page leases. -/

namespace Sys2Proof.Machine

namespace State

/-- The enclosure under whose window an inbound request passes (R550). -/
def exported (s : State) (encl a len bit : Nat) : Option Nat :=
  (s.windowsNow.find? fun w => w.can 3 && w.covers a len && w.can bit && (w.encl == encl || w.shared)).map (·.encl)

/-- A failing request is counted and answered (R550). [log 123 DESIGN CHOICE, unsafe] -/
def denyIn (s : State) (h : LHdr) : State := (s.bump Reg.loomCnt 15 8).answer h .accessDenied []

/-- An inbound request that passes is performed by `f` under the requester it is given. -/
def passing (s : State) (via : Nat) (h : LHdr) (len bit : Nat) (f : State → Requester → Nat → Status × List Byte × State) : State :=
  let a := h.addr % 2 ^ 54
  if !oneRequest a len then s.answer h .badArg []
  else match s.exported h.encl a len bit with
    | none => s.denyIn h
    | some e =>
      let (st, d, t) := f s.commonsTick (.loom via e) (a + s.nodeId * 2 ^ 54)
      t.answer h st (if st = .ok ∨ st = .poisoned then d else [])

/-- The atomic an operation code of ADDR [63:60] names. [log 123 DESIGN CHOICE, unsafe] -/
def atomicOf : Nat → Option AtomicOp
  | 0 => some .fetchAdd | 1 => some .swap | 2 => some .compareSwap | 3 => some .minSigned | 4 => some .maxSigned | _ => none

/-! ### The mailbox ring (R561) -/

/-- The ring of enclosure `e` takes a message. -/
def mboxOpen (s : State) (e : Nat) : Bool :=
  let cfg := mboxCfg e
  s.present e && s.fld cfg 31 31 = 1
    && decide (((s.reg (Reg.qblk e + 0x1C)).toNat + 2 ^ 32 - (s.reg (Reg.qblk e + 0x20)).toNat) % 2 ^ 32 < 2 ^ s.fld cfg 3 0)
where
  mboxCfg (e : Nat) : Nat := Reg.qblk e + 0x18

/-- A message is written, then its header, then TAIL advances. -/
def mboxTake (s : State) (via : Nat) (h : LHdr) (msg : List Byte) (ups : List Upset) : State :=
  let e := h.encl
  if 240 < msg.length then s.answer h .badArg []
  else if !s.mboxOpen e then s.answer h .busy []
  else
    let tail := (s.reg (Reg.qblk e + 0x1C)).toNat
    let base := (s.reg (Reg.qblk e + 0x10)).toNat / 256 * 256 + (s.reg (Reg.qblk e + 0x14)).toNat * 2 ^ 32
    let a := base + 256 * (tail % 2 ^ s.fld (Reg.qblk e + 0x18) 3 0)
    let hdr := leBytes 2 h.src ++ leBytes 1 msg.length ++ leBytes 1 0 ++ leBytes 4 tail ++ leBytes 8 s.tsu.time
    let who : Requester := .loom via e
    let (st1, s1) := s.writeRun who (a + 16) msg [] ups
    if st1 ≠ .ok ∧ st1 ≠ .poisoned then s1.answer h st1 []
    else
      let (st2, s2) := s1.writeRun who a hdr [] ups
      if st2 ≠ .ok ∧ st2 ≠ .poisoned then s2.answer h st2 []
      else (s2.setReg (Reg.qblk e + 0x1C) (BitVec.ofNat 32 (tail + 1))).answer h (st1.worse st2) []

/-! ### Remote page leases (R563) -/

/-- The lease state a response carries (Table 4.8, [31:0]). -/
def rleaseWord (l : RLease) : Nat :=
  b2n l.held + 2 * b2n l.broken + 4 * b2n l.seized + (l.encl % 8) * 8 + 127 * 0x40 + (l.gen % 2 ^ 16) * 2 ^ 16

/-- The record of a region. -/
def rleaseOf (s : State) (base size : Nat) : Option RLease := s.loom.leases.find? fun l => l.base = base ∧ l.size = size

/-- The record of a region is replaced, or added. -/
def putRlease (s : State) (l : RLease) : State :=
  let rest := s.loom.leases.filter fun x => !(x.base = l.base ∧ x.size = l.size)
  { s with loom := { s.loom with leases := rest ++ [l] } }

/-- ACQUIRE of a region for the requesting node (Table 4.9). [log 123 DESIGN CHOICE, unsafe] -/
def rleaseAcquire (s : State) (h : LHdr) (base size ms : Nat) : State :=
  match s.exported h.encl base size 0 with
  | none => s.denyIn h
  | some e =>
    let busy := s.loom.leases.any fun l => l.held && decide (l.base < base + size ∧ base < l.base + l.size)
    if busy ∨ 256 ≤ (s.loom.leases.filter (·.held)).length then s.answer h .busy []
    else
      let l : RLease := { base := base, size := size, encl := e, node := h.src, ms := ms, held := true,
                          gen := (((s.rleaseOf base size).map (·.gen)).getD 0 + 1) % 2 ^ 16, expiry := s.upNs + ms * 1000000 }
      (s.putRlease l).answer h .ok (leBytes 4 (rleaseWord l))

/-- RENEW and RELEASE. -/
def rleaseMatch (s : State) (h : LHdr) (base size gen ms : Nat) (release : Bool) : State :=
  match s.rleaseOf base size with
  | none => s.answer h .notFound []
  | some l =>
    if l.held ∧ l.node = h.src ∧ l.gen = gen then
      let m := if release then { l with held := false } else { l with ms := ms, expiry := s.upNs + ms * 1000000 }
      (s.putRlease m).answer h .ok (leBytes 4 (rleaseWord m))
    else if !l.held ∧ l.gen = gen ∧ l.seized then s.answer h .leaseSeized []
    else if !l.held ∧ l.gen = gen ∧ l.broken then s.answer h .timeout []
    else s.answer h .notFound []

end State

open State

/-- LOOM_READ (R550, R558). -/
def execLoomRead (via : Nat) (ext : List ExtData) (upsets : List Upset) (s : State) : Out :=
  .next (s.inbound via 0 opcRead fun t h _ =>
    t.passing via h (h.size + 1) 0 fun u who a => u.readAt who a (h.size + 1) ext upsets)

/-- LOOM_WRITE (R550, R558, R562). -/
def execLoomWrite (via : Nat) (macUp : Bool) (ext : List ExtData) (upsets : List Upset) (s : State) : Out :=
  .next (s.inbound via 0 opcWrite fun t h d =>
    t.passing via h (h.size + 1) 1 fun u who a =>
      let (st, v) := u.writeAt who a (d.take (h.size + 1)) false macUp ext upsets
      (st, [], v))

/-- LOOM_ATOMIC (R550, R558): two operands follow the header. -/
def execLoomAtomic (via : Nat) (upsets : List Upset) (s : State) : Out :=
  .next (s.inbound via 0 opcAtomic fun t h d =>
    let n := h.size + 1
    t.passing via h n 2 fun u who a =>
      match atomicOf (h.addr / 2 ^ 60 % 16) with
      | none => (.badArg, [], u)
      | some op => u.atomicAt who (localOf a) n op (fieldAt d 0 n) (fieldAt d n n) upsets)

/-- LOOM_MSG (R561). -/
def execLoomMsg (via : Nat) (upsets : List Upset) (s : State) : Out :=
  .next (s.inbound via 0 opcMsg fun t h d => t.mboxTake via h (d.take (h.size + 1)) upsets)

/-- LOOM_RLEASE (R563): dword 4 carries the region's size, dword 5 GEN in [15:0] and LEASE_MS in [31:16]. -/
def execLoomRlease (via : Nat) (s : State) : Out :=
  .next (s.inbound via 0 opcRlease fun t0 h d =>
    let t := t0.endRemote (fun l => decide (l.expiry ≤ t0.upNs)) false
    let base := h.addr % 2 ^ 54
    let size := fieldAt d 0 4
    let gen := fieldAt d 4 2
    let ms := fieldAt d 6 2
    match h.addr / 2 ^ 60 % 16 with
    | 0 => t.rleaseAcquire h base size ms
    | 1 => t.rleaseMatch h base size gen ms false
    | 2 => t.rleaseMatch h base size gen ms true
    | _ => t.answer h .badArg [])

end Sys2Proof.Machine
end

