-- ==== Sys2Proof/Machine/HostIo.lean ====
section
/-! DEFINITION. The PCIe 5.0 port's inbound requests and completions, its message vectors, the NVMe reads of the Caddy, and
the debug access port (R639, R673 to R680). -/

namespace Sys2Proof.Machine

namespace State

/-! ### Inbound requests (R673 to R675) -/

/-- The DRIVE image has been applied: BAR0 and BAR2 reach the weave. -/
def imageApplied (s : State) : Bool := s.power.phase == .done

def cplIs (s : State) (c : Option PcieCpl) (d : List Byte) : State := { s with pcie := { s.pcie with cpl := c, cplData := d } }

/-- A request that is not forwarded: Unsupported Request, counted (R675). -/
def inUr (s : State) : State := (s.bump Reg.pcieCnt 7 0).cplIs (some .unsupported) []

/-- The completion of a forwarded request from the weave's code; a code that R675 does not map gives a free completion.
[log 142 DESIGN CHOICE, safe] -/
def inEnds (s : State) (posted : Bool) (st : Status) (d : List Byte) : State :=
  if posted then s.cplIs none []
  else match st with
    | .ok => s.cplIs (some .success) d
    | .poisoned => s.cplIs (some .poisoned) d
    | .accessDenied => s.cplIs (some .abort) []
    | _ =>
      let (v, t) := s.draw
      t.cplIs (some (if v % 3 = 0 then .success else if v % 3 = 1 then .unsupported else .abort)) d

/-- Bytes of BAR4: the MSI-X table, then the pending bit array (Table 22.2). -/
def bar4Byte (s : State) (i : Nat) : Byte :=
  if i < 0x1000 then s.msixByte i
  else if 0x1000 ≤ i ∧ i < 0x1020 then
    BitVec.ofNat 8 ((List.range 8).foldl (fun n b => n + b2n (s.pcie.pend.contains (8 * (i - 0x1000) + b)) * 2 ^ b) 0)
  else 0

/-- A write to BAR4, the MSI-X table (R677). [log 141 PRESUMED, unsafe] -/
def bar4Write (s : State) (off : Nat) (d : List Byte) : State :=
  (List.range d.length).foldl (fun (t : State) i =>
    if off + i < 0x1000 then
      let dflt : Byte := if (off + i) % 16 = 12 then 1 else 0
      { t with pcie := { t.pcie with table := SMap.set dflt t.pcie.table (off + i) (d.getD i 0) } }
    else t) s

/-- A register of BAR0 before the image: the boot page alone (R700). -/
def bootPage (s : State) (k : Nat) (w : Option Nat) (ext : List ExtData) : State :=
  match w with
  | some v => let (_, _, t) := s.writeReg (.pcie 0) k v false ext []; t.cplIs none []
  | none => let (d, t) := s.regRead k; t.cplIs (some .success) (leBytes 4 d.toNat)

/-- Enclosure and local address of a request to BAR2, when its aperture is open (R675). -/
def aperture (s : State) (off : Nat) : Option (Nat × Nat) :=
  let e := off / 2 ^ 32 % 8
  let hi := (s.reg (0x110054 + 8 * e)).toNat
  if bitOf hi 31 ∧ s.present e then
    some (e, (s.reg (0x110050 + 8 * e)).toNat / 4096 * 4096 + hi % 2 ^ 22 * 2 ^ 32 + off % 2 ^ 32)
  else none

/-- A forwarded read, or write, has its response. -/
def inRead (x : Status × List Byte × State) : State := x.2.2.inEnds false x.1 x.2.1
def inWrite (x : Status × State) : State := x.2.inEnds true x.1 []

/-- A request forwarded to the weave under enclosure `e` at local address `a`; `w` carries the data of a write and its poison. -/
def inForward (s : State) (e a len : Nat) (w : Option (List Byte × Bool)) (up : Bool) (ext : List ExtData) (ups : List Upset) : State :=
  if !oneRequest a len ∨ (s.isRegs a ∧ !(len = 4 ∧ a % 4 = 0)) then s.inUr
  else if s.stalls (.pcie e) then s
  else
    let addr := a % 2 ^ 54 + s.nodeId * 2 ^ 54
    match w with
    | some dp => inWrite (s.commonsTick.writeAt (.pcie e) addr dp.1 dp.2 up ext ups)
    | none => inRead (s.commonsTick.readAt (.pcie e) addr len ext ups)

/-- A memory request of `len` bytes in a BAR. -/
def inMem (s : State) (bar off len : Nat) (w : Option (List Byte × Bool)) (up : Bool) (ext : List ExtData) (ups : List Upset) :
    State :=
  if s.pcieRoot then s.inForward (((s.portOf 0).map (·.owner)).getD 0) off len w up ext ups
  else if bar = 4 then
    (match w with
     | some (d, _) => (s.bar4Write off d).cplIs none []
     | none => s.cplIs (some .success) ((List.range len).map fun i => s.bar4Byte (off + i)))
  else if bar = 0 then
    (if s.imageApplied then s.inForward 0 (0x1200000000 + off % 0x1000000) len w up ext ups
     else if 0x110100 ≤ off ∧ off < 0x110200 ∧ len = 4 ∧ off % 4 = 0 then s.bootPage off (w.map fun (x : List Byte × Bool) => leNat x.1) ext
     else s.inUr)
  else if bar = 2 then
    (match s.aperture off with
     | some (e, a) => s.inForward e a len w up ext ups
     | none => s.inUr)
  else s.inUr

/-- A dword of the configuration space (R672): the identifiers and the class code; what else it holds the PCI Express standard
fixes in part and leaves to the function in part, and is free. [log 142 DESIGN CHOICE, safe] -/
def configDword (s : State) (dw : Nat) : Nat × State :=
  if dw = 0 then (0x00641E5B, s) else if dw = 2 then (0x120000B1, s) else let (v, t) := s.draw; (v % 2 ^ 32, t)

/-- A read of the configuration space: Configuration Request Retry Status may answer it for at most 100 ms. -/
def configRead (s : State) (dw : Nat) : State :=
  let (v, t) := s.draw
  if s.upNs < s.pcie.upSince + 100000000 ∧ v % 2 = 1 then t.cplIs (some .retry) []
  else let (d, u) := t.configDword dw; u.cplIs (some .success) (leBytes 4 d)

/-! ### Vectors (R677) -/

/-- A pending vector that nothing masks is sent. -/
def sendPending (s : State) (v : Nat) : State :=
  if s.pcie.pend.contains v ∧ s.pcie.busMaster ∧ s.pcie.msixOn ∧ !s.msixMasked v ∧ !s.pcieRoot then
    { s with pcie := { s.pcie with pend := s.pcie.pend.filter (· ≠ v), sent := s.pcie.sent ++ [v] } }
  else s

/-! ### NVMe reads (R680) -/

def nvmeReq (s : State) (id : Nat) : Option NvmeReq := s.caddy.outst.find? (·.id = id)
def nvmeDrop (s : State) (id : Nat) : State := { s with caddy := { s.caddy with outst := s.caddy.outst.filter (·.id ≠ id) } }

/-- A read that ROUSE overtook completes on the device: its data is discarded at the sealed gasket and counted (Table 1.7). -/
def nvmeOrphan (s : State) (id : Nat) : State :=
  if s.caddy.orphans.contains id then
    ({ s with caddy := { s.caddy with orphans := s.caddy.orphans.filter (· ≠ id) } }).bump (Reg.gskStat 112) 31 16
  else s

/-- Data of an NVMe read: the header, or a part of a segment; the load's next reads follow. [log 143 DESIGN CHOICE, unsafe] -/
def nvmeData (s : State) (q : NvmeReq) (d : List Byte) (ext : List ExtData) (ups : List Upset) : State :=
  let t := if q.seg = 0 then s.loadHeader q.slot d else s.loadPart q.slot (q.seg - 1) q.part q.units d ext ups
  nvmeIssue q.slot (t.nvmeFuel q.slot) t

end State

open State

/-- PCIE_INBOUND_REQUEST (R674, R675). [log 142 DESIGN CHOICE, safe] -/
def execPcieInboundRequest (t : PcieTlp) (macUp : Bool) (ext : List ExtData) (upsets : List Upset) (s : State) : Out :=
  .next (
    if !s.pcie.linkUp ∨ !s.answers then s
    else match t with
      | .config bm mx => ({ s with pcie := { s.pcie with busMaster := bm, msixOn := mx } }).cplIs (some .success) []
      | .configRead dw => if s.pcieRoot then s.inUr else s.configRead dw
      | .configSticky v => ({ s with pcie := { s.pcie with sticky := v } }).cplIs (some .success) []
      | .read bar off len => s.inMem bar off len none macUp ext upsets
      | .write bar off data p =>
        (if p then s.bump Reg.pcieCnt 23 16 else s).inMem bar off data.length (some (data, p)) macUp ext upsets)

/-- PCIE_COMPLETION (R676): the completion of outbound request `id`, a memory request, which none answers with a retry. -/
def execPcieCompletion (id : Nat) (c : PcieCpl) (data : List Byte) (s : State) : Out :=
  .next (
    if !(s.pcie.outst.any fun p => p.id = id) then s
    else match c with
      | .success => s.pcieAnswer id .ok data
      | .poisoned => (s.bump Reg.pcieCnt 23 16).pcieAnswer id .poisoned data
      | .unsupported => s.pcieAnswer id .notFound []
      | .abort => s.pcieAnswer id .notFound []
      | .retry => s)

/-- PCIE_OUTBOUND_TIMEOUT (R676): no completion within 50 ms. -/
def execPcieOutboundTimeout (id : Nat) (s : State) : Out :=
  .next (
    match s.pcie.outst.find? (fun p => p.id = id) with
    | none => s
    | some p => (s.elapseTo (p.since + 50000000)).pcieTimeouts [id])

/-- MSIX_UNMASK (R677): the vector's entry is unmasked and the enables stand. -/
def execMsixUnmask (v : Nat) (s : State) : Out := .next (s.sendPending (v % 256))

/-- NVME_COMPLETION (R680): the read completes with its data, or with a media error. -/
def execNvmeCompletion (id : Nat) (media : Bool) (data : List Byte) (ext : List ExtData) (upsets : List Upset) (s : State) : Out :=
  .next (
    match s.nvmeReq id with
    | none => s.nvmeOrphan id
    | some q =>
      let t := s.nvmeDrop id
      if media then t.loadFail q.slot .poisoned else t.nvmeData q data ext upsets)

/-- NVME_TIMEOUT (R680): no completion within 1 s. -/
def execNvmeTimeout (id : Nat) (s : State) : Out :=
  .next (
    match s.nvmeReq id with
    | none => s
    | some q => ((s.elapseTo (q.since + 1000000000)).nvmeDrop id).loadFail q.slot .timeout)

/-- NVME_FATAL (R680): Controller Fatal Status. [log 144 DESIGN CHOICE, safe] -/
def execNvmeFatal (s : State) : Out :=
  .next (
    if !s.caddy.ready then s
    else
      let t := s.caddy.outst.foldl (fun (u : State) q => (u.nvmeDrop q.id).loadFail q.slot .timeout) s
      let again := decide (t.caddy.fatalAt ≠ 0 ∧ t.upNs < t.caddy.fatalAt - 1 + 10000000000)
      { t with caddy :=
        if again then { t.caddy with ready := false, fatalAt := t.upNs + 1 }
        else { t.caddy with resets := t.caddy.resets + 1, fatalAt := t.upNs + 1 } })

/-- The debug port has its response. -/
def State.dbgWrite (x : Status × State) : State := x.2.respond x.1 0
def State.dbgRead (x : Status × List Byte × State) : State :=
  { x.2.2.respond x.1 (leNat x.2.1) with debugData := x.2.2.debugData ++ x.2.1 }

/-- DEBUG_PORT_ACCESS (R639, R640): a read of `len` bytes, or a write of `data`, by the OPEN port.
[log 55 DESIGN CHOICE, unsafe] -/
def execDebugPortAccess (addr len : Nat) (data : Option (List Byte)) (macUp : Bool) (ext : List ExtData) (upsets : List Upset)
    (s : State) : Out :=
  .next (
    let a := addr % 2 ^ 54
    let n := match data with | some d => d.length | none => len
    if s.debugState ≠ 1 ∨ !s.answers ∨ !oneRequest a n ∨ placeOf s.usable a = .secPrivate ∨ placeOf s.usable a = .unmapped then s
    else
      let at_ := a + s.nodeId * 2 ^ 54
      match data with
      | some d => dbgWrite (s.commonsTick.writeAt .debug at_ d false macUp ext upsets)
      | none => dbgRead (s.commonsTick.readAt .debug at_ len ext upsets))

end Sys2Proof.Machine
end

