-- ==== Sys2Proof/Machine/Entries.lean ====
section
/-! DEFINITION. Command entries from the ring to their record (§9.2 to §9.9): taking and checking an entry, its start, its
budget, its completion; the operators a steward carries out by kernels, with their placement (R295 to R305, R309 to R313,
R316 to R320). -/

namespace Sys2Proof.Machine

namespace State

/-! ### Checks 1 to 5 (Table 9.2) -/

/-- ARGS fields (offset, size) of a defined operation (Tables 9.4, 10.x, 11.6, 17.6, 20.10, R316); none where OP is not
defined. Within the families of Table 9.5 operators have their codes in the order they are listed. -/
def opArgs (c : CmdClass) (op : Nat) : Option (List (Nat × Nat)) :=
  match c, op with
  | .cfg, 0x01 => some [] | .cfg, 0x02 => some [] | .cfg, 0x03 => some [(0, 12)] | .cfg, 0x04 => some []
  | .cfg, 0x10 => some [(0, 13)] | .cfg, 0x11 => some [(0, 1)]
  | .wgt, 0x01 => some [(0, 16)] | .wgt, 0x02 => some [(0, 8)] | .wgt, 0x03 => some [(0, 4)]
  | .kv, 0x01 => some [(0, 16)] | .kv, 0x02 => some [(0, 2), (4, 24)] | .kv, 0x03 => some [(0, 5), (8, 16)]
  | .kv, 0x04 => some [(0, 25)] | .kv, 0x05 => some [(0, 4), (8, 8)] | .kv, 0x06 => some [(0, 4)]
  | .kv, 0x07 => some [(0, 1), (8, 12)]
  | .loom, 0x01 => some [(0, 20)] | .loom, 0x02 => some [] | .loom, 0x03 => some [(0, 4)] | .loom, 0x04 => some [(0, 3)]
  | .safe, 0x01 => some [(0, 1)] | .safe, 0x02 => some [(0, 2)] | .safe, 0x03 => some [(0, 4)]
  | .svc, 0x01 => some [(0, 13)] | .svc, 0x02 => some [(0, 1), (8, 8)] | .svc, 0x03 => some [(0, 2), (4, 4), (8, 8)]
  | .run, n =>
    let listed := match n / 16 with
      | 0 => 5 | 1 => 8 | 2 => 3 | 3 => 5 | 4 => 5 | 5 => 3 | 6 => 3 | 7 => 2 | _ => 0
    if n % 16 < listed then some [(0, 24)] else none
  | _, _ => none

/-- Check 4: OP is defined, reserved fields and FLAGS bits are zero. -/
def envelopeOk (c : CmdClass) (y : Entry) : Bool :=
  match opArgs c y.op with
  | none => false
  | some l =>
    decide (y.flags < 16) && fieldAt y.bytes 0x1C 4 == 0 && ([0, 1].all fun i => bitsOf (y.waitWord i) 62 36 == 0)
    && (List.range 32).all fun i => l.any (fun f => decide (f.1 ≤ i ∧ i < f.1 + f.2)) || y.arg i 1 == 0

/-- Table 9.3. -/
def classOn (c : CmdClass) (e : Nat) : Bool :=
  match c with
  | .cfg | .safe | .svc => e == 0
  | .run | .wgt => decide (1 ≤ e)
  | .kv | .loom => decide (2 ≤ e)

/-- Check 5 (R303): within the 256 entries before the waiting one, within the last 256 taken of another queue, or not yet
taken there; SEQs are modulo 2^32. [log 74 DEDUCED, unsafe] -/
def waitOk (s : State) (r : EntryRef) (w : Nat × Nat) : Bool :=
  let before (n : Nat) : Nat := (n + 2 ^ 32 - w.2) % 2 ^ 32
  s.qExists r.encl w.1 &&
  (if w.1 = r.queue then decide (0 < before (r.seq % 2 ^ 32) ∧ before (r.seq % 2 ^ 32) ≤ 256)
   else
    let b := before (s.queue r.encl w.1).taken
    decide (b ≤ 256 ∨ 2 ^ 31 < b))

/-- A failing entry completes at once with the check's code (R300). -/
def admitFail (s : State) (r : EntryRef) (st : Status) : State :=
  s.endEntry r { status := st, unchecked := true, validity := if ((s.entry r).map (·.cls)) = some 1 then 3 else 0 }

/-- R25: a command addressed to the resident DRIVE enclosure: an entry of its queues, or a restart that names it.
[log 154 DEDUCED, unsafe] -/
def toResident (s : State) (c : CmdClass) (e : Nat) (y : Entry) : Bool :=
  (s.ward.st == .steep || s.ward.st == .rouse || (s.ward.st == .settle && s.ward.resident))
  && (e == 1 || (c == .cfg && y.op == 0x11 && y.arg 0 1 == 1))

/-- Checks 1 to 5 of an entry just taken, with R157 after the state check. [log 67 DESIGN CHOICE, unsafe] -/
def checkEntry (s : State) (r : EntryRef) : State :=
  match s.entry r with
  | none => s
  | some y =>
    match y.cmdClass with
    | none => s.admitFail r .badArg
    | some c =>
      let e := r.encl
      if s.toResident c e y then (s.refuse c .queue .residentTarget e).admitFail r .stateRefused
      else if !accepts s.ward.st c then (s.refuse c .queue .pair e).admitFail r .stateRefused
      else if (s.enclSt e).st = .aborting ∨ (s.enclSt e).st = .aborted then s.admitFail r .accessDenied
      else if !classOn c e then s.admitFail r .badArg
      else if !envelopeOk c y then s.admitFail r .badArg
      else if !y.waitWords.all (s.waitOk r) then s.admitFail r .badArg
      else s

/-! ### Taking an entry (R295 to R298) -/

/-- The steward may take an entry of the queue (R296, R297, R313). -/
def takeable (s : State) (e q : Nat) : Bool :=
  s.queuesServed && s.qExists e q && s.qOn e q && !(s.queue e q).stopped && s.stewardRuns e
  && decide (0 < s.qHeld e q ∧ s.qUnacked e q < s.qSize e q ∧ (s.queue e q).flight.length < 64)

/-- Order of service at a steward (R298): SAFETY first, then the higher PRIO, then round robin from the queue served last.
[log 81 DEDUCED, unsafe] -/
def serveRank (s : State) (e q : Nat) : Nat × Nat × Nat :=
  let c := b2n (!s.isSafety e)
  let p := s.fld (qCfg e q) 5 4
  let last := SMap.get 0 s.turns (8 * gskOf (s.stewardOf e) + 4 * c + p)
  (c, 3 - p, (16 * e + q + 128 - last) % 128)

/-- Another queue of the same steward goes first. [log 81 DEDUCED, unsafe] -/
def outranked (s : State) (e q : Nat) : Bool :=
  let (c, p, t) := s.serveRank e q
  (List.range 8).any fun e' => queueIds.any fun q' =>
    s.takeable e' q' && gskOf (s.stewardOf e') == gskOf (s.stewardOf e) &&
      (let (c', p', t') := s.serveRank e' q'
       decide (c' < c ∨ (c' = c ∧ (p' < p ∨ (p' = p ∧ t' < t)))))

/-- The steward's turn of this class and priority goes to the queue. [log 81 DEDUCED, unsafe] -/
def turnTaken (s : State) (e q : Nat) : State :=
  let k := s.serveRank e q
  { s with turns := SMap.set 0 s.turns (8 * gskOf (s.stewardOf e) + 4 * k.1 + (3 - k.2.1)) (16 * e + q + 1) }

/-- The entry's bytes have been read: it is taken and checked, or the queue stops. -/
def entryRead (e q : Nat) (x : Status × List Byte × State) : State :=
  if x.1 ≠ .ok then x.2.2.qStop e q x.1
  else (x.2.2.takeEntry e q x.2.1).checkEntry { encl := e, queue := q, seq := nextSeq (x.2.2.queue e q) }

/-- An entry is taken from the ring and checked. -/
def entryTake (s : State) (e q : Nat) (ext : List ExtData) (ups : List Upset) : State :=
  if !s.takeable e q ∨ s.outranked e q then s
  else
    entryRead e q ((s.turnTaken e q).readEntry e q ext ups)

/-! ### Start (R303, R304, R309) -/

/-- Entries of the queue taken before the one with this SEQ and still in flight. -/
def earlier (s : State) (r : EntryRef) : List Entry := (s.queue r.encl r.queue).flight.takeWhile (·.seq ≠ r.seq)

/-- The completions that an entry's WAITs name; none while one has not completed. [log 74 DEDUCED, unsafe] -/
def predecessors (y : Entry) : Option (List Past) :=
  y.waits.foldr (fun w acc => match acc, w.done with
    | some l, some p => some (p :: l)
    | _, _ => none) (some [])

/-- Check 6 of the constraints of Table 9.5 marked "only" and of R320 that every operator of a family shares.
[log 73 DEDUCED, unsafe] -/
def familyOk (s : State) (y : Entry) : Bool :=
  decide (y.arg 16 2 ≤ 1) || (if y.op / 16 = 4 then s.ward.st == .steep else !(s.ward.st == .drive))

/-- Check 6 of an SVC entry (R635, R636): the permission, then the action. [log 80 DESIGN CHOICE, unsafe] -/
def admitSvc (s : State) (y : Entry) : Status :=
  let a := y.arg 0 1
  if !s.svcAllowed y.op a then .stateRefused
  else if y.op = 2 ∧ (a = 0 ∨ 2 < a) then .badArg
  else if y.op = 3 ∧ (a = 0 ∨ 6 < a) then .badArg
  else if y.op = 1 ∧ 3 < y.arg 12 1 then .badArg
  else .ok

/-- Check 6 of Table 9.2: as the operation states it. Mode requests, image loads, restarts, LOOM operations and the operators
that a steward places on tiles state theirs with the operation itself. [log 67 DESIGN CHOICE, unsafe] -/
def admission (s : State) (y : Entry) (e : Nat) (ext : List ExtData) (ups : List Upset) : Status × State :=
  match y.cls with
  | 1 =>
    if !s.familyOk y then (.badArg, s)
    else match y.op / 16 with
      | 2 => s.admitAttn y e ext ups
      | 5 => if y.op = 0x50 then s.admitIngest y e ext ups else s.admitFusion y e ext ups
      | 6 => s.admitLse y e ext ups
      | _ => (.ok, s)
  | 2 => s.admitWgt y e ext ups
  | 3 => s.admitKv y e ext ups
  | 5 => (s.admitSafe y, s)
  | 6 => (s.admitSvc y, s)
  | _ => (.ok, s)

/-- An entry starts, or is skipped, or fails check 6. [log 72 DEDUCED, unsafe] -/
def entryStart (s : State) (r : EntryRef) (ext : List ExtData) (ups : List Upset) : State :=
  match s.entry r with
  | none => s
  | some y =>
    let before := s.earlier r
    if y.started ∨ y.ending.isSome ∨ !s.queuesServed ∨ !s.stewardRuns r.encl ∨ !before.all (fun x => x.started || x.ending.isSome)
        ∨ (y.fence ∧ !before.isEmpty) then s
    else match predecessors y with
      | none => s
      | some l =>
        let bad := l.filter fun p => !p.status.permits
        if !bad.isEmpty ∧ !y.runOnFail then
          s.endEntry r { status := bad.foldl (fun st p => st.worse p.status) .ok, skipped := true, validity := 3 }
        else
          let v := l.foldl (fun n p => max n p.validity) (if bad.isEmpty then 0 else 3)
          let t := s.modEntry r fun x => { x with started := true, startNs := s.upNs, validity := v }
          let (st, u) := t.admission y r.encl ext ups
          if st = .ok then u
          else if st = .stateRefused ∧ y.cls = 6 then u.svcRefused r
          else u.admitFail r st

/-! ### Budget (R303, R312) -/

/-- The budget of an entry in µs; none is no limit (Table 9.1, R336, R348). [log 75 DESIGN CHOICE, safe] -/
def budgetOf (y : Entry) : Option Nat :=
  if y.budgetUs ≠ 0 then some y.budgetUs
  else if y.cls = 2 ∧ y.op = 1 then some 600000000
  else if y.cls = 2 ∧ y.op = 3 then some 10000000
  else Config.defaultBudgetUs y.cls y.op

/-- When the budget of an entry began: at its start, or at its taking when it had to wait on another queue (R303).
[log 75 DESIGN CHOICE, safe] -/
def budgetFrom (y : Entry) : Option Nat :=
  if y.early then some y.takenNs else if y.started then some y.startNs else none

/-- An entry's budget runs out: it ends with TIMEOUT, and what runs for it stops. [log 76 DESIGN CHOICE, unsafe] -/
def budgetEnd (s : State) (r : EntryRef) (y : Entry) (iters : Nat) (ext : List ExtData) (ups : List Upset) : State :=
  let job := (s.lse.ready ++ s.lse.solver.toList ++ s.lse.suspended.toList).find? fun j => j.r = r ∧ j.kind ≠ .ego
  let (result, s1) := match job with
    | some j => s.solverBudget j iters ext ups
    | none => (0, s)
  let s2 := s1.finish r .timeout result
  let s3 := { s2 with evicts := s2.evicts.filter fun v => !(v.encl == r.encl && v.queue == r.queue && v.seq == r.seq) }
  s3.release r y .timeout

/-! ### Operators that a steward carries out by kernels (R316, R318, R319) -/

/-- Check 6 and placement of an operator on a list of tiles: `need` is its minimum, `models` the models it names (R318, R344).
While a tile of them is busy the operator waits. [log 70 DESIGN CHOICE, unsafe] -/
def place (s : State) (r : EntryRef) (ts models : List Nat) (need : Nat) : State :=
  if ts.length < max 1 need then s.admitFail r (.op 0)
  else if !s.bindable models then s.admitFail r slotNotReady
  else if ts.any s.tileTaken then s
  else (s.bindModels r models).modEntry r fun y => { y with tiles := tileMask ts }

/-- An operator of the matrix, vector or movement family that has started: placed once.
[log 67 DESIGN CHOICE, unsafe; 69 DESIGN CHOICE, safe] -/
def opPlace (s : State) (r : EntryRef) (op : Nat) (models : List Nat) (need : Nat) : State :=
  match s.running r 1 op with
  | none => s
  | some y => if y.tiles ≠ 0 then s else s.place r (s.tilesFor r.encl (y.arg 8 8)) models need

/-- One place in the order of K blocks. -/
def kInsert (x : Nat × Nat) : List (Nat × Nat) → List (Nat × Nat)
  | [] => [x]
  | y :: l => if x.1 ≤ y.1 then x :: y :: l else y :: kInsert x l

/-- Partial sums in ascending order of K block (R319). -/
def kOrder (l : List (Nat × Nat)) : List (Nat × Nat) := l.foldr kInsert []

/-- The sum of one element of a K split (R319): INT32 modulo 2^32, or FP32 under R288. -/
def kAdd (isInt : Bool) (l : List Nat) : Nat × Nat :=
  match l with
  | [] => (0, 0)
  | x :: rest => rest.foldl (fun (acc : Nat × Nat) v =>
      if isInt then ((acc.1 + v) % 2 ^ 32, acc.2)
      else let (w, fl) := vuAdd acc.1 v; (w, acc.2 ||| fl)) (x, 0)

/-- A flipped path of a K split's additions: the residue code of the vector unit covers the integer ones (R226, R227, R319); a
result computed from a flipped path is a free value. -/
def kFlip (s : State) (k : KSum) (l : List Nat) (f : Nat × Nat) : List Nat × State :=
  let v := l.getD f.1 0
  let u := if k.isInt ∧ (v ^^^ f.2) % 3 ≠ v % 3 then s.residueMismatch k.tile 2 (f.1 % 64) else s
  let (w, u') := u.draw
  (l.set f.1 (w % 2 ^ 32), u')

/-- The partial sums of a K split are added on a tile of the operator, whose flags they raise. [log 69 DESIGN CHOICE, safe] -/
def kSum (s : State) (r : EntryRef) (y : Entry) (k : KSum) : State :=
  if !bitOf y.tiles k.tile ∨ y.split ≠ 3 then s
  else
    let (bs, s1) := (kOrder k.parts).foldl (fun (acc : List (List Byte) × State) p =>
      let (d, u) := acc.2.tsramRead k.tile p.2 (4 * k.n) []
      (acc.1 ++ [d], u)) ([], s)
    let sums := (List.range k.n).map fun i => kAdd k.isInt (bs.map fun b => fieldAt b (4 * i) 4)
    let fl := sums.foldl (fun f v => f ||| v.2) 0
    let (vs, s2) := k.flips.foldl (fun (acc : List Nat × State) f => acc.2.kFlip k acc.1 f) (sums.map (·.1), s1)
    let s3 := (s2.tsramWrite k.tile k.dst (vs.flatMap (leBytes 4)) []).fpFlags k.tile fl
    s3.contribute r .ok 0 fl false

/-- A matrix operator: placement with its split, and the sums of a K split. -/
def matrixOp (s : State) (r : EntryRef) (op : Nat) (models : List Nat) (need split : Nat) (sums : List KSum) : State :=
  match s.running r 1 op with
  | none => s
  | some y =>
    if y.tiles ≠ 0 then sums.foldl (fun t k => t.kSum r y k) s
    else (s.modEntry r fun z => { z with split := split }).opPlace r op models need

/-- A compiled graph: its serial is the one in force for its enclosure; in DRIVE it runs on the tiles it names (R316, R318). -/
def graphOp (s : State) (r : EntryRef) (op : Nat) (models : List Nat) (need serial named : Nat) : State :=
  match s.running r 1 op with
  | none => s
  | some y =>
    if y.tiles ≠ 0 then s
    else if some serial ≠ (s.imgOf r.encl).map (·.serial) then s.admitFail r (.op 0x20)
    else
      let own := if s.ward.st = .drive then (s.tilesFor r.encl 0).filter (bitOf named) else s.tilesFor r.encl (y.arg 8 8)
      s.place r own models need

/-! ### The end of such an operator -/

/-- No kernel of the entry runs on a tile. [log 71 DEDUCED, safe] -/
def noKernel (s : State) (r : EntryRef) : Bool :=
  (List.range 64).all fun t => match (s.tile t).launch with
    | some l => !(l.encl == r.encl && l.queue == r.queue && l.seq == r.seq)
    | none => true

/-- The header of a result record (Table 9.7): LEVEL is 0, and a DEGRADED input counts as STALE, since the byte takes VALID, STALE
or INVALID (R13, R14). [log 69 DESIGN CHOICE, safe; 113 DEDUCED, unsafe] -/
def recordHdr (s : State) (y : Entry) (validity : Nat) (st : Status) : List Byte :=
  leBytes 1 (if validity = 1 then 2 else validity) ++ leBytes 1 st.code ++ leBytes 1 y.fpsum ++ leBytes 1 0 ++ leBytes 4 y.seq ++ leBytes 8 s.tsu.time

/-- The headers of an operation's result records are written at the places its descriptor gives (R305). -/
def writeHdrs (s : State) (r : EntryRef) (y : Entry) (st0 : Status) (records : List Nat) (ext : List ExtData) (ups : List Upset) :
    Status × State :=
  let h := s.recordHdr y (max y.validity (ownValidity st0)) st0
  records.foldl (fun (acc : Status × State) a =>
    if acc.1 ≠ st0 then acc
    else let (w, u) := acc.2.writeRun (s.stewardOf r.encl) a h ext ups; (acc.1.worse w, u)) (st0, s)

/-- A placed operator whose kernels have all ended has ended: POISONED when one was, else OK (R311); with RESULT_HDR the
headers of its result records are written. A RUN_GRAPH_CONT goes on. Any other RUN operation has them written when it has ended
with a code that lets its output stand. [log 71 DEDUCED, safe; 79 DESIGN CHOICE, unsafe] -/
def opEnds (s : State) (r : EntryRef) (records : List Nat) (ext : List ExtData) (ups : List Upset) : State :=
  match s.entry r with
  | none => s
  | some y =>
    match y.ending with
    | some d =>
      if y.cls = 1 ∧ y.started ∧ y.resultHdr ∧ d.status.permits ∧ records ≠ [] then
        let (st, t) := s.writeHdrs r y d.status records ext ups
        t.modEntry r fun z => { z with ending := some { d with status := st, validity := max d.validity (ownValidity st) } }
      else s
    | none =>
      if !y.byKernels ∨ y.op = 0x71 ∨ y.tiles = 0 ∨ !s.noKernel r then s
      else
        let st0 : Status := if y.poisoned then .poisoned else .ok
        if !y.resultHdr then s.finish r st0 0
        else
          let (st, t) := s.writeHdrs r y st0 records ext ups
          (t.contribute r .ok 0 0 (!records.isEmpty)).finish r st 0

end State

open State

/-- ENTRY_TAKE (R295 to R301): the steward takes the next entry of a queue and checks it. -/
def execEntryTake (e q : Nat) (ext : List ExtData) (upsets : List Upset) (s : State) : Out :=
  .next (s.entryTake (e % 8) (q % 16) ext upsets)

/-- ENTRY_START (R303, R304, R309): an admitted entry starts, or is skipped. -/
def execEntryStart (r : EntryRef) (ext : List ExtData) (upsets : List Upset) (s : State) : Out :=
  .next (s.entryStart r ext upsets)

/-- ENTRY_COMPLETE (R302): an operation ends and its record is written. -/
def execEntryComplete (r : EntryRef) (records : List Nat) (ext : List ExtData) (upsets : List Upset) (s : State) : Out :=
  .next (if s.queuesServed ∧ s.stewardRuns r.encl then (s.opEnds r records ext upsets).complete r ext upsets else s)

/-- ENTRY_BUDGET_EXPIRY (R303, R312): BUDGET_US after its start, or after it was taken where it had to wait on another queue, an
entry that has not ended completes with TIMEOUT, a bundle solve after `iters` iterations. -/
def execEntryBudgetExpiry (r : EntryRef) (iters : Nat) (ext : List ExtData) (upsets : List Upset) (s : State) : Out :=
  .next (match s.entry r with
    | none => s
    | some y =>
      match budgetOf y with
      | none => s
      | some us =>
        match budgetFrom y, y.ending with
        | some ns, none =>
          let t := s.elapseTo (ns + 1000 * us)
          if y.started then t.budgetEnd r y iters ext upsets else t.finish r .timeout 0
        | _, _ => s)

/-- GEMM (R316, R318, R319). [log 68 PRESUMED, unsafe] -/
def execGemm (r : EntryRef) (models : List Nat) (need split : Nat) (sums : List KSum) (s : State) : Out :=
  .next (s.matrixOp r 0x00 models need split sums)

/-- GEMM_BIAS_ACT (R316, R318, R319). -/
def execGemmBiasAct (r : EntryRef) (models : List Nat) (need split : Nat) (sums : List KSum) (s : State) : Out :=
  .next (s.matrixOp r 0x01 models need split sums)

/-- BATCHED_GEMM (R316, R318, R319). -/
def execBatchedGemm (r : EntryRef) (models : List Nat) (need split : Nat) (sums : List KSum) (s : State) : Out :=
  .next (s.matrixOp r 0x02 models need split sums)

/-- CONV2D (R316, R318, R319). -/
def execConv2d (r : EntryRef) (models : List Nat) (need split : Nat) (sums : List KSum) (s : State) : Out :=
  .next (s.matrixOp r 0x03 models need split sums)

/-- GROUPED_CONV (R316, R318, R319). -/
def execGroupedConv (r : EntryRef) (models : List Nat) (need split : Nat) (sums : List KSum) (s : State) : Out :=
  .next (s.matrixOp r 0x04 models need split sums)

/-- ACTIVATION (R316, R318). -/
def execActivation (r : EntryRef) (models : List Nat) (need : Nat) (s : State) : Out := .next (s.opPlace r 0x10 models need)

/-- LAYER_NORM (R316, R318). -/
def execLayerNorm (r : EntryRef) (models : List Nat) (need : Nat) (s : State) : Out := .next (s.opPlace r 0x11 models need)

/-- RMS_NORM (R316, R318). -/
def execRmsNorm (r : EntryRef) (models : List Nat) (need : Nat) (s : State) : Out := .next (s.opPlace r 0x12 models need)

/-- SOFTMAX (R316, R318). -/
def execSoftmax (r : EntryRef) (models : List Nat) (need : Nat) (s : State) : Out := .next (s.opPlace r 0x13 models need)

/-- CONVERT (R316, R318). -/
def execConvert (r : EntryRef) (models : List Nat) (need : Nat) (s : State) : Out := .next (s.opPlace r 0x14 models need)

/-- QUANTIZE (R316, R318). -/
def execQuantize (r : EntryRef) (models : List Nat) (need : Nat) (s : State) : Out := .next (s.opPlace r 0x15 models need)

/-- REDUCE (R316, R318). -/
def execReduce (r : EntryRef) (models : List Nat) (need : Nat) (s : State) : Out := .next (s.opPlace r 0x16 models need)

/-- ELEMENTWISE (R316, R318). -/
def execElementwise (r : EntryRef) (models : List Nat) (need : Nat) (s : State) : Out := .next (s.opPlace r 0x17 models need)

/-- COPY (R316, R318). -/
def execCopy (r : EntryRef) (models : List Nat) (need : Nat) (s : State) : Out := .next (s.opPlace r 0x30 models need)

/-- TRANSPOSE (R316, R318). -/
def execTranspose (r : EntryRef) (models : List Nat) (need : Nat) (s : State) : Out := .next (s.opPlace r 0x31 models need)

/-- GATHER (R316, R318). -/
def execGather (r : EntryRef) (models : List Nat) (need : Nat) (s : State) : Out := .next (s.opPlace r 0x32 models need)

/-- SCATTER (R316, R318). -/
def execScatter (r : EntryRef) (models : List Nat) (need : Nat) (s : State) : Out := .next (s.opPlace r 0x33 models need)

/-- FILL (R316, R318). -/
def execFill (r : EntryRef) (models : List Nat) (need : Nat) (s : State) : Out := .next (s.opPlace r 0x34 models need)

/-- RUN_GRAPH (R316, R318). -/
def execRunGraph (r : EntryRef) (models : List Nat) (need serial named : Nat) (s : State) : Out :=
  .next (s.graphOp r 0x70 models need serial named)

/-- RUN_GRAPH_CONT (R316, R318, R346): it runs until a mode change or a reset ends it. -/
def execRunGraphCont (r : EntryRef) (models : List Nat) (need serial named : Nat) (s : State) : Out :=
  .next (s.graphOp r 0x71 models need serial named)

end Sys2Proof.Machine
end

