-- ==== Sys2Proof/Machine/Dispatch.lean ====
section
/-! DEFINITION. The dispatch: one arm per command, each a direct call of its meaning. -/

namespace Sys2Proof.Machine

/-- The effect of a command on everything but the queue of waiting commands. [log 4 DEDUCED, safe] -/
def exec (i : Instr) (s : State) : Host.Outcome State Fault Refusal :=
  match i with
  | .powerOnReset => Sys2Proof.Machine.execPowerOnReset s
  | .lossOfVddAon => Sys2Proof.Machine.execLossOfVddAon s
  | .coreBor => Sys2Proof.Machine.execCoreBor s
  | .ioBor => Sys2Proof.Machine.execIoBor s
  | .resetNAssert lowNs => Sys2Proof.Machine.execResetNAssert lowNs s
  | .thermalTrip => Sys2Proof.Machine.execThermalTrip s
  | .resetRelease strap => Sys2Proof.Machine.execResetRelease strap s
  | .dramTrainingDone densities fails => Sys2Proof.Machine.execDramTrainingDone densities fails s
  | .dramInitDone => Sys2Proof.Machine.execDramInitDone s
  | .bootImageLoaded => Sys2Proof.Machine.execBootImageLoaded s
  | .proofComplete us => Sys2Proof.Machine.execProofComplete us s
  | .proofCheckerTimeout step => Sys2Proof.Machine.execProofCheckerTimeout step s
  | .railValidTimeout rail => Sys2Proof.Machine.execRailValidTimeout rail s
  | .railRetry => Sys2Proof.Machine.execRailRetry s
  | .vidStep up => Sys2Proof.Machine.execVidStep up s
  | .aonXtalSwitch => Sys2Proof.Machine.execAonXtalSwitch s
  | .wardenWatchdogExpiry => Sys2Proof.Machine.execWardenWatchdogExpiry s
  | .softwareFullReset who v => Sys2Proof.Machine.execSoftwareFullReset who v s
  | .tempSample readings => Sys2Proof.Machine.execTempSample readings s
  | .powerCapCheck watts => Sys2Proof.Machine.execPowerCapCheck watts s
  | .gasketDrain who g => Sys2Proof.Machine.execGasketDrain who g s
  | .gasketOpen who g => Sys2Proof.Machine.execGasketOpen who g s
  | .blockReset who g => Sys2Proof.Machine.execBlockReset who g s
  | .blockResetRelease g => Sys2Proof.Machine.execBlockResetRelease g s
  | .gasketDrainComplete g => Sys2Proof.Machine.execGasketDrainComplete g s
  | .drainTimeout g => Sys2Proof.Machine.execDrainTimeout g s
  | .parkSample a b => Sys2Proof.Machine.execParkSample a b s
  | .parkDiscFault level => Sys2Proof.Machine.execParkDiscFault level s
  | .parkClearReady parked => Sys2Proof.Machine.execParkClearReady parked s
  | .wakeInSample high => Sys2Proof.Machine.execWakeInSample high s
  | .wakeDriveIntent => Sys2Proof.Machine.execWakeDriveIntent s
  | .settle src pre => Sys2Proof.Machine.execSettle src pre s
  | .steepDeclared present nvme speed width ext upsets => Sys2Proof.Machine.execSteepDeclared present nvme speed width ext upsets s
  | .settleTimeout => Sys2Proof.Machine.execSettleTimeout s
  | .rouse src pre => Sys2Proof.Machine.execRouse src pre s
  | .rouseTimeout => Sys2Proof.Machine.execRouseTimeout s
  | .serviceEnter src pre ext upsets => Sys2Proof.Machine.execServiceEnter src pre ext upsets s
  | .standby src pre ext upsets => Sys2Proof.Machine.execStandby src pre ext upsets s
  | .epochBoundary ext upsets => Sys2Proof.Machine.execEpochBoundary ext upsets s
  | .imageLoad r ext upsets => Sys2Proof.Machine.execImageLoad r ext upsets s
  | .enclRestart r => Sys2Proof.Machine.execEnclRestart r s
  | .leafLoad r ext upsets => Sys2Proof.Machine.execLeafLoad r ext upsets s
  | .leafLoadEnd k ext upsets => Sys2Proof.Machine.execLeafLoadEnd k ext upsets s
  | .stagingComplete k layer r fills ext upsets => Sys2Proof.Machine.execStagingComplete k layer r fills ext upsets s
  | .pour r => Sys2Proof.Machine.execPour r s
  | .evict r => Sys2Proof.Machine.execEvict r s
  | .evictRelease k => Sys2Proof.Machine.execEvictRelease k s
  | .poolReset r ext upsets => Sys2Proof.Machine.execPoolReset r ext upsets s
  | .seqOpen r ext upsets => Sys2Proof.Machine.execSeqOpen r ext upsets s
  | .seqFork r ext upsets => Sys2Proof.Machine.execSeqFork r ext upsets s
  | .seqAppend r ext upsets => Sys2Proof.Machine.execSeqAppend r ext upsets s
  | .appendPagesGranted pid ext upsets => Sys2Proof.Machine.execAppendPagesGranted pid ext upsets s
  | .appendWaitExpiry pid => Sys2Proof.Machine.execAppendWaitExpiry pid s
  | .seqTrim r ext upsets => Sys2Proof.Machine.execSeqTrim r ext upsets s
  | .seqClose r ext upsets => Sys2Proof.Machine.execSeqClose r ext upsets s
  | .prefixQuery r ext upsets => Sys2Proof.Machine.execPrefixQuery r ext upsets s
  | .join r => Sys2Proof.Machine.execJoin r s
  | .leave r => Sys2Proof.Machine.execLeave r s
  | .votePropose r => Sys2Proof.Machine.execVotePropose r s
  | .voteCast r => Sys2Proof.Machine.execVoteCast r s
  | .proofRun r => Sys2Proof.Machine.execProofRun r s
  | .faultClear r => Sys2Proof.Machine.execFaultClear r s
  | .inject r => Sys2Proof.Machine.execInject r s
  | .update r readBack ext upsets => Sys2Proof.Machine.execUpdate r readBack ext upsets s
  | .debugOpen r => Sys2Proof.Machine.execDebugOpen r s
  | .fuseDump r ext upsets => Sys2Proof.Machine.execFuseDump r ext upsets s
  | .advanceRollback r readBack => Sys2Proof.Machine.execAdvanceRollback r readBack s
  | .revokeSlot r readBack => Sys2Proof.Machine.execRevokeSlot r readBack s
  | .provisionSlot r readBack ext upsets => Sys2Proof.Machine.execProvisionSlot r readBack ext upsets s
  | .serviceSlot r readBack => Sys2Proof.Machine.execServiceSlot r readBack s
  | .sealDebug r readBack => Sys2Proof.Machine.execSealDebug r readBack s
  | .lifecycle r readBack => Sys2Proof.Machine.execLifecycle r readBack s
  | .gemm r models need split sums => Sys2Proof.Machine.execGemm r models need split sums s
  | .gemmBiasAct r models need split sums => Sys2Proof.Machine.execGemmBiasAct r models need split sums s
  | .batchedGemm r models need split sums => Sys2Proof.Machine.execBatchedGemm r models need split sums s
  | .conv2d r models need split sums => Sys2Proof.Machine.execConv2d r models need split sums s
  | .groupedConv r models need split sums => Sys2Proof.Machine.execGroupedConv r models need split sums s
  | .activation r models need => Sys2Proof.Machine.execActivation r models need s
  | .layerNorm r models need => Sys2Proof.Machine.execLayerNorm r models need s
  | .rmsNorm r models need => Sys2Proof.Machine.execRmsNorm r models need s
  | .softmax r models need => Sys2Proof.Machine.execSoftmax r models need s
  | .convert r models need => Sys2Proof.Machine.execConvert r models need s
  | .quantize r models need => Sys2Proof.Machine.execQuantize r models need s
  | .reduce r models need => Sys2Proof.Machine.execReduce r models need s
  | .elementwise r models need => Sys2Proof.Machine.execElementwise r models need s
  | .prefillAttn r ext upsets accFlips => Sys2Proof.Machine.execPrefillAttn r ext upsets accFlips s
  | .decodeAttn r ext upsets accFlips => Sys2Proof.Machine.execDecodeAttn r ext upsets accFlips s
  | .retrievalAttn r ext upsets accFlips => Sys2Proof.Machine.execRetrievalAttn r ext upsets accFlips s
  | .partialMerge r head ext upsets => Sys2Proof.Machine.execPartialMerge r head ext upsets s
  | .copy r models need => Sys2Proof.Machine.execCopy r models need s
  | .transpose r models need => Sys2Proof.Machine.execTranspose r models need s
  | .gather r models need => Sys2Proof.Machine.execGather r models need s
  | .scatter r models need => Sys2Proof.Machine.execScatter r models need s
  | .fill r models need => Sys2Proof.Machine.execFill r models need s
  | .allReduce r d ext upsets => Sys2Proof.Machine.execAllReduce r d ext upsets s
  | .allGather r d ext upsets => Sys2Proof.Machine.execAllGather r d ext upsets s
  | .reduceScatter r d ext upsets => Sys2Proof.Machine.execReduceScatter r d ext upsets s
  | .broadcast r d ext upsets => Sys2Proof.Machine.execBroadcast r d ext upsets s
  | .barrier r => Sys2Proof.Machine.execBarrier r s
  | .ingestBind r ext upsets => Sys2Proof.Machine.execIngestBind r ext upsets s
  | .fuseEpoch r ext upsets => Sys2Proof.Machine.execFuseEpoch r ext upsets s
  | .gridExport r ext upsets => Sys2Proof.Machine.execGridExport r ext upsets s
  | .lseSolve r ext upsets => Sys2Proof.Machine.execLseSolve r ext upsets s
  | .lseBundle r ext upsets => Sys2Proof.Machine.execLseBundle r ext upsets s
  | .assign r ext upsets => Sys2Proof.Machine.execAssign r ext upsets s
  | .runGraph r models need serial named => Sys2Proof.Machine.execRunGraph r models need serial named s
  | .runGraphCont r models need serial named => Sys2Proof.Machine.execRunGraphCont r models need serial named s
  | .queueDoorbell who e q tail => Sys2Proof.Machine.execQueueDoorbell who e q tail s
  | .entryTake e q ext upsets => Sys2Proof.Machine.execEntryTake e q ext upsets s
  | .entryStart r ext upsets => Sys2Proof.Machine.execEntryStart r ext upsets s
  | .entryComplete r records ext upsets => Sys2Proof.Machine.execEntryComplete r records ext upsets s
  | .irqTimeExpiry e q => Sys2Proof.Machine.execIrqTimeExpiry e q s
  | .entryBudgetExpiry r iters ext upsets => Sys2Proof.Machine.execEntryBudgetExpiry r iters ext upsets s
  | .queueResume who e q => Sys2Proof.Machine.execQueueResume who e q s
  | .queueEnable who e q cfg => Sys2Proof.Machine.execQueueEnable who e q cfg s
  | .queueDisable who e q cfg => Sys2Proof.Machine.execQueueDisable who e q cfg s
  | .completionAck who e q chead => Sys2Proof.Machine.execCompletionAck who e q chead s
  | .kernelLaunch t k r entry w0 w0Len w1 w1Len model budgetUs fills => Sys2Proof.Machine.execKernelLaunch t k r entry w0 w0Len w1 w1Len model budgetUs fills s
  | .teOperation t op upsets accFlips => Sys2Proof.Machine.execTeOperation t op upsets accFlips s
  | .vuInstruction t op upsets regFlips pathFlips => Sys2Proof.Machine.execVuInstruction t op upsets regFlips pathFlips s
  | .fence t => Sys2Proof.Machine.execFence t s
  | .fencePf t => Sys2Proof.Machine.execFencePf t s
  | .bufferSwitch t next => Sys2Proof.Machine.execBufferSwitch t next s
  | .fillComplete t ext upsets => Sys2Proof.Machine.execFillComplete t ext upsets s
  | .kernelComplete t => Sys2Proof.Machine.execKernelComplete t s
  | .kernelBudgetExpiry t => Sys2Proof.Machine.execKernelBudgetExpiry t s
  | .kernelAbort t => Sys2Proof.Machine.execKernelAbort t s
  | .abortDrained t => Sys2Proof.Machine.execAbortDrained t s
  | .tileCntClrProof t => Sys2Proof.Machine.execTileCntClrProof t s
  | .tileCntClrVu t => Sys2Proof.Machine.execTileCntClrVu t s
  | .tileCntClrPf t => Sys2Proof.Machine.execTileCntClrPf t s
  | .tileCntClrBank t => Sys2Proof.Machine.execTileCntClrBank t s
  | .weaveRead who addr len ext upsets => Sys2Proof.Machine.execWeaveRead who addr len ext upsets s
  | .weaveWrite who addr data poison macUp ext upsets => Sys2Proof.Machine.execWeaveWrite who addr data poison macUp ext upsets s
  | .weaveAtomic who addr size op x y upsets => Sys2Proof.Machine.execWeaveAtomic who addr size op x y upsets s
  | .weaveResponse id parity => Sys2Proof.Machine.execWeaveResponse id parity s
  | .leaseAcquire who addr upsets => Sys2Proof.Machine.execLeaseAcquire who addr upsets s
  | .leaseRenew who addr gen upsets => Sys2Proof.Machine.execLeaseRenew who addr gen upsets s
  | .leaseRelease who addr gen upsets => Sys2Proof.Machine.execLeaseRelease who addr gen upsets s
  | .leaseExpiry l => Sys2Proof.Machine.execLeaseExpiry l s
  | .seizureOrder k => Sys2Proof.Machine.execSeizureOrder k s
  | .seizureAckTimeout k => Sys2Proof.Machine.execSeizureAckTimeout k s
  | .wheelSlot => Sys2Proof.Machine.execWheelSlot s
  | .weavePeakClr who => Sys2Proof.Machine.execWeavePeakClr who s
  | .gskDenyClr who mask => Sys2Proof.Machine.execGskDenyClr who mask s
  | .wardRefuseClr who mask => Sys2Proof.Machine.execWardRefuseClr who mask s
  | .discClear who => Sys2Proof.Machine.execDiscClear who s
  | .scrubVisit array upsets => Sys2Proof.Machine.execScrubVisit array upsets s
  | .ceRate m => Sys2Proof.Machine.execCeRate m s
  | .mcCntClr who m => Sys2Proof.Machine.execMcCntClr who m s
  | .refreshRatePoll m rate hot => Sys2Proof.Machine.execRefreshRatePoll m rate hot s
  | .zqCalibration m => Sys2Proof.Machine.execZqCalibration m s
  | .keySlotLoad k => Sys2Proof.Machine.execKeySlotLoad k s
  | .moverLeaseAcquire who m c => Sys2Proof.Machine.execMoverLeaseAcquire who m c s
  | .moverLeaseRenew who m c gen => Sys2Proof.Machine.execMoverLeaseRenew who m c gen s
  | .moverLeaseRelease who m c gen => Sys2Proof.Machine.execMoverLeaseRelease who m c gen s
  | .moverDoorbell who m c tail => Sys2Proof.Machine.execMoverDoorbell who m c tail s
  | .descriptorStart m c op ext upsets => Sys2Proof.Machine.execDescriptorStart m c op ext upsets s
  | .descriptorComplete m c => Sys2Proof.Machine.execDescriptorComplete m c s
  | .moverResume who m c => Sys2Proof.Machine.execMoverResume who m c s
  | .lseJobStart assigner => Sys2Proof.Machine.execLseJobStart assigner s
  | .lseJobSuspend => Sys2Proof.Machine.execLseJobSuspend s
  | .lseJobComplete assigner flips differ ext upsets => Sys2Proof.Machine.execLseJobComplete assigner flips differ ext upsets s
  | .egoMeasPoll ext upsets => Sys2Proof.Machine.execEgoMeasPoll ext upsets s
  | .egoDeadline ext upsets => Sys2Proof.Machine.execEgoDeadline ext upsets s
  | .lseCntClr who => Sys2Proof.Machine.execLseCntClr who s
  | .csi2FrameStart port vc dt backlog => Sys2Proof.Machine.execCsi2FrameStart port vc dt backlog s
  | .csi2LongPacket port vc dataType data headerOk crcOk => Sys2Proof.Machine.execCsi2LongPacket port vc dataType data headerOk crcOk s
  | .csi2FrameEnd port vc ext upsets => Sys2Proof.Machine.execCsi2FrameEnd port vc ext upsets s
  | .ethernetFrameRx m frame fcsOk dt backlog ext upsets => Sys2Proof.Machine.execEthernetFrameRx m frame fcsOk dt backlog ext upsets s
  | .imuDrdy n dt => Sys2Proof.Machine.execImuDrdy n dt s
  | .imuTransferDone n data backlog ext upsets => Sys2Proof.Machine.execImuTransferDone n data backlog ext upsets s
  | .canFrameRx n ident fd crcOk own data dt backlog ext upsets => Sys2Proof.Machine.execCanFrameRx n ident fd crcOk own data dt backlog ext upsets s
  | .streamSilent k => Sys2Proof.Machine.execStreamSilent k s
  | .ppsInEdge dt => Sys2Proof.Machine.execPpsInEdge dt s
  | .gptpSyncTimer => Sys2Proof.Machine.execGptpSyncTimer s
  | .pdelayTimer => Sys2Proof.Machine.execPdelayTimer s
  | .tsuSourceLost => Sys2Proof.Machine.execTsuSourceLost s
  | .tsuHoldoverExpiry => Sys2Proof.Machine.execTsuHoldoverExpiry s
  | .ppsOutPulse => Sys2Proof.Machine.execPpsOutPulse s
  | .tsuTimeLoRead who => Sys2Proof.Machine.execTsuTimeLoRead who s
  | .strCntClrPorts who => Sys2Proof.Machine.execStrCntClrPorts who s
  | .strCntClrStreams who => Sys2Proof.Machine.execStrCntClrStreams who s
  | .fusionFrameCommit inp ext upsets => Sys2Proof.Machine.execFusionFrameCommit inp ext upsets s
  | .frameDeadline inp ext upsets => Sys2Proof.Machine.execFrameDeadline inp ext upsets s
  | .fuCntClr who => Sys2Proof.Machine.execFuCntClr who s
  | .faultReport tagged => Sys2Proof.Machine.execFaultReport tagged s
  | .safetyFramePeriod busFree readBack => Sys2Proof.Machine.execSafetyFramePeriod busFree readBack s
  | .safeFrameTxLate => Sys2Proof.Machine.execSafeFrameTxLate s
  | .romSafetyFrame => Sys2Proof.Machine.execRomSafetyFrame s
  | .faultPinMismatch => Sys2Proof.Machine.execFaultPinMismatch s
  | .stewardHang k => Sys2Proof.Machine.execStewardHang k s
  | .clockMonWindow d count => Sys2Proof.Machine.execClockMonWindow d count s
  | .pllUnlock => Sys2Proof.Machine.execPllUnlock s
  | .voltMon rail => Sys2Proof.Machine.execVoltMon rail s
  | .safeCntClr who => Sys2Proof.Machine.execSafeCntClr who s
  | .randomHealthFail => Sys2Proof.Machine.execRandomHealthFail s
  | .commitHoldExpiry => Sys2Proof.Machine.execCommitHoldExpiry s
  | .cozyEntryComplete cycles => Sys2Proof.Machine.execCozyEntryComplete cycles s
  | .cozyExitComplete cycles => Sys2Proof.Machine.execCozyExitComplete cycles s
  | .loomRead via ext upsets => Sys2Proof.Machine.execLoomRead via ext upsets s
  | .loomWrite via macUp ext upsets => Sys2Proof.Machine.execLoomWrite via macUp ext upsets s
  | .loomAtomic via upsets => Sys2Proof.Machine.execLoomAtomic via upsets s
  | .loomMsg via upsets => Sys2Proof.Machine.execLoomMsg via upsets s
  | .loomRlease via => Sys2Proof.Machine.execLoomRlease via s
  | .loomColl r cop size count down chunk data poison token ext upsets => Sys2Proof.Machine.execLoomColl r cop size count down chunk data poison token ext upsets s
  | .loomRdata via => Sys2Proof.Machine.execLoomRdata via s
  | .loomRstat via => Sys2Proof.Machine.execLoomRstat via s
  | .loomRequestTimeout tid => Sys2Proof.Machine.execLoomRequestTimeout tid s
  | .routeSwitch n => Sys2Proof.Machine.execRouteSwitch n s
  | .hello p loomId node tunnel => Sys2Proof.Machine.execHello p loomId node tunnel s
  | .joinReq j => Sys2Proof.Machine.execJoinReq j s
  | .joinTimeout => Sys2Proof.Machine.execJoinTimeout s
  | .view seq coord members links groups => Sys2Proof.Machine.execView seq coord members links groups s
  | .heartbeatTimer => Sys2Proof.Machine.execHeartbeatTimer s
  | .heartbeat from_ => Sys2Proof.Machine.execHeartbeat from_ s
  | .heartbeatLoss n groups => Sys2Proof.Machine.execHeartbeatLoss n groups s
  | .claim n => Sys2Proof.Machine.execClaim n s
  | .claimWindowEnd => Sys2Proof.Machine.execClaimWindowEnd s
  | .electionTimeout => Sys2Proof.Machine.execElectionTimeout s
  | .leaveMessage n groups => Sys2Proof.Machine.execLeaveMessage n groups s
  | .leaveTimeout => Sys2Proof.Machine.execLeaveTimeout s
  | .propose coord id => Sys2Proof.Machine.execPropose coord id s
  | .voteTimeout => Sys2Proof.Machine.execVoteTimeout s
  | .withdraw n id => Sys2Proof.Machine.execWithdraw n id s
  | .commit id => Sys2Proof.Machine.execCommit id s
  | .voteAbort id => Sys2Proof.Machine.execVoteAbort id s
  | .remoteReset from_ loomId => Sys2Proof.Machine.execRemoteReset from_ loomId s
  | .loomRresetWrite who v => Sys2Proof.Machine.execLoomRresetWrite who v s
  | .abortGroup group status => Sys2Proof.Machine.execAbortGroup group status s
  | .loomCntClr who => Sys2Proof.Machine.execLoomCntClr who s
  | .tunnelFrameRx frame csumOk tagged => Sys2Proof.Machine.execTunnelFrameRx frame csumOk tagged s
  | .tunnelFrameSend k => Sys2Proof.Machine.execTunnelFrameSend k s
  | .tunnelNullFlit k => Sys2Proof.Machine.execTunnelNullFlit k s
  | .tunnelSessionIdle k => Sys2Proof.Machine.execTunnelSessionIdle k s
  | .tunnelSessionDead k => Sys2Proof.Machine.execTunnelSessionDead k s
  | .detectBurst p => Sys2Proof.Machine.execDetectBurst p s
  | .partnerDetected p => Sys2Proof.Machine.execPartnerDetected p s
  | .trainingTimeout p => Sys2Proof.Machine.execTrainingTimeout p s
  | .flitTx p => Sys2Proof.Machine.execFlitTx p s
  | .flitRx p wire => Sys2Proof.Machine.execFlitRx p wire s
  | .replayTimeout p => Sys2Proof.Machine.execReplayTimeout p s
  | .blockLockLoss p lane => Sys2Proof.Machine.execBlockLockLoss p lane s
  | .laneErrorThreshold p lane errs => Sys2Proof.Machine.execLaneErrorThreshold p lane errs s
  | .flitSilence p => Sys2Proof.Machine.execFlitSilence p s
  | .retrainCmd p => Sys2Proof.Machine.execRetrainCmd p s
  | .retrainTimeout p => Sys2Proof.Machine.execRetrainTimeout p s
  | .linkDownCmd p => Sys2Proof.Machine.execLinkDownCmd p s
  | .downRetry p => Sys2Proof.Machine.execDownRetry p s
  | .l1Idle p => Sys2Proof.Machine.execL1Idle p s
  | .l1ReqTimeout p => Sys2Proof.Machine.execL1ReqTimeout p s
  | .l1Exit p relock => Sys2Proof.Machine.execL1Exit p relock s
  | .sleepDrainTimeout p => Sys2Proof.Machine.execSleepDrainTimeout p s
  | .sleepAckTimeout p => Sys2Proof.Machine.execSleepAckTimeout p s
  | .wakePatternSend p => Sys2Proof.Machine.execWakePatternSend p s
  | .brikelWake p => Sys2Proof.Machine.execBrikelWake p s
  | .blkCntClr p => Sys2Proof.Machine.execBlkCntClr p s
  | .sbAddressMatch busy => Sys2Proof.Machine.execSbAddressMatch busy s
  | .sbWriteTransfer large bytes stop => Sys2Proof.Machine.execSbWriteTransfer large bytes stop s
  | .sbReadTransfer large n => Sys2Proof.Machine.execSbReadTransfer large n s
  | .sbWake => Sys2Proof.Machine.execSbWake s
  | .sbNonce => Sys2Proof.Machine.execSbNonce s
  | .sbReset => Sys2Proof.Machine.execSbReset s
  | .sbMboxInAck => Sys2Proof.Machine.execSbMboxInAck s
  | .sbMode v => Sys2Proof.Machine.execSbMode v s
  | .notifyAttempt ok => Sys2Proof.Machine.execNotifyAttempt ok s
  | .sclLowTimeout attempt => Sys2Proof.Machine.execSclLowTimeout attempt s
  | .sbMboxOutAck who => Sys2Proof.Machine.execSbMboxOutAck who s
  | .sbMboxInPost who => Sys2Proof.Machine.execSbMboxInPost who s
  | .sbCntClr who => Sys2Proof.Machine.execSbCntClr who s
  | .pcieInboundRequest t macUp ext upsets => Sys2Proof.Machine.execPcieInboundRequest t macUp ext upsets s
  | .pcieCompletion id c data => Sys2Proof.Machine.execPcieCompletion id c data s
  | .pcieOutboundTimeout id => Sys2Proof.Machine.execPcieOutboundTimeout id s
  | .pcieLinkDown => Sys2Proof.Machine.execPcieLinkDown s
  | .pcieHotReset => Sys2Proof.Machine.execPcieHotReset s
  | .msixUnmask v => Sys2Proof.Machine.execMsixUnmask v s
  | .pcieBootGo obj ext => Sys2Proof.Machine.execPcieBootGo obj ext s
  | .bootPushTimeout => Sys2Proof.Machine.execBootPushTimeout s
  | .waitSteepTimeout => Sys2Proof.Machine.execWaitSteepTimeout s
  | .pcieCntClr who => Sys2Proof.Machine.execPcieCntClr who s
  | .nvmeCompletion id media data ext upsets => Sys2Proof.Machine.execNvmeCompletion id media data ext upsets s
  | .nvmeTimeout id => Sys2Proof.Machine.execNvmeTimeout id s
  | .nvmeFatal => Sys2Proof.Machine.execNvmeFatal s
  | .netTxDoorbell who e m tail up ext upsets => Sys2Proof.Machine.execNetTxDoorbell who e m tail up ext upsets s
  | .uartCharacterRx samples => Sys2Proof.Machine.execUartCharacterRx samples s
  | .uartCharacterTx => Sys2Proof.Machine.execUartCharacterTx s
  | .uartDataWrite who v => Sys2Proof.Machine.execUartDataWrite who v s
  | .uartDataRead who => Sys2Proof.Machine.execUartDataRead who s
  | .uartCfgWrite who v => Sys2Proof.Machine.execUartCfgWrite who v s
  | .uartBaudWrite who v => Sys2Proof.Machine.execUartBaudWrite who v s
  | .quote ext upsets => Sys2Proof.Machine.execQuote ext upsets s
  | .keyUnwrap ext upsets => Sys2Proof.Machine.execKeyUnwrap ext upsets s
  | .keyDestroy ext upsets => Sys2Proof.Machine.execKeyDestroy ext upsets s
  | .nonce ext upsets => Sys2Proof.Machine.execNonce ext upsets s
  | .idPubkey ext upsets => Sys2Proof.Machine.execIdPubkey ext upsets s
  | .debugPortAccess addr len data macUp ext upsets => Sys2Proof.Machine.execDebugPortAccess addr len data macUp ext upsets s
  | .sysSeal who => Sys2Proof.Machine.execSysSeal who s
  | .kvCntClr mask => Sys2Proof.Machine.execKvCntClr mask s
  | .registerWrite who key v aligned macUp ext upsets => Sys2Proof.Machine.execRegisterWrite who key v aligned macUp ext upsets s
  | .lockstepMismatch => Sys2Proof.Machine.execLockstepMismatch s
  | .aonXtalLoss => Sys2Proof.Machine.execAonXtalLoss s
  | .pcieLinkUp speed width => Sys2Proof.Machine.execPcieLinkUp speed width s
  | .trainingSetReceived p lane set inverted count => Sys2Proof.Machine.execTrainingSetReceived p lane set inverted count s
  | .claimAck n groups => Sys2Proof.Machine.execClaimAck n groups s
  | .castVoteReceived n id yes => Sys2Proof.Machine.execCastVoteReceived n id yes s
  | .joinRefusal loomIdDiffers => Sys2Proof.Machine.execJoinRefusal loomIdDiffers s
  | .blockResetNotReleased g => Sys2Proof.Machine.execBlockResetNotReleased g s
  | .zeroFillComplete => Sys2Proof.Machine.execZeroFillComplete s

end Sys2Proof.Machine
end

