-- ==== Sys2Proof/Machine/Step.lean ====
section
/-! DEFINITION. One step of the block: the command at the front of its queue, or 5 ns of idle time when none
waits. -/

namespace Sys2Proof.Machine

/-- Nanoseconds that pass in a step with no command waiting: two INGEST cycles of 2.5 ns, so that the TSU counts whole
cycles. [log 1 DESIGN CHOICE, safe] -/
def idleTickNs : Nat := 5

/-- The command at the front of the queue acts on the state with the queue's rest; with none waiting, time passes
(the model's choice, log entry 1). [log 1 DESIGN CHOICE, safe; 15 DESIGN CHOICE, unsafe] -/
def step (s : State) : Host.Outcome State Fault Refusal :=
  match s.pending with
  | [] => .next (s.elapse idleTickNs)
  | c :: rest => exec c { s with pending := rest }

/-- The state with the command that a word spells at the front of its queue; unchanged where the word spells none.
[log 6 DEDUCED, safe] -/
def State.withFetchWord (s : State) (nbits w : Nat) : State :=
  match Sys2Proof.decodeTableWord nbits w with
  | some c => { s with pending := c :: s.pending }
  | none => s

end Sys2Proof.Machine
end

