-- ==== Sys2Proof/Safety.lean ====
section
/-! DEFINITION. What a safe run is: the block never stops, and the data it holds keep their canonical form. -/

namespace Sys2Proof

open Machine

/-- The canonical form of stored bytes: addresses strictly rising, no entry equal to what an unlisted address reads as. -/
abbrev Memory.wf (m : List Host.Cell) : Prop := SMap.wf State.memDefault m = true

/-- The stored data of the block are in canonical form: memory and the boot flash. -/
structure Canonical (s : State) : Prop where
  mem : Memory.wf s.mem
  nor : SMap.wf (0xFF : Byte) s.nor = true

/-- What one-way fuses allow (R617, R638): every field keeps what was blown into it; a key slot once provisioned keeps its
key, and nothing rewrites the identity. -/
structure Fuses.Advances (f g : Fuses) : Prop where
  life : f.life ≤ g.life
  deviceId : g.deviceId = f.deviceId
  keys : ∀ i, f.keys.getD i 0 ≠ 0 → g.keys.getD i 0 = f.keys.getD i 0
  revoked : ∀ i, f.revoked.testBit i = true → g.revoked.testBit i = true
  service : ∀ i, f.service.testBit i = true → g.service.testBit i = true
  rollback : f.rollback ≤ g.rollback
  debugSealed : f.debugSealed = true → g.debugSealed = true

/-- The fuses hold what the widths of Table 20.1 can hold: a lifecycle, four slots with a revocation and a service bit
each, at most 64 rollback bits. -/
structure Fuses.Legal (f : Fuses) : Prop where
  life : f.life ≤ 2
  keys : f.keys.length = 4
  revoked : f.revoked < 16
  service : f.service < 16
  rollback : f.rollback ≤ 64

/-- What every step keeps: legal fuses and a boot flash in canonical form. -/
structure Sound (s : State) : Prop where
  fuses : Fuses.Legal s.sec.fuses
  nor : SMap.wf (0xFF : Byte) s.nor = true

/-- Command `c` completes in state `s` with a next state of which `P` holds. -/
def Does (c : Instr) (s : State) (P : State → Prop) : Prop :=
  ∃ t, exec c s = Host.Outcome.next t ∧ P t

/-- Every register but those listed reads as before. -/
def RegsBut (s t : State) (ks : List Nat) : Prop := ∀ k, k ∉ ks → t.reg k = s.reg k

/-- The entry `r` has ended with this code and RESULT. -/
def Ended (t : State) (r : EntryRef) (st : Status) (result : Nat) : Prop :=
  ∃ y e, t.entry r = some y ∧ y.ending = some e ∧ e.status = st ∧ e.result = result

/-- A run of `n` steps from `s` ends in a next state, with the data in canonical form at its end. -/
def SafeRun (n : Nat) (s : State) : Prop := ∃ t : State, Host.Core.run core n s = Host.Outcome.next t ∧ Canonical t

end Sys2Proof
end

