-- ==== Sys2Proof/Certificates/Slice0/Obligations.lean ====
section
/-! DEFINITION. The statements for the provers. `Does c s P` of Sys2Proof/Safety.lean says that command `c` completes in
state `s` with a next state of which `P` holds. -/

section Statements

open Sys2Proof Sys2Proof.Machine Sys2Proof.Machine.State

/-- A step takes the command at the front of the queue and runs it on the state with the queue's rest (§9.2, R293). -/
def Obligations.StepRunsFront : Prop :=
  ∀ (c : Instr) (rest : List Instr) (s : State),
    step { s with pending := c :: rest } = exec c { s with pending := rest }

/-- A step on an empty queue passes 5 ns: the clock advances, the TSU counts its two cycles where it runs, nothing
else changes (model's choice, log entry 1) (R419, §13.3). -/
def Obligations.IdleStepPassesTime : Prop :=
  ∀ s : State, s.pending = [] → ∃ t, step s = .next t ∧ t.upNs = s.upNs + 5 ∧
    t.tsu = (if s.tsuRuns then Tsu.count s.tsu (ingestCycles (s.upNs + 5) - ingestCycles s.upNs) else s.tsu) ∧
    t = { s with upNs := t.upNs, tsu := t.tsu }

/-- Every command completes: none stops the block with a fault or a refusal, in any state (R9, R149, §9.5). -/
def Obligations.NoCommandStops : Prop :=
  ∀ (c : Instr) (s : State), ∃ t, exec c s = .next t

/-- No command changes the queue of waiting commands: a step removes its front and nothing else (§9.2). -/
def Obligations.QueueOnlyShrinksByStep : Prop :=
  ∀ (s t : State) (c : Instr) (rest : List Instr), s.pending = c :: rest → step s = .next t → t.pending = rest

/-- Every step of every state leaves the fuses advanced: no fuse is unblown, no key replaced, whatever command runs
(R617, R638, Table 20.1). -/
def Obligations.FusesOnlyAdvance : Prop :=
  ∀ s t : State, step s = .next t → Fuses.Advances s.sec.fuses t.sec.fuses

/-- A fuse bit can only be blown, and only by a FUSE operation: every other command leaves every fuse as it is
(R617). -/
def Obligations.OnlyFuseCommandsBlowFuses : Prop :=
  ∀ (c : Instr) (s t : State), exec c s = .next t → Fuses.Advances s.sec.fuses t.sec.fuses ∧
    ((∀ r b, c ≠ .advanceRollback r b) → (∀ r b, c ≠ .revokeSlot r b) → (∀ r b e u, c ≠ .provisionSlot r b e u) →
      (∀ r b, c ≠ .serviceSlot r b) → (∀ r b, c ≠ .sealDebug r b) → (∀ r b, c ≠ .lifecycle r b) →
      t.sec.fuses = s.sec.fuses)

/-- Only UPDATE changes the boot flash: every other command leaves every byte of it as it is (R637, R682, R685). -/
def Obligations.OnlyUpdateWritesBootFlash : Prop :=
  ∀ (c : Instr) (s t : State), exec c s = .next t → (∀ r b e u, c ≠ .update r b e u) → t.nor = s.nor

/-- Every step keeps the fuses legal and the boot flash in canonical form (R617, Table 20.1, R638, R682, R685). -/
def Obligations.EveryStepKeepsSound : Prop :=
  ∀ s t : State, Sound s → step s = .next t → Sound t

/-- The state after reset is Sound, holds memory in canonical form, no command and no byte (R617, Table 20.1). -/
def Obligations.ResetStateIsSound : Prop :=
  Sound State.reset ∧ Canonical State.reset ∧ State.reset.pending = [] ∧ State.reset.mem = [] ∧
    State.reset.ward.st = .boot ∧ State.reset.inReset = true ∧ ∀ k, State.reset.reg k = regReset k

/-- A SYS_ERR event sets its bit; SYS_ERR_LOG takes the event only when its VALID is clear, and nothing else changes
(R708, R709). -/
def Obligations.SysErrorKeepsFirst : Prop :=
  ∀ (s : State) (kind key tag : Nat), 1 ≤ kind → kind ≤ 3 →
    let t := s.sysErr kind key tag
    (t.reg Reg.sysErr).getLsbD (kind - 1) = true ∧
    (∀ i, i < 32 → i ≠ kind - 1 → (t.reg Reg.sysErr).getLsbD i = (s.reg Reg.sysErr).getLsbD i) ∧
    (s.fld Reg.sysErrLog 31 31 = 1 → t.reg Reg.sysErrLog = s.reg Reg.sysErrLog) ∧
    (s.fld Reg.sysErrLog 31 31 = 0 → t.fld Reg.sysErrLog 15 0 = key % 0x10000 ∧
      t.fld Reg.sysErrLog 23 16 = key / 0x10000 % 256 ∧ t.fld Reg.sysErrLog 26 24 = tag % 8 ∧
      t.fld Reg.sysErrLog 30 27 = kind ∧ t.fld Reg.sysErrLog 31 31 = 1) ∧
    RegsBut s t [Reg.sysErr, Reg.sysErrLog] ∧ t = { s with regs := t.regs }

/-- Every refusal overwrites WARD_REFUSE_LAST in the layout of Table 1.16 and counts for its class; nothing else
changes (R49). -/
def Obligations.RefusalIsCountedAndRecorded : Prop :=
  ∀ (s : State) (c : CmdClass) (src : ReqSource) (g : Guard) (e : Nat), e < 8 →
    let t := s.refuse c src g e
    t.fld (Reg.refuseCnt c.index) 15 0 = min 0xFFFF (s.fld (Reg.refuseCnt c.index) 15 0 + 1) ∧
    t.fld Reg.refuseLast 3 0 = s.ward.st.code ∧ t.fld Reg.refuseLast 6 4 = c.index ∧
    t.fld Reg.refuseLast 7 7 = (if src = .sideband then 1 else 0) ∧ t.fld Reg.refuseLast 11 8 = g.code ∧
    t.fld Reg.refuseLast 14 12 = e ∧ t.fld Reg.refuseLast 31 15 = 0 ∧
    RegsBut s t [Reg.refuseCnt c.index, Reg.refuseLast] ∧ t = { s with regs := t.regs }

/-- A denial counts for its tag and is captured in GSK_DENY_LOG only when VALID is zero (R155, R174, Table 4.13). -/
def Obligations.DenialIsCountedAndCaptured : Prop :=
  ∀ (s : State) (tag gsk op reason addr : Nat), tag < 8 → gsk < 128 → op < 4 → reason < 16 →
    let t := s.deny tag gsk op reason addr false
    t.fld (Reg.denyCnt tag) 15 0 = min 0xFFFF (s.fld (Reg.denyCnt tag) 15 0 + 1) ∧
    (s.fld Reg.denyLog2 31 31 = 1 → t.reg Reg.denyLog0 = s.reg Reg.denyLog0 ∧ t.reg Reg.denyLog1 = s.reg Reg.denyLog1 ∧
      t.reg Reg.denyLog2 = s.reg Reg.denyLog2) ∧
    (s.fld Reg.denyLog2 31 31 = 0 → (t.reg Reg.denyLog0).toNat = addr % 2 ^ 32 ∧
      (t.reg Reg.denyLog1).toNat = addr / 2 ^ 32 % 2 ^ 32 ∧ t.fld Reg.denyLog2 2 0 = tag ∧ t.fld Reg.denyLog2 9 3 = gsk ∧
      t.fld Reg.denyLog2 11 10 = op ∧ t.fld Reg.denyLog2 15 12 = reason ∧ t.fld Reg.denyLog2 31 31 = 1) ∧
    RegsBut s t [Reg.denyCnt tag, Reg.denyLog0, Reg.denyLog1, Reg.denyLog2] ∧ t = { s with regs := t.regs }

/-- When conditions end one operation together, the code carried stands highest in Table 0.6, the lowest code among
equals (R10, Table 0.6). -/
def Obligations.CodeOfSeveralConditions : Prop :=
  ∀ a b c : Status,
    a.worse b = b.worse a ∧ (a.worse b).worse c = a.worse (b.worse c) ∧ (a.worse b = a ∨ a.worse b = b) ∧
    (a ≠ .ok → a.worse .ok = a) ∧
    (a ≠ .ok → b ≠ .ok → a.rank < b.rank → a.worse b = a) ∧
    (a ≠ .ok → b ≠ .ok → a.rank = b.rank → a.code < b.code → a.worse b = a)

/-- Stored bytes are read back little-endian, every byte outside them is as before, and memory keeps its canonical
form (R1). -/
def Obligations.MemoryReadsWhatWasWritten : Prop :=
  ∀ (s : State) (a n v lo hi : Nat) (bs : List Byte),
    (s.wrBytes a bs).rdBytes a bs.length = bs ∧
    (∀ b, b < a ∨ a + bs.length ≤ b → (s.wrBytes a bs).rd b = s.rd b) ∧
    (s.wrNat a n v).rdNat a n = v % 256 ^ n ∧
    (Memory.wf s.mem → Memory.wf (s.wrBytes a bs).mem ∧ Memory.wf (s.zeroRange lo hi).mem) ∧
    (∀ b, (s.zeroRange lo hi).rd b = if lo ≤ b ∧ b < hi then 0 else s.rd b) ∧
    s.wrBytes a bs = { s with mem := (s.wrBytes a bs).mem }

/-- The first end of an entry stands: it sets code, RESULT and time, a later one changes nothing, and no other entry
is touched (R302, R310). -/
def Obligations.EntryEndsOnce : Prop :=
  ∀ (s : State) (r : EntryRef) (y : Entry) (st : Status) (n : Nat), s.entry r = some y →
    let t := s.finish r st n
    (y.ending = none → Ended t r st n ∧ (t.entry r).map (·.endNs) = some s.upNs) ∧
    (y.ending ≠ none → t.entry r = some y) ∧
    (∀ r' : EntryRef, r' ≠ r → r'.queue < 16 → r.queue < 16 → t.entry r' = s.entry r') ∧
    t = { s with queues := t.queues }

namespace Sys2Proof

/-- What a reset leaves (R110, Table 3.6): BOOT, held, no image, every gasket SEALED, nothing in memory, in a queue, a slot, a
pool or a tile; the fuses and the boot flash as they were. -/
structure HeldAfter (s t : State) : Prop where
  state : t.ward.st = .boot ∧ t.power.phase = .held ∧ t.ward.resident = false
  image : t.img = {}
  gaskets : t.gsk = [] ∧ ∀ g, (t.gasket g).st = .sealed
  units : t.mem = [] ∧ t.queues = [] ∧ t.tiles = [] ∧ t.movers = [] ∧ t.slots = [] ∧ t.pools = [] ∧ t.handles = [] ∧ t.ports = []
  keys : t.sec = { fuses := s.sec.fuses }
  kept : t.nor = s.nor ∧ t.pending = s.pending

/-- RST_CAUSE has gained a bit, and RST_SNAP shows the device at the reset; a joining source leaves the first snapshot. -/
def CauseAdded (s t : State) (bit : Nat) : Prop :=
  t.reg Reg.rstCause = (s.reg Reg.rstCause ||| BitVec.ofNat 32 (2 ^ bit)) ∧
  t.reg Reg.rstSnap = (if s.inReset then s.reg Reg.rstSnap else s.snapshot)

end Sys2Proof

/-- Each reset source takes the device to BOOT, held in reset, and adds its bit to RST_CAUSE; loss of VDD_AON takes
it to OFF (R107, R108, R110, R112, R125, R17, Table 3.5, Table 3.6). -/
def Obligations.ResetSourcesHoldTheDevice : Prop :=
  ∀ s : State,
    (Does .powerOnReset s fun t => HeldAfter s t ∧ ∀ k, t.reg k = regReset k) ∧
    (Does .lossOfVddAon s fun t => t.ward.st = .off ∧ t.mem = [] ∧ t.img = {} ∧ t.sec.fuses = s.sec.fuses ∧ t.nor = s.nor ∧
      ∀ k, t.reg k = regReset k) ∧
    (s.power.railsUp = false → Does .coreBor s fun t => t = s) ∧
    (∀ n, n < 100 → Does (.resetNAssert n) s fun t => t = s) ∧
    (s.ward.st ≠ .off →
      (s.power.railsUp = true → Does .coreBor s fun t => HeldAfter s t ∧ CauseAdded s t 1) ∧
      (Does .ioBor s fun t => HeldAfter s t ∧ CauseAdded s t 2) ∧
      (∀ n, 1000 ≤ n → Does (.resetNAssert n) s fun t => HeldAfter s t ∧ CauseAdded s t 3 ∧ t.upNs = s.upNs + n) ∧
      (∀ n, 100 ≤ n → n < 1000 → Does (.resetNAssert n) s fun t =>
        (HeldAfter s t ∧ CauseAdded s t 3) ∨ t = { s with freeCtr := t.freeCtr }) ∧
      (Does .thermalTrip s fun t => HeldAfter s t ∧ CauseAdded s t 6 ∧ t.power.thermalHold = true) ∧
      (s.wardenRuns = true → s.pcieResets = true → Does .pcieHotReset s fun t => HeldAfter s t ∧ CauseAdded s t 8))

/-- A write of 0x0000_A5C3 to RST_SW starts a software full reset; any other value has no effect (R115). -/
def Obligations.SoftwareResetNeedsItsKey : Prop :=
  ∀ (s : State) (who : Requester) (v : Nat), v < 2 ^ 32 →
    (s.regGate who .write Reg.rstSw true = none →
      Does (.softwareFullReset who v) s fun t => t.resp = .ok ∧
        (v = 0xA5C3 → HeldAfter s t ∧ CauseAdded s t 9) ∧ (v ≠ 0xA5C3 → t = s.respond .ok 0)) ∧
    (s.ward.st = .off ∨ s.ward.st = .standby ∨ s.tagOf who ≠ 0 → s.regGate who .write Reg.rstSw true ≠ none)

namespace Sys2Proof

/-- The device facts a bundle from the boot flash is checked against, the strap saying flash. -/
def flashFacts (s : State) : ImgFacts :=
  { keys := s.signerKeys, rollback := s.sec.fuses.rollback, usable := s.usable, hostPush := false, place := 0, drive := s.img.drive }

end Sys2Proof

/-- The release of reset samples the strap and starts training; training, DRAM initialisation and the images follow
in order (R111, R121, R123, R126, R179, R201, R202, R620, R684, Table 3.7). -/
def Obligations.BootReleasesInOrder : Prop :=
  ∀ s : State,
    (∀ strap c, s.inReset = true → s.railsLost = false → s.power.railMain = true → s.power.strapDue = true →
      strapCode strap = some c → 8 ≤ c → s.sec.fuses.life ≠ 2 → Does (.resetRelease strap) s fun t =>
        t.reg Reg.rstStrap = BitVec.ofNat 32 (strapWord strap) ∧ t.power.phase = .training ∧ t.power.pllLock = true ∧
        t.power.railsUp = true ∧ t.ward = s.ward ∧ t.pcie.push = (if s.pcie.linkUp then .waitBundle else .idle)) ∧
    (∀ strap c d ds, s.inReset = true → s.railsLost = false → s.power.railMain = true → s.power.strapDue = true →
      strapCode strap = some c → c < 8 → s.sec.fuses.life ≠ 2 → s.norDirs = d :: ds →
      checkBundle (flashFacts s) (s.norObject d 8 0x200000) = none → Does (.resetRelease strap) s fun t =>
        t.reg Reg.rstStrap = BitVec.ofNat 32 (strapWord strap) ∧ t.power.phase = .training ∧
        t.sec.fwVersion = fieldAt (s.norObject d 8 0x200000) 0x10 4 ∧ ∀ m, m < 8 → (t.gasket (72 + m)).powered = true) ∧
    (∀ ds fails, s.power.phase = .training → s.sec.fwDigest ≠ [] → s.ward.st = .boot →
      (∀ m, m < 8 → trainFails ds fails m = false) → Does (.dramTrainingDone ds fails) s fun t =>
        t.usable = usableOf (ds.getD 0 0) ∧ (∀ m, m < 8 → (t.chan m).trained = true ∧ (t.chan m).trainFail = false) ∧
        (s.power.thermalHold = true → t.power.phase = .trained ∧ t.gsk = s.gsk) ∧
        (s.power.thermalHold = false → t.power.phase = .initialising ∧
          (∀ m, m < 8 → (t.gasket (64 + m)).powered = true) ∧ ∀ m, m < 16 → (t.gasket (80 + m)).powered = true)) ∧
    (s.power.phase = .initialising → s.power.thermalHold = false → s.ward.st = .boot → Does .dramInitDone s fun t =>
        (∀ a, t.rd a = if a < s.usable then 0 else s.rd a) ∧ t.power.phase = .imageWait ∧
        (s.hostPush = true → t.pcie.push = .waitDrive)) ∧
    (∀ d ds, s.power.phase = .imageWait → s.ward.st = .boot → s.hostPush = false → s.sec.rngFail = false → s.norDirs = d :: ds →
      checkImage (s.imgFacts 1) (s.norObject d 0x10 0x40000) = none → fieldAt d 0x1C 4 = 0 → Does .bootImageLoaded s fun t =>
        t.ward.st = .proof ∧ t.ward.prev = .boot ∧ t.ward.phase = .selfProof ∧ t.safe.proof = some { since := t.upNs } ∧
        t.img.force = .drive ∧ t.img.drive = some (readImage (s.norObject d 0x10 0x40000)))

/-- IMAGE_LOAD of a checked STEEP image in DRIVE stores it; ENCL_RESTART of an aborted QM enclosure runs it again;
both end OK (R81, R82, R84, R86, R157, R350). -/
def Obligations.ImageLoadStoresAndRestarts : Prop :=
  ∀ (s u : State) (r : EntryRef) (y : Entry) (ext : List ExtData) (ups : List Upset) (b : List Byte),
    (s.running r 0 0x10 = some y → s.loadBusy r y = false →
      s.readRun (s.stewardOf r.encl) (y.arg 0 8) (min (y.arg 8 4) 0x40001) ext ups = (.ok, b, u) →
      u.entry r = some y → u.ward.st = .drive → checkImage (u.imgFacts 0) b = none → (readImage b).profile = 2 →
      y.arg 12 1 = 0 → u.checkAgainst (readImage b) = none →
      Does (.imageLoad r ext ups) s fun t => t.img = { u.img with steep := some (readImage b) } ∧ Ended t r .ok 0) ∧
    (s.running r 0 0x11 = some y → ∀ e, y.arg 0 1 = e →
      (e < 8 → s.present e = true → s.isSafety e = false → (s.enclSt e).st = .aborted → s.sec.rngFail = false →
        ((List.range 64).any fun k => s.slotOwner k = s.ownerTag e && (s.slot k).bindings != 0) = false →
        Does (.enclRestart r) s fun t => (t.enclSt e).st = .running ∧ Ended t r .ok 0) ∧
      (8 ≤ e ∨ s.present e = false → Does (.enclRestart r) s fun t => t = s.finish r .notFound 0) ∧
      (e < 8 → s.isSafety e = true → Does (.enclRestart r) s fun t => t = s.finish r .badArg 0) ∧
      (e < 8 → s.present e = true → s.isSafety e = false → (s.enclSt e).st = .aborting →
        Does (.enclRestart r) s fun t => t = s.finish r .busy 0))

/-- SETTLE, ROUSE, SERVICE_ENTER and STANDBY change the state where Table 1.2 lets them, and complete OK; a refused one is
refused and nothing more (R17, R18, R19, R24, R30, R32, R44, R634, Table 1.2, Table 20.9). -/
def Obligations.ModeRequestsAreJudged : Prop :=
  ∀ (s u : State) (src : ModeSource) (r : EntryRef) (y : Entry) (g : Guard) (st : Status) (b : List Byte) (ext : List ExtData)
    (ups : List Upset),
    (s.modeOpen 1 src = true → s.ward.st = .drive → 2000 ≤ s.park.hold → s.anyActive = false → s.img.steep.isSome = true →
      s.queuesIdle = true → Does (.settle src false) s fun t =>
        t.ward.st = .settle ∧ t.ward.prev = .drive ∧ t.ward.phase = .waitEpoch ∧ t.ward.since = s.upNs ∧ t.img = s.img ∧
        t.reg Reg.transCause = BitVec.ofNat 32 (0x40 ||| s.cycleCauses) ∧ (src = .entry r → Ended t r .ok 0) ∧
        (src = .sideband → t.sb.cmdOpen = none ∧ t.sb.cmdStatus = Status.ok.code)) ∧
    (s.modeOpen 1 src = true → s.settleGuard = some g → Does (.settle src false) s fun t => t = s.modeRefuse g src) ∧
    (s.modeOpen 1 src = true → Does (.settle src true) s fun t => t = s.modePreempted 0x40 src) ∧
    (s.modeOpen 2 src = true → s.ward.st = .steep →
      (s.ward.cozy = false → s.img.force = .both → Does (.rouse src false) s fun t =>
        t.ward.st = .rouse ∧ t.ward.prev = .steep ∧ t.ward.since = s.upNs ∧ t.ward.zeroFill = true ∧ t.img.force = .drive ∧
        ((t.ward.phase = .selfProof ∧ t.safe.proof = some { scope := 1, since := s.upNs }) ∨
          (t.ward.phase = .trapped ∧ t.ward.waitBlock ≠ 0))) ∧
      (s.ward.cozy = true → Does (.rouse src false) s fun t =>
        t.ward.st = .steep ∧ t.ward.wake = true ∧ t.ward.rouseCauses = s.ward.rouseCauses ||| 0x2)) ∧
    (s.modeOpen 2 src = true → s.ward.st ≠ .steep → Does (.rouse src false) s fun t => t = s.modeRefuse .noTransition src) ∧
    (s.modeOpen 3 src = true → s.parkGuard = some g → Does (.serviceEnter src false ext ups) s fun t => t = s.modeRefuse g src) ∧
    (s.modeOpen 3 src = true → s.ward.st = .drive → 2000 ≤ s.park.hold → s.anyActive = false →
      (s.sec.fuses.life = 0 → Does (.serviceEnter src false ext ups) s fun t =>
        t.ward.st = .service ∧ t.ward.prev = .drive ∧ t.sec.perms = 15 ∧
        t.reg Reg.transCause = BitVec.ofNat 32 (0x40 ||| s.cycleCauses)) ∧
      (s.sec.fuses.life ≠ 0 → src = .sideband → s.authValid s.sb.record 160 = true →
        Does (.serviceEnter src false ext ups) s fun t =>
          t.ward.st = .service ∧ t.ward.prev = .drive ∧ t.sec.perms = fieldAt s.sb.record 0x30 4 % 16 ∧ t.sec.svcNonce = none) ∧
      (s.sec.fuses.life ≠ 0 → src = .sideband → s.authValid s.sb.record 160 = false →
        Does (.serviceEnter src false ext ups) s fun t =>
          t = ({ s with sec := { s.sec with svcNonce := none } } : State).modeRefuse .notAuthorised .sideband) ∧
      (s.sec.fuses.life ≠ 0 → src = .entry r → s.entry r = some y → y.arg 8 4 = 160 →
        s.readRun (s.stewardOf r.encl) (y.arg 0 8) 160 ext ups = (st, b, u) →
        (st = .ok → u.authValid b 160 = true → u.sec.fuses = s.sec.fuses → u.ward = s.ward →
          Does (.serviceEnter src false ext ups) s fun t =>
            t.ward.st = .service ∧ t.ward.prev = .drive ∧ t.sec.perms = fieldAt b 0x30 4 % 16 ∧ t.sec.svcNonce = none) ∧
        (st ≠ .ok → Does (.serviceEnter src false ext ups) s fun t => t = u.finish r st 0))) ∧
    (s.modeOpen 4 src = true → s.ward.st = .drive → 2000 ≤ s.park.hold → s.anyActive = false →
      Does (.standby src false ext ups) s fun t =>
        t.ward.st = .standby ∧ t.ward.prev = .drive ∧ t.power.railMain = false ∧ t.power.railMem = false ∧ t.mem = [] ∧
        t.img = {} ∧ t.park = s.park ∧ t.nor = s.nor ∧ t.sec.fuses = s.sec.fuses) ∧
    (s.modeOpen 4 src = true → s.parkGuard = some g → Does (.standby src false ext ups) s fun t => t = s.modeRefuse g src)

/-- An epoch boundary ends the wait of PROOF and ROUSE, then declares DRIVE; SETTLE ends in STEEP, or in ROUSE at its bound,
ROUSE in HALT at its own (R21, R30, R31, R32, R34, R44, R450, R601, R703, Table 1.5, Table 1.6). -/
def Obligations.EpochBoundaryAdvancesModes : Prop :=
  ∀ (s : State) (ext : List ExtData) (ups : List Upset) (pr nv : Bool) (sp wi : Nat) (m : Image) (p : List Byte),
    let v := s.elapseToTsu s.nextBoundary
    let u := v.boundaryWork s.epochNow ext ups
    let e := ((s.endBusy 1).dropBinds).freezeDrive
    (s.tsuRuns = false → Does (.epochBoundary ext ups) s fun t => t = s) ∧
    (s.tsuRuns = true → ¬(s.ward.st = .rouse ∧ s.rouseBound < v.upNs) → ¬(s.ward.st = .settle ∧ s.settleBound < v.upNs) →
      Does (.epochBoundary ext ups) s fun t =>
        t.upNs = v.upNs ∧
        (s.ward.phase ≠ .waitEpoch → s.ward.phase ≠ .warmUp → t = u ∧ t.ward = s.ward) ∧
        (s.ward.st = .halt → s.ward.phase = .none → s.fusion.profile = some p → t = { v with fusion := { v.fusion with due := some s.epochNow } }) ∧
        (s.ward.phase = .waitEpoch → s.ward.st = .settle → t.ward = { s.ward with phase := .settling }) ∧
        (s.ward.phase = .waitEpoch → s.ward.st ≠ .settle → t.ward = { s.ward with phase := .warmUp }) ∧
        (s.ward.phase = .warmUp → t.ward.st = .drive ∧ t.ward.prev = s.ward.st ∧ t.ward.phase = .none ∧ t.fld Reg.sysSeal 0 0 = 1 ∧
          t.reg Reg.transCause = BitVec.ofNat 32 (0x800 ||| u.cycleCauses) ∧
          (s.ward.st = .proof → t.safe.latchP = false ∧ t.safe.latchN = false ∧ t.ward.proofRetry = false))) ∧
    (s.tsuRuns = true → s.ward.st = .rouse → s.rouseBound < v.upNs → Does (.epochBoundary ext ups) s fun t => t = s.rouseExpire) ∧
    (s.ward.st = .settle → s.ward.phase = .settling → (s.finishEpoch ext ups).upNs ≤ (s.finishEpoch ext ups).settleBound →
      Does (.steepDeclared pr nv sp wi ext ups) s fun t => t = (s.finishEpoch ext ups).settleSteps pr nv sp wi) ∧
    (s.ward.st = .settle → s.ward.phase = .settling → s.lse.ego = none → s.fusion.due = none → s.upNs ≤ s.settleBound →
      (e.img.steep = some m → e.settleCheck m = none → e.sec.rngFail = false → Does (.steepDeclared pr nv sp wi ext ups) s fun t =>
        t.ward.st = .steep ∧ t.ward.prev = .settle ∧ t.img.force = .both ∧ t.img.steep = some m ∧
        t.fld Reg.transTime 31 16 = min 0xFFFF ((s.upNs - s.ward.since) / 1000000)) ∧
      (e.img.steep = none → Does (.steepDeclared pr nv sp wi ext ups) s fun t => t.ward.st = .rouse ∧ t.ward.prev = .settle)) ∧
    (s.ward.st ≠ .settle → (Does (.steepDeclared pr nv sp wi ext ups) s fun t => t = s) ∧ Does .settleTimeout s fun t => t = s) ∧
    (s.ward.st = .settle → Does .settleTimeout s fun t =>
      t.ward.st = .rouse ∧ t.ward.prev = .settle ∧ t.ward.since = s.settleBound ∧ s.settleBound ≤ t.upNs ∧
      (t.ward.phase = .selfProof ∨ t.ward.phase = .trapped) ∧ t = (s.elapseTo s.settleBound).rouseEnter 0x20 s.settleBound) ∧
    (s.ward.st = .rouse → Does .rouseTimeout s fun t =>
      t.ward.st = .halt ∧ t.ward.prev = .rouse ∧ t.safe.latchP = true ∧ t.safe.latchN = true ∧ s.rouseBound ≤ t.upNs ∧
      t = (s.elapseTo s.rouseBound).fatal .rouseTimeout 0xF 118 0x200) ∧
    (s.ward.st ≠ .rouse → Does .rouseTimeout s fun t => t = s)

/-- Self-proof, FAULT_CLEAR, INJECT, DISC_CLEAR, the refusal-counter clear and the zero fill do what the rules give
(R41, R47, R50, R591, R593, R596, R597, R598, R633, Table 18.11). -/
def Obligations.ProofAndSafeCommands : Prop :=
  ∀ (s : State) (r : EntryRef) (y : Entry) (p : ProofRun) (us mask : Nat) (who : Requester),
    (s.running r 5 1 = some y → s.proofAdmit (y.arg 0 1) = true → s.safe.proof = none → Does (.proofRun r) s fun t =>
      t = { s with safe := { s.safe with proof := some { scope := y.arg 0 1, entry := some r, since := s.upNs } } }) ∧
    (s.running r 5 1 = some y → s.proofAdmit (y.arg 0 1) = false → Does (.proofRun r) s fun t => t = s.finish r .badArg 0) ∧
    (s.running r 5 1 = some y → s.proofAdmit (y.arg 0 1) = true → s.safe.proof = some p → p.entry ≠ some r →
      Does (.proofRun r) s fun t => t = s.finish r .busy 0) ∧
    (s.safe.proof = some p → p.entry = some r → p.fail = 0 → s.entry r = some y → y.ending = none → s.ward.st ≠ .rouse →
      let e := max s.upNs (min (s.upNs + 1000 * us) (p.since + if p.scope = 0 then 38000000 else 12000000))
      Does (.proofComplete us) s fun t => t.safe.proof = none ∧ t.fld Reg.safeProofStat 1 0 = 1 ∧ t.upNs = e ∧
        Ended t r .ok (min 0xFFFF ((e - p.since) / 10000) * 0x10000)) ∧
    (s.safe.proof = none → Does (.proofComplete us) s fun t => t = s) ∧
    (∀ step, s.safe.proof = some p → p.fail = 0 → 0 < step →
      (step ≤ (if p.scope = 0 then 14 else 11) → Does (.proofCheckerTimeout step) s fun t =>
        t.safe.proof = some { p with fail := step } ∧ t.upNs = s.upNs + 50000) ∧
      ((if p.scope = 0 then 14 else 11) < step → Does (.proofCheckerTimeout step) s fun t => t = s)) ∧
    (∀ b, s.running r 5 2 = some y → activeBit (y.arg 0 2) = some b → 2 < y.arg 0 2 → Does (.faultClear r) s fun t =>
      t.fld Reg.safeActive b b = 0 ∧ RegsBut s t [Reg.safeActive] ∧ Ended t r .ok 0) ∧
    (s.running r 5 2 = some y → activeBit (y.arg 0 2) = none → Does (.faultClear r) s fun t => t = s.finish r .badArg 0) ∧
    (s.running r 5 3 = some y → s.injectAdmit (y.arg 0 2) (y.arg 2 2) = true → s.safe.inject = none → Does (.inject r) s fun t =>
      t = { s with safe := { s.safe with inject := some { mech := y.arg 0 2, target := y.arg 2 2, r := r, since := s.upNs } } }) ∧
    (s.regGate who .write Reg.parkCtl true = none → accepts s.ward.st .safe = true → s.park.clearReady = true →
      Does (.discClear who) s fun t => t.park.fault = false ∧ t.park.clearReady = false ∧ t.fld Reg.safeActive 0 0 = 0 ∧
        RegsBut s t [Reg.safeActive] ∧ t.resp = .ok) ∧
    (s.regGate who .write Reg.parkCtl true = none → accepts s.ward.st .safe = false → Does (.discClear who) s fun t =>
      t.park = s.park ∧ t = ((s.refuse .safe .queue .pair 0).sysErr 3 Reg.parkCtl (s.tagOf who)).respond .ok 0) ∧
    (s.regGate who .write Reg.refuseClr true = none → Does (.wardRefuseClr who mask) s fun t =>
      (∀ c, c < 7 → t.reg (Reg.refuseCnt c) = if bitOf mask c then 0 else s.reg (Reg.refuseCnt c)) ∧
      RegsBut s t ((List.range 7).map Reg.refuseCnt) ∧ t.resp = .ok ∧ t.mem = s.mem) ∧
    (s.ward.zeroFill = true → s.ward.st = .drive → Does .zeroFillComplete s fun t =>
      t.ward.zeroFill = false ∧ t.img.fill = [] ∧
      ∀ a, a < tileBase 0 → t.rd a = if s.img.fill.any (fun z => decide (z.1 ≤ a ∧ a < z.2)) then 0 else s.rd a)

/-- Rails fail and retry, VID_CORE steps within 0 to 20, temperature and the power cap throttle, as their rules give
(R95, R97, R99, R104, R105, Table 3.19). -/
def Obligations.PowerEventsStep : Prop :=
  ∀ s : State,
    (∀ rail, s.inReset = true → s.power.railsUp = false → s.power.railMain = true → s.railsLost = false → 0 < rail → rail < 7 →
      Does (.railValidTimeout rail) s fun t => t.power.railMain = false ∧ t.power.railMem = false ∧
        t.power.railTries = s.power.railTries + 1 ∧ (s.power.railTries = 1 → t.power.railFail = rail) ∧ t.ward = s.ward) ∧
    (s.power.railTries = 1 → s.power.railMain = false → Does .railRetry s fun t =>
      t.power.railMain = true ∧ t.power.railMem = true ∧ t.upNs = s.upNs + 100000000) ∧
    (s.power.railTries ≠ 1 → Does .railRetry s fun t => t = s) ∧
    (∀ up, s.wardenAwake = true → (if up then s.power.vid < 20 else 0 < s.power.vid) → Does (.vidStep up) s fun t =>
      t.power.vid = (if up then s.power.vid + 1 else s.power.vid - 1) ∧ s.vidReady ≤ t.upNs ∧ t.power.vidAt = t.upNs + 1) ∧
    (s.power.vid = 20 → Does (.vidStep true) s fun t => t = s) ∧ (s.power.vid = 0 → Does (.vidStep false) s fun t => t = s) ∧
    (s.ward.st ≠ .off → Does .aonXtalSwitch s fun t => t = { s with power := { s.power with aonXtal := true } }) ∧
    (∀ (l : List Int) (c : Int), s.wardenAwake = true → l ≠ [] → l.length ≤ 16 → c ∈ l → (∀ x ∈ l, x ≤ c) → -256 ≤ c → c < 125 →
      Does (.tempSample l) s fun t => t.maxC = c ∧ l[t.fld Reg.pwrTemp 12 9]? = some c ∧
        (((s.fld Reg.pwrTempThr 7 0 : Nat) : Int) ≤ c → t.power.throttled = true) ∧
        (c ≤ ((s.fld Reg.pwrTempThr 7 0 : Nat) : Int) - 5 → t.power.throttled = false) ∧ RegsBut s t [Reg.pwrTemp]) ∧
    (∀ w, s.ward.st = .steep → s.ward.asleep = false → Does (.powerCapCheck w) s fun t =>
      t.power.capThrottled = decide (s.fld Reg.pwrCap 7 0 < w) ∧ t.upNs = (s.upNs / 100000 + 1) * 100000) ∧
    (∀ w, s.ward.st ≠ .steep → Does (.powerCapCheck w) s fun t => t = { s with power := { s.power with capThrottled := false } })

/-- An SF fault enters HALT with both FAULT latches set, captured if it is the first, and drains every gasket the
safe state shuts, in at most 0.5 ms (R587, R592, R599, R44, Table 18.7). -/
def Obligations.FatalFaultEntersHalt : Prop :=
  ∀ (s : State) (id : FaultId) (encl gsk causes : Nat), encl < 16 → gsk < 128 →
    let t := s.fatal id encl gsk causes
    (s.ward.st = .halt → t.fld Reg.safeCnt 23 16 = min 255 (s.fld Reg.safeCnt 23 16 + 1) ∧ RegsBut s t [Reg.safeCnt] ∧
      t = { s with regs := t.regs }) ∧
    (s.ward.st ≠ .halt → s.wardenRuns = true →
      t.ward.st = .halt ∧ t.ward.prev = s.ward.st ∧ t.safe.latchP = true ∧ t.safe.latchN = true ∧
      t.reg Reg.transCause = BitVec.ofNat 32 (causes ||| 0x80 ||| s.cycleCauses) ∧
      (s.captured = true → t.reg Reg.safeFatalId = s.reg Reg.safeFatalId) ∧
      (s.captured = false → t.fld Reg.safeFatalId 15 0 = id.code % 2 ^ 16 ∧ t.fld Reg.safeFatalId 17 16 = 1 ∧
        t.fld Reg.safeFatalId 21 18 = encl ∧ t.fld Reg.safeFatalId 28 22 = gsk ∧ t.fld Reg.safeFatalId 31 31 = 1 ∧
        t.fatalTime = s.tsu.time % 2 ^ 64) ∧
      ∀ g, g < 119 →
        (staysOpen g = true → t.gasket g = s.gasket g) ∧
        (staysOpen g = false → (s.gasket g).st ≠ .opened → t.gasket g = s.gasket g) ∧
        (staysOpen g = false → (s.gasket g).st = .opened →
          t.gasket g = { s.gasket g with st := .draining, since := s.upNs, bound := 500000 }))

/-- Each monitor's event raises the fault of its rule: SF, SR or AF as Table 18.4 classes it, and nothing where all
is in order (R114, R584, R585, R586, R587, R588, R589, R601, R605, R607, Table 18.4). -/
def Obligations.FaultEventsReact : Prop :=
  ∀ (s : State) (who : Requester),
    (s.wardenRuns = true →
      (s.power.pllLock = true → Does .pllUnlock s fun t =>
        t = ({ s with power := { s.power with pllLock := false } } : State).fatal .pllUnlock 0xF 118 0x80) ∧
      (Does .faultPinMismatch s fun t => t = ((s.elapse 10000).latchFault).fatal .faultPin 0xF 118 0x80) ∧
      (∀ rail, 1 ≤ rail → rail ≤ 8 → Does (.voltMon rail) s fun t => t = (s.elapse 2000).fatal .voltMon 0xF 118 0x80) ∧
      (Does .lockstepMismatch s fun t => t = s.fatalWarden .lockstep .safetyFatal) ∧
      (s.ward.asleep = false → Does .wardenWatchdogExpiry s fun t => t = s.fatalWarden .wardenWdog .watchdog) ∧
      (∀ d n x, s.ward.asleep = false → d ≤ 8 → expectedCount s d = x → x ≤ n → 100 * (n - x) ≤ (if d = 8 then 15 else 2) * x →
        Does (.clockMonWindow d n) s fun t => t = s.elapse 10000) ∧
      (∀ d n x, s.ward.asleep = false → d ≤ 8 → d ≠ 4 → expectedCount s d = x → n < x →
        (if d = 8 then 15 else 2) * x < 100 * (x - n) →
        Does (.clockMonWindow d n) s fun t => t = (s.elapse 10000).fatal .clockMon 0xF 118 0x80) ∧
      (∀ n, s.ward.asleep = false → n < expectedCount s 4 → 2 * expectedCount s 4 < 100 * (expectedCount s 4 - n) →
        Does (.clockMonWindow 4 n) s fun t => t = (s.elapse 10000).fatalWarden .wardClock .safetyFatal) ∧
      (∀ k, k < 4 → (s.gasket (96 + k)).powered = true → (s.gasket (96 + k)).inReset = false →
        let u := (s.elapse 10000000).react { fault := .stewardHang, attr := .block (96 + k), gsk := 96 + k }
        Does (.stewardHang k) s fun t => t = if u.ward.st = .halt then u else u.wardenReset (96 + k))) ∧
    (s.power.aonXtal = true → Does .aonXtalLoss s fun t =>
      t = ({ s with power := { s.power with aonXtal := false } } : State).activeFault 3) ∧
    (∀ r rs, s.safe.reports = r :: rs → Does (.faultReport false) s fun t =>
      t = ({ s with safe := { s.safe with reports := rs } } : State).react r) ∧
    (∀ (i : Injection) (y : Entry), s.safe.inject = some i → s.entry i.r = some y → y.ending = none → Does (.faultReport true) s fun t =>
      t.safe.inject = none ∧ Ended t i.r .ok 0 ∧ t.safe.reports = s.safe.reports) ∧
    (s.regGate who .write 0x0700F0 true = none → WSet.dss.has s.ward.st = true → Does (.safeCntClr who) s fun t =>
      t.reg Reg.safeCnt = 0 ∧ RegsBut s t [Reg.safeCnt] ∧ t.resp = .ok ∧ t.mem = s.mem)

/-- An AF fault is counted and latches its bit of SAFE_ACTIVE; an SR fault sets both latches, is captured once, and
resets (R587, R591, R592, Table 18.3). -/
def Obligations.ActiveFaultsLatch : Prop :=
  ∀ s : State,
    (∀ b, b < 8 → let t := s.activeFault b
      t.fld Reg.safeCnt 7 0 = min 255 (s.fld Reg.safeCnt 7 0 + 1) ∧ t.fld Reg.safeActive b b = 1 ∧
      (∀ i, i < 32 → i ≠ b → t.fld Reg.safeActive i i = s.fld Reg.safeActive i i) ∧
      RegsBut s t [Reg.safeCnt, Reg.safeActive] ∧ t.ward = s.ward ∧ t.mem = s.mem) ∧
    (∀ id src, s.ward.st ≠ .off → src ≠ .powerOn → let t := s.fatalWarden id src
      t.ward.st = .boot ∧ t.power.phase = .held ∧ (t.reg Reg.rstCause).getLsbD src.bit = true ∧ t.mem = [])

/-- A safety frame falls due each period and is sent when the bus is free, waits when it is not, and is late after 5
ms (R589, R602, R603, R604, Table 18.9). -/
def Obligations.SafetyFramesGoOut : Prop :=
  ∀ s : State,
    (s.framesOn = false → ∀ b rb, Does (.safetyFramePeriod b rb) s fun t => t = s) ∧
    (s.framesOn = true → s.safe.waiting = none → Does (.safetyFramePeriod true true) s fun t =>
      t.safe.lastFrame.length = 64 ∧ fieldAt t.safe.lastFrame 29 1 = s.ward.st.code ∧ t.safe.waiting = none ∧
      s.safe.dueAt + 1000000 * s.fld (Reg.safeTxcfg 1) 15 8 ≤ t.upNs) ∧
    (s.framesOn = true → s.safe.waiting = none → ∀ rb, Does (.safetyFramePeriod false rb) s fun t =>
      (t.safe.waiting.map (·.1)) = some t.upNs ∧ t.safe.lastFrame = s.safe.lastFrame) ∧
    (∀ due p, s.safe.waiting = some (due, p) → s.safe.late = true → Does .safeFrameTxLate s fun t => t = s.elapseTo (due + 5000000)) ∧
    (∀ due p, s.safe.waiting = some (due, p) → s.safe.late = false →
      let u := s.elapseTo (due + 5000000)
      Does .safeFrameTxLate s fun t =>
        t = ({ u with safe := { u.safe with late := true, txOk := false } } : State).reactSafety { fault := .safeFrameTx } 0xF) ∧
    (s.safe.waiting = none → Does .safeFrameTxLate s fun t => t = s) ∧
    (s.safe.rom = true → s.inReset = false → Does .romSafetyFrame s fun t =>
      t.safe.lastFrame.length = 64 ∧ bitOf (fieldAt t.safe.lastFrame 30 1) 2 = true)

/-- Gaskets drain, open and seal and blocks reset as Table 3.9 gives, and only where R119 and R120 admit the command
(R116, R118, R119, R120, R133, Table 3.9, Table 3.10). -/
def Obligations.GasketsDrainSealAndReset : Prop :=
  ∀ (s : State) (who : Requester) (g : Nat), g < 119 →
    (s.regGate who .write (Reg.gskCtl g) true = none → WSet.dss.has s.ward.st = true → 1 ≤ s.fld (Reg.gskCtl g) 15 8 →
      (s.mayDrain g = true → (s.gasket g).st = .opened → Does (.gasketDrain who g) s fun t =>
        (t.gasket g).st = .draining ∧ (t.gasket g).since = s.upNs ∧ (∀ h, h ≠ g → t.gasket h = s.gasket h) ∧ t.resp = .ok) ∧
      (s.mayDrain g = false → Does (.gasketDrain who g) s fun t =>
        t.gsk = s.gsk ∧ t.fld Reg.sysErr 0 0 = 1 ∧ RegsBut s t [Reg.sysErr, Reg.sysErrLog, Reg.gskCtl g]) ∧
      ((s.gasket g).st = .sealed → (s.gasket g).powered = true → (s.gasket g).inReset = false → Does (.gasketOpen who g) s fun t =>
        (t.gasket g).st = .opened ∧ (∀ h, h ≠ g → t.gasket h = s.gasket h) ∧ t.resp = .ok) ∧
      ((s.gasket g).st ≠ .sealed ∨ (s.gasket g).powered = false ∨ (s.gasket g).inReset = true →
        Does (.gasketOpen who g) s fun t => t.gsk = s.gsk ∧ t.resp = .ok) ∧
      (s.mayReset g = true → Does (.blockReset who g) s fun t =>
        (t.gasket g).inReset = true ∧ (t.gasket g).st = .sealed ∧ (t.gasket g).since = s.upNs ∧ t.resp = .ok) ∧
      (s.mayReset g = false → Does (.blockReset who g) s fun t =>
        t.gsk = s.gsk ∧ t.fld Reg.sysErr 0 0 = 1 ∧ RegsBut s t [Reg.sysErr, Reg.sysErrLog, Reg.gskCtl g])) ∧
    ((s.gasket g).st = .draining → s.gskOutst g = false → Does (.gasketDrainComplete g) s fun t =>
      (t.gasket g).st = .sealed ∧ (∀ h, h ≠ g → t.gasket h = s.gasket h) ∧ t.mem = s.mem ∧ t.weave = s.weave ∧
      t = (s.gskSeal g).abortsEnd) ∧
    ((s.gasket g).st = .draining → s.gskOutst g = true → Does (.gasketDrainComplete g) s fun t => t = s) ∧
    ((s.gasket g).st = .draining → Does (.drainTimeout g) s fun t =>
      (t.gasket g).st = .sealed ∧ t.fld (Reg.gskStat g) 9 9 = 1 ∧ t.mem = s.mem ∧
      (s.gasket g).since + (if (s.gasket g).bound = 0 then 100000 * s.fld (Reg.gskCtl g) 15 8 else (s.gasket g).bound) ≤ t.upNs) ∧
    ((s.gasket g).st ≠ .draining → Does (.drainTimeout g) s fun t => t = s) ∧
    ((s.gasket g).inReset = true → s.ward.st ≠ .rouse → Does (.blockResetRelease g) s fun t => (t.gasket g).inReset = false)

/-- PARK and WAKE_IN are sampled, counted and judged as the rules give, WAKE_IN with drive intent rouses a STEEP device
and ends STANDBY, and a trapped ROUSE waits for its block (the sample instants are the model's choice, log entry 149)
(R28, R29, R34, R37, R38, R39, R41, Table 1.4, Table 1.7, Table 1.9). -/
def Obligations.ParkWakeAndRouse : Prop :=
  ∀ (s : State) (a b : Bool),
    (s.samples = true → s.ward.st = .drive → a ≠ b → Does (.parkSample a b) s fun t =>
      t.upNs = max s.upNs (sampleAt (s.nextInstant s.park.parkNext)) ∧ t.park.parkNext = s.nextInstant s.park.parkNext + 1 ∧
      t.park.aRaw = a ∧ t.park.bRaw = b ∧ t.park.agree = true ∧ t.park.agreed = a ∧
      t.park.disc = 0 ∧ t.park.run = min 50 (s.park.run + 1) ∧ t.park.fault = s.park.fault ∧
      t.park.clearReady = (s.park.fault && decide (49 ≤ s.park.run)) ∧ t.ward = s.ward) ∧
    (s.samples = true → s.ward.st = .drive → s.park.disc < s.tDisc → Does (.parkSample a a) s fun t =>
      t.park.agree = false ∧ t.park.agreed = s.park.agreed ∧ t.park.disc = min 1023 (s.park.disc + 1) ∧ t.park.run = 0 ∧
      t.park.fault = s.park.fault ∧ t.park.clearReady = false ∧ t.ward = s.ward) ∧
    (s.samples = true → s.ward.st = .drive → s.tDisc < min 1023 (s.park.disc + 1) → s.park.fault = false →
      Does (.parkSample a a) s fun t => t.park.fault = true ∧ t.fld Reg.safeActive 0 0 = 1) ∧
    (s.samples = false → (Does (.parkSample a b) s fun t => t = s) ∧ Does (.wakeInSample a) s fun t => t = s) ∧
    (s.samples = true → s.ward.st = .drive → (Does (.wakeInSample true) s fun t => t.park.wakeRun = s.park.wakeRun + 1 ∧ t.ward = s.ward) ∧
      (Does (.wakeInSample false) s fun t => t.park.wakeRun = 0 ∧ t.ward = s.ward) ∧
      (s.park.wakeRun ≤ 5 → Does .wakeDriveIntent s fun t => t.park.wakeRun = 5 ∧ t.ward = s.ward)) ∧
    (s.samples = true → s.ward.st = .steep → s.park.wakeRun ≤ 4 →
      (s.ward.cozy = false → s.img.force = .both → Does .wakeDriveIntent s fun t =>
        t.ward.st = .rouse ∧ t.ward.prev = .steep ∧ t.ward.since = t.upNs ∧ s.upNs ≤ t.upNs ∧ t.img.force = .drive ∧
        (t.ward.phase = .selfProof ∨ t.ward.phase = .trapped)) ∧
      (s.ward.cozy = true → Does .wakeDriveIntent s fun t =>
        t.ward.st = .steep ∧ t.ward.wake = true ∧ t.ward.rouseCauses = s.ward.rouseCauses ||| 0x4 ∧ t.park.wakeRun = 5) ∧
      (s.ward.cozy = true → 1 ≤ s.park.wakeRun → Does (.wakeInSample false) s fun t =>
        t.ward = { s.ward with wake := true } ∧ t.park.wakeRun = 0)) ∧
    (s.samples = true → s.ward.st = .standby → s.park.wakeRun ≤ 4 →
      (Does .wakeDriveIntent s fun t => t.ward.st = .boot ∧ t.power.phase = .held ∧ t.mem = [] ∧ t.reg Reg.rstCause = s.reg Reg.rstCause) ∧
      (1 ≤ s.park.wakeRun → Does (.wakeInSample false) s fun t => t.ward.st = .boot ∧ t.power.phase = .held)) ∧
    (s.park.fault = true → Does (.parkDiscFault a) s fun t => t = s) ∧
    (s.samples = true → s.ward.st = .drive → s.park.fault = false → s.park.disc ≤ s.tDisc → s.tDisc < 1023 →
      Does (.parkDiscFault a) s fun t => t.park.fault = true) ∧
    (s.park.fault = false → Does (.parkClearReady a) s fun t => t = s) ∧
    (s.samples = true → s.ward.st = .drive → s.park.fault = true → s.park.run < 50 → Does (.parkClearReady a) s fun t =>
      t.park.clearReady = true ∧ t.park.fault = true) ∧
    (∀ g, g < 128 → s.ward.st = .rouse → s.ward.phase = .trapped → (s.gasket g).inReset = true →
      (64 ≤ g ∨ bitOf ((s.img.drive.getD {}).lend) g = false ∨ bitOf ((s.img.drive.getD {}).spare) g = false) →
      Does (.blockResetNotReleased g) s fun t =>
        t = (s.elapseTo ((s.gasket g).since + 2000000)).fatal .rouseTimeout 0xF 118 0x200) ∧
    (∀ g, g < 64 → s.ward.st = .rouse → s.ward.phase = .trapped → (s.gasket g).inReset = true →
      bitOf ((s.img.drive.getD {}).lend) g = true → bitOf ((s.img.drive.getD {}).spare) g = true →
      Does (.blockResetNotReleased g) s fun t => t.img.spareOut.contains g = true ∧ t.ward.st = .rouse)

/-- A completion record is 32 bytes and holds every field of Table 9.6 at its offset, with the phase of its pass
through the ring (R302, Table 9.6, Table 9.7). -/
def Obligations.CompletionRecordLayout : Prop :=
  ∀ (s : State) (e q : Nat) (y : Entry) (d : Ending),
    let b := s.recordOf e q y d
    b.length = 32 ∧ fieldAt b 0 4 = y.tag % 2 ^ 32 ∧ fieldAt b 4 4 = y.seq % 2 ^ 32 ∧ fieldAt b 8 1 = d.status.code % 256 ∧
    fieldAt b 9 1 = d.validity % 256 ∧ fieldAt b 0xA 1 = (d.fpsum ||| y.fpsum) % 256 ∧
    fieldAt b 0xB 1 % 2 = ((s.queue e q).completed / s.qSize e q + 1) % 2 ∧
    bitOf (fieldAt b 0xB 1) 1 = d.skipped ∧ bitOf (fieldAt b 0xB 1) 2 = (d.part || (y.wrote && !d.status.permits)) ∧
    fieldAt b 0xC 1 = y.cls % 256 ∧ fieldAt b 0xD 1 = y.op % 256 ∧ fieldAt b 0x10 8 = d.result % 2 ^ 64 ∧
    (d.unchecked = true → fieldAt b 0x18 4 = 0) ∧
    (d.unchecked = false → y.started = true → fieldAt b 0x18 4 = min ((y.endNs - y.startNs) / 1000) 0xFFFFFFFF)

/-- A due queue's entry is taken and counted, starts or is skipped on its predecessors' codes, times out, and is
recorded once (R295, R296, R297, R298, R302, R303, R306, R309, R312, R10). -/
def Obligations.EntriesAreTakenStartedAndRecorded : Prop :=
  ∀ (s u v : State) (e q : Nat) (r : EntryRef) (y : Entry) (d : Ending) (l : List Past) (st : Status) (bs : List Byte)
    (ext : List ExtData) (ups : List Upset) (recs : List Nat) (iters : Nat),
    (e < 8 → q < 16 → s.takeable e q = true → s.outranked e q = false → (s.turnTaken e q).readEntry e q ext ups = (.ok, bs, u) →
      (u.queue e q).flight.all (fun x => x.seq != nextSeq (u.queue e q)) = true → Does (.entryTake e q ext ups) s fun t =>
        (t.queue e q).taken = ((u.queue e q).taken + 1) % 2 ^ 32 ∧
        (t.entry ⟨e, q, nextSeq (u.queue e q)⟩).map (fun x => (x.bytes, x.takenNs)) = some (bs, u.upNs)) ∧
    (e < 8 → q < 16 → s.takeable e q = true → s.outranked e q = false → (s.turnTaken e q).readEntry e q ext ups = (st, bs, u) →
      st ≠ .ok → Does (.entryTake e q ext ups) s fun t => t = u.qStop e q st) ∧
    (e < 8 → q < 16 → s.takeable e q = false → Does (.entryTake e q ext ups) s fun t => t = s) ∧
    (s.entry r = some y → y.started = false → y.ending = none → s.queuesServed = true → s.stewardRuns r.encl = true →
      (s.earlier r).all (fun x => x.started || x.ending.isSome) = true → (y.fence = true → s.earlier r = []) →
      predecessors y = some l →
      (l.all (·.status.permits) = true →
        let w := s.modEntry r fun x => { x with started := true, startNs := s.upNs, validity := l.foldl (fun n p => max n p.validity) 0 }
        (y.cls = 0 → Does (.entryStart r ext ups) s fun t => t = w ∧
          (t.entry r).map (fun x => (x.started, x.startNs)) = some (true, s.upNs)) ∧
        (w.admission y r.encl ext ups = (.ok, v) → Does (.entryStart r ext ups) s fun t => t = v)) ∧
      (l.all (·.status.permits) = false → y.runOnFail = true → y.cls = 0 → Does (.entryStart r ext ups) s fun t =>
        (t.entry r).map (fun x => (x.started, x.startNs, x.validity)) =
          some (true, s.upNs, l.foldl (fun n p => max n p.validity) 3)) ∧
      (l.all (·.status.permits) = false → y.runOnFail = false → Does (.entryStart r ext ups) s fun t =>
        Ended t r ((l.filter (fun p => !p.status.permits)).foldl (fun z p => z.worse p.status) .ok) 0 ∧
        t = { s with queues := t.queues })) ∧
    (s.entry r = some y → predecessors y = none → Does (.entryStart r ext ups) s fun t => t = s) ∧
    (∀ us, s.entry r = some y → budgetOf y = some us → y.ending = none →
      (y.started = true → Does (.entryBudgetExpiry r iters ext ups) s fun t =>
        t = (s.elapseTo ((if y.early then y.takenNs else y.startNs) + 1000 * us)).budgetEnd r y iters ext ups) ∧
      (y.started = false → y.early = true → Does (.entryBudgetExpiry r iters ext ups) s fun t =>
        Ended t r .timeout 0 ∧ y.takenNs + 1000 * us ≤ t.upNs) ∧
      (y.started = false → y.early = false → Does (.entryBudgetExpiry r iters ext ups) s fun t => t = s)) ∧
    (s.entry r = some y → y.ending = some d → s.queuesServed = true → s.stewardRuns r.encl = true →
      (y.cls ≠ 1 ∨ y.resultHdr = false ∨ recs = []) →
      (s.qUnacked r.encl r.queue < s.qSize r.encl r.queue →
        (s.release r y d.status).writeRecord r (((s.release r y d.status).entry r).getD y) d ext ups = (.ok, v) →
        Does (.entryComplete r recs ext ups) s fun t =>
          (t.queue r.encl r.queue).completed = ((v.queue r.encl r.queue).completed + 1) % 2 ^ 32 ∧ t.entry r = none ∧
          (y.seq / 2 ^ 32 = (v.queue r.encl r.queue).life → (t.queue r.encl r.queue).past.head? =
            some { seq := y.seq % 2 ^ 32, status := d.status, validity := d.validity })) ∧
      (s.qSize r.encl r.queue ≤ s.qUnacked r.encl r.queue → Does (.entryComplete r recs ext ups) s fun t => t = s)) ∧
    (s.queuesServed = false ∨ s.stewardRuns r.encl = false → Does (.entryComplete r recs ext ups) s fun t => t = s) ∧
    (∀ n rest, e < 8 → q < 16 → (s.queue e q).notify = n :: rest → (s.queue e q).armed = true → Does (.irqTimeExpiry e q) s fun t =>
      (t.queue e q).armed = false ∧ (t.queue e q).acked = false ∧ (t.queue e q).raised = (s.queue e q).raised + 1 ∧
      n.2 + 1000 * s.fld (qIrq e q) 31 16 ≤ t.upNs) ∧
    (e < 8 → q < 16 → (s.queue e q).armed = false → Does (.irqTimeExpiry e q) s fun t => t = s)

namespace Sys2Proof

/-- An operator's entry after its placement on tiles `ts`, with the in-force slots of its models bound. -/
def Placed (s t : State) (r : EntryRef) (y : Entry) (ts models : List Nat) (split : Nat) : Prop :=
  (t.entry r).map (fun z => (z.tiles, z.bound, z.split)) =
    some (tileMask ts, y.bound ++ models.map fun m => (s.model m).ptr - 1, split) ∧
  t = { s with queues := t.queues, slots := t.slots }

/-- Every tile of a list is idle, and no entry that has not ended is placed on it. -/
def TilesFree (s : State) (ts : List Nat) : Prop :=
  ∀ g ∈ ts, (s.tile g).st = .idle ∧
    ∀ e q, e < 8 → q < 16 → ∀ z ∈ (s.queue e q).flight, bitOf z.tiles g = true → z.ending ≠ none

/-- Every model of a list has a slot in force that the present state may use (R344). -/
def ModelsInForce (s : State) (models : List Nat) : Prop :=
  ∀ m ∈ models, (s.model m).ptr ≠ 0 ∧ s.ownerUsable (s.model m).owner = true ∧ (s.slot ((s.model m).ptr - 1)).st = .inForce

/-- What a command that places a started RUN entry does: on tiles `ts`, with its minimum `need` (R318, R344, Table 9.5). -/
def PlacesOn (s : State) (r : EntryRef) (y : Entry) (ts models : List Nat) (need split : Nat) (c : Instr) : Prop :=
  (max 1 need ≤ ts.length → ModelsInForce s models → TilesFree s ts → Does c s fun t => Placed s t r y ts models split) ∧
  (max 1 need ≤ ts.length → ModelsInForce s models → ¬TilesFree s ts → Does c s fun t =>
    (t.entry r).map (fun z => (z.tiles, z.ending)) = some (0, none) ∧ t = { s with queues := t.queues }) ∧
  (max 1 need ≤ ts.length → ¬ModelsInForce s models → Does c s fun t => Ended t r (.op 0x28) 0 ∧ t = { s with queues := t.queues }) ∧
  (ts.length < max 1 need → Does c s fun t => Ended t r (.op 0) 0 ∧ t = { s with queues := t.queues })

/-- The same of the operator `op`: its tiles are those of TILE_MASK that its enclosure owns, all of them for a mask of zero. -/
def OpPlaces (s : State) (r : EntryRef) (y : Entry) (models : List Nat) (need split op : Nat) (c : Instr) : Prop :=
  s.running r 1 op = some y → y.tiles = 0 →
    PlacesOn s r y ((List.range 64).filter fun g => s.tileOwner g = r.encl && (y.arg 8 8 = 0 || bitOf (y.arg 8 8) g))
      models need split c

/-- The same of a compiled graph, whose serial is the image's; in DRIVE it runs on the tiles it names. -/
def GraphPlaces (s : State) (r : EntryRef) (y : Entry) (models : List Nat) (need serial named op : Nat) (c : Instr) : Prop :=
  s.running r 1 op = some y → y.tiles = 0 →
    ((s.imgOf r.encl).map (·.serial) ≠ some serial → Does c s fun t => Ended t r (.op 0x20) 0 ∧ t = { s with queues := t.queues }) ∧
    ((s.imgOf r.encl).map (·.serial) = some serial →
      (s.ward.st ≠ .drive → PlacesOn s r y
        ((List.range 64).filter fun g => s.tileOwner g = r.encl && (y.arg 8 8 = 0 || bitOf (y.arg 8 8) g)) models need y.split c) ∧
      (s.ward.st = .drive → PlacesOn s r y
        ((List.range 64).filter fun g => s.tileOwner g = r.encl && bitOf named g) models need y.split c))

end Sys2Proof

/-- Each of the 18 operators and the two compiled graphs is placed on its tiles with its models bound, or ends with its
code; it ends with OK or POISONED when its kernels have; partial sums stand in K order (R311, R316, R318, R319, R344, R346,
Table 9.5). -/
def Obligations.OperatorsArePlacedOnTiles : Prop :=
  ∀ (s : State) (r : EntryRef) (y : Entry) (models : List Nat) (need split serial named : Nat) (sums : List KSum)
    (ext : List ExtData) (ups : List Upset),
    OpPlaces s r y models need split 0x00 (.gemm r models need split sums) ∧
    OpPlaces s r y models need split 0x01 (.gemmBiasAct r models need split sums) ∧
    OpPlaces s r y models need split 0x02 (.batchedGemm r models need split sums) ∧
    OpPlaces s r y models need split 0x03 (.conv2d r models need split sums) ∧
    OpPlaces s r y models need split 0x04 (.groupedConv r models need split sums) ∧
    OpPlaces s r y models need y.split 0x10 (.activation r models need) ∧
    OpPlaces s r y models need y.split 0x11 (.layerNorm r models need) ∧
    OpPlaces s r y models need y.split 0x12 (.rmsNorm r models need) ∧
    OpPlaces s r y models need y.split 0x13 (.softmax r models need) ∧
    OpPlaces s r y models need y.split 0x14 (.convert r models need) ∧
    OpPlaces s r y models need y.split 0x15 (.quantize r models need) ∧
    OpPlaces s r y models need y.split 0x16 (.reduce r models need) ∧
    OpPlaces s r y models need y.split 0x17 (.elementwise r models need) ∧
    OpPlaces s r y models need y.split 0x30 (.copy r models need) ∧
    OpPlaces s r y models need y.split 0x31 (.transpose r models need) ∧
    OpPlaces s r y models need y.split 0x32 (.gather r models need) ∧
    OpPlaces s r y models need y.split 0x33 (.scatter r models need) ∧
    OpPlaces s r y models need y.split 0x34 (.fill r models need) ∧
    GraphPlaces s r y models need serial named 0x70 (.runGraph r models need serial named) ∧
    GraphPlaces s r y models need serial named 0x71 (.runGraphCont r models need serial named) ∧
    (s.running r 1 0x00 = some y → y.tiles ≠ 0 → (y.split ≠ 3 ∨ sums = []) →
      Does (.gemm r models need split sums) s fun t => t = s) ∧
    (∀ l l' : List (Nat × Nat), l.Perm l' → (l.map (·.1)).Nodup → kOrder l = kOrder l') ∧
    (s.entry r = some y → y.ending = none → y.byKernels = true → y.op ≠ 0x71 → y.tiles ≠ 0 → y.resultHdr = false →
      s.noKernel r = true → s.queuesServed = true → s.stewardRuns r.encl = true →
      s.qSize r.encl r.queue ≤ s.qUnacked r.encl r.queue → Does (.entryComplete r [] ext ups) s fun t =>
        Ended t r (if y.poisoned then .poisoned else .ok) 0)

/-- LEAF_LOAD fills a slot, POUR switches a model to it in one step, EVICT empties it, each ending its entry with
its code (R324, R336, R338, R341, R343, R345, R348, Table 10.6, Table 10.1). -/
def Obligations.WeightSlotsLoadPourAndEvict : Prop :=
  ∀ (s u : State) (r : EntryRef) (y : Entry) (k : Nat) (b ct : List Byte) (st : Status) (l : Load) (ext : List ExtData) (ups : List Upset),
    (s.running r 2 1 = some y → y.arg 8 4 = k → (s.slot k).load = none → s.admitLoad y r.encl ext ups = (.ok b, u) →
      let w := u.runningLoads
      let q : NvmeReq := { id := u.caddy.nextId, slot := k, nsid := fieldAt b 4 4, lba := fieldAt b 8 8, units := 16, since := u.upNs }
      (4 ≤ w → Does (.leafLoad r ext ups) s fun t =>
        (t.slot k).st = .loading ∧ ((t.slot k).load.map fun x => (loadRef x, x.waits, x.source)) = some (r, true, fieldAt b 8 8) ∧
        (t.model (k / 2)).owner = u.ownerTag r.encl ∧ t.queues = u.queues) ∧
      (w < 4 → fieldAt b 0 1 = 1 → u.caddy.ready = true → Does (.leafLoad r ext ups) s fun t =>
        (t.slot k).st = .loading ∧ ((t.slot k).load.map fun x => (loadRef x, x.waits)) = some (r, false) ∧
        t.caddy.outst = u.caddy.outst ++ [q])) ∧
    (s.running r 2 1 = some y → y.arg 8 4 = k → (s.slot k).load = none → s.admitLoad y r.encl ext ups = (.error st, u) →
      Does (.leafLoad r ext ups) s fun t => t = (u.bump (Reg.qblk r.encl + 8) 31 16).finish r st 0) ∧
    ((s.slot k).load = some l → s.entry (loadRef l) = some y → y.ending = none → l.waits = false → l.kind = 1 →
      s.slots.all (fun e => !((e.2.load.map (·.waits)).getD false)) = true →
      (l.fail = none → l.placed = true → (s.slot k).segs.length ≤ l.curSeg → s.nvmeHeld k = 0 → Does (.leafLoadEnd k ext ups) s fun t =>
        t.slot k = { s.slot k with st := .ready, load := none } ∧ Ended t (loadRef l) .ok 0) ∧
      (l.fail = some st → Does (.leafLoadEnd k ext ups) s fun t => t.slot k = {} ∧ Ended t (loadRef l) st 0)) ∧
    (∀ layer g fills, s.entry r = some y → y.ending = none → y.bound.contains k = true →
      ((s.slot k).st = .inForce ∨ (s.slot k).st = .ready) → (s.slot k).segs.filter (fun g => g.layer = layer ∧ g.tier = 2) = [g] →
      (s.handle (s.slot k).handle).isSome = true →
      extRead ext (((s.slot k).source + g.first) * 4096) (4096 * g.units) = (.ok, ct) →
      let pos := if (s.slot k).ringBytes < (s.slot k).ringPos + 4096 * g.units then 0 else (s.slot k).ringPos
      s.ringBusy (s.slot k) [(pos, 4096 * g.units)] = false →
      s.writeRun (s.stewardOf r.encl) ((s.slot k).ring + pos) (s.decrypt (s.slot k).handle g.first g.units ct) ext ups = (.ok, u) →
      Does (.stagingComplete k layer r fills ext ups) s fun t =>
        (t.slot k).ringPos = pos + 4096 * g.units ∧ t.mem = u.mem) ∧
    (∀ m, s.running r 2 2 = some y → y.arg 0 4 = m → y.arg 4 4 = k → s.pourCheck y r.encl = .ok → (s.slot k).st = .ready →
      (s.model m).ptr ≠ k + 1 → Does (.pour r) s fun t =>
        (t.model m).ptr = k + 1 ∧ (t.slot k).st = .inForce ∧
        ((s.model m).ptr ≠ 0 → (s.slot ((s.model m).ptr - 1)).st = .inForce → (t.slot ((s.model m).ptr - 1)).st = .ready) ∧
        t.fld (Reg.qblk r.encl + 8) 15 0 = min 0xFFFF (s.fld (Reg.qblk r.encl + 8) 15 0 + 1) ∧ Ended t r .ok 0) ∧
    (s.running r 2 2 = some y → s.pourCheck y r.encl ≠ .ok → Does (.pour r) s fun t => t = s.finish r (s.pourCheck y r.encl) 0) ∧
    (s.running r 2 3 = some y → y.arg 0 4 = k → s.evictCheck y r.encl = .ok → (s.slot k).st ≠ .empty →
      s.evicts.contains { encl := r.encl, queue := r.queue, seq := r.seq, slot := k } = false →
      ((s.slot k).bindings = 0 → Does (.evict r) s fun t => t.slot k = {} ∧ Ended t r .ok 0) ∧
      ((s.slot k).bindings ≠ 0 → Does (.evict r) s fun t =>
        t = { s with evicts := s.evicts ++ [{ encl := r.encl, queue := r.queue, seq := r.seq, slot := k }] })) ∧
    (∀ v : Evict, s.evicts.find? (·.slot = k) = some v → s.entry ⟨v.encl, v.queue, v.seq⟩ = some y → y.ending = none →
      ((s.slot k).bindings = 0 → (s.slot k).st ≠ .inForce → Does (.evictRelease k) s fun t =>
        t.slot k = {} ∧ Ended t ⟨v.encl, v.queue, v.seq⟩ .ok 0 ∧ t.evicts.contains v = false) ∧
      ((s.slot k).bindings ≠ 0 → Does (.evictRelease k) s fun t => t = s))

/-- Each KV operation ends with the code and RESULT of its run; appends without pages wait; POOL_RESET makes the
pool READY (R356, R367, R368, R372, R376, R385, Table 11.6, Table 11.7). -/
def Obligations.KvOperationsEndWithTheirResult : Prop :=
  ∀ (s t0 : State) (r : EntryRef) (y y' : Entry) (v : KvEnv) (k fl : Nat) (po : Bool) (ext : List ExtData) (ups : List Upset),
    (s.kvEnv (kvPoolId y) r.encl ext ups = some v → t0.entry r = some y' → y'.ending = none →
      (s.running r 3 1 = some y → s.kvRun v (KvM.poolReset v y) = ((.ok, some k), fl, po, t0) →
        Does (.poolReset r ext ups) s fun t => Ended t r .ok k ∧ k = v.item.pages ∧ (t.kvPool v.pid).st = .ready ∧
          (t.kvPool v.pid).layers = y.arg 1 1 ∧ (t.kvPool v.pid).heads = y.arg 2 1 ∧ (t.kvPool v.pid).dim = y.arg 4 2 ∧
          (t.kvPool v.pid).nFree = v.item.pages ∧ (t.kvPool v.pid).opens = 0 ∧ (t.kvPool v.pid).waits = []) ∧
      (s.running r 3 2 = some y → s.kvRun v (KvM.seqOpen v y) = ((.ok, some k), fl, po, t0) →
        Does (.seqOpen r ext ups) s fun t => Ended t r .ok k ∧ t = { t0 with queues := t.queues }) ∧
      (s.running r 3 3 = some y → s.kvRun v (KvM.seqFork v y) = ((.ok, some k), fl, po, t0) →
        Does (.seqFork r ext ups) s fun t => Ended t r .ok k ∧ t = { t0 with queues := t.queues }) ∧
      (s.running r 3 5 = some y → s.kvRun v (KvM.seqTrim v y) = ((.ok, some k), fl, po, t0) →
        Does (.seqTrim r ext ups) s fun t => Ended t r .ok k ∧ t = { t0 with queues := t.queues }) ∧
      (s.running r 3 6 = some y → s.kvRun v (KvM.seqClose v y) = ((.ok, some k), fl, po, t0) →
        Does (.seqClose r ext ups) s fun t => Ended t r .ok k ∧ t = { t0 with queues := t.queues }) ∧
      (∀ coll, s.running r 3 7 = some y → s.kvRun v (KvM.prefixQuery v y) = ((.ok, some (k, coll)), fl, po, t0) →
        Does (.prefixQuery r ext ups) s fun t => Ended t r (if coll then .op 0x31 else .ok) k ∧ t = { t0 with queues := t.queues }) ∧
      (s.running r 3 4 = some y → (∀ i, i < 16 → (s.kvPool i).waits.any (fun w => w.r = r) = false) →
        (s.kvRun v (KvM.seqAppend v y r.encl) = ((.ok, some (.done k)), fl, po, t0) →
          Does (.seqAppend r ext ups) s fun t => Ended t r .ok k ∧ t = { t0 with queues := t.queues }) ∧
        (∀ i n, s.kvRun v (KvM.seqAppend v y r.encl) = ((.ok, some (.waits i n)), fl, po, t0) →
          Does (.seqAppend r ext ups) s fun t =>
            (t.kvPool v.pid).waits = (t0.kvPool v.pid).waits ++ [{ r := r, idx := i, need := n, since := t0.upNs }] ∧
            t.entry r = t0.entry r))) ∧
    (s.kvEnv (kvPoolId y) r.encl ext ups = none → s.running r 3 2 = some y →
      Does (.seqOpen r ext ups) s fun t => t = s.finish r .notFound 0) ∧
    (∀ w rest pid, (s.kvPool pid).waits = w :: rest → w.attn = false → w.need ≤ (s.kvPool pid).nFree + (s.kvPool pid).nCached →
      s.running w.r 3 4 = some y → s.kvEnv pid w.r.encl ext ups = some v →
      (s.setKvPool pid { s.kvPool pid with waits := rest }).kvRun v (KvM.seqAppendResume v y w.idx) = ((.ok, some k), fl, po, t0) →
      t0.entry w.r = some y' → y'.ending = none →
      Does (.appendPagesGranted pid ext ups) s fun t => Ended t w.r .ok k ∧ t = { t0 with queues := t.queues }) ∧
    (∀ w rest pid, (s.kvPool pid).waits = w :: rest → s.kvEnv pid w.r.encl [] [] = none → s.entry w.r = some y → y.ending = none →
      Does (.appendWaitExpiry pid) s fun t => Ended t w.r .noSpace 0 ∧ (t.kvPool pid).waits.contains w = false ∧
        t.fld (Reg.kvCnt pid) 31 16 = min 0xFFFF (s.fld (Reg.kvCnt pid) 31 16 + 1) ∧
        w.since + (s.kvPool pid).waitMs * 1000000 ≤ t.upNs) ∧
    (∀ w rest pid, (s.kvPool pid).waits = w :: rest → s.kvEnv pid w.r.encl [] [] = some v →
      Does (.appendWaitExpiry pid) s fun t => t = ((((s.elapseTo (w.since + (s.kvPool pid).waitMs * 1000000)).bump
        (Reg.kvCnt pid) 31 16).dropWaiter v w).finish w.r .noSpace 0)) ∧
    (∀ mask, s.answers = true → WSet.ss.has s.ward.st = true → Does (.kvCntClr mask) s fun t =>
      (∀ i, i < 16 → bitOf mask i = true → t.reg (Reg.kvCnt i) = 0 ∧ t.reg (Reg.kvShare i) = 0) ∧
      (∀ i, i < 16 → bitOf mask i = false → t.reg (Reg.kvCnt i) = s.reg (Reg.kvCnt i) ∧ t.reg (Reg.kvShare i) = s.reg (Reg.kvShare i)) ∧
      RegsBut s t ((List.range 16).flatMap fun i => [Reg.kvCnt i, Reg.kvShare i]) ∧ t = { s with regs := t.regs })

/-- An attention operator waits for its tiles, then runs on all of them and keeps its partial results for the merge;
PREFILL_ATTN merges every head itself (R318, R386, R389, R398, R400, R402, R406). -/
def Obligations.AttentionRunsAndMerges : Prop :=
  ∀ (s s1 t1 t2 : State) (r : EntryRef) (y : Entry) (h : AttnHdr) (v : KvEnv) (a : Attn) (fl : Nat) (bad : Bool) (st : Status)
    (flips : List (Nat × Nat × Nat)) (ext : List ExtData) (ups : List Upset),
    let ts := s.tilesFor r.encl (y.arg 8 8)
    let cmd (op : Nat) : Instr :=
      if op = 0x20 then .prefillAttn r ext ups flips else if op = 0x21 then .decodeAttn r ext ups flips else .retrievalAttn r ext ups flips
    (∀ op, (op = 0x20 ∨ op = 0x21 ∨ op = 0x22) → s.running r 1 op = some y → s.attnOf r = none →
      (ts.any s.tileTaken = true → Does (cmd op) s fun t => t = s) ∧
      (ts.any s.tileTaken = false → s.attnAdmit y r.encl ext ups = (.error st, s1) → Does (cmd op) s fun t => t = s1.finish r st 0) ∧
      (ts.any s.tileTaken = false → s.attnAdmit y r.encl ext ups = (.ok (h, v), s1) →
        (s1.kvPool v.pid).waits.find? (·.r = r) = none →
        let run := (s1.setKvPool v.pid (s1.kvPool v.pid)).kvRun { v with flips := flips }
          (KvM.attnRun { v with flips := flips } h y r ts false)
        (∀ need, run = ((.ok, some (.inl need)), fl, bad, t1) →
          Does (cmd op) s fun t => ((t.kvPool v.pid).waits.getLast?.map fun w => (w.r, w.need, w.attn)) = some (r, need, true)) ∧
        (run = ((.ok, some (.inr a)), fl, bad, t1) →
          (((t1.contribute r (if bad then .poisoned else .ok) 0 fl false).modEntry r fun z =>
            { z with tiles := tileMask ts }).partialWrites op a = (.ok, t2)) →
          (op ≠ 0x20 → Does (cmd op) s fun t => t.attnOf a.r = some a ∧ t = { t2 with attns := t.attns }) ∧
          (op = 0x20 → Does (cmd op) s fun t => t = (List.range a.heads).foldl (fun u k =>
            match u.attnOf r with
            | none => u
            | some b => u.mergeHead 0x20 b k ext ups) (t2.setAttn a))))) ∧
    (∀ head, s.attnOf r = some a → s.entry r = some y → y.ending = none → head < a.heads → a.merged.contains head = false →
      Does (.partialMerge r head ext ups) s fun t => t = s.mergeHead y.op a head ext ups) ∧
    (∀ head, s.attnOf r = some a → head < a.heads → a.merged.contains head = true → Does (.partialMerge r head ext ups) s fun t => t = s)

namespace Sys2Proof

/-- The collective that a started Collective entry becomes on this rank. -/
def collOf (s : State) (r : EntryRef) (y : Entry) (op : Nat) (d : CollDesc) : Coll :=
  s.collHold { r := r, op := op, rank := y.arg 18 2, size := max 1 (y.arg 16 2), group := y.arg 20 4, desc := d }

/-- No other rank of the group is on this device, and the entry has no collective yet. -/
def CollFree (s : State) (r : EntryRef) (g : Nat) : Prop := ∀ x ∈ s.loom.colls, x.group ≠ g ∧ x.r ≠ r

/-- A Collective entry of a group begins: it waits until all ranks are present, which rank 0 asks for up the chain. -/
def CollBegins (s : State) (r : EntryRef) (y : Entry) (op : Nat) (d : CollDesc) (c : Instr) : Prop :=
  s.running r 1 op = some y → CollFree s r (y.arg 20 4) → 2 ≤ y.arg 16 2 → Does c s fun t =>
    t.loom.colls = s.loom.colls ++ [collOf s r y op d] ∧ t = { s with loom := t.loom } ∧
    t.loom.sent = s.loom.sent ++ (if y.arg 18 2 = 0 then
      [.collReady (y.arg 20 4) 1 false op (y.arg 16 2) (collOf s r y op d).count true] else [])

/-- A rank's collective whose data does not pass yet. -/
def CollWaits (s : State) (r : EntryRef) (b : Coll) : Prop := s.coll r = some b ∧ b.r = r ∧ b.go = false ∧ b.up = 0 ∧ b.down = 0

end Sys2Proof

/-- A collective waits until all ranks are present and agree; then rank 0's chunk goes up, a barrier runs up and down the
chain, slices go round the ring; a disagreement or an aborted group ends it (R320, R564, R565, R566, Table 9.9, Table 17.4). -/
def Obligations.CollectivesMoveChunks : Prop :=
  ∀ (s u w : State) (r : EntryRef) (y : Entry) (d : CollDesc) (b b' : Coll) (loc : List Byte) (bad : Bool) (ext : List ExtData)
    (ups : List Upset) (cop size count i : Nat) (dn : Bool),
    let went : State := s.setColl { b with go := true }
    CollBegins s r y 0x40 d (.allReduce r d ext ups) ∧
    (s.attnOf r = none → CollBegins s r y 0x41 d (.allGather r d ext ups)) ∧
    CollBegins s r y 0x42 d (.reduceScatter r d ext ups) ∧
    CollBegins s r y 0x43 d (.broadcast r d ext ups) ∧
    CollBegins s r y 0x44 {} (.barrier r) ∧
    (s.running r 1 0x44 = some y → CollFree s r (y.arg 20 4) → y.arg 16 2 ≤ 1 → y.arg 18 2 = 0 → s.attnOf r = none →
      y.poisoned = false → Does (.barrier r) s fun t => Ended t r .ok 0 ∧ t.loom.sent = s.loom.sent) ∧
    (CollWaits s r b →
      (0 < b.rank → b.rank + 1 < b.size → Does (.loomColl r cop size count false i [] false (some true) ext ups) s fun t =>
        t = { s with loom := t.loom } ∧ t.loom.colls = s.loom.colls ∧ t.loom.sent = s.loom.sent ++
          [.collReady b.group (b.rank + 1) false b.op b.size b.count (decide (cop = b.op ∧ size = b.size ∧ count = b.count))]) ∧
      (0 < b.rank → b.rank + 1 = b.size → b.op ≠ 0x41 →
        Does (.loomColl r b.op b.size b.count false i [] false (some true) ext ups) s fun t =>
          t.coll r = some { b with go := true } ∧ t.loom.sent = s.loom.sent ++ [.collReady b.group (b.rank - 1) true b.op b.size b.count true]) ∧
      (0 < b.rank → b.op ≠ 0x41 → Does (.loomColl r cop size count true i [] false (some true) ext ups) s fun t =>
        t.coll r = some { b with go := true } ∧ t.loom.sent = s.loom.sent ++ [.collReady b.group (b.rank - 1) true b.op b.size b.count true]) ∧
      (b.rank = 0 → 2 ≤ b.size → s.attnOf r = none → s.entry r = some y → y.ending = none →
        Does (.loomColl r cop size count true i [] false (some false) ext ups) s fun t =>
          Ended t r (.op 0x18) 0 ∧ t.coll r = none ∧ t.loom.sent = s.loom.sent ++ [.abortGroup b.group 1 0x58]) ∧
      (b.rank = 0 → 2 ≤ b.size → b.op = 0x44 → Does (.loomColl r cop size count true i [] false (some true) ext ups) s fun t =>
        t.loom.sent = s.loom.sent ++ [.coll b.group 1 false 0 [] false] ∧ (t.coll r).map (fun c => (c.go, c.up)) = some (true, 1) ∧
        t = { s with loom := t.loom }) ∧
      (b.rank = 0 → 2 ≤ b.size → 0 < b.desc.bytes → b.desc.bytes ≤ 16384 → b.poison = false → u.coll r = some { b with go := true } →
        went.collRead { b with go := true } b.desc.src b.desc.bytes ext ups = (.ok, loc, bad, u) →
        (b.op = 0x40 ∨ (b.op = 0x42 ∧ b.size ≤ b.desc.bytes) →
          Does (.loomColl r cop size count true i [] false (some true) ext ups) s fun t =>
            t.loom.sent = u.loom.sent ++ [.coll b.group 1 false 0 (wordsBytes (collWide b.desc.etype loc)) bad] ∧ t.mem = u.mem ∧
            (t.coll r).map (·.up) = some 1) ∧
        (b.op = 0x43 → bad = false → u.attnOf r = none → u.entry r = some y → y.ending = none → y.poisoned = false →
          Does (.loomColl r cop size count true i [] false (some true) ext ups) s fun t =>
            t.loom.sent = u.loom.sent ++ [.coll b.group 1 false 0 loc false] ∧ Ended t r .ok 0 ∧ t.coll r = none)) ∧
      (b.rank = 0 → 2 ≤ b.size → b.op = 0x41 → b.inPlace = false → 0 < b.desc.bytes / b.size → b.desc.bytes / b.size ≤ 16384 →
        went.collRead { b with go := true } b.desc.src (b.desc.bytes / b.size) ext ups = (.ok, loc, bad, u) →
        u.gatherWrite { b with go := true } 0 0 loc bad ext ups = (.ok, w) → w.coll r = some b' → b'.r = r →
        Does (.loomColl r cop size count true i [] false (some true) ext ups) s fun t =>
          t.loom.sent = w.loom.sent ++ [.coll b.group 1 false 0 loc bad] ∧ t.mem = w.mem)) ∧
    (s.coll r = some b → b.go = false → Does (.loomColl r cop size count dn i loc bad none ext ups) s fun t => t = s) ∧
    (s.coll r = some b → b.r = r → b.go = true → b.op = 0x44 → b.poison = false → s.attnOf r = none → s.entry r = some y →
      y.ending = none → y.poisoned = false →
      (b.up = 0 → b.down = 0 → 0 < b.rank → b.rank + 1 = b.size →
        Does (.loomColl r cop size count false 0 [] false none ext ups) s fun t =>
          Ended t r .ok 0 ∧ t.loom.sent = s.loom.sent ++ [.coll b.group (b.rank - 1) true 0 [] false]) ∧
      (b.up = 0 → b.down = 0 → 0 < b.rank → b.rank + 1 < b.size →
        Does (.loomColl r cop size count false 0 [] false none ext ups) s fun t =>
          (t.coll r).map (·.up) = some 1 ∧ t.loom.sent = s.loom.sent ++ [.coll b.group (b.rank + 1) false 0 [] false]) ∧
      (b.up = 1 → b.down = 0 → b.rank = 0 → Does (.loomColl r cop size count true 0 [] false none ext ups) s fun t =>
        Ended t r .ok 0 ∧ t.coll r = none)) ∧
    (∀ g st, s.groupEntries g = [r] → s.attnOf r = none → s.entry r = some y → y.ending = none →
      Does (.abortGroup g st) s fun t => Ended t r (Status.ofCode st) 0 ∧ t.coll r = none)

/-- Solver entries become ready jobs; the engines start, suspend and end them, SAFETY first; the EGO job follows its
epoch (R486, R487, R489, R497, R500, R501, R504, R507, R509, R515). -/
def Obligations.SolverJobsRunAndEnd : Prop :=
  ∀ (s u w : State) (r : EntryRef) (y : Entry) (d b : List Byte) (j : Job) (x : Ego) (fl : List (Nat × Nat × Nat × Nat))
    (ext : List ExtData) (ups : List Upset) (who : Requester),
    (s.running r 1 0x60 = some y → s.solveDesc y r.encl 128 ext ups = (.ok, d, u) →
      (Desc.kind d ≠ 1 → Does (.lseSolve r ext ups) s fun t =>
        t = u.addJob { r := r, kind := .dense, desc := d, since := u.upNs }) ∧
      (Desc.kind d = 1 → u.lse.bind = none → Does (.lseSolve r ext ups) s fun t =>
        t.lse.bind = some ({ r := r, kind := .ego, desc := d, since := u.upNs }, d) ∧ t = { u with lse := t.lse })) ∧
    (s.running r 1 0x61 = some y → s.solveDesc y r.encl 128 ext ups = (.ok, d, u) → Does (.lseBundle r ext ups) s fun t =>
      t.lse.ready = u.lse.ready ++ [{ r := r, kind := .bundle, desc := d, since := u.upNs }] ∧ t = { u with lse := t.lse }) ∧
    (s.running r 1 0x62 = some y → s.solveDesc y r.encl 64 ext ups = (.ok, d, u) → Does (.assign r ext ups) s fun t =>
      t.lse.ready = u.lse.ready ++ [{ r := r, kind := .assign, desc := d, since := u.upNs }] ∧ t = { u with lse := t.lse }) ∧
    (∀ l, s.jobOrder true = j :: l → s.lse.assigner = none → Does (.lseJobStart true) s fun t =>
      t.lse.assigner = some j ∧ t.lse.ready = s.lse.ready.erase j ∧ t = { s with lse := t.lse }) ∧
    (∀ l, s.jobOrder false = j :: l → s.lse.solver = none → (s.lse.suspended = none ∨ s.jobSafety j = true) →
      Does (.lseJobStart false) s fun t =>
        t.lse.solver = some j ∧ t.lse.ready = s.lse.ready.erase j ∧ t.lse.suspended = s.lse.suspended) ∧
    (∀ q, s.lse.suspended = some q → s.lse.solver = none → (s.jobOrder false).any s.jobSafety = false →
      Does (.lseJobStart false) s fun t => t.lse.solver = some q ∧ t.lse.suspended = none ∧ t.lse.ready = s.lse.ready) ∧
    (s.lse.solver = some j → s.jobSafety j = false → s.lse.suspended = none → (s.jobOrder false).any s.jobSafety = true →
      Does .lseJobSuspend s fun t => t.lse.solver = none ∧ t.lse.suspended = some j ∧ t = { s with lse := t.lse }) ∧
    (s.lse.solver = some j → s.jobSafety j = true → Does .lseJobSuspend s fun t => t = s) ∧
    ((s.gasket 100).st = .opened → s.lse.assigner = some j →
      let s0 : State := { s with lse := { s.lse with assigner := none } }
      let rows := fieldAt j.desc 4 2
      let cols := fieldAt j.desc 6 2
      s0.readRun (.lse j.r.encl) (fieldAt j.desc 0x10 8) (2 * rows * cols) ext ups = (.ok, b, u) →
      (∀ total v, bestAssign (fun i c => fieldAt b (2 * (cols * i + c)) 2) cols (fieldAt j.desc 8 2) rows 0 [] = some (total, v) →
        let n := (v.filter (· ≠ 0xFFFF)).length
        u.writeRun (.lse j.r.encl) (fieldAt j.desc 0x18 8)
          (leBytes 4 total ++ leBytes 2 n ++ leBytes 2 0 ++ v.flatMap (leBytes 2)) ext ups = (.ok, w) →
        w.entry j.r = some y → y.ending = none → Does (.lseJobComplete true fl false ext ups) s fun t =>
          Ended t j.r .ok (n * 2 ^ 8 + total % 2 ^ 32 * 2 ^ 32) ∧ t.mem = w.mem) ∧
      (u.entry j.r = some y → y.ending = none → Does (.lseJobComplete true fl true ext ups) s fun t =>
        Ended t j.r .integrity 0 ∧ t.fld Reg.lseCnt 15 8 = min 255 (u.fld Reg.lseCnt 15 8 + 1) ∧ t.mem = u.mem)) ∧
    ((s.gasket 100).st = .opened → s.lse.solver = some j → j.kind = .dense →
      let s0 : State := { s with lse := { s.lse with solver := none } }
      ∀ n recs, s0.readMeas j.r.encl (Desc.meas j.desc) ext ups = (.ok, n, recs, u) →
        let o := denseRun j.desc (jobEnv j.desc (u.fld Reg.lseChkCtl 2 0) fl) recs
        (∀ delta cost, o.1 = .ok (delta, cost) →
          (u.counted o.2).writeRun (.lse j.r.encl) (Desc.out j.desc) (delta.flatMap (leBytes 8)) ext ups = (.ok, w) →
          w.entry j.r = some y → y.ending = none → Does (.lseJobComplete false fl false ext ups) s fun t =>
            Ended t j.r .ok (solveResult o.2.flags 1 0 (cost32 cost)) ∧ t.mem = w.mem) ∧
        (o.1 = .error .singular →
          ((u.counted o.2).writeRun (.lse j.r.encl) (Desc.out j.desc) ((List.replicate (Desc.n j.desc) 0).flatMap (leBytes 8)) ext
            ups).2 = w → w.entry j.r = some y → y.ending = none → Does (.lseJobComplete false fl false ext ups) s fun t =>
            Ended t j.r (.op 0x11) (solveResult o.2.flags 1 3 0) ∧ t.mem = w.mem)) ∧
    ((s.gasket 100).st = .opened → s.lse.solver = some j → j.kind = .ego → s.lse.ego = some x →
      let o := ({ s with lse := { s.lse with solver := none } } : State).egoRun x fl
      (o.1.2.2 = .converged → Does (.lseJobComplete false fl false ext ups) s fun t =>
        (t.lse.ego.map fun z => (z.phase, z.reuse, z.recEpoch, z.estate)) = some (.idle, 0, x.epoch + 1, 0)) ∧
      (o.1.2.2 = .limit → Does (.lseJobComplete false fl false ext ups) s fun t =>
        (t.lse.ego.map fun z => (z.phase, z.reuse, z.recEpoch)) = some (.idle, x.reuse + 1, x.epoch + 1))) ∧
    ((s.gasket 100).st ≠ .opened → ∀ as df, Does (.lseJobComplete as fl df ext ups) s fun t => t = s) ∧
    ((s.gasket 100).st = .opened → s.lse.ego = some x → x.phase = .polling → (s.elapse 10000).readRun (.lse 1) (Desc.meas x.desc) 16 ext ups = (.ok, b, u) →
      (fieldAt b 0 4 ≠ x.epoch % 2 ^ 32 → Does (.egoMeasPoll ext ups) s fun t => t = u) ∧
      (∀ n recs, fieldAt b 0 4 = x.epoch % 2 ^ 32 → u.readMeas 1 (Desc.meas x.desc) ext ups = (.ok, n, recs, w) →
        Does (.egoMeasPoll ext ups) s fun t =>
          (t.lse.ego.map fun z => (z.phase, z.inputs)) = some (.solving, egoInputs { x with phase := .solving, recs := (egoRecs x.desc recs).1 }) ∧
          (t.lse.ready.getLast?.map fun q => (q.kind, q.desc)) = some (.ego, x.desc))) ∧
    (s.lse.ego = some x → x.phase ≠ .idle → Does (.egoDeadline ext ups) s fun t =>
      (t.lse.ego.map fun z => (z.phase, z.reuse, z.recEpoch)) = some (.idle, x.reuse + 1, x.epoch + 1)) ∧
    (s.lse.ego = some x → x.phase = .idle → Does (.egoDeadline ext ups) s fun t => t = s) ∧
    (s.regGate who .write Reg.lseCntClr true = none → WSet.dss.has s.ward.st = true → Does (.lseCntClr who) s fun t =>
      t.reg Reg.lseCnt = 0 ∧ RegsBut s t [Reg.lseCnt] ∧ t.resp = .ok ∧ t.mem = s.mem)

/-- FUSE_EPOCH binds a profile, each due epoch's frame is committed by its deadline, GRID_EXPORT copies the last one
(R447, R448, R454, R474, R477, R478, R484, R600). -/
def Obligations.FusionBindsCommitsAndExports : Prop :=
  ∀ (s u w : State) (r : EntryRef) (y : Entry) (p d : List Byte) (n : Nat) (inp : FusionIn) (ext : List ExtData) (ups : List Upset)
    (who : Requester),
    (s.running r 1 0x51 = some y → s.fusion.bind = none → s.readProfile y r.encl ext ups = (.ok, p, u) →
      Does (.fuseEpoch r ext ups) s fun t => t = { u with fusion := { u.fusion with bind := some (r, p) } }) ∧
    (s.running r 1 0x51 = some y → s.fusion.bind.isSome = true → Does (.fuseEpoch r ext ups) s fun t => t = s.finish r .busy 0) ∧
    (s.fusion.due = some n → s.fusion.profile = some p → s.ward.st ≠ .halt →
      (s.fusion.warm = true → Does (.fusionFrameCommit inp ext ups) s fun t =>
        t.fusion.due = none ∧ t.fusion.warm = false ∧ t.fusion.lastEpoch = s.fusion.lastEpoch) ∧
      (s.fusion.warm = false →
        (Does (.fusionFrameCommit inp ext ups) s fun t =>
          t.fusion.lastEpoch = n ∧ t.fusion.committed = true ∧ t.fusion.validity / 4 = t.fusion.level) ∧
        (Does (.frameDeadline inp ext ups) s fun t =>
          t.fusion.lastEpoch = n ∧ t.fusion.committed = true ∧ t.fusion.validity / 4 = t.fusion.level) ∧
        (Prof.method p = 0 → inp.assigned = false → Does (.frameDeadline inp ext ups) s fun t =>
          t.fusion.validity % 4 = 2 ∨ t.fusion.validity = 19))) ∧
    (s.fusion.due = some n → s.fusion.profile = some p → s.ward.st = .halt →
      (Does (.fusionFrameCommit inp ext ups) s fun t => t = s) ∧
      Does (.frameDeadline inp ext ups) s fun t =>
        t.fusion.lastEpoch = n ∧ t.fusion.validity = 0x13 ∧ t.fusion.shown = [] ∧ t.fusion.due = none) ∧
    (s.fusion.due = none → Does (.frameDeadline inp ext ups) s fun t => t = s) ∧
    (s.running r 1 0x52 = some y → s.readRun (s.stewardOf r.encl) (y.arg 0 8) 20 ext ups = (.ok, d, u) →
      let g (i : Nat) : Nat := fieldAt d (8 + 2 * i) 2
      let bytes := (List.range (g 3)).flatMap fun j => (List.range (g 2)).flatMap fun i =>
        leBytes 2 (if g 0 + i < 512 ∧ g 1 + j < 512 then SMap.get emptyCell u.fusion.shown (512 * (g 1 + j) + (g 0 + i)) else emptyCell)
      u.writeRun (.fusion 1) (fieldAt d 0 8) bytes ext ups = (.ok, w) → w.entry r = some y → y.ending = none →
      Does (.gridExport r ext ups) s fun t => Ended t r .ok 0 ∧ t.mem = w.mem ∧
        ((t.entry r).bind (·.ending)).map (·.validity) = some (max y.validity (w.fusion.validity % 4))) ∧
    (s.regGate who .write Reg.fuCntClr true = none → WSet.dss.has s.ward.st = true → Does (.fuCntClr who) s fun t =>
      t.reg Reg.fuCnt = 0 ∧ RegsBut s t [Reg.fuCnt] ∧ t.resp = .ok ∧ t.mem = s.mem)

/-- A doorbell sets TAIL; enabling starts the queue's counts from 0 and is BUSY when enabled; CHEAD frees records up
to COMPLETED; RESUME clears STOPPED (R295, R297, R306, R323, Table 9.10). -/
def Obligations.QueueRegistersTakeTheirWrites : Prop :=
  ∀ (s : State) (who : Requester) (e q v : Nat), e < 8 → q < 16 →
    (s.regGate who .write (qTailKey e q) true = none → Does (.queueDoorbell who e q v) s fun t =>
      t.fld (qTailKey e q) 11 0 = v % 0x1000 ∧ RegsBut s t [qTailKey e q] ∧ t.resp = .ok ∧ t.queues = s.queues ∧ t.mem = s.mem) ∧
    (s.regGate who .write (Reg.qpage e q + 0x2C) true = none → Does (.queueResume who e q) s fun t =>
      t.queue e q = { s.queue e q with stopped := false } ∧
      (∀ e' q', q' < 16 → (e' ≠ e ∨ q' ≠ q) → t.queue e' q' = s.queue e' q') ∧ RegsBut s t [] ∧ t.resp = .ok ∧ t.mem = s.mem) ∧
    (s.regGate who .write (qCfg e q) true = none →
      (s.qOn e q = false → Does (.queueEnable who e q v) s fun t =>
        t.qOn e q = true ∧ t.fld (qCfg e q) 3 0 = (if 4 ≤ v % 16 ∧ v % 16 ≤ 12 then v % 16 else s.fld (qCfg e q) 3 0) ∧
        t.fld (qCfg e q) 5 4 = v / 16 % 4 ∧ (t.queue e q).taken = 0 ∧ (t.queue e q).completed = 0 ∧ (t.queue e q).stopped = false ∧
        (t.queue e q).flight = (s.queue e q).flight ∧ RegsBut s t [qCfg e q] ∧ t.resp = .ok ∧ t.mem = s.mem) ∧
      (s.qOn e q = true → Does (.queueEnable who e q v) s fun t => t = s.respond .busy 0) ∧
      (s.qOn e q = true → Does (.queueDisable who e q v) s fun t =>
        t.qOn e q = false ∧ t.fld (qCfg e q) 30 0 = s.fld (qCfg e q) 30 0 ∧ RegsBut s t [qCfg e q] ∧ t.queues = s.queues ∧
        t.resp = .ok ∧ t.mem = s.mem) ∧
      (s.qOn e q = false → Does (.queueDisable who e q v) s fun t =>
        t.qOn e q = false ∧ RegsBut s t [qCfg e q] ∧ t.queues = s.queues ∧ t.mem = s.mem)) ∧
    (s.regGate who .write (qCheadKey e q) true = none → v < 2 ^ 32 →
      let ahead := (v + 2 ^ 32 - (s.queue e q).completed) % 2 ^ 32
      (ahead = 0 ∨ 2 ^ 31 ≤ ahead → Does (.completionAck who e q v) s fun t =>
        (t.reg (qCheadKey e q)).toNat = v ∧ RegsBut s t [qCheadKey e q] ∧ (t.queue e q).completed = (s.queue e q).completed ∧
        (∀ n, n ∈ (t.queue e q).notify ↔ n ∈ (s.queue e q).notify ∧ (n.1 + 2 ^ 32 - v) % 2 ^ 32 < 2 ^ 31) ∧
        t.resp = .ok ∧ t.mem = s.mem) ∧
      (0 < ahead ∧ ahead < 2 ^ 31 → Does (.completionAck who e q v) s fun t => t = s.respond .ok 0))

/-- A register write stores what its fields admit, sets STATE_WRITE outside its state set, and is answered by the
gate when stopped; clears clear alone (R172, R175, R656, R671, R697, R698, R702, R703, R708, Table 3.19, Table
23.2). -/
def Obligations.RegisterWritesAndClears : Prop :=
  ∀ (s : State) (who : Requester) (k v : Nat) (al up : Bool) (ext : List ExtData) (ups : List Upset),
    (∀ st u, s.regDue = [] → k < 0x1000000 → s.regGate who .write k al = some (st, u) → Does (.registerWrite who k v al up ext ups) s fun t =>
      t = u.respond st 0) ∧
    (s.regDue = [] → s.regGate who .write 0x030008 al = none →
      (WSet.dss.has s.ward.st = true → Does (.registerWrite who 0x030008 v al up ext ups) s fun t =>
        t.fld 0x030008 7 0 = (if 85 ≤ v % 256 ∧ v % 256 ≤ 124 then v % 256 else s.fld 0x030008 7 0) ∧ RegsBut s t [0x030008] ∧
        t.resp = .ok ∧ t.mem = s.mem ∧ t.ward = s.ward) ∧
      (WSet.dss.has s.ward.st = false → v % 256 ≠ s.fld 0x030008 7 0 → Does (.registerWrite who 0x030008 v al up ext ups) s fun t =>
        t.reg 0x030008 = s.reg 0x030008 ∧ t.fld Reg.sysErr 2 2 = 1 ∧ RegsBut s t [Reg.sysErr, Reg.sysErrLog] ∧ t.resp = .ok ∧
        t.mem = s.mem)) ∧
    (s.regDue = [] → s.regGate who .write Reg.sysErr al = none → Does (.registerWrite who Reg.sysErr v al up ext ups) s fun t =>
      (∀ i, i < 32 → (t.reg Reg.sysErr).getLsbD i = ((s.reg Reg.sysErr).getLsbD i && !(decide (i < 3) && v.testBit i))) ∧
      RegsBut s t [Reg.sysErr] ∧ t.resp = .ok ∧ t.mem = s.mem) ∧
    (s.regDue = [] → k < 0x10000 → regRow k = none → k % 4 = 0 → s.regGate who .write k al = none →
      Does (.registerWrite who k v al up ext ups) s fun t => t = s.respond .ok 0) ∧
    (s.regGate who .write Reg.sysSeal true = none → WSet.bootProof.has s.ward.st = true → Does (.sysSeal who) s fun t =>
      t.sealSet = true ∧ (s.sealSet = true → t.reg Reg.sysSeal = s.reg Reg.sysSeal) ∧ RegsBut s t [Reg.sysSeal] ∧ t.resp = .ok) ∧
    (s.regGate who .write Reg.weaveOutst true = none → WSet.dss.has s.ward.st = true → Does (.weavePeakClr who) s fun t =>
      t.weave.peak = (s.weave.outst.filter (·.counted)).length ∧ t.weave.outst = s.weave.outst ∧ RegsBut s t [] ∧ t.resp = .ok) ∧
    (s.regGate who .write Reg.denyClr true = none → WSet.dss.has s.ward.st = true → Does (.gskDenyClr who v) s fun t =>
      (∀ e, e < 8 → t.reg (Reg.denyCnt e) = if v.testBit e then 0 else s.reg (Reg.denyCnt e)) ∧
      RegsBut s t ((List.range 8).map Reg.denyCnt) ∧ t.resp = .ok ∧ t.mem = s.mem) ∧
    (s.regGate who .write 0x0F0014 true = none → WSet.dss.has s.ward.st = true →
      (Does (.sbMboxOutAck who) s fun t => t.sb.outFull = false ∧ t.sb.inFull = s.sb.inFull ∧ bitOf t.sb.pend 5 = true ∧
        RegsBut s t [] ∧ t.resp = .ok) ∧
      (Does (.sbMboxInPost who) s fun t => t.sb.inFull = true ∧ t.sb.outFull = s.sb.outFull ∧ t.sb.inBox = s.sb.inBox ∧
        bitOf t.sb.pend 4 = true ∧ RegsBut s t [] ∧ t.resp = .ok)) ∧
    (s.regGate who .write 0x0F00F0 true = none → WSet.dss.has s.ward.st = true → Does (.sbCntClr who) s fun t =>
      t.reg 0x0F0020 = 0 ∧ RegsBut s t [0x0F0020] ∧ t.resp = .ok ∧ t.mem = s.mem)

/-- Channel leases are granted, renewed and released by Table 4.9; descriptors run in order, write their record, and
stop the channel on a failure or at its lease's end (R116, R254, R255, R256, R257, R258, R259, R261, R311, Table 4.9, Table 7.7, Table 7.9). -/
def Obligations.MoverChannelsAreLeasedAndRun : Prop :=
  ∀ (s : State) (who : Requester) (m c v : Nat) (d : List Byte) (o : Option EntryRef) (ext : List ExtData) (ups : List Upset),
    let k := Reg.moverPage m c
    let u := s.chLeaseTick m c
    let x := u.mchan m c
    let y := s.mchan m c
    (WSet.dss.has s.ward.st = true → s.regGate who .write k true = none →
      (x.lease.held = false → Does (.moverLeaseAcquire who m c) s fun t =>
        t.resp = .ok ∧ t.respData = leaseWord x.lease ∧
        (t.mchan m c).lease = ({ held := true, encl := u.tagOf who, gsk := gskOf who, gen := (x.lease.gen + 1) % 2 ^ 16, until_ := u.upNs + u.leaseNs (u.tagOf who) } : Lease) ∧
        (t.mchan m c).st = x.st ∧ (t.mchan m c).head = x.head ∧ t.regs = u.regs ∧ t.mem = u.mem) ∧
      (x.lease.held = true → Does (.moverLeaseAcquire who m c) s fun t => t = u.respond .busy 0) ∧
      (u.holds who x.lease = true → x.lease.gen = v →
        (Does (.moverLeaseRenew who m c v) s fun t => t.resp = .ok ∧
          t.mchan m c = { x with lease := { x.lease with until_ := u.upNs + u.leaseNs (u.tagOf who) } } ∧ t.regs = u.regs ∧ t.mem = u.mem) ∧
        (Does (.moverLeaseRelease who m c v) s fun t => t.resp = .ok ∧
          t.mchan m c = { x with lease := { x.lease with held := false } } ∧ t.regs = u.regs ∧ t.mem = u.mem)) ∧
      (x.lease.gen ≠ v → (Does (.moverLeaseRenew who m c v) s fun t => t = u.respond .notFound 0) ∧
        (Does (.moverLeaseRelease who m c v) s fun t => t = u.respond .notFound 0))) ∧
    (WSet.dss.has s.ward.st = true → s.regGate who .write (k + 0x1C) true = none →
      (u.holds who x.lease = true → Does (.moverDoorbell who m c v) s fun t =>
        t.resp = .ok ∧ t.fld (k + 0x1C) 11 0 = v % 0x1000 ∧ RegsBut u t [k + 0x1C] ∧ t.mem = u.mem ∧
        (t.mchan m c).st = (if x.st = .idle ∧ x.head ≠ t.chTail m c then .running else x.st) ∧ (t.mchan m c).head = x.head) ∧
      (u.holds who x.lease = false → Does (.moverDoorbell who m c v) s fun t =>
        t = u.respond (if x.lease.held then .busy else .notFound) 0)) ∧
    (WSet.dss.has s.ward.st = true → s.regGate who .write (k + 0x20) true = none → u.holds who x.lease = true →
      Does (.moverResume who m c) s fun t => t.resp = .ok ∧ t.regs = u.regs ∧ t.mem = u.mem ∧ (t.mchan m c).head = x.head ∧
        (t.mchan m c).st = (if x.st = .stopped then (if x.head = u.chTail m c then .idle else .running) else x.st)) ∧
    ((y.lease.held = true → s.upNs < y.lease.until_) → (s.gasket (80 + m)).st = .opened →
      (∀ b, y.st = .running → y.cur = none → y.head ≠ s.chTail m c → y.encl ≠ 0 → (s.gasket (80 + m)).powered = true →
        (s.gasket (80 + m)).inReset = false →
        s.readRun (.mover m c) (s.chRing m c + 64 * (y.head % s.chSize m c)) 64 ext ups = (.ok, d, b) →
        (bitOf (Desc.flags d) 1 = true → b.chanOutst m c ≠ 0 → Does (.descriptorStart m c o ext ups) s fun t => t = b) ∧
        (bitOf (Desc.flags d) 1 = false ∨ b.chanOutst m c = 0 → ∀ r w, b.descRun (.mover m c) d ext ups = (r, w) →
          Does (.descriptorStart m c o ext ups) s fun t =>
            ((t.mchan m c).cur.map fun z => (z.tag, z.flags, z.status, z.poison, z.units, z.op)) =
              some (fieldAt d 4 2, Desc.flags d, r.st, r.poison, r.bytes / 64, w.servedOp m c o) ∧
            (t.mchan m c).head = (w.mchan m c).head ∧ t.mem = w.mem ∧ t.regs = w.regs)) ∧
      (∀ r w, y.st = .running → y.cur = some r →
        s.requestWriteP (.mover m c) (s.chCmpl m c + 8 * (y.head % s.chSize m c)) (leBytes 8 (r.tag % 2 ^ 16 + r.status.code * 2 ^ 16 +
          b2n r.poison * 2 ^ 24 + min r.units (2 ^ 32 - 1) * 2 ^ 32)) (List.replicate 8 false) [] [] = (.ok, w) → w.movers = s.movers →
        (goesOn r.status = true → Does (.descriptorComplete m c) s fun t =>
          (t.mchan m c).head = (y.head + 1) % w.chSize m c ∧ (t.mchan m c).lastStatus = r.status.code ∧ (t.mchan m c).cur = none ∧
          (bitOf r.flags 2 = false → (t.mchan m c).st = (if (t.mchan m c).head = w.chTail m c then .idle else .running) ∧ t.mem = w.mem ∧
            t.regs = w.regs ∧
            (∀ q z, r.op = some q → r.status = .poisoned → w.entry q = some z → (t.entry q).map (·.poisoned) = some true))) ∧
        (goesOn r.status = false → Does (.descriptorComplete m c) s fun t =>
          (t.mchan m c).st = .stopped ∧ (t.mchan m c).cur = none ∧ (t.mchan m c).head = t.chTail m c)) ∧
      (y.cur = none → Does (.descriptorComplete m c) s fun t => t = s)) ∧
    (y.lease.held = true → y.lease.until_ ≤ s.upNs →
      (Does (.descriptorStart m c o ext ups) s fun t => (t.mchan m c).st = .stopped ∧ (t.mchan m c).lease.held = false) ∧
      Does (.descriptorComplete m c) s fun t => (t.mchan m c).st = .stopped ∧ (t.mchan m c).lease.held = false) ∧
    ((y.lease.held = true → s.upNs < y.lease.until_) → (s.gasket (80 + m)).st ≠ .opened →
      (Does (.descriptorStart m c o ext ups) s fun t => t = s) ∧ Does (.descriptorComplete m c) s fun t => t = s)

/-- A weave request is stalled, denied, lost, or performed at its target and tracked until its response; the wheel goes
round 64 slots (R148, R149, R151, R152, R154, R159, R188, R583, Table 4.4, Table 4.6). -/
def Obligations.WeaveRequestsAndResponses : Prop :=
  ∀ (s u : State) (requester : Requester) (a n : Nat) (d data : List Byte) (poison up : Bool) (op : AtomicOp) (x y : Nat) (st : Status)
    (ext : List ExtData) (ups : List Upset),
    let who := s.asTagged requester
    let p := placeOf s.usable (localOf a)
    (s.regDue = [] → s.stalls who = false →
      (oneRequest (localOf a) n = true →
        (∀ r, s.windowCheck who .read a n = some r → Does (.weaveRead requester a n ext ups) s fun t =>
          t = (s.deny (s.tagOf who) (gskOf who) (if r = 3 then 3 else 0) r a (!unchecked who)).track who 127 .accessDenied []) ∧
        (∀ r, n = data.length → s.windowCheck who .write a n = some r → Does (.weaveWrite requester a data poison up ext ups) s fun t =>
          t = (s.deny (s.tagOf who) (gskOf who) (if r = 3 then 3 else 1) r a (!unchecked who)).track who 127 .accessDenied []) ∧
        (∀ r, s.windowCheck who .read a n = none → flitOf ups a = some (r, false) → Does (.weaveRead requester a n ext ups) s fun t =>
          t = (s.flitLost (s.tagOf who) r).track who 127 .integrity []) ∧
        (s.loomBound a = false → s.trackerFull who p.gasket = false → (∀ r, flitOf ups a ≠ some (r, false)) →
          (p ≠ .pcieOut → s.windowCheck who .read a n = none → s.commonsTick.readAt who a n ext ups = (st, d, u) →
            Does (.weaveRead requester a n ext ups) s fun t =>
              ∃ q, t.weave.outst = u.weave.outst ++ [q] ∧ q.id = u.weave.nextId ∧ q.src = gskOf who ∧ q.status = st ∧ q.data = d ∧
                (s.gasketAnswer p.gasket = none → q.dst = p.gasket) ∧ t.mem = u.mem ∧ t.regs = u.regs ∧ t.weave.done = u.weave.done) ∧
          (p ≠ .pcieOut → n = data.length → s.windowCheck who .write a n = none →
            s.commonsTick.writeAt who a data poison up ext ups = (st, u) → Does (.weaveWrite requester a data poison up ext ups) s fun t =>
              ∃ q, t.weave.outst = u.weave.outst ++ [q] ∧ q.id = u.weave.nextId ∧ q.src = gskOf who ∧ q.status = st ∧ q.data = [] ∧
                (s.gasketAnswer p.gasket = none → q.dst = p.gasket) ∧ t.mem = u.mem ∧ t.regs = u.regs ∧ t.weave.done = u.weave.done) ∧
          (s.windowCheck who .atomic a n = none → s.commonsTick.atomicAt who (localOf a) n op x y ups = (st, d, u) →
            Does (.weaveAtomic requester a n op x y ups) s fun t =>
              ∃ q, t.weave.outst = u.weave.outst ++ [q] ∧ q.id = u.weave.nextId ∧ q.src = gskOf who ∧ q.status = st ∧ q.data = d ∧
                (s.gasketAnswer p.gasket = none → q.dst = p.gasket) ∧ t.mem = u.mem ∧ t.regs = u.regs ∧ t.weave.done = u.weave.done))) ∧
      (oneRequest (localOf a) n = false → s.windowCheck who .atomic a n = none → Does (.weaveAtomic requester a n op x y ups) s fun t =>
        t = s.track who 127 .badArg [])) ∧
    (s.regDue = [] → s.stalls who = true →
      (Does (.weaveRead requester a n ext ups) s fun t => t = s) ∧
      (Does (.weaveWrite requester a data poison up ext ups) s fun t => t = s) ∧
      (Does (.weaveAtomic requester a n op x y ups) s fun t => t = s)) ∧
    (∀ b sz, (sz ≠ 4 ∧ sz ≠ 8) ∨ b % sz ≠ 0 → s.atomicAt who b sz op x y ups = (.badArg, [], s)) ∧
    (∀ b k, b % 8 = 0 → (placeOf s.usable b = .dram k ∨ placeOf s.usable b = .commons k) →
      s.gasketAnswer (placeOf s.usable b).gasket = none → s.leased b 8 = true → s.atomicAt who b 8 op x y ups = (.busy, [], s)) ∧
    (∀ q, s.weave.outst.find? (fun w => w.id = q.id) = some q → (s.loom.outst.any fun l => l.wid = q.id) = false →
      (s.pcie.outst.any fun l => l.id = q.id) = false →
      ((s.gasket q.src).st = .sealed → Does (.weaveResponse q.id none) s fun t =>
        t.weave = { s.weave with outst := s.weave.outst.filter (fun w => w.id ≠ q.id) } ∧
        t.fld (Reg.gskStat q.src) 31 16 = min 0xFFFF (s.fld (Reg.gskStat q.src) 31 16 + 1) ∧ RegsBut s t [Reg.gskStat q.src] ∧
        t.tiles = s.tiles) ∧
      ((s.gasket q.src).st ≠ .sealed → Does (.weaveResponse q.id none) s fun t =>
        t.weave.outst = s.weave.outst.filter (fun w => w.id ≠ q.id) ∧
        t.weave.done = s.weave.done ++
          [{ id := q.id, src := q.src, vc := if q.vc = 2 then 2 else 1, status := q.status, data := q.data }] ∧ t.mem = s.mem ∧
        t.regs = s.regs ∧ (64 ≤ q.src → t.tiles = s.tiles)) ∧
      (∀ r, (s.gasket q.src).st ≠ .sealed → Does (.weaveResponse q.id (some r)) s fun t =>
        t.weave.done = s.weave.done ++
          [{ id := q.id, src := q.src, vc := if q.vc = 2 then 2 else 1, status := .integrity, data := [] }] ∧
        t.safe.reports = s.safe.reports ++ [{ fault := .weaveParity, attr := .tag q.tag, gsk := r % 119 }] ∧ t.mem = s.mem)) ∧
    (s.weave.run = true → Does .wheelSlot s fun t => t = { s with weave := { s.weave with slot := (s.weave.slot + 1) % 64 } }) ∧
    (s.weave.run = false → Does .wheelSlot s fun t => t = s)

/-- A lease word is granted, renewed and released by Table 4.9; expiry and seizure end it with BROKEN, and SEIZED if
seized (R163, R165, R166, R167, R606, Table 4.8, Table 4.9). -/
def Obligations.LeasesBySpecWordExpireAndAreSeized : Prop :=
  ∀ (s u : State) (requester : Requester) (a gsk encl gen w v : Nat) (d : List Byte) (st : Status) (ups : List Upset),
    let who := s.asTagged requester
    (bitOf w 0 = true → s.leaseOutcome .acquire a gsk encl gen w = (.busy, [], none)) ∧
    (bitOf w 0 = false → (s.weave.live.filter (fun b => sliceOf b = sliceOf a)).length < 256 →
      ∃ g, s.leaseOutcome .acquire a gsk encl gen w = (.ok, leBytes 8 w, some g) ∧ bitOf g 0 = true ∧ bitOf g 1 = false ∧
        bitOf g 2 = false ∧ bitsOf g 5 3 = encl % 8 ∧ bitsOf g 12 6 = gsk % 128 ∧ bitsOf g 31 16 = (bitsOf w 31 16 + 1) % 2 ^ 16 ∧
        bitsOf g 63 32 = (s.upNs + s.leaseNs encl) / 1000 % 2 ^ 32) ∧
    (wordHeldBy w gsk encl = true → bitsOf w 31 16 = gen →
      s.leaseOutcome .release a gsk encl gen w = (.ok, [], some (w / 2 * 2)) ∧
      ∃ g, s.leaseOutcome .renew a gsk encl gen w = (.ok, [], some g) ∧ g % 2 ^ 32 = w % 2 ^ 32 ∧
        bitsOf g 63 32 = (s.upNs + s.leaseNs encl) / 1000 % 2 ^ 32) ∧
    (bitsOf w 31 16 ≠ gen → s.leaseOutcome .release a gsk encl gen w = (.notFound, [], none) ∧
      s.leaseOutcome .renew a gsk encl gen w = (.notFound, [], none)) ∧
    (oneRequest (localOf a) 8 = true → s.stalls who = false → s.windowCheck who .atomic a 8 = none → s.loomBound a = false →
      s.trackerFull who (placeOf s.usable (localOf a)).gasket = false →
      (∀ r, flitOf ups a ≠ some (r, false)) →
      (s.commonsTick.leaseAt who .acquire (localOf a) 0 ups = (st, d, u) → Does (.leaseAcquire requester a ups) s fun t =>
        (t.weave.outst.getLast?.map fun q => (q.id, q.status, q.data)) = some (u.weave.nextId, st, d) ∧ t.mem = u.mem ∧
        (st = .ok → t.weave.live.contains (localOf a) = true)) ∧
      (s.commonsTick.leaseAt who .renew (localOf a) gen ups = (st, d, u) → Does (.leaseRenew requester a gen ups) s fun t =>
        (t.weave.outst.getLast?.map fun q => (q.id, q.status, q.data)) = some (u.weave.nextId, st, d) ∧ t.mem = u.mem) ∧
      (s.commonsTick.leaseAt who .release (localOf a) gen ups = (st, d, u) → Does (.leaseRelease requester a gen ups) s fun t =>
        (t.weave.outst.getLast?.map fun q => (q.id, q.status, q.data)) = some (u.weave.nextId, st, d) ∧ t.mem = u.mem ∧
        (st = .ok → t.weave.live.contains (localOf a) = false))) ∧
    (s.weave.live.contains a = true → Does (.leaseExpiry (.commons a)) s fun t =>
      t.rdNat a 8 = s.rdNat a 8 / 8 * 8 + 2 ∧ t.weave.live = s.weave.live.filter (· ≠ a) ∧ t.regs = s.regs ∧
      (∀ b, b < a ∨ a + 8 ≤ b → t.rd b = s.rd b)) ∧
    (∀ m c, m < 16 → c < 32 → (s.mchan m c).lease.held = true → Does (.leaseExpiry (.channel m c)) s fun t => (t.mchan m c).st = .stopped) ∧
    (∀ i x, s.loom.leases[i]? = some x → x.held = true → Does (.leaseExpiry (.remote i)) s fun t =>
      t.loom.leases[i]? = some { x with held := false, broken := true, seized := false } ∧ x.expiry ≤ t.upNs ∧ t.mem = s.mem) ∧
    (∀ pid x y, pid < 16 → (s.kvPool pid).waits.find? (fun z => z.idx = v) = some x → x.attn = false →
      s.kvEnv pid x.r.encl [] [] = none → s.entry x.r = some y → y.ending = none →
      Does (.leaseExpiry (.page pid v)) s fun t => Ended t x.r .timeout 0 ∧ (t.kvPool pid).waits.contains x = false) ∧
    (∀ g r c y, s.loom.colls.find? (fun z => z.group = g ∧ z.rank = r ∧ z.leaseHeld) = some c → s.entry c.r = some y → y.ending = none →
      Does (.leaseExpiry (.barrier g r)) s fun t => Ended t c.r .timeout 0 ∧ c.expiry ≤ t.upNs) ∧
    (∀ k o, k < 8 → s.weave.seizures.find? (fun z => z.1 = k) = some o → (∀ b ∈ s.weave.live, b % 8 = 0 ∧ s.upNs ≤ s.commonsExpiry b) →
      Does (.seizureOrder (.commons k)) s fun t => t.weave.seizures = s.weave.seizures.erase o ∧
        ∀ b, b ∈ t.weave.live ↔ b ∈ s.weave.live ∧
          ¬(sliceOf b = k ∧ isParty o.2.1 (bitsOf (s.rdNat b 8) 12 6) (bitsOf (s.rdNat b 8) 5 3) = true)) ∧
    (∀ k, s.weave.seizures.find? (fun z => z.1 = keeperIdx k) = none →
      (Does (.seizureOrder k) s fun t => t = s) ∧ (Does (.seizureAckTimeout k) s fun t => t = s)) ∧
    (∀ o, s.weave.seizures.find? (fun z => z.1 = 24) = some o → s.wardenRuns = true → s.ward.st ≠ .halt →
      Does (.seizureAckTimeout .kv) s fun t => t.ward.st = .halt ∧ t.safe.latchP = true)

/-- HELLO judges a link; JOIN, views, heartbeats, election and LEAVE change the membership as §17.6 says (R552,
R567, R568, R569, R570, R571, R576). -/
def Obligations.MembershipFollowsTheView : Prop :=
  ∀ (s : State) (r : EntryRef) (y : Entry) (p lid n sq : Nat) (tn : Bool) (j : JoinRec) (v : View) (gs : List Nat),
    (p < 8 → (s.bport p).st = .active →
      (lid ≠ (s.steepImg.map (·.loomId)).getD 0 ∨ n = s.nodeId → Does (.hello p lid n tn) s fun t =>
        (t.bport p).hello = true ∧ (t.bport p).barred = true ∧
        t.fld Reg.loomCnt 31 24 = min 255 (s.fld Reg.loomCnt 31 24 + 1) ∧ RegsBut s t [Reg.loomCnt]) ∧
      (lid = (s.steepImg.map (·.loomId)).getD 0 → n ≠ s.nodeId →
        (groupOf s.linkEdges s.nodeId ++ (groupOf s.linkEdges n).filter fun k => !(groupOf s.linkEdges s.nodeId).contains k).length ≤ 16 →
        Does (.hello p lid n tn) s fun t => (t.bport p).hello = true ∧ (t.bport p).barred = false ∧ (t.bport p).peerNode = n ∧
          (t.bport p).peerTunnel = tn ∧ t.regs = s.regs ∧ t.loom = s.loom)) ∧
    (s.running r 4 1 = some y →
      (s.isMember = true → Does (.join r) s fun t => t = s.finish r .ok 0) ∧
      (s.isMember = false → s.loom.joining = none → y.arg 16 2 ≠ 0xFFFF → Does (.join r) s fun t =>
        t.loom.joining = some (r, s.upNs) ∧ t.loom.sent = s.loom.sent ++ [.joinReq (y.arg 16 2)] ∧ t.queues = s.queues) ∧
      (s.isMember = false → s.loom.joining = none → y.arg 16 2 = 0xFFFF → s.ownRec.role = 2 → s.loom.view.members = [] →
        Does (.join r) s fun t => Ended t r .ok 0 ∧ t.loom.st = .coordinator ∧ t.loom.view.members = [s.ownRec] ∧
          t.loom.view.coord = s.nodeId) ∧
      (s.isMember = false → s.loom.joining = none → y.arg 16 2 = 0xFFFF → s.ownRec.role ≠ 2 →
        Does (.join r) s fun t => t = s.finish r .notFound 0)) ∧
    (s.isCoord = true →
      (s.loom.vote.st = .opened → Does (.joinReq j) s fun t => t.loom = { s.loom with delayed := s.loom.delayed ++ [j] }) ∧
      (s.loom.vote.st ≠ .opened → j.loomId ≠ (s.steepImg.map (·.loomId)).getD 0 → Does (.joinReq j) s fun t =>
        t.loom = { s.loom with sent := s.loom.sent ++ [.joinAnswer j.who.node Status.badArg.code] }) ∧
      (s.loom.vote.st ≠ .opened → j.loomId = (s.steepImg.map (·.loomId)).getD 0 → s.inView j.who.node = true → Does (.joinReq j) s fun t =>
        t.loom = { s.loom with sent := s.loom.sent ++ [.joinAnswer j.who.node Status.admitRefused.code] }) ∧
      (s.loom.vote.st ≠ .opened → j.loomId = (s.steepImg.map (·.loomId)).getD 0 → s.inView j.who.node = false →
        s.loom.view.members.length < 1024 → j.group ≤ 16 → Does (.joinReq j) s fun t =>
          t.loom.view.members = s.loom.view.members ++ [j.who] ∧ t.loom.view.seq = (s.loom.view.seq + 1) % 2 ^ 32 ∧
          t.loom.st = .coordinator)) ∧
    (s.loom.joining = some (r, sq) → s.entry r = some y → y.ending = none →
      (Does (.joinRefusal tn) s fun t => Ended t r (if tn then .badArg else .admitRefused) 0 ∧ t.loom.joining = none) ∧
      (Does .joinTimeout s fun t => Ended t r .timeout 0 ∧ t.loom.joining = none ∧ sq + 1000000000 ≤ t.upNs)) ∧
    (s.isMember = true →
      (v.members.any (·.node = s.nodeId) = true → v.seq ≤ s.loom.view.seq → Does (.view v.seq v.coord v.members v.links gs) s fun t => t = s) ∧
      (v.members.any (·.node = s.nodeId) = true → s.loom.view.seq < v.seq → (∀ k ∈ s.others, k ∈ v.members.map (·.node)) →
        Does (.view v.seq v.coord v.members v.links gs) s fun t => t.loom.view = v ∧
          t.loom.st = (if v.coord = s.nodeId then .coordinator else .member) ∧ t.loom.vote.st ≠ .opened) ∧
      (v.members.any (·.node = s.nodeId) = false → s.loom.view.seq < v.seq → Does (.view v.seq v.coord v.members v.links gs) s fun t =>
        t.loom.st = .none ∧ t.loom.view.members = [])) ∧
    (s.isCoord = true → s.ward.cozy = false → s.loom.exitAt = 0 → Does .heartbeatTimer s fun t =>
      (∀ k ∈ s.others, SMap.get 0 t.loom.missed k = SMap.get 0 s.loom.missed k + 1) ∧
      t.loom.sent = s.loom.sent ++ s.others.map .heartbeat ∧ s.loom.beatAt + s.hbNs ≤ t.upNs ∧ t.loom.view = s.loom.view) ∧
    (s.isMember = true → s.inView n = true → s.ward.cozy = false →
      (s.isCoord = true → Does (.heartbeat n) s fun t => SMap.get 0 t.loom.missed n = 0 ∧ t.loom.view = s.loom.view ∧ t.regs = s.regs) ∧
      (s.isCoord = false → n = s.loom.view.coord → Does (.heartbeat n) s fun t =>
        t.loom = { s.loom with sent := s.loom.sent ++ [.heartbeatAnswer n], beatAt := s.upNs }) ∧
      (s.isCoord = true → n ≠ s.nodeId → s.loom.delayed = [] → s.lostHb ≤ SMap.get 0 s.loom.missed n → Does (.heartbeatLoss n gs) s fun t =>
        t.loom.view.members = s.loom.view.members.filter (·.node ≠ n) ∧ t.loom.view.seq = (s.loom.view.seq + 1) % 2 ^ 32) ∧
      (s.isCoord = true → n ≠ s.nodeId → SMap.get 0 s.loom.missed n < s.lostHb → Does (.heartbeatLoss n gs) s fun t => t = s) ∧
      (s.isCoord = false → n ≠ s.nodeId → n = s.loom.view.coord → s.loom.st = .member →
        (Does (.heartbeatLoss n gs) s fun t => t.loom.st = .electing ∧ t.loom.lostAt = t.upNs ∧
          t.loom.claims = (if s.ownRec.role = 2 then [s.nodeId] else []) ∧ s.loom.beatAt + s.lostHb * s.hbNs ≤ t.upNs) ∧
        (Does (.leaveMessage n gs) s fun t => t.loom.st = .electing ∧ t.loom.lostAt = s.upNs)) ∧
      (s.isCoord = true → s.loom.delayed = [] → Does (.leaveMessage n gs) s fun t =>
        t.loom.view.members = s.loom.view.members.filter (·.node ≠ n)) ∧
      (s.loom.acked = false → Does (.claim n) s fun t => t.loom.claims = s.loom.claims ++ [n] ∧ t.loom.st = s.loom.st) ∧
      (s.loom.acked = true → Does (.claim n) s fun t => t = s)) ∧
    (lowest s.loom.claims = some n → s.loom.acked = false → Does .claimWindowEnd s fun t => t.loom.acked = true ∧
      s.loom.claimAt + 20000000 ≤ t.upNs ∧ (n = s.nodeId → t.loom.acks = s.loom.acks ++ [n]) ∧
      (n ≠ s.nodeId → t.loom.sent = s.loom.sent ++ [.claimAck n])) ∧
    (s.loom.st = .electing → s.inView n = true → s.loom.claims.contains s.nodeId = true → s.loom.acks.contains n = false →
      (2 * (s.loom.acks.length + 1) ≤ s.loom.view.members.length → Does (.claimAck n gs) s fun t =>
        t.loom = { s.loom with acks := s.loom.acks ++ [n] }) ∧
      (s.loom.view.members.length < 2 * (s.loom.acks.length + 1) → Does (.claimAck n gs) s fun t => t.loom.st = .coordinator ∧
        t.loom.view.coord = s.nodeId ∧ t.loom.view.members = s.loom.view.members.filter (·.node ≠ s.loom.view.coord))) ∧
    (s.loom.st = .electing → Does .electionTimeout s fun t => t.loom.st = .none ∧ t.loom.view.members = [] ∧
      s.loom.lostAt + 500000000 ≤ t.upNs) ∧
    (s.running r 4 2 = some y →
      (s.isMember = false → Does (.leave r) s fun t => t = s.finish r .ok 0) ∧
      (s.isMember = true → s.loom.leaving = none → Does (.leave r) s fun t => t.loom.leaving = some (r, s.upNs) ∧
        t.loom.sent = s.loom.sent ++ (if s.isCoord then s.others.map .leave else [.leave s.loom.view.coord]) ∧ t.queues = s.queues)) ∧
    (s.loom.leaving = some (r, sq) → s.entry r = some y → y.ending = none → s.loom.colls = [] → s.loom.vote.st ≠ .opened →
      Does .leaveTimeout s fun t => Ended t r .ok 0 ∧ t.loom.st = .none ∧ t.loom.leaving = none ∧ sq + 100000000 ≤ t.upNs)

/-- A vote commits only with every member's yes; COMMIT leads into Cozy sleep, and a latched wake out of it (R101,
R102, R113, R426, R541, R572, R573, R574, R575, R577, Table 3.4). -/
def Obligations.VotesCommitSleepAndWake : Prop :=
  ∀ (s : State) (who : Requester) (r q : EntryRef) (y z : Entry) (n id c : Nat),
    let v := s.loom.vote
    (s.running r 4 3 = some y → v.entry ≠ some r →
      (s.isCoord = false → Does (.votePropose r) s fun t => t = s.finish r .notFound 0) ∧
      (s.isCoord = true → v.st = .opened → Does (.votePropose r) s fun t => t = s.finish r .busy 0) ∧
      (s.isCoord = true → v.st ≠ .opened → s.ward.wake = false → Does (.votePropose r) s fun t =>
        t.loom.vote.st = .opened ∧ t.loom.vote.id = (s.loom.nextVote + 1) % 2 ^ 16 ∧ t.loom.vote.entry = some r ∧
        t.loom.vote.yes = [] ∧ t.loom.vote.toMs = (if y.arg 0 4 = 0 then 1000 else y.arg 0 4) ∧
        t.loom.sent = s.loom.sent ++ s.others.map (fun k => .propose k ((s.loom.nextVote + 1) % 2 ^ 16)) ∧ t.queues = s.queues)) ∧
    (s.running r 4 4 = some y →
      (v.st ≠ .opened ∨ v.id ≠ y.arg 0 2 → Does (.voteCast r) s fun t => t = s.finish r .notFound 0) ∧
      (v.st = .opened → v.id = y.arg 0 2 → s.isCoord = false → Does (.voteCast r) s fun t =>
        let no := y.arg 2 1 % 2 = 1 ∧ s.holdsWake = true
        Ended t r (if no then .busy else .ok) 0 ∧ t.loom.vote.ownYes = (decide (y.arg 2 1 % 2 = 1) && !decide no) ∧
        t.loom.sent = s.loom.sent ++ [.cast s.loom.view.coord v.id (decide (y.arg 2 1 % 2 = 1) && !decide no)])) ∧
    (s.ward.st = .rouse → Does (.propose c id) s fun t => t.loom.sent = s.loom.sent ++ [.cast c id false] ∧ t.loom.vote = v) ∧
    (s.isMember = true → c = s.loom.view.coord → s.isCoord = false → s.ward.wake = false → Does (.propose c id) s fun t =>
      t.loom.vote.st = .opened ∧ t.loom.vote.id = id ∧ t.loom.vote.ownCast = false ∧ t.loom.sent = s.loom.sent) ∧
    (s.isCoord = true → v.st = .opened → v.entry = some q → s.entry q = some z → z.ending = none → s.loom.delayed = [] →
      (s.inView n = true →
        (Does (.castVoteReceived n v.id false) s fun t => t.loom.vote.st = .aborted ∧ Ended t q .busy 0) ∧
        ((s.loom.view.members.map (·.node)).all (v.yes ++ [n]).contains = true → Does (.castVoteReceived n v.id true) s fun t =>
          t.loom.vote.st = .committed ∧ t.loom.vote.holding = true ∧ t.loom.vote.holdSince = s.upNs ∧ Ended t q .ok 0) ∧
        ((s.loom.view.members.map (·.node)).all (v.yes ++ [n]).contains = false → v.yes.contains n = false →
          Does (.castVoteReceived n v.id true) s fun t => t.loom.vote = { v with yes := v.yes ++ [n] } ∧ t.queues = s.queues) ∧
        (s.ward.cozy = false → v.holding = false → Does (.withdraw n v.id) s fun t => t.loom.vote.st = .aborted ∧ Ended t q .busy 0)) ∧
      (Does .voteTimeout s fun t => t.loom.vote.st = .aborted ∧ Ended t q .busy 0 ∧ v.since + 1000000 * v.toMs ≤ t.upNs)) ∧
    (s.isCoord = true → v.holding = true → s.loom.delayed = [] → s.inView n = true → s.ward.cozy = false →
      Does (.withdraw n v.id) s fun t => t.loom.vote.st = .aborted ∧ t.loom.vote.holding = false ∧ t.fld Reg.voteStat 3 3 = 1) ∧
    (s.isMember = true → s.isCoord = false → v.st = .opened → s.ward.cozy = false →
      (v.withdrawn = false → Does (.commit v.id) s fun t => t.ward.cozy = true ∧ t.ward.asleep = false ∧ t.ward.wake = false ∧
        t.loom.vote.st = .committed ∧ t.safe.paused = true ∧ t.tsu.cozyTime = s.tsu.time ∧ t.mem = s.mem) ∧
      (v.withdrawn = true → Does (.commit v.id) s fun t => t.loom.vote = { v with st := .committed } ∧ t.ward = s.ward) ∧
      (Does (.voteAbort v.id) s fun t => t.loom.vote = { v with st := .aborted } ∧ t.ward = s.ward)) ∧
    (s.ward.st = .steep → s.isCoord = false → s.ward.cozy = true → s.ward.asleep = false → Does (.voteAbort v.id) s fun t =>
      t.ward.wake = true ∧ t.loom.vote.st = .aborted) ∧
    (v.holding = true → s.isCoord = true → Does .commitHoldExpiry s fun t => t.ward.cozy = true ∧ t.loom.vote.holding = false ∧
      v.holdSince + 1000000 * s.fld Reg.loomCfg 23 16 ≤ t.upNs) ∧
    (s.ward.cozy = true → s.ward.asleep = false → s.ward.wake = false → Does (.cozyEntryComplete c) s fun t => t.ward.asleep = true ∧
      t.power.pllLock = false ∧ (∀ x ∈ t.chans, x.2.selfRefresh = true) ∧ t.mem = s.mem ∧
      ∀ p, p < 8 → (s.bport p).st ≠ .disabled → (t.bport p).st = .sleep) ∧
    (s.ward.asleep = true → s.ward.wake = true → s.ward.rouseCauses = 0 → Does (.cozyExitComplete c) s fun t =>
      t.ward.cozy = false ∧ t.ward.asleep = false ∧ t.ward.wake = false ∧ t.power.pllLock = true ∧ t.tsu.st = 2 ∧
      t.tsu.time = (s.tsu.cozyTime + c * 30517578125 / 1000000) % 2 ^ 64 ∧ (∀ x ∈ t.chans, x.2.selfRefresh = false) ∧
      ∀ b, b < 0x1000000000 → t.rd b = s.rd b) ∧
    (n < 8 → (s.bport n).st = .sleep → s.ward.st = .steep → s.ward.cozy = true → Does (.brikelWake n) s fun t =>
      t.ward.wake = true ∧ t.fld (Reg.blkWake n) 1 1 = 1 ∧ RegsBut s t [Reg.blkWake n] ∧ t.mem = s.mem) ∧
    (∀ m, s.ward.asleep = false → s.steepImg = some m →
      (s.isMember = true → n = s.loom.view.coord → id = m.loomId → m.remoteReset = 1 →
        Does (.remoteReset n id) s fun t => t = s.resetBy .loomRemote) ∧
      (n ≠ s.loom.view.coord ∨ id ≠ m.loomId → Does (.remoteReset n id) s fun t =>
        t.fld Reg.loomCnt 23 16 = min 255 (s.fld Reg.loomCnt 23 16 + 1) ∧ t.ward = s.ward ∧ RegsBut s t [Reg.loomCnt])) ∧
    (s.regGate who .write Reg.loomRreset true = none → s.ward.st = .steep → Does (.loomRresetWrite who n) s fun t =>
      t.resp = .ok ∧ t.regs = s.regs ∧ t.loom.sent =
        (if n / 2 ^ 16 % 2 ^ 16 = 0xB7E1 ∧ s.isCoord = true then s.loom.sent ++ [.remoteReset (n % 1024)] else s.loom.sent)) ∧
    (s.regGate who .write Reg.loomCntClr true = none → WSet.ss.has s.ward.st = true → Does (.loomCntClr who) s fun t =>
      t.reg Reg.loomCnt = 0 ∧ t.fld Reg.loomTunStat 31 16 = 0 ∧ t.fld Reg.loomTunStat 15 0 = s.fld Reg.loomTunStat 15 0 ∧
      RegsBut s t [Reg.loomCnt, Reg.loomTunStat] ∧ t.resp = .ok)

/-- A scrub visit leaves a clean unit, corrects or poisons others and moves on; CE_RATE is reported once; polls and
calibration act on trained channels (the code of the highest refresh rate is the model's choice, log entry 41) (R181,
R192, R193, R195, R203, R204, R208). -/
def Obligations.ArraysScrubCountAndRefresh : Prop :=
  ∀ (s : State) (who : Requester) (k g m rate : Nat) (hot : Bool) (ups : List Upset),
    (k < 64 → s.sramScrubs k = true → (s.tram k).scrubAt = g →
      let u := tileBase k + 8 * g
      let v := s.setTram k { s.tram k with scrubAt := (g + 1) % 0x40000 }
      let w := v.applyUpsets (.tsram k) [u] ups
      (w.unitState (.tsram k) u false = .clean → Does (.scrubVisit (.tile k) ups) s fun t => t = w) ∧
      (∀ b, w.unitState (.tsram k) u false = .correctable b → Does (.scrubVisit (.tile k) ups) s fun t =>
        t = (w.logEvent (.tsram k) u 0xF .ce).correctUnit (.tsram k) u b ∧ t.syndOf u = 0) ∧
      (w.unitState (.tsram k) u false = .uncorrectable → Does (.scrubVisit (.tile k) ups) s fun t =>
        t = (w.logEvent (.tsram k) u 0xF .ue).poisonUnit (.tsram k) u)) ∧
    (k < 64 → s.sramScrubs k = false → Does (.scrubVisit (.tile k) ups) s fun t => t = s) ∧
    (k < 8 → s.sramScrubs (64 + k) = false → Does (.scrubVisit (.commons k) ups) s fun t => t = s) ∧
    (Does (.scrubVisit .warden []) s fun t => t = s) ∧
    (k < 8 → (s.chan k).trained = false → Does (.scrubVisit (.dram k) ups) s fun t => t = s) ∧
    (k < 8 → (s.chan k).trained = true → (s.chan k).selfRefresh = false → s.usable ≠ 0 → Does (.scrubVisit (.dram k) ups) s fun t =>
      (t.chan k).scrubAt = ((s.chan k).scrubAt + 1) % ((s.chan k).rawCh * 0x100000) ∧ t.upNs = s.upNs) ∧
    (m < 8 → let n := ((s.chan m).ceTimes.filter fun x => s.upNs < x + second).length
      (s.fld (Reg.mcEccCtl m) 23 16 < n → (s.chan m).ceReported = false → Does (.ceRate m) s fun t =>
        t.chan m = { s.chan m with ceReported := true } ∧
        t.safe.reports = s.safe.reports ++ [{ fault := .ceRate, attr := .block (72 + m), gsk := 72 + m }] ∧ t.regs = s.regs) ∧
      (n ≤ s.fld (Reg.mcEccCtl m) 23 16 ∨ (s.chan m).ceReported = true → Does (.ceRate m) s fun t => t = s)) ∧
    (m < 8 → (s.chan m).trained = true → (s.chan m).selfRefresh = false →
      (Does (.refreshRatePoll m rate hot) s fun t => t.chan m = { s.chan m with hot := hot, refreshRate := if hot then highestRate else rate } ∧
        t.safe.reports = s.safe.reports ++
          (if hot && !(s.chan m).hot then [{ fault := .dramHot, gsk := 72 + m }] else []) ∧ t.regs = s.regs ∧ t.mem = s.mem) ∧
      (Does (.zqCalibration m) s fun t => t = s.elapse 1000)) ∧
    (m < 8 → (s.chan m).trained = false → (Does (.refreshRatePoll m rate hot) s fun t => t = s) ∧ (Does (.zqCalibration m) s fun t => t = s)) ∧
    (m < 8 → s.regGate who .write (Reg.mcEccCtl m) true = none → WSet.dss.has s.ward.st = true → Does (.mcCntClr who m) s fun t =>
      t.reg (Reg.mcEccCnt m) = 0 ∧ RegsBut s t [Reg.mcEccCnt m] ∧ t.resp = .ok ∧ t.mem = s.mem)

/-- PPS edges discipline the TSU: steps only where permitted, slews within 500 ppm, locks after eight good offsets,
and holds over on loss (R418, R420, R421, R422, R423, R424, R438, Table 13.7, Table 13.9). -/
def Obligations.TimeStampUnitIsDisciplined : Prop :=
  ∀ (s : State) (who : Requester) (dt : Nat),
    (let u := s.elapse dt
     let x := u.tsu
     let r := x.time % 1000000000
     let off : Int := if r < 500000000 then (r : Int) else (r : Int) - 1000000000
     u.tsuRuns = true →
      (x.lastEdge ≠ 0 → 1000000 < ((x.time : Int) + 1 - x.lastEdge - 1000000000).natAbs → Does (.ppsInEdge dt) s fun t =>
        t.tsu = { x with lastEdge := x.time + 1 } ∧ t.fld (Reg.strPortCnt 0) 15 0 = min 0xFFFF (u.fld (Reg.strPortCnt 0) 15 0 + 1) ∧
        RegsBut u t [Reg.strPortCnt 0]) ∧
      (x.lastEdge = 0 ∨ ((x.time : Int) + 1 - x.lastEdge - 1000000000).natAbs ≤ 1000000 → u.srcSel = 2 → u.grandmaster = false →
        Does (.ppsInEdge dt) s fun t =>
          t.tsu.offset = off ∧ t.tsu.src = 2 ∧ t.tsu.lastPps = u.upNs + 1 ∧ t.regs = u.regs ∧
          t.tsu.good = (if off.natAbs ≤ 1000 then min 8 (x.good + 1) else 0) ∧ (t.tsu.good = 8 → t.tsu.st = 1) ∧
          (1000000 < off.natAbs → u.stepOk = true → t.tsu.rate = nominalRate ∧ t.tsu.time = ((x.time : Int) - off).toNat % 2 ^ 64) ∧
          (u.stepOk = false ∨ (off.natAbs ≤ 1000000 ∧ x.lastPps ≠ 0) → t.tsu.time = x.time ∧ t.tsu.frac = x.frac ∧
            rateOf (-500000) ≤ t.tsu.rate ∧ t.tsu.rate ≤ rateOf 500000 ∧ (0 < off → t.tsu.rate ≤ nominalRate) ∧
            (off < 0 → nominalRate ≤ t.tsu.rate) ∧ (off = 0 → t.tsu.rate = nominalRate)))) ∧
    (let u := s.elapseTo s.tsu.syncDue
     u.tsuRuns = true → u.grandmaster = true → u.gptpOn 0 = true → u.gptpOn 1 = false → Does .gptpSyncTimer s fun t =>
      t.tsu.syncDue = u.upNs + 125000000 ∧ t.tsu.sent = u.tsu.sent ++
        [{ port := 0, kind := 0, seq := (u.gptp 0).txSeq % 0x10000, time := u.txStamp 0 },
         { port := 0, kind := 8, seq := (u.gptp 0).txSeq % 0x10000, time := u.txStamp 0 }] ∧ t.regs = u.regs) ∧
    (let u := s.elapseTo s.tsu.syncDue
     u.tsuRuns = true → u.grandmaster = false → Does .gptpSyncTimer s fun t =>
      t = { u with tsu := { u.tsu with syncDue := u.upNs + 125000000 } }) ∧
    (let u := s.elapseTo s.tsu.pdelayDue
     u.tsuRuns = true → u.gptpOn 0 = true → u.gptpOn 1 = false → Does .pdelayTimer s fun t =>
      t.tsu.pdelayDue = u.upNs + 1000000000 ∧ (t.gptp 0).t1 = u.txStamp 0 ∧ (t.gptp 0).seq = ((u.gptp 0).seq + 1) % 0x10000 ∧
      t.tsu.sent = u.tsu.sent ++ [{ port := 0, kind := 2, seq := ((u.gptp 0).seq + 1) % 0x10000, time := u.txStamp 0 }]) ∧
    (s.tsuRuns = true → s.tsu.src = 2 → s.srcSel = 2 → Does .tsuSourceLost s fun t =>
      t.tsu.src = 0 ∧ t.tsu.good = 0 ∧ t.tsu.st = (if s.tsu.st = 1 then 2 else s.tsu.st) ∧ t.tsu.rate = s.tsu.rate ∧
      s.tsu.lastPps - 1 + 1500000000 ≤ t.upNs) ∧
    (s.tsu.src = 0 →
      (s.tsuRuns = false ∨ s.tsu.st ≠ 1 → Does .tsuSourceLost s fun t => t = s) ∧
      (s.tsuRuns = true → s.tsu.st = 1 → Does .tsuSourceLost s fun t =>
        t = { s with tsu := { s.tsu with st := 2, good := 0, holdSince := s.upNs } })) ∧
    (s.tsu.st = 2 → Does .tsuHoldoverExpiry s fun t => t.tsu.st = 3 ∧
      s.tsu.holdSince + s.fld Reg.tsuCfg 15 8 * 1000000000 ≤ t.upNs ∧ t.regs = s.regs) ∧
    (s.tsu.st ≠ 2 → Does .tsuHoldoverExpiry s fun t => t = s) ∧
    (let u := s.elapseToTsu ((s.tsu.time / 1000000000 + 1) * 1000000000)
     (u.tsuRuns = true → u.fld Reg.tsuCfg 16 16 = 1 → u.tsu.st ≠ 0 → Does .ppsOutPulse s fun t =>
      t = { u with tsu := { u.tsu with ppsUntil := u.tsu.time + 100000000 } }) ∧
     (u.fld Reg.tsuCfg 16 16 = 0 ∨ u.tsu.st = 0 → Does .ppsOutPulse s fun t => t = u)) ∧
    (s.regGate who .read Reg.tsuTimeLo true = none → Does (.tsuTimeLoRead who) s fun t =>
      t.resp = .ok ∧ t.respData = s.tsu.time % 2 ^ 32 ∧ t.tsu.latch = s.tsu.time / 2 ^ 32 + 1 ∧ t.regs = s.regs)

/-- A kernel is launched on an idle tile, fences and switches buffers, and ends with one completion; a stop discards
both banks (R223, R228, R229, R230, R231, R234, R235, R237, R246). -/
def Obligations.TileKernelsRunAndEnd : Prop :=
  ∀ (s : State) (k sk : Nat) (r : EntryRef) (y : Entry) (en w0 n0 w1 n1 m bud : Nat) (fs : List FillSpec) (ext : List ExtData) (ups : List Upset),
    let x := s.tile k
    (s.entry r = some y → x.st = .idle → y.started = true → y.ending = none → s.gasketAnswer k = none → s.tileOwner k = r.encl → k < 64 →
      (y.byKernels = true → bitOf y.tiles k = true) → Does (.kernelLaunch k sk r en w0 n0 w1 n1 m bud fs) s fun t =>
        let z := t.tile k
        z.st = .running ∧ z.poison = false ∧ z.proofErr = false ∧ z.residue = false ∧ z.layer = 0 ∧ z.fills.length = fs.length ∧
        (z.launch.map fun l => (l.encl, l.queue, l.seq, l.entry, l.budgetUs, l.since, l.w0Len, l.w1Len)) =
          some (r.encl, r.queue, r.seq, en % 0x200000, bud, s.upNs, n0, n1) ∧
        (∀ i, y.bound.find? (fun b => b / 2 = m) = some i → z.launch.map (·.slotBase) = some (s.slot i).base) ∧
        t.fld (Reg.tileFpSum k) 7 0 = 0 ∧ t.fld (Reg.tileFpSum k) 23 16 = s.fld (Reg.tileFpSum k) 23 16 ∧
        RegsBut s t [Reg.tileFpSum k] ∧ t.mem = s.mem ∧ t.queues = s.queues) ∧
    (x.st ≠ .idle → Does (.kernelLaunch k sk r en w0 n0 w1 n1 m bud fs) s fun t => t = s) ∧
    (s.executing k = true →
      (Does (.fence k) s fun t => t = s.setTile k { x with fence := s.tileOutst k, fencePf := (issuedFills x).length }) ∧
      (Does (.fencePf k) s fun t => t = s.setTile k { x with fencePf := (issuedFills x).length }) ∧
      (∀ f, x.fillFail.find? (fun p => p.1 = x.layer + 1) = some f → Does (.bufferSwitch k fs) s fun t =>
        (t.tile k).st = .idle ∧ (t.tile k).launch = none ∧
        (t.tile k).posted = some (kernelStatus { x with code := some ((x.code.getD .ok).worse f.2) })) ∧
      (let z := addFills x fs
       x.fillFail = [] →
        (fillsOf z (x.layer + 1) = [] → Does (.bufferSwitch k fs) s fun t =>
          t.tile k = { z with layer := x.layer + 1 } ∧ t.regs = s.regs ∧ t.mem = s.mem) ∧
        (fillsOf z (x.layer + 1) ≠ [] → Does (.bufferSwitch k fs) s fun t =>
          t.tile k = { z with st := .stalled, stallFrom := s.upNs, pfLate := true } ∧
          t.fld (Reg.tilePfStat k) 15 0 = min 0xFFFF (s.fld (Reg.tilePfStat k) 15 0 + 1) ∧ RegsBut s t [Reg.tilePfStat k]))) ∧
    (s.executing k = false → (Does (.fence k) s fun t => t = s) ∧ (Does (.fencePf k) s fun t => t = s) ∧
      (Does (.bufferSwitch k fs) s fun t => t = s)) ∧
    (∀ f rest l, x.fills = f :: rest → x.launch = some l → (s.gasket k).st ≠ .opened ∨ x.layer + 1 < f.layer →
      Does (.fillComplete k ext ups) s fun t => t = s) ∧
    (∀ f rest l st d mask u, x.fills = f :: rest → x.launch = some l → x.st = .running → (s.gasket k).st = .opened →
      f.layer ≤ x.layer + 1 → s.readRunP (.tile k) f.src f.len ext ups = (st, d, mask, u) → u.tiles = s.tiles →
      (st = .ok → Does (.fillComplete k ext ups) s fun t => (t.tile k).fills = rest ∧ (t.tile k).fillFail = x.fillFail ∧
        t.mem = (u.tsramWriteP k ((if f.buf = 0 then l.w0 else l.w1) + f.off) d mask []).mem) ∧
      (st = .blockReset → Does (.fillComplete k ext ups) s fun t => (t.tile k).fills = rest ∧
        (t.tile k).fillFail = x.fillFail ++ [(f.layer, st)] ∧ t.mem = u.mem)) ∧
    (x.st = .running ∨ x.st = .stalled → Does (.kernelComplete k) s fun t =>
      (t.tile k).st = .idle ∧ (t.tile k).launch = none ∧ (t.tile k).posted = some (kernelStatus x) ∧ (t.tile k).fills = [] ∧
      RegsBut s t [Reg.tilePfStat k] ∧ (x.st = .running → t.regs = s.regs) ∧ t.mem = s.mem ∧
      ∀ l, x.launch = some l → s.entry ⟨l.encl, l.queue, l.seq⟩ = some y → y.ending = none → (kernelStatus x).permits = false →
        Ended t ⟨l.encl, l.queue, l.seq⟩ (kernelStatus x) 0) ∧
    (∀ l, x.launch = some l → x.st = .running ∨ x.st = .stalled →
      (Does (.kernelBudgetExpiry k) s fun t => (t.tile k).posted = some (Status.timeout.worse (kernelStatus x)) ∧
        (t.tile k).st = (if s.tileOutst k = [] ∧ issuedFills x = [] then .idle else .aborting) ∧ (t.tile k).bank0 = {} ∧ (t.tile k).bank1 = {} ∧
        l.since + 1000 * l.budgetUs ≤ t.upNs ∧ t.mem = s.mem) ∧
      (s.ward.st = .rouse → Does (.kernelAbort k) s fun t =>
        (t.tile k).posted = some (Status.abortedByRouse.worse (kernelStatus x)) ∧ (t.tile k).bank0 = {} ∧ (t.tile k).bank1 = {} ∧
        (t.tile k).st = (if s.tileOutst k = [] ∧ issuedFills x = [] then .idle else .aborting) ∧ t.mem = s.mem)) ∧
    (x.st = .aborting → s.tileOutst k = [] → Does (.abortDrained k) s fun t => t = s.setTile k { x with st := .idle }) ∧
    (x.st = .aborting → s.tileOutst k ≠ [] → Does (.abortDrained k) s fun t => t = s) ∧
    (s.answers = true → WSet.dss.has s.ward.st = true →
      (Does (.tileCntClrProof k) s fun t => t.reg (Reg.tileProofCnt k) = 0 ∧ RegsBut s t [Reg.tileProofCnt k] ∧ t.mem = s.mem) ∧
      (Does (.tileCntClrVu k) s fun t => t.fld (Reg.tileVuRes k) 15 0 = 0 ∧
        t.fld (Reg.tileVuRes k) 31 16 = s.fld (Reg.tileVuRes k) 31 16 ∧ RegsBut s t [Reg.tileVuRes k] ∧ t.tiles = s.tiles) ∧
      (Does (.tileCntClrPf k) s fun t => t.reg (Reg.tilePfStat k) = 0 ∧ RegsBut s t [Reg.tilePfStat k] ∧ t.mem = s.mem) ∧
      (Does (.tileCntClrBank k) s fun t => t.reg (Reg.tileBankStat k) = 0 ∧ RegsBut s t [Reg.tileBankStat k] ∧ t.tiles = s.tiles))

/-- Vector lanes compute their function, SUM adds 64 lanes, the tensor engine sums products exactly, and an
undisturbed integer drain passes its proof (R213, R216, R218, R219, R220, R225, R249, R292). -/
def Obligations.TileEnginesComputeAndProve : Prop :=
  ∀ (s : State) (k : Nat) (op : VuOp) (te : TeOp) (ups : List Upset),
    let sameResidues : Prop := ∀ r l, l < 64 → lane (s.tile k) r l % 3 = residue (s.tile k) r l
    (s.executing k = false → (Does (.vuInstruction k op ups [] []) s fun t => t = s) ∧ (Does (.teOperation k te ups []) s fun t => t = s)) ∧
    (s.executing k = true →
      (op.fn = .addI ∨ op.fn = .subI ∨ op.fn = .mulLo ∨ op.fn = .mulHi ∨ op.fn = .shl ∨ op.fn = .shr ∨ op.fn = .sar ∨ op.fn = .and ∨
        op.fn = .or ∨ op.fn = .xor ∨ op.fn = .selLtI ∨ op.fn = .selEqI ∨ op.fn = .addF ∨ op.fn = .mulF ∨ op.fn = .fmaF ∨
        op.fn = .exp2 ∨ op.fn = .rcp ∨ op.fn = .rsqrt → Does (.vuInstruction k op ups [] []) s fun t =>
        (∀ l, l < 64 → lane (t.tile k) op.dst l = (vuLane op.fn (lane (s.tile k) op.a l) (lane (s.tile k) op.b l)
          (lane (s.tile k) op.c l) (lane (s.tile k) op.d l)).1 % 2 ^ 32) ∧
        (∀ r l, l < 64 → r % 32 ≠ op.dst % 32 → lane (t.tile k) r l = lane (s.tile k) r l) ∧
        RegsBut s t [Reg.tileFpSum k, Reg.tileVuRes k] ∧ t.mem = s.mem ∧
        (sameResidues → t.reg (Reg.tileVuRes k) = s.reg (Reg.tileVuRes k) ∧ t.safe.reports = s.safe.reports)) ∧
      (op.fn = .sumI → Does (.vuInstruction k op ups [] []) s fun t =>
        lane (t.tile k) op.dst 0 = ((List.range 64).map fun l => lane (s.tile k) op.a l).sum % 2 ^ 32 ∧
        (∀ r l, l < 64 → r % 32 ≠ op.dst % 32 ∨ l ≠ 0 → lane (t.tile k) r l = lane (s.tile k) r l) ∧ RegsBut s t [Reg.tileVuRes k] ∧
        t.mem = s.mem ∧ (sameResidues → t.regs = s.regs)) ∧
      (∀ off d u, op.fn = .load off → s.tsramRead k (off / 64 * 64) 256 ups = (d, u) → Does (.vuInstruction k op ups [] []) s fun t =>
        (∀ l, l < 64 → lane (t.tile k) op.dst l = fieldAt d (4 * l) 4) ∧ t.mem = u.mem ∧ t.regs = u.regs) ∧
      (∀ da u db w, te.mode % 2 = 0 → te.drain % 2 = 0 → tePair te.pair = 0 → te.kblk % 4096 = 1 →
        s.tsramRead k (te.aOff / 64 * 64) 2048 ups = (da, u) → u.tsramRead k (te.bOff / 64 * 64) 4096 ups = (db, w) →
        Does (.teOperation k te ups []) s fun t =>
          (∀ i, i < 2048 → (bankOf (t.tile k) te.acc).acc.getD i 0 =
            ofSigned 32 (((List.range 64).map fun j => toSigned 8 (fieldAt da (i / 64 * 64 + j) 1) *
              toSigned 8 (fieldAt db (j * 64 + i % 64) 1)).sum)) ∧
          (bankOf (t.tile k) te.acc).sat8 = decide (te.sat8 % 2 = 1) ∧
          (bankOf (t.tile k) (te.acc + 1)) = bankOf (w.tile k) (te.acc + 1) ∧ t.mem = w.mem) ∧
      (te.mode % 2 = 0 → te.drain % 2 = 1 → tePair te.pair ≤ 2 → Does (.teOperation k te ups []) s fun t =>
        (t.tile k).proofErr = (s.tile k).proofErr ∧ t.fld (Reg.tileProofCnt k) 23 16 = s.fld (Reg.tileProofCnt k) 23 16 ∧
        t.reg (Reg.tileProofLog k) = s.reg (Reg.tileProofLog k)))

/-- A datum is discarded at the first check it fails, and one that passes is written, counted and judged by its
counter (R411, R413, R414, R415, R416, R417, R429, R430, R431, R443, R445, Table 13.8). -/
def Obligations.StrainerJudgesAndWritesData : Prop :=
  ∀ (s u v : State) (who : Requester) (q : EntryRef) (y : Entry) (st : Status) (l : List StreamRec) (k n dt bl : Nat) (r : StreamRec)
    (hdr d fr : List Byte) (ok whole : Bool) (ext : List ExtData) (ups : List Upset),
    (s.running q 1 0x50 = some y →
      (s.str.bind.isSome = true → Does (.ingestBind q ext ups) s fun t => t = s.finish q .busy 0) ∧
      (s.str.bind = none → s.readBind y q.encl ext ups = (.ok, l, u) → Does (.ingestBind q ext ups) s fun t =>
        t = { u with str := { u.str with bind := some (q, l) } }) ∧
      (s.str.bind = none → s.readBind y q.encl ext ups = (st, l, u) → st ≠ .ok → Does (.ingestBind q ext ups) s fun t =>
        t = u.finish q st 0)) ∧
    (let x := s.stream k
     let c := fieldAt hdr 4 4
     (s.delivers = true → bl < 8 →
       (∀ j, earlyChecks r n s.tsu.st whole ok hdr d = some j → let t := s.datum k r n bl whole ok hdr d ext ups
         (t.stream k).outcome = j.code ∧ (t.stream k).widx = x.widx ∧ (t.stream k).last = x.last ∧ t.mem = s.mem) ∧
       (∀ j lost z, earlyChecks r n s.tsu.st whole ok hdr d = none → continuity x r.maxGap c = (j, lost, z) → j.writes = true →
         s.ringWrite r x n c lost j (timeApplies (fieldAt hdr 8 8) s.tsu.st) d ext ups = (true, v) →
         let t := s.datum k r n bl whole ok hdr d ext ups
         (t.stream k).widx = (x.widx + 1) % 2 ^ 64 ∧ (t.stream k).outcome = j.code ∧ (t.stream k).last = c ∧
         (t.stream k).acc.written = x.acc.written + 1 ∧ (t.stream k).acc.lost = x.acc.lost + lost ∧ t.mem = v.mem) ∧
       (∀ j lost z, earlyChecks r n s.tsu.st whole ok hdr d = none → continuity x r.maxGap c = (j, lost, z) → j.writes = false →
         let t := s.datum k r n bl whole ok hdr d ext ups
         (t.stream k).outcome = j.code ∧ (t.stream k).widx = x.widx ∧ (t.stream k).last = x.last ∧ t.mem = s.mem)) ∧
     (s.delivers = true → 8 ≤ bl → let t := s.datum k r n bl whole ok hdr d ext ups
       (t.stream k).outcome = 12 ∧ (t.stream k).widx = x.widx ∧ t.mem = s.mem) ∧
     (s.ward.st = .steep → s.datum k r n bl whole ok hdr d ext ups = s.portDiscard r.port)) ∧
    (∀ (x : Stream) g c, x.initial = false → let e := (c + 2 ^ 32 - x.last % 2 ^ 32) % 2 ^ 32
      (e = 1 → (continuity x g c).1 = .accepted ∧ (continuity x g c).2.2.last = c) ∧
      (2 ≤ e → e ≤ g + 1 → (continuity x g c).1 = .gap ∧ (continuity x g c).2.1 = e - 1 ∧ (continuity x g c).2.2.last = c) ∧
      (e = 0 → continuity x g c = (.repeated, 0, x)) ∧
      (g + 1 < e → 1 < e → x.resync ≠ 2 ∨ c ≠ (x.prevBad + 1) % 2 ^ 32 → (continuity x g c).1 = .outOfSeq ∧ (continuity x g c).2.2.last = x.last) ∧
      (g + 1 < e → 1 < e → x.resync = 2 → c = (x.prevBad + 1) % 2 ^ 32 → (continuity x g c).1 = .resync ∧ (continuity x g c).2.2.last = c)) ∧
    (let p := 0x20 + n % 4
     let w := s.elapse dt
     let key := 16 * (n % 4) + k % 16
     let c := SMap.get {} s.str.cameras key
     (w.portOf p ≠ none → (SMap.get {} w.str.cameras key).opened = false → Does (.csi2FrameStart n k dt bl) s fun t =>
       SMap.get {} t.str.cameras key = { arrival := w.tsu.time, opened := true, overrun := decide (8 ≤ bl) } ∧ t.mem = s.mem) ∧
     (s.portOf p ≠ none → c.opened = true → d.length ≤ 16384 →
       (∀ ty, ty ∉ [0x12, 0x1E, 0x2A, 0x2B, 0x2C, 0x2E] → Does (.csi2LongPacket n k ty d ok whole) s fun t => t = s.portDiscard p) ∧
       (∀ ty, ty ∈ [0x12, 0x1E, 0x2A, 0x2B, 0x2C, 0x2E] → s.camStreams p (k % 16) ≠ [] →
         (c.lines.filter (fun y => y.1 ≠ 0x12)).length < 8192 → Does (.csi2LongPacket n k ty d ok whole) s fun t =>
           SMap.get {} t.str.cameras key = { c with bad := c.bad || !ok || !whole, lines := c.lines ++ [(ty, d)] } ∧
           t.mem = s.mem ∧ t.regs = s.regs) ∧
       (s.camStreams p (k % 16) = [] → ∀ ty, Does (.csi2LongPacket n k ty d ok whole) s fun t => t = s.portDiscard p)) ∧
     (let z := { s with str := { s.str with cameras := SMap.set {} s.str.cameras key {} } }
      c.opened = true →
       (∀ i, s.camStreams p (k % 16) = [(i, r)] → let tr := c.trailer (r.mtch % 64)
         Does (.csi2FrameEnd n k ext ups) s fun t =>
           t = State.datum z i r c.arrival (if c.overrun then 8 else 0) tr.isSome (!c.bad) ((tr.getD []).take 24)
             (c.payload (r.mtch % 64)) ext ups) ∧
       (s.camStreams p (k % 16) = [] → Does (.csi2FrameEnd n k ext ups) s fun t => t = State.portDiscard z p)) ∧
     (c.opened = false → Does (.csi2FrameEnd n k ext ups) s fun t => t = s)) ∧
    (let w := s.elapse dt
     (∀ p, w.portOf 0x10 = some p → p.id = 0x10 → p.role = 1 →
       ((if bitOf p.options 1 then 9018 else 1518) < fr.length + 4 → Does (.ethernetFrameRx 0 fr ok dt bl ext ups) s fun t =>
         t = w.portDiscard 0x10) ∧
       (∀ port i, fr.length + 4 ≤ (if bitOf p.options 1 then 9018 else 1518) → classifyFrame fr = .udp port d →
         w.findStream 0x10 (fun x => x.kind = 2 && x.mtch = port) = some (i, r) → Does (.ethernetFrameRx 0 fr ok dt bl ext ups) s fun t =>
           t = w.datum i r (w.rxStamp 0) bl true ok (d.take 24) (d.drop 24) ext ups)) ∧
     (w.portOf (0x28 + n % 2) ≠ none →
       (SMap.get 0 w.str.imu (n % 2) = 0 → w.findStream (0x28 + n % 2) (fun _ => true) = some (k, r) → Does (.imuDrdy n dt) s fun t =>
         SMap.get 0 t.str.imu (n % 2) = w.tsu.time + 1 ∧ t.regs = s.regs ∧ t.mem = s.mem) ∧
       (SMap.get 0 w.str.imu (n % 2) ≠ 0 → Does (.imuDrdy n dt) s fun t => t = w.portDiscard (0x28 + n % 2))) ∧
     (w.portOf (0x30 + n % 2) ≠ none →
       (∀ i, w.findStream (0x30 + n % 2) (fun x => x.mtch = k) = some (i, r) → Does (.canFrameRx n k true ok false d dt bl ext ups) s fun t =>
         t = w.datum i r w.tsu.time bl (decide (32 ≤ d.length)) ok (d.take 24) (d.drop 24) ext ups) ∧
       (w.findStream (0x30 + n % 2) (fun x => x.mtch = k) = none → Does (.canFrameRx n k false ok false d dt bl ext ups) s fun t =>
         t = w.portDiscard (0x30 + n % 2)) ∧
       (Does (.canFrameRx n k true ok true d dt bl ext ups) s fun t => t = w))) ∧
    (let z := { s with str := { s.str with imu := SMap.set 0 s.str.imu (n % 2) 0 } }
     SMap.get 0 s.str.imu (n % 2) = bl + 1 → z.findStream (0x28 + n % 2) (fun _ => true) = some (k, r) →
      Does (.imuTransferDone n d dt ext ups) s fun t =>
        t = z.datum k r bl dt (decide (d.length = 24 + r.maxLen)) true (d.take 24) (d.drop 24) ext ups) ∧
    (k < 32 → (s.stream k).bound = some r → Does (.streamSilent k) s fun t => t.stream k = { s.stream k with silent := true } ∧
      (s.stream k).lastWrite + 3000 * r.periodUs ≤ t.upNs ∧ t.regs = s.regs) ∧
    (s.regGate who .write Reg.strCntClr true = none → WSet.dss.has s.ward.st = true →
      (Does (.strCntClrPorts who) s fun t => (∀ p, p < 10 → t.reg (Reg.strPortCnt p) = 0) ∧
        RegsBut s t ((List.range 10).map Reg.strPortCnt) ∧ t.resp = .ok) ∧
      (Does (.strCntClrStreams who) s fun t => (∀ i, i < 32 → t.reg (Reg.strCnt i) = 0) ∧
        RegsBut s t ((List.range 32).map Reg.strCnt) ∧ t.resp = .ok))

/-- A loom header reads back as written; an inbound request is performed under the window that exports it, denied
without one, and answered PEER_LOST in ROUSE (R550, R553, R558, R561, R562, R563, R571, Table 17.2, Table 17.7). -/
def Obligations.InboundLoomRequestsAreChecked : Prop :=
  ∀ (s u : State) (via : Nat) (x : LinkLayer) (p : Pkt) (rest : List Pkt) (st : Status) (d : List Byte) (up : Bool)
    (ext : List ExtData) (ups : List Upset),
    (∀ (h : LHdr) (b : List Byte), h.dst < 1024 → h.src < 1024 → h.opc < 64 → h.encl < 8 → h.hops < 8 → h.tid < 2 ^ 16 → h.status < 256 →
      h.size < 256 → h.addr < 2 ^ 64 → LHdr.read (h.bytes ++ b) = h) ∧
    (s.linkOf via = some x → (x.rxOf 0).buf = p :: rest →
      let h := LHdr.read p.body
      let b := p.body.drop 16
      let v := s.setLink via (x.accept 0)
      let a := h.addr % 2 ^ 54
      (h.opc ≠ opcRead → Does (.loomRead via ext ups) s fun t => t = s) ∧
      (via < 8 → (s.bport via).barred = true → h.opc = opcRead → Does (.loomRead via ext ups) s fun t => t = v) ∧
      ((via < 8 → (s.bport via).barred = false) →
      (s.ward.st = .rouse →
        (h.opc = opcRead → Does (.loomRead via ext ups) s fun t => t = v.answer h .peerLost []) ∧
        (h.opc = opcMsg → Does (.loomMsg via ups) s fun t => t = v.answer h .peerLost [])) ∧
      (s.ward.st ≠ .rouse → v.inView h.src = false →
        (h.opc = opcRead → Does (.loomRead via ext ups) s fun t => t = v) ∧
        (h.opc = opcWrite → Does (.loomWrite via up ext ups) s fun t => t = v)) ∧
      (s.ward.st ≠ .rouse → v.isMember = true → v.inView h.src = true → h.dst = v.nodeId →
        (h.opc = opcRead →
          (oneRequest a (h.size + 1) = false → Does (.loomRead via ext ups) s fun t => t = v.answer h .badArg []) ∧
          (oneRequest a (h.size + 1) = true → v.exported h.encl a (h.size + 1) 0 = none → Does (.loomRead via ext ups) s fun t =>
            t = (v.bump Reg.loomCnt 15 8).answer h .accessDenied []) ∧
          (∀ e, oneRequest a (h.size + 1) = true → v.exported h.encl a (h.size + 1) 0 = some e →
            v.commonsTick.readAt (.loom via e) (a + v.nodeId * 2 ^ 54) (h.size + 1) ext ups = (st, d, u) →
            Does (.loomRead via ext ups) s fun t => t = u.answer h st (if st = .ok ∨ st = .poisoned then d else []))) ∧
        (∀ e, h.opc = opcWrite → oneRequest a (h.size + 1) = true → v.exported h.encl a (h.size + 1) 1 = some e →
          v.commonsTick.writeAt (.loom via e) (a + v.nodeId * 2 ^ 54) (b.take (h.size + 1)) false up ext ups = (st, u) →
          Does (.loomWrite via up ext ups) s fun t => t = u.answer h st []) ∧
        (∀ e op, h.opc = opcAtomic → oneRequest a (h.size + 1) = true → v.exported h.encl a (h.size + 1) 2 = some e →
          atomicOf (h.addr / 2 ^ 60 % 16) = some op →
          v.commonsTick.atomicAt (.loom via e) (localOf (a + v.nodeId * 2 ^ 54)) (h.size + 1) op
            (fieldAt b 0 (h.size + 1)) (fieldAt b (h.size + 1) (h.size + 1)) ups = (st, d, u) →
          Does (.loomAtomic via ups) s fun t => t = u.answer h st (if st = .ok ∨ st = .poisoned then d else [])) ∧
        (h.opc = opcMsg →
          (240 < (b.take (h.size + 1)).length → Does (.loomMsg via ups) s fun t => t = v.answer h .badArg []) ∧
          ((b.take (h.size + 1)).length ≤ 240 → v.mboxOpen h.encl = false → Does (.loomMsg via ups) s fun t => t = v.answer h .busy []) ∧
          (let k := Reg.qblk h.encl
           let tail := (v.reg (k + 0x1C)).toNat
           let at_ := (v.reg (k + 0x10)).toNat / 256 * 256 + (v.reg (k + 0x14)).toNat * 2 ^ 32 + 256 * (tail % 2 ^ v.fld (k + 0x18) 3 0)
           ∀ w, (b.take (h.size + 1)).length ≤ 240 → v.mboxOpen h.encl = true →
            v.writeRun (.loom via h.encl) (at_ + 16) (b.take (h.size + 1)) [] ups = (.ok, u) →
            u.writeRun (.loom via h.encl) at_ (leBytes 2 h.src ++ leBytes 1 (b.take (h.size + 1)).length ++ leBytes 1 0 ++
              leBytes 4 tail ++ leBytes 8 v.tsu.time) [] ups = (.ok, w) →
            Does (.loomMsg via ups) s fun t => t = (w.setReg (k + 0x1C) (BitVec.ofNat 32 (tail + 1))).answer h .ok [])) ∧
        (h.opc = opcRlease → h.addr / 2 ^ 60 % 16 = 0 → (∀ l ∈ v.loom.leases, v.upNs < l.expiry) →
          (v.exported h.encl a (fieldAt b 0 4) 0 = none → Does (.loomRlease via) s fun t =>
            t = (v.bump Reg.loomCnt 15 8).answer h .accessDenied []) ∧
          (∀ e, v.exported h.encl a (fieldAt b 0 4) 0 = some e →
            (v.loom.leases.any (fun l => l.held && decide (l.base < a + fieldAt b 0 4 ∧ a < l.base + l.size)) = true →
              Does (.loomRlease via) s fun t => t = v.answer h .busy []) ∧
            (v.loom.leases.any (fun l => l.held && decide (l.base < a + fieldAt b 0 4 ∧ a < l.base + l.size)) = false →
              (v.loom.leases.filter (·.held)).length < 256 → Does (.loomRlease via) s fun t =>
                ∃ l ∈ t.loom.leases, l.base = a ∧ l.size = fieldAt b 0 4 ∧ l.held = true ∧ l.node = h.src ∧ l.encl = e ∧
                  l.gen = (((v.rleaseOf a (fieldAt b 0 4)).map (·.gen)).getD 0 + 1) % 2 ^ 16 ∧
                  l.expiry = v.upNs + fieldAt b 6 2 * 1000000))))))

/-- A response ends its request; 100 ms without one is TIMEOUT; tunnel frames go out with their header, and idle or
dead sessions end (R554, R555, R556, R557, R558, R560, Table 17.1). -/
def Obligations.LoomResponsesAndTunnels : Prop :=
  ∀ (s : State) (via n k : Nat) (x : LinkLayer) (p : Pkt) (rest : List Pkt) (q : LReq) (z : Session) (f : List Byte) (ok tg : Bool),
    (s.linkOf via = some x → (x.rxOf 1).buf = p :: rest →
      let h := LHdr.read p.body
      let v := s.setLink via (x.accept 1)
      (via < 8 → (s.bport via).barred = false) → s.ward.st ≠ .rouse → v.isMember = true → v.inView h.src = true → h.dst = v.nodeId →
      (h.opc = opcRdata →
        (v.liveReqs.find? (fun l => l.tid = h.tid ∧ l.node = h.src) = some q → Does (.loomRdata via) s fun t =>
          t = v.loomDone q (Status.ofCode h.status) ((p.body.drop 16).take (h.size + 1)) ∧
          t.loom.outst = v.loom.outst.filter (fun l => l.tid ≠ q.tid)) ∧
        (v.liveReqs.find? (fun l => l.tid = h.tid ∧ l.node = h.src) = none → Does (.loomRdata via) s fun t => t = v)) ∧
      (h.opc = opcRstat → v.liveReqs.find? (fun l => l.tid = h.tid ∧ l.node = h.src) = some q →
        (h.status ≠ Status.accessDenied.code → Does (.loomRstat via) s fun t => t = v.loomDone q (Status.ofCode h.status) []) ∧
        (h.status = Status.accessDenied.code → Does (.loomRstat via) s fun t =>
          t.loom.outst = v.loom.outst.filter (fun l => l.tid ≠ q.tid) ∧
          t.fld (Reg.denyCnt q.encl) 15 0 = min 0xFFFF ((v.loomDone q .accessDenied []).fld (Reg.denyCnt q.encl) 15 0 + 1)))) ∧
    (s.liveReqs.find? (fun l => l.tid = n) = some q → Does (.loomRequestTimeout n) s fun t =>
      t.loom.outst = s.loom.outst.filter (fun l => l.tid ≠ q.tid) ∧ q.since + 100000000 ≤ t.upNs ∧
      ∀ w, s.weave.outst.find? (fun e => e.id = q.wid) = some w → (s.gasket w.src).st ≠ .sealed →
        t.weave.done = s.weave.done ++ [{ id := w.id, src := w.src, vc := if w.vc = 2 then 2 else 1, status := .timeout, data := [] }]) ∧
    (s.liveReqs.find? (fun l => l.tid = n) = none → Does (.loomRequestTimeout n) s fun t => t = s) ∧
    ((∀ l ∈ s.loom.outst, l.node = n → l.held = none) → Does (.routeSwitch n) s fun t => t = s) ∧
    (s.loom.outst = [q] → q.node = n → q.held = some p → s.routeTo n = .none → Does (.routeSwitch n) s fun t =>
      t = s.loomDone q .peerLost []) ∧
    (s.isMember = false → Does (.tunnelFrameRx f ok tg) s fun t => t = s) ∧
    (s.isMember = true → s.ownTunnel = true →
      (ok = false ∨ fieldAt f 0 1 ≠ 0x4B ∨ fieldAt f 10 2 ≠ s.nodeId ∨ s.inView (fieldAt f 8 2) = false → Does (.tunnelFrameRx f ok tg) s fun t =>
        t.fld Reg.loomTunStat 31 16 = min 0xFFFF (s.fld Reg.loomTunStat 31 16 + 1) ∧ RegsBut s t [Reg.loomTunStat] ∧ t.loom = s.loom) ∧
      (let m := fieldAt f 2 1
       ok = true → fieldAt f 0 1 = 0x4B → fieldAt f 1 1 = 1 → fieldAt f 4 4 = (s.steepImg.map (·.loomId)).getD 0 →
       fieldAt f 10 2 = s.nodeId → s.inView (fieldAt f 8 2) = true → f.length = 16 + 256 * m → m ≠ 0 → m ≤ s.frameLimit (fieldAt f 8 2) →
       (if tg then 18 else 14) + 40 + 8 + f.length + 4 ≤ s.macLimit → s.sessionWith (fieldAt f 8 2) = some k → s.session k = some z →
       z.peerGen = fieldAt f 12 4 → Does (.tunnelFrameRx f ok tg) s fun t => t = s.tunFlits k (flitsOf m (f.drop 16)))) ∧
    (s.session k = some z →
      (∀ fl y, takeFlits s.upNs (s.frameLimit z.peer) z.link = (fl, y) →
        (fl = [] → Does (.tunnelFrameSend k) s fun t => t = s) ∧
        (fl ≠ [] → fl.length = s.frameLimit z.peer → Does (.tunnelFrameSend k) s fun t =>
          t.session k = some { z with link := y, answerDue := false } ∧ t.upNs = s.upNs ∧
          t.loom.frames = s.loom.frames ++ [(z.peer, s.tunnelPayload z fl)])) ∧
      (z.answerDue = true → flitsDue z.link = false → Does (.tunnelNullFlit k) s fun t =>
        (t.session k).map (·.answerDue) = some false ∧ t.loom.frames.length = s.loom.frames.length + 1) ∧
      (z.answerDue = false → Does (.tunnelNullFlit k) s fun t => t = s) ∧
      (z.link.unacked = [] → z.link.waiting = false → Does (.tunnelSessionIdle k) s fun t =>
        t.session k = none ∧ z.packetAt + 1000000 * s.fld Reg.loomTunCfg 7 0 ≤ t.upNs ∧ t.loom.outst = s.loom.outst) ∧
      (z.link.unacked ≠ [] → Does (.tunnelSessionDead k) s fun t => t.session k = none ∧
        z.link.ackAt + 1000000 * s.fld Reg.loomTunCfg 23 16 ≤ t.upNs ∧ ∀ l ∈ t.loom.outst, l.via = 16 + k → l.held ≠ none))

/-- A Brikel port detects, trains, retrains, goes down and retries, enters and leaves L1 and SLEEP by its rules and
its time-outs (R521, R524, R525, R527, R528, R539, R540, R541, R546, R547, Table 16.1, Table 16.5). -/
def Obligations.LinkStatesFollowTraining : Prop :=
  ∀ (s : State) (p lane n : Nat) (set : List Byte) (inv : Bool), p < 8 → lane < 4 →
    let b := s.bport p
    let cut (t : State) : Prop := (t.bport p).st = .down ∧ (t.bport p).link = {} ∧ (t.bport p).hello = false ∧
      t.fld (Reg.blkErr p) 31 24 = min 255 (s.fld (Reg.blkErr p) 31 24 + 1)
    let again (t : State) (out : Nat) : Prop := (t.bport p).st = .retrain ∧ (t.bport p).leftOut = b.leftOut ||| out ∧
      (t.bport p).link.resend = 0 ∧ t.fld (Reg.blkErr p) 23 16 = min 255 (s.fld (Reg.blkErr p) 23 16 + 1)
    (b.st = .detect →
      (Does (.detectBurst p) s fun t => t.bport p = { b with bursts := b.bursts + 1 } ∧ t.regs = s.regs) ∧
      (Does (.partnerDetected p) s fun t => (t.bport p).st = .train ∧ (t.bport p).since = s.upNs ∧ (t.bport p).lanes = [] ∧
        (t.bport p).leftOut = 0 ∧ t.regs = s.regs)) ∧
    (b.st ≠ .detect → (Does (.detectBurst p) s fun t => t = s) ∧ (Does (.partnerDetected p) s fun t => t = s)) ∧
    (b.st = .train → Does (.trainingTimeout p) s fun t => cut t ∧ b.since + 15000000 ≤ t.upNs) ∧
    (b.st = .train ∨ b.st = .retrain → 2 ≤ n → bitOf b.leftOut lane = false → b.ready = false →
      let c := { b with peerUsable := fieldAt set 3 1 / 16 % 16, tsb := SMap.set 0 b.tsb lane n }
      (fieldAt set 0 1 = 0xC3 → Does (.trainingSetReceived p lane set inv n) s fun t =>
        SMap.get 0 (t.bport p).lanes lane = fieldAt set 1 1 % 4 + 1 ∧ bitOf (t.bport p).polarity lane = inv ∧
        (t.bport p).peerPort = fieldAt set 2 1 % 8 ∧ (t.bport p).peerId = fieldAt set 6 4 ∧ (t.bport p).st = b.st) ∧
      (fieldAt set 0 1 = 0xC5 → c.active.1 = 0 → Does (.trainingSetReceived p lane set inv n) s cut) ∧
      (fieldAt set 0 1 = 0xC5 → c.active.1 ≠ 0 → c.confirmed = false → Does (.trainingSetReceived p lane set inv n) s fun t =>
        t.bport p = c ∧ t.regs = s.regs) ∧
      (fieldAt set 0 1 = 0xC5 → c.confirmed = true → b.st = .train → Does (.trainingSetReceived p lane set inv n) s fun t =>
        (t.bport p).ready = true ∧ (t.bport p).width = c.active.1 ∧ (t.bport p).st = .train)) ∧
    (b.st ≠ .train → b.st ≠ .retrain → Does (.trainingSetReceived p lane set inv n) s fun t => t = s) ∧
    (b.st = .active → bitOf b.physical lane = true → Does (.blockLockLoss p lane) s fun t => again t (2 ^ lane)) ∧
    (bitOf b.physical lane = false → Does (.blockLockLoss p lane) s fun t => t = s) ∧
    (b.st = .active →
      (n < s.fld (Reg.blk p 0) 31 24 → Does (.laneErrorThreshold p lane n) s fun t =>
        t.fld (Reg.blk p 0x18) (8 * lane + 7) (8 * lane) = min 255 (s.fld (Reg.blk p 0x18) (8 * lane + 7) (8 * lane) + n) ∧
        RegsBut s t [Reg.blk p 0x18] ∧ t.ports = s.ports) ∧
      (s.fld (Reg.blk p 0) 31 24 ≤ n → bitOf b.physical lane = true → Does (.laneErrorThreshold p lane n) s fun t => again t (2 ^ lane)) ∧
      (Does (.flitSilence p) s fun t => again t 0 ∧ b.goodAt + 4000 ≤ t.upNs) ∧
      (s.answers = true → s.ward.st = .steep → (Does (.retrainCmd p) s fun t => again t 0) ∧ (Does (.linkDownCmd p) s cut))) ∧
    (b.st = .retrain → Does (.retrainTimeout p) s fun t => cut t ∧ b.since + 1000000 ≤ t.upNs) ∧
    (b.st = .down →
      (s.fld (Reg.blk p 0) 2 2 = 0 → Does (.downRetry p) s fun t => (t.bport p).st = .detect ∧ b.since + 10000000 ≤ t.upNs ∧ t.regs = s.regs) ∧
      (s.fld (Reg.blk p 0) 2 2 = 1 → Does (.downRetry p) s fun t => t = s)) ∧
    (b.st = .active → s.fld (Reg.blk p 0) 3 3 = 1 → s.fld (Reg.blk p 0) 15 8 ≠ 0 → b.link.unacked = [] → b.link.waiting = false →
      b.l1ReqAt = 0 → b.sleep = .none → Does (.l1Idle p) s fun t => (t.bport p).link.ctrl = b.link.ctrl ++ [1] ∧
        (t.bport p).l1ReqAt = t.upNs + 1 ∧ (t.bport p).st = .active ∧ b.sentAt + 1000 * s.fld (Reg.blk p 0) 15 8 ≤ t.upNs) ∧
    (b.st = .active → b.l1ReqAt ≠ 0 → Does (.l1ReqTimeout p) s fun t => (t.bport p).l1ReqAt = 0 ∧ (t.bport p).st = .active ∧
      b.l1ReqAt - 1 + 10000 ≤ t.upNs) ∧
    (b.st = .l1 → (Does (.l1Exit p true) s fun t => (t.bport p).st = .active ∧ t.regs = s.regs) ∧
      (Does (.l1Exit p false) s fun t => again t 0)) ∧
    (b.sleep = .draining → Does (.sleepDrainTimeout p) s fun t => (t.bport p).sleep = .waitAck ∧ (t.bport p).link.unacked = [] ∧
      (t.bport p).link.ctrl = b.link.ctrl ++ [4] ∧
      t.fld (Reg.blkErr2 p) 23 16 = min 255 (s.fld (Reg.blkErr2 p) 23 16 + b.link.unacked.length) ∧ b.sleepAt + 1000000 ≤ t.upNs) ∧
    (b.sleep = .waitAck → Does (.sleepAckTimeout p) s fun t => (t.bport p).st = .sleep ∧ (t.bport p).link = {} ∧ b.sleepAt + 500000 ≤ t.upNs) ∧
    (s.answers = true → s.ward.st = .steep → b.st ≠ .disabled → Does (.wakePatternSend p) s fun t => t.upNs = s.upNs + 200000 ∧
      t.fld (Reg.blk p 0x1C) 31 16 = min 0xFFFF (s.fld (Reg.blk p 0x1C) 31 16 + 1) ∧ RegsBut s t [Reg.blk p 0x1C]) ∧
    (s.answers = true → WSet.ss.has s.ward.st = true → Does (.blkCntClr p) s fun t => t.reg (Reg.blkErr p) = 0 ∧
      t.reg (Reg.blkErr2 p) = 0 ∧ t.reg (Reg.blk p 0x18) = 0 ∧ t.fld (Reg.blk p 0x1C) 31 16 = 0 ∧
      RegsBut s t [Reg.blkErr p, Reg.blkErr2 p, Reg.blk p 0x18, Reg.blk p 0x1C] ∧ t.ports = s.ports)

/-- Every flit sent has 256 bytes, its number and a check that its receiver accepts, and comes off the lanes as it was
striped; a damaged one is asked for again, an unanswered one replayed (R523, R530, R531, R535, R538, Table 16.6). -/
def Obligations.FlitsAreCheckedAndReplayed : Prop :=
  ∀ (s : State) (p : Nat) (wire : List (List LaneBlock)), p < 8 →
    let b := s.bport p
    let x := b.link
    (∀ (y z : LinkLayer) (ty seq now : Nat) (d : List Byte), ty < 3 → d.length ≤ 244 →
      (y.flit ty seq d).1.length = 256 ∧ (z.receive (y.flit ty seq d).1 now).good = true ∧
      fieldAt (y.flit ty seq d).1 0 1 % 4 = ty ∧ bitsOf (fieldAt (y.flit ty seq d).1 0 4) 10 2 = seq % 512) ∧
    (b.st = .active → b.sleep = .none → x.resend = 0 → x.cur = [] → x.pick = none → x.ctrl = [] → Does (.flitTx p) s fun t =>
      (t.bport p).flit.length = 256 ∧ fieldAt (t.bport p).flit 0 1 % 4 = 0 ∧ (t.bport p).link.seq = x.seq ∧
      (t.bport p).link.unacked = x.unacked ∧ (t.bport p).sentAt = b.sentAt ∧ t.regs = s.regs) ∧
    (b.st = .active → b.sleep = .none → x.resend = 0 → x.pick.isSome = true → x.unacked.length < 256 → Does (.flitTx p) s fun t =>
      fieldAt (t.bport p).flit 0 1 % 4 = 1 ∧ bitsOf (fieldAt (t.bport p).flit 0 4) 10 2 = x.seq % 512 ∧
      (t.bport p).link.seq = (x.seq + 1) % 512 ∧ (∃ d, (t.bport p).link.unacked = x.unacked ++ [(x.seq, d)]) ∧
      (t.bport p).sentAt = t.upNs ∧ s.upNs ≤ t.upNs ∧ b.nextTx / 16 ≤ t.upNs ∧ t.regs = s.regs ∧
      (t.bport p).wire = (b.transmit t.upNs (t.bport p).flit).wire ∧ (t.bport p).nextTx = (b.transmit t.upNs (t.bport p).flit).nextTx) ∧
    (∀ (y z : Brikel) (f : List Byte) (now : Nat), f.length = 256 → y.active = z.active → z.rxScr = y.txScr →
      y.active.1 = 1 ∨ y.active.1 = 2 ∨ y.active.1 = 4 → y.activeLanes.length = y.active.1 →
      (z.accept (y.transmit now f).wire).2.1 = some f) ∧
    (b.st ≠ .active → b.st ≠ .train → (Does (.flitTx p) s fun t => t = s) ∧ (Does (.flitRx p wire) s fun t => t = s)) ∧
    (∀ c fo es, b.accept wire = (c, fo, es) → let fl := fo.getD []
      b.st = .active → x.replays < 4 → (fl.length ≠ 256 ∨ crc64 (fl.take 248) ≠ leNat (fl.drop 248)) → Does (.flitRx p wire) s fun t =>
      (t.bport p).link.rx = x.rx ∧ (t.bport p).link.rxSeq = x.rxSeq ∧ (t.bport p).link.nak = true ∧ (t.bport p).st = .active ∧
      t.fld (Reg.blkErr p) 7 0 = min 255 (s.fld (Reg.blkErr p) 7 0 + 1) ∧
      t.fld (Reg.blkErr2 p) 7 0 = (if x.nak then s.fld (Reg.blkErr2 p) 7 0 else min 255 (s.fld (Reg.blkErr2 p) 7 0 + 1)) ∧
      RegsBut s t [Reg.blkErr p, Reg.blkErr2 p, Reg.blk p 0x18] ∧
      ((∀ e ∈ es, e.2 = 0) → t.reg (Reg.blk p 0x18) = s.reg (Reg.blk p 0x18))) ∧
    (b.st = .active → x.unacked ≠ [] →
      (x.replays < 3 → Does (.replayTimeout p) s fun t => (t.bport p).link.resend = x.unacked.length ∧ (t.bport p).st = .active ∧
        t.fld (Reg.blkErr p) 15 8 = min 255 (s.fld (Reg.blkErr p) 15 8 + 1) ∧
        t.fld (Reg.blkErr2 p) 15 8 = min 255 (s.fld (Reg.blkErr2 p) 15 8 + 1) ∧
        x.ackAt + 500 * s.fld (Reg.blk p 0) 19 16 ≤ t.upNs) ∧
      (3 ≤ x.replays → Does (.replayTimeout p) s fun t => (t.bport p).st = .retrain ∧ (t.bport p).link.unacked = x.unacked)) ∧
    (x.unacked = [] → Does (.replayTimeout p) s fun t => t = s) ∧
    (∀ k z, s.session k = some z → z.link.unacked ≠ [] → Does (.replayTimeout (16 + k)) s fun t =>
      (t.session k).map (fun y => y.link.resend) = some z.link.unacked.length ∧ t.regs = s.regs)

/-- Sideband transfers move pointers and bytes, a checked command opens or is answered, busy addresses count, notify
attempts end after eight (R645, R646, R649, R651, R652, R653, R656, R658, R660, R662, R665, Table 21.3). -/
def Obligations.SidebandTransfersAndCommands : Prop :=
  ∀ (s : State) (c v n : Nat) (busy att stop : Bool) (p : Byte) (d : List Byte),
    (s.fld Reg.rstStrap 12 12 = 1 → Does (.sbAddressMatch busy) s fun t => t = s) ∧
    (s.fld Reg.rstStrap 12 12 = 0 → s.ward.st = .standby → Does (.sbAddressMatch busy) s fun t =>
      HeldAfter s t ∧ t.reg Reg.rstSnap = s.snapshot) ∧
    (s.fld Reg.rstStrap 12 12 = 0 → s.ward.st = .steep → s.ward.cozy = true → Does (.sbAddressMatch busy) s fun t =>
      t = { s with ward := { s.ward with wake := true } }) ∧
    (s.sbAnswers = true → s.ward.cozy = false → s.ward.st ≠ .standby →
      (s.upNs < s.sb.busyUntil → Does (.sbAddressMatch true) s fun t => t.fld Reg.sbCnt 15 0 = min 0xFFFF (s.fld Reg.sbCnt 15 0 + 1) ∧
        t.fld Reg.sbStatus 5 5 = 1 ∧ RegsBut s t [Reg.sbCnt, Reg.sbStatus] ∧ t.sb = s.sb) ∧
      (s.sb.busyUntil ≤ s.upNs → Does (.sbAddressMatch busy) s fun t => t = s)) ∧
    (s.sbAnswers = false → (Does (.sbWriteTransfer false [p] stop) s fun t => t = s) ∧ (Does (.sbReadTransfer false n) s fun t => t = s)) ∧
    (s.sbAnswers = true →
      (Does (.sbWriteTransfer false [p] stop) s fun t => t = { s with sb := { s.sb with sPtr := p.toNat } }) ∧
      (Does (.sbReadTransfer false 1) s fun t => t.sb.lastRead = [s.mapByte s.sb.sPtr] ∧ t.sb.sPtr = (s.sb.sPtr + 1) % 256 ∧
        t.sb.lPtr = s.sb.lPtr ∧ t.regs = s.regs ∧ t.ward = s.ward) ∧
      (Does (.sbReadTransfer true 1) s fun t => t.sb.lastRead = [s.mapByte (0x10000 + s.sb.lPtr)] ∧
        t.sb.lPtr = (s.sb.lPtr + 1) % 0x10000 ∧ t.sb.sPtr = s.sb.sPtr ∧ t.regs = s.regs ∧ t.ward = s.ward) ∧
      (c < 256 → v < 256 → v ≠ 255 - c → Does (.sbWriteTransfer false [0x10, BitVec.ofNat 8 c, BitVec.ofNat 8 v] true) s fun t =>
        t.fld Reg.sbStatus 3 3 = 1 ∧ t.sb.cmdSeq = s.sb.cmdSeq ∧ t.sb.cmdOpen = s.sb.cmdOpen ∧ RegsBut s t [Reg.sbStatus]) ∧
      (c < 256 → ∀ args, args = [] ∨ args = [0xC3, 0xA5] →
        let word : Nat := if args = [] then 0 else 0xA5C3
        let takes (P : State → Prop) : Prop :=
          Does (.sbWriteTransfer false ([0x10, BitVec.ofNat 8 c, BitVec.ofNat 8 (255 - c)] ++ args) true) s fun t =>
            t.sb.cmdSeq = (s.sb.cmdSeq + 1) % 256 ∧ t.ward = s.ward ∧ P t
        let answered (t : State) (st : Status) (g : Nat) : Prop :=
          t.sb.cmdStatus = st.code ∧ t.sb.cmdInfo = g % 16 + c % 16 * 16 ∧ t.sb.cmdDone = true ∧ t.sb.cmdOpen = s.sb.cmdOpen
        let stateOk : Prop := (1 ≤ c ∧ c ≤ 4 → accepts s.ward.st .cfg = true) ∧ (c = 6 → s.ward.st = .drive)
        let argOk : Prop := 1 ≤ c ∧ c ≤ 7 ∧ word = (if c = 7 then 0xA5C3 else 0)
        (1 ≤ c → c ≤ 4 → accepts s.ward.st .cfg = false → takes fun t => answered t .stateRefused Guard.pair.code ∧
          t.fld (Reg.refuseCnt CmdClass.cfg.index) 15 0 = min 0xFFFF (s.fld (Reg.refuseCnt CmdClass.cfg.index) 15 0 + 1) ∧
          t.fld Reg.refuseLast 7 7 = 1) ∧
        (c = 6 → s.ward.st ≠ .drive → takes fun t => answered t .stateRefused (s.fld Reg.refuseLast 11 8)) ∧
        (stateOk → ¬ argOk → takes fun t => answered t .badArg 0 ∧ t.regs = s.regs) ∧
        (stateOk → argOk → s.sb.cmdOpen.isSome = true → takes fun t => answered t .busy 0 ∧ t.regs = s.regs) ∧
        (stateOk → argOk → s.sb.cmdOpen = none → takes fun t => t.sb.cmdOpen = some c ∧ t.sb.cmdDone = false ∧ t.regs = s.regs)) ∧
      (d.length = 32 → s.sb.outBox.length = 32 → s.sb.outFull = false → Does (.sbWriteTransfer true ([0x02, 0x00] ++ d) true) s fun t =>
        t.sb.outBox = d ∧ t.sb.outFull = true ∧ t.sb.lPtr = 0x200 ∧ t.sb.record = s.sb.record ∧ RegsBut s t [Reg.pcieCnt]) ∧
      (Does .sbMboxInAck s fun t => t.sb = { s.sb with inFull := false } ∧ RegsBut s t [Reg.pcieCnt]) ∧
      (Does (.sbMode v) s fun t => t = { s with sb := { s.sb with brisk := decide (v % 2 = 1) } }) ∧
      (s.sb.notifying = true →
        (Does (.notifyAttempt true) s fun t => t.sb.notifying = false ∧ t.sb.fails = 0 ∧ t.regs = s.regs ∧
          t.sb.lastNotify.take 3 = [0x10, BitVec.ofNat 8 (2 * s.sbBase), BitVec.ofNat 8 s.sb.pend]) ∧
        (s.sb.fails < 7 → Does (.notifyAttempt false) s fun t => t.sb.notifying = true ∧ t.sb.fails = s.sb.fails + 1 ∧
          t.fld Reg.sbCnt 31 16 = min 0xFFFF (s.fld Reg.sbCnt 31 16 + 1) ∧ RegsBut s t [Reg.sbCnt]) ∧
        (7 ≤ s.sb.fails → Does (.notifyAttempt false) s fun t => t.sb.notifying = false ∧ t.fld Reg.sbStatus 1 1 = 1 ∧
          RegsBut s t [Reg.sbCnt, Reg.sbStatus])) ∧
      (Does (.sclLowTimeout att) s fun t => t.fld Reg.sbStatus 4 4 = 1 ∧ RegsBut s t [Reg.sbCnt, Reg.sbStatus] ∧
        (att = false → t.sb = s.sb))) ∧
    (s.sb.cmdOpen = some 5 → s.ward.st ≠ .steep → s.ward.st ≠ .standby → Does .sbWake s fun t =>
      t.sb.cmdStatus = Status.ok.code ∧ t.sb.cmdInfo = 0x50 ∧ t.sb.cmdOpen = none ∧ t.regs = s.regs ∧ t.ward = s.ward) ∧
    (s.sb.cmdOpen = some 6 →
      (s.sec.rngFail = true → Does .sbNonce s fun t => t.sb.cmdStatus = Status.keyUnavailable.code ∧ t.sb.cmdOpen = none ∧ t.sec = s.sec) ∧
      (s.sec.rngFail = false → Does .sbNonce s fun t => t.sb.cmdStatus = Status.ok.code ∧ t.sb.cmdOpen = none ∧
        (∃ b, t.sec.svcNonce = some b ∧ b.length = 32) ∧ t.regs = s.regs)) ∧
    (s.sb.cmdOpen = some 7 → s.ward.st ≠ .off → Does .sbReset s fun t => HeldAfter s t ∧ CauseAdded s t ResetSource.sideband.bit) ∧
    (s.sb.cmdOpen = none → (Does .sbWake s fun t => t = s) ∧ (Does .sbNonce s fun t => t = s) ∧ (Does .sbReset s fun t => t = s))

/-- An inbound request beyond an open aperture is Unsupported and counted; a forwarded one gets the weave's answer;
the debug port serves while open (R639, R672, R674, R675, R700, Table 22.2). -/
def Obligations.InboundPcieRequestsAreJudged : Prop :=
  ∀ (s : State) (q : PcieTlp) (up bm mx : Bool) (bar off len : Nat) (d : List Byte) (ext : List ExtData) (ups : List Upset),
    let ur (t : State) : Prop := t.pcie.cpl = some .unsupported ∧ t.fld Reg.pcieCnt 7 0 = min 255 (s.fld Reg.pcieCnt 7 0 + 1) ∧
      RegsBut s t [Reg.pcieCnt] ∧ t.mem = s.mem
    let reads (x : Nat) (w : Requester) (c : Status → State → List Byte → State → Prop) : Prop :=
      ∀ st b u, s.commonsTick.readAt w (x % 2 ^ 54 + s.nodeId * 2 ^ 54) len ext ups = (st, b, u) →
        Does (.pcieInboundRequest (.read bar off len) up ext ups) s (c st u b)
    let answered (st : Status) (u : State) (b : List Byte) (t : State) : Prop := t.regs = u.regs ∧ t.mem = u.mem ∧
      (st = .ok → t.pcie.cpl = some .success ∧ t.pcie.cplData = b) ∧ (st = .accessDenied → t.pcie.cpl = some .abort) ∧
      (st = .poisoned → t.pcie.cpl = some .poisoned)
    (s.pcie.linkUp = false ∨ s.answers = false → Does (.pcieInboundRequest q up ext ups) s fun t => t = s) ∧
    (s.pcie.linkUp = true → s.answers = true → s.pcieRoot = false →
      (Does (.pcieInboundRequest (.config bm mx) up ext ups) s fun t =>
        t.pcie.busMaster = bm ∧ t.pcie.msixOn = mx ∧ t.pcie.cpl = some .success ∧ t.regs = s.regs ∧ t.mem = s.mem) ∧
      (Does (.pcieInboundRequest (.configRead len) up ext ups) s fun t => t.pcie.cpl = some .success ∨ t.pcie.cpl = some .retry) ∧
      (s.pcie.upSince + 100000000 ≤ s.upNs →
        (Does (.pcieInboundRequest (.configRead 0) up ext ups) s fun t =>
          t.pcie.cpl = some .success ∧ t.pcie.cplData = leBytes 4 0x00641E5B ∧ t.regs = s.regs ∧ t.mem = s.mem) ∧
        (Does (.pcieInboundRequest (.configRead 2) up ext ups) s fun t =>
          t.pcie.cpl = some .success ∧ t.pcie.cplData = leBytes 4 0x120000B1 ∧ t.regs = s.regs ∧ t.mem = s.mem)) ∧
      (Does (.pcieInboundRequest (.configSticky len) up ext ups) s fun t =>
        t.pcie.sticky = len ∧ t.pcie.cpl = some .success ∧ t.regs = s.regs ∧ t.mem = s.mem) ∧
      (s.aperture off = none → (Does (.pcieInboundRequest (.read 2 off len) up ext ups) s ur) ∧
        (Does (.pcieInboundRequest (.write 2 off d false) up ext ups) s ur) ∧
        (Does (.pcieInboundRequest (.write 2 off d true) up ext ups) s fun t => ur t ∧
          t.fld Reg.pcieCnt 23 16 = min 255 (s.fld Reg.pcieCnt 23 16 + 1))) ∧
      (s.imageApplied = false → off < 0x110100 ∨ 0x110200 ≤ off → Does (.pcieInboundRequest (.read 0 off len) up ext ups) s ur) ∧
      (Does (.pcieInboundRequest (.read 4 off len) up ext ups) s fun t => t.pcie.cpl = some .success ∧
        t.pcie.cplData = (List.range len).map (fun i => s.bar4Byte (off + i)) ∧ t.regs = s.regs ∧ t.mem = s.mem) ∧
      (∀ e a, bar = 2 → s.aperture off = some (e, a) → oneRequest a len = true → s.isRegs a = false → s.stalls (.pcie e) = false →
        reads a (.pcie e) fun st u b => answered st u b) ∧
      (let a : Nat := 0x1200000000 + off % 0x1000000
       bar = 0 → s.imageApplied = true → oneRequest a len = true → len = 4 → off % 4 = 0 → s.stalls (.pcie 0) = false →
        reads a (.pcie 0) fun st u b => answered st u b) ∧
      (∀ e a st u, s.aperture off = some (e, a) → oneRequest a d.length = true → s.isRegs a = false → s.stalls (.pcie e) = false →
        s.commonsTick.writeAt (.pcie e) (a % 2 ^ 54 + s.nodeId * 2 ^ 54) d false up ext ups = (st, u) →
        Does (.pcieInboundRequest (.write 2 off d false) up ext ups) s fun t => t.pcie.cpl = none ∧ t.regs = u.regs ∧ t.mem = u.mem)) ∧
    (s.pcie.linkUp = true → s.answers = true → s.pcieRoot = true →
      (Does (.pcieInboundRequest (.configRead len) up ext ups) s ur) ∧
      (let e := ((s.portOf 0).map (·.owner)).getD 0
       oneRequest off len = true → s.isRegs off = false → s.stalls (.pcie e) = false →
        reads off (.pcie e) fun st u b => answered st u b)) ∧
    (s.debugState ≠ 1 → ∀ w, Does (.debugPortAccess off len w up ext ups) s fun t => t = s) ∧
    (let a : Nat := off % 2 ^ 54
     s.debugState = 1 → s.answers = true → placeOf s.usable a ≠ .secPrivate → placeOf s.usable a ≠ .unmapped →
      (∀ st b u, oneRequest a len = true → s.commonsTick.readAt .debug (a + s.nodeId * 2 ^ 54) len ext ups = (st, b, u) →
        Does (.debugPortAccess off len none up ext ups) s fun t => t.resp = st ∧ t.debugData = u.debugData ++ b ∧
          t.regs = u.regs ∧ t.mem = u.mem) ∧
      (∀ st u, oneRequest a d.length = true → s.commonsTick.writeAt .debug (a + s.nodeId * 2 ^ 54) d false up ext ups = (st, u) →
        Does (.debugPortAccess off len (some d) up ext ups) s fun t => t.resp = st ∧ t.regs = u.regs ∧ t.mem = u.mem))

/-- Outbound PCIe requests and NVMe reads end with the code of what came back, or TIMEOUT at their limit; a pending
vector is sent once unmasked; a Caddy load goes on with its next read (R341, R676, R677, R679, R680, Table 1.7). -/
def Obligations.PcieAndNvmeRequestsEnd : Prop :=
  ∀ (s : State) (id v : Nat) (c : PcieCpl) (d : List Byte) (media : Bool) (ext : List ExtData) (ups : List Upset),
    let answered (st : Status) (b : List Byte) (t : State) : Prop := t.pcie.outst = s.pcie.outst.filter (·.id ≠ id) ∧
      t.weave.outst.map (·.id) = s.weave.outst.map (·.id) ∧ (∀ q, q ∈ t.weave.outst → q.id = id → q.status = st ∧ q.data = b) ∧
      (∀ q, q.id ≠ id → (q ∈ t.weave.outst ↔ q ∈ s.weave.outst)) ∧ t.mem = s.mem
    let fails (q : NvmeReq) (st : Status) (t : State) : Prop := t.caddy.outst = s.caddy.outst.filter (·.id ≠ id) ∧
      (∀ l, (s.slot q.slot).load = some l → (t.slot q.slot).load = some { l with fail := l.fail.or (some st) }) ∧
      (∀ k, k ≠ q.slot → t.slot k = s.slot k) ∧ t.regs = s.regs ∧ t.mem = s.mem
    ((∀ p, p ∈ s.pcie.outst → p.id ≠ id) → (Does (.pcieCompletion id c d) s fun t => t = s) ∧
      (Does (.pcieOutboundTimeout id) s fun t => t = s)) ∧
    (∀ p, s.pcie.outst.find? (fun x => x.id = id) = some p →
      (Does (.pcieCompletion id .success d) s fun t => answered .ok d t ∧ t.regs = s.regs) ∧
      (Does (.pcieCompletion id .retry d) s fun t => t = s) ∧
      (Does (.pcieCompletion id .unsupported d) s fun t => answered .notFound [] t ∧ t.regs = s.regs) ∧
      (Does (.pcieCompletion id .abort d) s fun t => answered .notFound [] t ∧ t.regs = s.regs) ∧
      (Does (.pcieCompletion id .poisoned d) s fun t => answered .poisoned d t ∧
        t.fld Reg.pcieCnt 23 16 = min 255 (s.fld Reg.pcieCnt 23 16 + 1) ∧ RegsBut s t [Reg.pcieCnt]) ∧
      (Does (.pcieOutboundTimeout id) s fun t => answered .timeout [] t ∧ p.since + 50000000 ≤ t.upNs ∧
        t.fld Reg.pcieCnt 15 8 = min 255 (s.fld Reg.pcieCnt 15 8 + 1) ∧ RegsBut s t [Reg.pcieCnt])) ∧
    (let go : Prop := v % 256 ∈ s.pcie.pend ∧ s.pcie.busMaster = true ∧ s.pcie.msixOn = true ∧ s.msixMasked (v % 256) = false ∧
      s.pcieRoot = false
     (go → Does (.msixUnmask v) s fun t => t.pcie.sent = s.pcie.sent ++ [v % 256] ∧ v % 256 ∉ t.pcie.pend ∧ t.regs = s.regs ∧ t.mem = s.mem) ∧
     (¬ go → Does (.msixUnmask v) s fun t => t = s)) ∧
    (s.nvmeReq id = none → (Does (.nvmeTimeout id) s fun t => t = s) ∧
      (id ∉ s.caddy.orphans → Does (.nvmeCompletion id media d ext ups) s fun t => t = s) ∧
      (id ∈ s.caddy.orphans → Does (.nvmeCompletion id media d ext ups) s fun t =>
        t.caddy = { s.caddy with orphans := s.caddy.orphans.filter (· ≠ id) } ∧
        t.fld (Reg.gskStat 112) 31 16 = min 0xFFFF (s.fld (Reg.gskStat 112) 31 16 + 1) ∧ RegsBut s t [Reg.gskStat 112] ∧
        t.mem = s.mem ∧ t.slots = s.slots)) ∧
    (∀ q, s.nvmeReq id = some q →
      (Does (.nvmeCompletion id true d ext ups) s (fails q .poisoned)) ∧
      (Does (.nvmeTimeout id) s fun t => fails q .timeout t ∧ q.since + 1000000000 ≤ t.upNs) ∧
      (∀ l g u, (s.slot q.slot).load = some l → q.seg ≠ 0 → (s.slot q.slot).segs[q.seg - 1]? = some g → g.tier = 0 →
        (s.nvmeDrop id).writeRun (s.stewardOf l.encl) ((s.slot q.slot).base + g.dst + 4096 * q.part)
          (s.decrypt l.handle (g.first + q.part) q.units d) ext ups = (.ok, u) →
        (Does (.nvmeCompletion id false d ext ups) s fun t => t.mem = u.mem ∧ t.regs = u.regs) ∧
        ((s.slot q.slot).segs.length ≤ l.curSeg → Does (.nvmeCompletion id false d ext ups) s fun t =>
          t.caddy = u.caddy ∧ (t.slot q.slot).load = some { l with unitsDone := l.unitsDone + q.units }) ∧
        (∀ z, l.fail = none → l.placed = true → (s.slot q.slot).segs[l.curSeg]? = some z → z.tier ≠ 2 → l.curUnit < z.units →
          (s.nvmeDrop id).nvmeHeld q.slot = 63 → Does (.nvmeCompletion id false d ext ups) s fun t =>
            ∃ w, t.caddy.outst = u.caddy.outst ++ [w] ∧ w.slot = q.slot ∧ w.seg = l.curSeg + 1 ∧ w.part = l.curUnit ∧
              w.units = min 32 (z.units - l.curUnit) ∧ w.nsid = l.nsid ∧ w.lba = l.source + z.first + l.curUnit))) ∧
    (s.caddy.ready = false → Does .nvmeFatal s fun t => t = s) ∧
    (s.caddy.ready = true →
      let again : Prop := s.caddy.fatalAt ≠ 0 ∧ s.upNs < s.caddy.fatalAt - 1 + 10000000000
      Does .nvmeFatal s fun t => t.caddy.outst = [] ∧ t.caddy.fatalAt = s.upNs + 1 ∧ t.regs = s.regs ∧ t.mem = s.mem ∧
        (again → t.caddy.ready = false ∧ t.caddy.resets = s.caddy.resets) ∧
        (¬ again → t.caddy.ready = true ∧ t.caddy.resets = s.caddy.resets + 1))

/-- Host push takes the bundle, the DRIVE image and the STEEP image in order; a wrong or failed post waits again, the
fifth fails the boot, or ends it without a STEEP image; a lost link resets where the port lets it (R82, R112, R676,
R686, R693, Table 22.6). -/
def Obligations.HostPushBootsInOrder : Prop :=
  ∀ (s : State) (sp w obj : Nat) (who : Requester) (ext : List ExtData),
    let p := s.pcie
    let x := s.setFld Reg.bootCtl 1 0 (obj % 4)
    let again (u t : State) : Prop := t.pcie.push = u.pcie.push ∧ t.pcie.attempts = u.pcie.attempts + 1 ∧ t.ward = u.ward ∧ t.regs = u.regs
    ((s.gasket 111).powered = false ∨ (s.gasket 111).inReset = true → Does (.pcieLinkUp sp w) s fun t => t = s) ∧
    ((s.gasket 111).powered = true → (s.gasket 111).inReset = false → Does (.pcieLinkUp sp w) s fun t =>
      t.pcie.linkUp = true ∧ t.pcie.speed = sp % 8 ∧ t.pcie.width = w % 16 ∧ t.regs = s.regs ∧ t.ward = s.ward ∧
      (s.hostPush = true → s.ward.st = .boot → p.push = .idle → s.sec.fwDigest = [] → s.power.phase ≠ .held →
        t.pcie.push = .waitBundle ∧ t.pcie.waitSince = s.upNs) ∧
      (s.hostPush = false ∨ s.ward.st ≠ .boot ∨ p.push ≠ .idle → t.pcie.push = p.push)) ∧
    (let lost : Prop := s.pcie.linkUp = true ∧ s.wardenRuns = true ∧ s.pcieResets = true
     (lost → s.ward.st ≠ .off → Does .pcieLinkDown s fun t => HeldAfter s t ∧ CauseAdded s t ResetSource.pcie.bit ∧
      t.pcie.sticky = s.pcie.sticky) ∧
     (¬ lost → Does .pcieLinkDown s fun t => t.pcie.linkUp = false ∧ (∀ q, q ∈ p.outst → q ∉ t.pcie.outst) ∧
      (∀ q, q ∈ t.weave.outst → (∃ o, o ∈ p.outst ∧ o.id = q.id) → q.status = .timeout) ∧
      t.fld Reg.pcieCnt 15 8 = min 255 (s.fld Reg.pcieCnt 15 8 + p.outst.length) ∧ RegsBut s t [Reg.pcieCnt] ∧ t.mem = s.mem)) ∧
    (s.ward.st ≠ .boot ∨ s.answers = false → Does (.pcieBootGo obj ext) s fun t => t = s) ∧
    (s.ward.st = .boot → s.answers = true →
      (∀ ok u, p.push = .waitBundle → obj % 4 = 0 → x.tryBundle (x.posted ext) = (ok, u) →
        (ok = true → Does (.pcieBootGo obj ext) s fun t => t.pcie.push = .idle ∧ t.power.phase = .training ∧ t.sec.fwDigest = u.sec.fwDigest) ∧
        (ok = false → u.pcie.attempts < 4 → Does (.pcieBootGo obj ext) s fun t => again u t ∧ t.pcie.result = u.fld Reg.imgErr 7 0)) ∧
      (∀ ok u, p.push = .waitDrive → obj % 4 = 1 → x.tryDrive (x.posted ext) = (ok, u) →
        (ok = true → Does (.pcieBootGo obj ext) s fun t => t.pcie.push = .waitSteep ∧ t.pcie.waitSince = u.upNs ∧ t.img = u.img) ∧
        (ok = false → u.pcie.attempts < 4 → Does (.pcieBootGo obj ext) s fun t => again u t ∧ t.pcie.result = u.fld Reg.imgErr 7 0)) ∧
      (p.push = .waitSteep → obj % 4 = 3 → s.sec.rngFail = false → Does (.pcieBootGo obj ext) s fun t =>
        t.pcie.push = .done ∧ t.ward.st = .proof ∧ t.ward.phase = .selfProof) ∧
      (p.push = .waitSteep → obj % 4 < 2 →
        (p.attempts < 4 → Does (.pcieBootGo obj ext) s fun t => again x t ∧ t.pcie.tried = p.tried) ∧
        (p.attempts = 4 → s.sec.rngFail = false → Does (.pcieBootGo obj ext) s fun t => t.pcie.push = .done ∧ t.ward.st = .proof)) ∧
      (p.push = .waitDrive → obj % 4 ≠ 1 →
        (p.attempts < 4 → Does (.pcieBootGo obj ext) s fun t => again x t ∧ t.pcie.tried = p.tried) ∧
        (p.attempts = 4 → s.wardenRuns = true → Does (.pcieBootGo obj ext) s fun t => t.ward.st = .halt))) ∧
    (s.ward.st = .boot → p.tried = false → (p.push = .waitBundle ∧ p.linkUp = true) ∨ p.push = .waitDrive →
      let u := s.elapseTo (p.waitSince + 60000000000)
      Does .bootPushTimeout s fun t => t = ({ u with pcie := { u.pcie with push := .failed } } : State).fatal .bootFault 0xF 118 0x400) ∧
    (s.ward.st ≠ .boot ∨ p.tried = true → Does .bootPushTimeout s fun t => t = s) ∧
    (s.ward.st = .boot → p.push = .waitSteep → s.sec.rngFail = false → Does .waitSteepTimeout s fun t =>
      t.pcie.push = .done ∧ t.ward.st = .proof ∧ p.waitSince + 5000000000 ≤ t.upNs) ∧
    (s.ward.st ≠ .boot ∨ p.push ≠ .waitSteep → Does .waitSteepTimeout s fun t => t = s) ∧
    (s.regGate who .write 0x1100F0 true = none → WSet.dss.has s.ward.st = true → Does (.pcieCntClr who) s fun t =>
      t.reg Reg.pcieCnt = 0 ∧ RegsBut s t [Reg.pcieCnt] ∧ t.resp = .ok ∧ t.mem = s.mem)

namespace Sys2Proof

/-- The samples of a line that shows these bits, 16 samples to a bit. -/
def lineOf (bits : List Bool) : List Bool := bits.flatMap (List.replicate 16)

/-- A character of the line: start bit, eight data bits from the least significant, an optional parity bit, stop bit. -/
def characterOf (v : Nat) (parity : Option Bool) : List Bool :=
  lineOf ([false] ++ (List.range 8).map (bitOf v) ++ parity.toList ++ [true])

end Sys2Proof

/-- A UART character is stored as its byte with its parity verdict; full FIFOs drop and flag; settings that change
empty them; a frame is sent (R681, R687, R688, R689, R690, R691, R692, R694, R695). -/
def Obligations.UartCharactersAndNetworkFrames : Prop :=
  ∀ (s : State) (who : Requester) (v e m : Nat) (pb up : Bool) (l : List Bool) (ext : List ExtData) (ups : List Upset),
    let f := s.fld Reg.uartCfg 1 0
    let stores (cs : List Bool) (en : UartEntry) : Prop :=
      (s.uart.rx.length < 64 → Does (.uartCharacterRx cs) s fun t => t.uart.rx = s.uart.rx ++ [en] ∧ t.uart.tx = s.uart.tx ∧ t.mem = s.mem ∧
        RegsBut s t (if en.fe then [Reg.uartCnt, Reg.uartStat] else [])) ∧
      (64 ≤ s.uart.rx.length → Does (.uartCharacterRx cs) s fun t => t.uart.rx = s.uart.rx ∧ t.fld Reg.uartStat 16 16 = 1 ∧
        t.fld Reg.uartCnt 15 0 = min 0xFFFF (s.fld Reg.uartCnt 15 0 + 1) ∧ RegsBut s t [Reg.uartCnt, Reg.uartStat])
    let wr (k : Nat) : Prop := s.regGate who .write k true = none
    (s.uartOn = false → (Does (.uartCharacterRx l) s fun t => t = s) ∧ (Does .uartCharacterTx s fun t => t = s)) ∧
    (s.uartOn = true → s.uart.needHigh = 0 → s.uart.line = [] → v < 256 →
      let odd : Bool := decide (popCount 8 v % 2 = 1)
      (f = 0 ∨ f = 3 → stores (characterOf v none) { data := v } ∧
        stores (List.replicate 160 false) { fe := true, brk := true } ∧
        Does (.uartCharacterRx (List.replicate 160 false)) s fun t => t.fld Reg.uartStat 18 18 = 1 ∧
          t.fld Reg.uartCnt 31 16 = min 0xFFFF (s.fld Reg.uartCnt 31 16 + 1)) ∧
      (f = 1 → stores (characterOf v (some pb)) { data := v, pe := pb != odd }) ∧
      (f = 2 → stores (characterOf v (some pb)) { data := v, pe := pb == odd })) ∧
    (s.uart.tx = [] → Does .uartCharacterTx s fun t => t = s) ∧
    (∀ c rest, s.uart.tx = c :: rest → s.uartOn = true → Does .uartCharacterTx s fun t =>
      t.uart.tx = rest ∧ t.uart.out = s.uart.out ++ [c] ∧ t.uart.rx = s.uart.rx ∧ t.regs = s.regs) ∧
    (wr Reg.uartData →
      (s.uart.tx.length < 64 → Does (.uartDataWrite who v) s fun t => t.uart.tx = s.uart.tx ++ [v % 256] ∧ t.resp = .ok ∧ t.regs = s.regs) ∧
      (64 ≤ s.uart.tx.length → Does (.uartDataWrite who v) s fun t => t.uart = s.uart ∧ t.fld Reg.uartStat 17 17 = 1 ∧ t.resp = .ok ∧
        RegsBut s t [Reg.uartStat])) ∧
    (s.regGate who .read Reg.uartData true = none →
      (s.uart.rx = [] → Does (.uartDataRead who) s fun t => t.resp = .ok ∧ t.respData = 0 ∧ t.uart = s.uart ∧ t.regs = s.regs) ∧
      (∀ x rest, s.uart.rx = x :: rest → Does (.uartDataRead who) s fun t => t.resp = .ok ∧ t.uart = { s.uart with rx := rest } ∧
        t.respData = x.data + b2n x.pe * 0x100 + b2n x.fe * 0x200 + b2n x.brk * 0x400 + 0x80000000 ∧ t.regs = s.regs)) ∧
    (wr Reg.uartCfg → Does (.uartCfgWrite who v) s fun t => t.resp = .ok ∧ t.fld Reg.uartCfg 1 0 = v % 4 ∧ RegsBut s t [Reg.uartCfg] ∧
      (f = v % 4 → t.uart = s.uart) ∧ (f ≠ v % 4 → t.uart = { s.uart with rx := [], tx := [], needHigh := 16, line := [] })) ∧
    (let d : Nat := v % 2 ^ 24
     wr Reg.uartBaud → Does (.uartBaudWrite who v) s fun t => t.resp = .ok ∧ RegsBut s t [Reg.uartBaud] ∧
      (d < 512 → t.fld Reg.uartBaud 23 0 = s.fld Reg.uartBaud 23 0 ∧ t.uart = s.uart) ∧
      (512 ≤ d → t.fld Reg.uartBaud 23 0 = d) ∧
      (512 ≤ d → s.fld Reg.uartBaud 23 0 ≠ d → t.uart = { s.uart with rx := [], tx := [], needHigh := 16, line := [] })) ∧
    (e < 8 → m < 3 →
      let k := Reg.net e m 0x1C
      wr k → WSet.dss.has s.ward.st = true →
      (s.macOwner m ≠ some e → Does (.netTxDoorbell who e m v up ext ups) s fun t =>
        t.reg k = BitVec.ofNat 32 v ∧ RegsBut s t [k] ∧ t.resp = .ok ∧ t.netSent = s.netSent ∧ t.mem = s.mem) ∧
      (∀ hd fr u1 u2,
        let h := (s.reg (Reg.net e m 0x20)).toNat
        let a := s.netBase e m 0x14 + 16384 * (h % 2 ^ s.fld (Reg.net e m 8) 7 4)
        s.macOwner m = some e → s.netOn e m = true → v = (h + 1) % 2 ^ 32 →
        (s.setReg k (BitVec.ofNat 32 v)).readRun (.mac m e) a 16 ext ups = (.ok, hd, u1) →
        u1.readRun (.mac m e) (a + 16) (min (leNat (hd.take 2)) 16368) ext ups = (.ok, fr, u2) →
        Does (.netTxDoorbell who e m v true ext ups) s fun t => t.netSent = u2.netSent ++ [(m, onWire fr)] ∧
          t.reg (Reg.net e m 0x20) = BitVec.ofNat 32 (h + 1) ∧ RegsBut u2 t [Reg.net e m 0x20] ∧ t.resp = .ok ∧ t.mem = u2.mem))

/-- Security requests end with the checks' code and their writes; SVC commands need permission; a fuse changes only
by its command's read-back (R618, R623, R624, R626, R628, R629, R630, R635, R637, R638, R640, Table 20.11). -/
def Obligations.SecurityAndServiceRequestsComplete : Prop :=
  ∀ (s u : State) (r : EntryRef) (y : Entry) (q : SecReq) (b : List Byte) (st : Status) (k : Nat) (rb : Bool) (ext : List ExtData)
      (ups : List Upset),
    let ends (v t : State) (c : Status) : Prop := t.sec.running = none ∧ t.sec.status = c ∧ t.regs = v.regs ∧ t.mem = v.mem ∧
      t.sec.fuses = v.sec.fuses
    let reads (op n : Nat) (c : Status) : Prop := s.sec.running = some q ∧ q.op = op ∧ s.readRun .security q.buf n ext ups = (c, b, u)
    let five : List (Instr × Nat × Nat) :=
      [(.quote ext ups, 1, 32), (.keyUnwrap ext ups, 2, 0xE0), (.keyDestroy ext ups, 3, 4), (.nonce ext ups, 4, 0), (.idPubkey ext ups, 5, 0)]
    (∀ x, x ∈ five → (s.sec.running = none ∨ (s.sec.running = some q ∧ q.op ≠ x.2.1) → Does x.1 s fun t => t = s) ∧
      (st ≠ .ok → reads x.2.1 x.2.2 st → Does x.1 s fun t => ends u t st ∧ t.handles = u.handles)) ∧
    (reads 1 32 .ok → (u.keysOpen = false ∨ u.sec.rngFail = true → Does (.quote ext ups) s fun t => ends u t .keyUnavailable ∧ t.sec.quotes = u.sec.quotes) ∧
      (∀ w k v, u.keysOpen = true → u.sec.rngFail = false → u.draw = (k, v) →
        let body := u.quoteBody b
        let sig := P384.sign (sha384 body) idkS k
        ({ v with sec := { v.sec with quotes := (b :: u.sec.quotes).take 16 } } : State).writeRun .security (q.buf + 0x100)
          (body ++ leBytes 48 sig.1 ++ leBytes 48 sig.2) ext ups = (st, w) →
        Does (.quote ext ups) s fun t => ends w t st ∧ t.sec.quotes = w.sec.quotes)) ∧
    (reads 2 0xE0 .ok → u.ward.st ≠ .rouse →
      (∀ key, u.unwrapCheck b = (st, key) → st ≠ .ok → Does (.keyUnwrap ext ups) s fun t => ends u t st ∧ t.handles = u.handles) ∧
      (∀ key, u.unwrapCheck b = (.ok, key) →
        let e := fieldAt b 0x20 1
        let h := (u.newHandle e (fieldAt b 0x28 8) key).1
        h / 0x100 % 0x100 = e % 0x100 ∧ ∀ w, (u.newHandle e (fieldAt b 0x28 8) key).2.writeRun .security (q.buf + 0xE0) (leBytes 4 h) ext ups = (st, w) →
        Does (.keyUnwrap ext ups) s fun t => ends w t st ∧ t.handles = w.handles)) ∧
    (reads 3 4 .ok →
      (u.handle (leNat b) = none → Does (.keyDestroy ext ups) s fun t => ends u t .notFound ∧ t.handles = u.handles) ∧
      ((u.handle (leNat b)).isSome = true → (u.handleUsed (leNat b) = true → Does (.keyDestroy ext ups) s fun t =>
          ends u t .busy ∧ t.handles = u.handles) ∧
        (u.handleUsed (leNat b) = false → Does (.keyDestroy ext ups) s fun t => ends u t .ok ∧ t.handle (leNat b) = none ∧
          ∀ h, h.id ≠ leNat b → (h ∈ t.handles ↔ h ∈ u.handles)))) ∧
    (reads 4 0 .ok → (u.sec.rngFail = true → Does (.nonce ext ups) s fun t => ends u t .keyUnavailable) ∧
      (∀ w, u.sec.rngFail = false → u.drawNonce.2.writeRun .security q.buf u.drawNonce.1 ext ups = (st, w) →
        u.drawNonce.1.length = 32 ∧ Does (.nonce ext ups) s fun t => ends w t st ∧ t.sec.svcNonce = w.sec.svcNonce)) ∧
    (reads 5 0 .ok → (u.sec.fuses.life = 2 → Does (.idPubkey ext ups) s fun t => ends u t .keyUnavailable) ∧
      (∀ v w, u.sec.fuses.life ≠ 2 → u.writeRun .security q.buf (sec1 idkS) ext ups = (.ok, v) →
        v.writeRun .security (q.buf + 0x80) (sec1 idkA) ext ups = (st, w) → Does (.idPubkey ext ups) s fun t => ends w t st)) ∧
    (k ∉ s.sec.loads → Does (.keySlotLoad k) s fun t => t = s) ∧
    (k ∈ s.sec.loads → Does (.keySlotLoad k) s fun t => (∀ j, j ∈ t.sec.loads ↔ j ∈ s.sec.loads ∧ j ≠ k) ∧ t.regs = s.regs ∧
      t.mem = s.mem ∧
      (k < 9 → t.sec.slots.getD k 0 ≠ 0 ∧ ∀ j, j < 9 → j ≠ k → t.sec.slots.getD j 0 = s.sec.slots.getD j 0)) ∧
    (s.wardenRuns = true → Does .randomHealthFail s fun t =>
      t = ({ s with sec := { s.sec with rngFail := true } } : State).activeFault 4) ∧
    (s.wardenRuns = false → Does .randomHealthFail s fun t => t = s) ∧
    (let cmds : List (Instr × Nat × Nat) :=
      [(.update r rb ext ups, 1, y.arg 0 1), (.debugOpen r, 2, 1), (.fuseDump r ext ups, 2, 2), (.advanceRollback r rb, 3, 1),
       (.revokeSlot r rb, 3, 2), (.provisionSlot r rb ext ups, 3, 3), (.serviceSlot r rb, 3, 4), (.sealDebug r rb, 3, 5), (.lifecycle r rb, 3, 6)]
     ∀ x, x ∈ cmds → (s.running r 6 x.2.1 = none → Does x.1 s fun t => t = s) ∧
      (s.running r 6 x.2.1 = some y → y.arg 0 1 = x.2.2 → s.svcAllowed x.2.1 x.2.2 = false → Does x.1 s fun t => Ended t r .stateRefused 0 ∧
        t.sec = s.sec ∧ t.nor = s.nor ∧ t.fld (Reg.refuseCnt CmdClass.svc.index) 15 0 = min 0xFFFF (s.fld (Reg.refuseCnt CmdClass.svc.index) 15 0 + 1) ∧
        t.fld Reg.refuseLast 11 8 = Guard.notAuthorised.code)) ∧
    (s.running r 6 1 = some y → s.svcAllowed 1 0 = true →
      (s.hostPush = true ∨ 3 < y.arg 12 1 → Does (.update r rb ext ups) s fun t => t = s.finish r .badArg 0) ∧
      (s.hostPush = false → y.arg 12 1 = 3 → Does (.update r rb ext ups) s fun t =>
        if rb then t.nor = (s.norUpdate 3 []).nor ∧ Ended t r .ok 0 else t = s.finish r .integrity 0) ∧
      (s.hostPush = false → y.arg 12 1 < 3 → s.readRun (s.stewardOf r.encl) (y.arg 0 8)
          (min (y.arg 8 4) (if y.arg 12 1 = 0 then 0x200001 else 0x40001)) ext ups = (.ok, b, u) →
        (∀ f, u.updateCheck (y.arg 12 1) b = some f → Does (.update r rb ext ups) s fun t =>
          t = (u.imgError f b (decide (y.arg 12 1 = 0))).finish r f.status 0) ∧
        (u.updateCheck (y.arg 12 1) b = none → u.running r 6 1 = some y → Does (.update r rb ext ups) s fun t =>
          if rb then t.nor = (u.norUpdate (y.arg 12 1) b).nor ∧ Ended t r .ok 0 else t.nor = u.nor ∧ Ended t r .integrity 0))) ∧
    (s.running r 6 2 = some y → s.svcAllowed 2 (y.arg 0 1) = true →
      (y.arg 0 1 = 1 → (s.debugState = 2 → Does (.debugOpen r) s fun t => t = s.finish r .badArg 0) ∧
        (s.debugState ≠ 2 → s.sec.rngFail = true → Does (.debugOpen r) s fun t => t = s.finish r .keyUnavailable 0) ∧
        (s.debugState ≠ 2 → s.sec.rngFail = false → Does (.debugOpen r) s fun t => Ended t r .ok 0 ∧ t.sec.opened = true ∧ t.handles = [] ∧
          t.sec.quotes = [] ∧ (∀ j, j < 9 → j ∈ t.sec.loads) ∧ t.sec.fuses = s.sec.fuses)) ∧
      (y.arg 0 1 = 2 → s.writeRun (s.stewardOf r.encl) (y.arg 8 8) s.fuseDump ext ups = (st, u) → u.running r 6 2 = some y →
        Does (.fuseDump r ext ups) s fun t => Ended t r st 0 ∧ t.mem = u.mem ∧ t.sec = u.sec)) ∧
    (s.running r 6 3 = some y → s.svcAllowed 3 (y.arg 0 1) = true →
      let f := s.sec.fuses
      let i := y.arg 1 1
      let n := y.arg 4 4
      let performs (c : Instr) (a : Nat) (v : State) (bad : Prop) (new : Fuses) : Prop := y.arg 0 1 = a →
        (v.sec.fuses.life = 2 ∨ bad → Does c s fun t => Ended t r .badArg 0 ∧ t.sec.fuses = v.sec.fuses) ∧
        (v.sec.fuses.life ≠ 2 → ¬ bad →
          (rb = true → Does c s fun t => Ended t r .ok 0 ∧ t.sec.fuses = new ∧ t.nor = v.nor ∧ t.mem = v.mem) ∧
          (rb = false → Does c s fun t => Ended t r .integrity 0 ∧ (t.sec.fuses = v.sec.fuses ∨ t.sec.fuses = new) ∧ t.mem = v.mem))
      performs (.advanceRollback r rb) 1 s (n ≤ f.rollback ∨ 64 < n ∨ ((s.driveImg).map (·.securityVersion)).getD 0 < n ∨ s.sec.fwVersion < n)
        { f with rollback := n } ∧
      performs (.revokeSlot r rb) 2 s (4 ≤ i ∨ (s.driveImg).map (·.signerSlot) = some i ∨ s.sec.fwSigner = i ∨ s.liveSlots = [i])
        { f with revoked := f.revoked ||| 2 ^ i } ∧
      (s.readRun (s.stewardOf r.encl) (y.arg 8 8) 49 ext ups = (.ok, b, u) → u.running r 6 3 = some y → u.svcAllowed 3 3 = true →
        performs (.provisionSlot r rb ext ups) 3 u (4 ≤ i ∨ u.sec.fuses.keys.getD i 0 ≠ 0 ∨ (P384.point (beNat b)).isNone = true)
          { u.sec.fuses with keys := u.sec.fuses.keys.set i (beNat b) }) ∧
      performs (.serviceSlot r rb) 4 s (4 ≤ i ∨ f.keys.getD i 0 = 0) { f with service := f.service ||| 2 ^ i } ∧
      performs (.sealDebug r rb) 5 s (s.debugState = 1) { f with debugSealed := true } ∧
      performs (.lifecycle r rb) 6 s (n ≤ f.life ∨ 2 < n) { f with life := n })

end Statements
end

