-- ==== Sys2Proof/Laws/SMap.lean ====
section
/-! SUPPORT. Sparse maps: reading what was written, and the canonical form. -/

namespace Sys2Proof.Machine.SMap

variable {α : Type}

theorem get_erase_same (d : α) (m : List (Nat × α)) (i : Nat) : get d (erase m i) i = d := by
  induction m with
  | nil => rfl
  | cons e m ih => obtain ⟨k, v⟩ := e; unfold erase; split <;> simp_all [get]

theorem get_erase_other (d : α) (m : List (Nat × α)) {i j : Nat} (h : j ≠ i) : get d (erase m i) j = get d m j := by
  induction m with
  | nil => rfl
  | cons e m ih =>
    obtain ⟨k, v⟩ := e
    unfold erase
    split
    · rename_i hk; subst hk; rw [ih]; simp [get, Ne.symm h]
    · simp [get, ih]

theorem get_insert_same (d : α) (m : List (Nat × α)) (i : Nat) (x : α) : get d (insert m i x) i = x := by
  induction m with
  | nil => simp [insert, get]
  | cons e m ih => obtain ⟨k, v⟩ := e; unfold insert; split <;> (try split) <;> simp_all [get]

theorem get_insert_other (d : α) (m : List (Nat × α)) {i j : Nat} (x : α) (h : j ≠ i) : get d (insert m i x) j = get d m j := by
  induction m with
  | nil => simp [insert, get, Ne.symm h]
  | cons e m ih =>
    obtain ⟨k, v⟩ := e
    unfold insert
    split
    · simp [get, Ne.symm h]
    · split
      · rename_i hk; subst hk; simp [get, Ne.symm h]
      · simp [get, ih]

/-- A read of the key just written gives the value written. -/
@[simp] theorem get_set_same [DecidableEq α] (d : α) (m : List (Nat × α)) (i : Nat) (x : α) : get d (set d m i x) i = x := by
  unfold set
  split
  · rename_i h; rw [h]; exact get_erase_same d m i
  · exact get_insert_same d m i x

/-- A write leaves every other key alone, whatever an unlisted key reads as. -/
theorem get_set_other [DecidableEq α] (d e : α) (m : List (Nat × α)) {i j : Nat} (x : α) (h : j ≠ i) :
    get e (set d m i x) j = get e m j := by
  unfold set
  split
  · exact get_erase_other e m h
  · exact get_insert_other e m x h

theorem get_set [DecidableEq α] (d : α) (m : List (Nat × α)) (i j : Nat) (x : α) :
    get d (set d m i x) j = if j = i then x else get d m j := by
  split
  · rename_i h; subst h; exact get_set_same d m j x
  · rename_i h; exact get_set_other d d m x h

theorem risesFrom_mono {lo lo' : Nat} (m : List (Nat × α)) (h : lo' ≤ lo) (hm : risesFrom lo m = true) : risesFrom lo' m = true := by
  cases m with
  | nil => rfl
  | cons e m => simp only [risesFrom, Bool.and_eq_true, decide_eq_true_eq] at *; exact ⟨by omega, hm.2⟩

theorem risesFrom_filter {lo : Nat} (m : List (Nat × α)) (p : Nat × α → Bool) (hm : risesFrom lo m = true) :
    risesFrom lo (m.filter p) = true := by
  induction m generalizing lo with
  | nil => rfl
  | cons e m ih =>
    simp only [risesFrom, Bool.and_eq_true, decide_eq_true_eq] at hm
    rw [List.filter_cons]
    split
    · simp only [risesFrom, Bool.and_eq_true, decide_eq_true_eq]; exact ⟨hm.1, ih hm.2⟩
    · exact risesFrom_mono _ (by omega) (ih hm.2)

theorem erase_eq_filter (m : List (Nat × α)) (i : Nat) : erase m i = m.filter (fun e => decide (e.1 ≠ i)) := by
  induction m with
  | nil => rfl
  | cons e m ih => obtain ⟨k, v⟩ := e; unfold erase; rw [List.filter_cons]; split <;> simp_all

theorem risesFrom_insert {lo : Nat} (m : List (Nat × α)) (i : Nat) (x : α) (hi : lo ≤ i) (hm : risesFrom lo m = true) :
    risesFrom lo (insert m i x) = true := by
  induction m generalizing lo with
  | nil => simp [insert, risesFrom, hi]
  | cons e m ih =>
    obtain ⟨k, v⟩ := e
    simp only [risesFrom, Bool.and_eq_true, decide_eq_true_eq] at hm
    unfold insert
    split
    · simp only [risesFrom, Bool.and_eq_true, decide_eq_true_eq]; exact ⟨hi, by omega, hm.2⟩
    · split
      · rename_i hk; subst hk; simp only [risesFrom, Bool.and_eq_true, decide_eq_true_eq]; exact ⟨hi, hm.2⟩
      · simp only [risesFrom, Bool.and_eq_true, decide_eq_true_eq]; exact ⟨hm.1, ih (by omega) hm.2⟩

theorem all_insert (m : List (Nat × α)) (i : Nat) (x : α) (p : Nat × α → Bool) (hx : p (i, x) = true) (hm : m.all p = true) :
    (insert m i x).all p = true := by
  induction m with
  | nil => simp [insert, hx]
  | cons e m ih =>
    obtain ⟨k, v⟩ := e
    simp only [List.all_cons, Bool.and_eq_true] at hm
    unfold insert
    split
    · simp [hx, hm.1]; simpa using hm.2
    · split
      · simp [hx]; simpa using hm.2
      · simp only [List.all_cons, Bool.and_eq_true]; exact ⟨hm.1, ih hm.2⟩

/-- Dropping entries keeps the canonical form. -/
theorem wf_filter [DecidableEq α] (d : α) (m : List (Nat × α)) (p : Nat × α → Bool) (h : wf d m = true) : wf d (m.filter p) = true := by
  simp only [wf, Bool.and_eq_true] at *
  exact ⟨risesFrom_filter m p h.1, by rw [List.all_eq_true] at *; exact fun e he => h.2 e ((List.mem_filter.mp he).1)⟩

/-- A write keeps the canonical form. -/
theorem wf_set [DecidableEq α] (d : α) (m : List (Nat × α)) (i : Nat) (x : α) (h : wf d m = true) : wf d (set d m i x) = true := by
  unfold set
  split
  · rw [erase_eq_filter]; exact wf_filter d m _ h
  · rename_i hx
    simp only [wf, Bool.and_eq_true] at *
    exact ⟨risesFrom_insert m i x (Nat.zero_le _) h.1, all_insert m i x _ (by simpa using hx) h.2⟩

end Sys2Proof.Machine.SMap
end

