-- ==== Sys2Proof/Laws/State.lean ====
section
/-! SUPPORT. The state's updates: what each leaves alone, what is read back after a write, and the canonical form of memory. -/

namespace Sys2Proof.Machine.State

/-! ### One lemma per field that an update leaves alone -/

@[simp] theorem setReg_pending (s : State) (k : Nat) (w : Word) : (s.setReg k w).pending = s.pending := rfl
@[simp] theorem setReg_freeCtr (s : State) (k : Nat) (w : Word) : (s.setReg k w).freeCtr = s.freeCtr := rfl
@[simp] theorem setReg_upNs (s : State) (k : Nat) (w : Word) : (s.setReg k w).upNs = s.upNs := rfl
@[simp] theorem setReg_resp (s : State) (k : Nat) (w : Word) : (s.setReg k w).resp = s.resp := rfl
@[simp] theorem setReg_respData (s : State) (k : Nat) (w : Word) : (s.setReg k w).respData = s.respData := rfl
@[simp] theorem setReg_mem (s : State) (k : Nat) (w : Word) : (s.setReg k w).mem = s.mem := rfl
@[simp] theorem setReg_synd (s : State) (k : Nat) (w : Word) : (s.setReg k w).synd = s.synd := rfl
@[simp] theorem setReg_keyed (s : State) (k : Nat) (w : Word) : (s.setReg k w).keyed = s.keyed := rfl
@[simp] theorem setReg_ward (s : State) (k : Nat) (w : Word) : (s.setReg k w).ward = s.ward := rfl
@[simp] theorem setReg_park (s : State) (k : Nat) (w : Word) : (s.setReg k w).park = s.park := rfl
@[simp] theorem setReg_power (s : State) (k : Nat) (w : Word) : (s.setReg k w).power = s.power := rfl
@[simp] theorem setReg_img (s : State) (k : Nat) (w : Word) : (s.setReg k w).img = s.img := rfl
@[simp] theorem setReg_gsk (s : State) (k : Nat) (w : Word) : (s.setReg k w).gsk = s.gsk := rfl
@[simp] theorem setReg_enclD (s : State) (k : Nat) (w : Word) : (s.setReg k w).enclD = s.enclD := rfl
@[simp] theorem setReg_enclS (s : State) (k : Nat) (w : Word) : (s.setReg k w).enclS = s.enclS := rfl
@[simp] theorem setReg_weave (s : State) (k : Nat) (w : Word) : (s.setReg k w).weave = s.weave := rfl
@[simp] theorem setReg_chans (s : State) (k : Nat) (w : Word) : (s.setReg k w).chans = s.chans := rfl
@[simp] theorem setReg_tileRam (s : State) (k : Nat) (w : Word) : (s.setReg k w).tileRam = s.tileRam := rfl
@[simp] theorem setReg_cmnRam (s : State) (k : Nat) (w : Word) : (s.setReg k w).cmnRam = s.cmnRam := rfl
@[simp] theorem setReg_usable (s : State) (k : Nat) (w : Word) : (s.setReg k w).usable = s.usable := rfl
@[simp] theorem setReg_safe (s : State) (k : Nat) (w : Word) : (s.setReg k w).safe = s.safe := rfl
@[simp] theorem setReg_tiles (s : State) (k : Nat) (w : Word) : (s.setReg k w).tiles = s.tiles := rfl
@[simp] theorem setReg_movers (s : State) (k : Nat) (w : Word) : (s.setReg k w).movers = s.movers := rfl
@[simp] theorem setReg_models (s : State) (k : Nat) (w : Word) : (s.setReg k w).models = s.models := rfl
@[simp] theorem setReg_slots (s : State) (k : Nat) (w : Word) : (s.setReg k w).slots = s.slots := rfl
@[simp] theorem setReg_evicts (s : State) (k : Nat) (w : Word) : (s.setReg k w).evicts = s.evicts := rfl
@[simp] theorem setReg_handles (s : State) (k : Nat) (w : Word) : (s.setReg k w).handles = s.handles := rfl
@[simp] theorem setReg_queues (s : State) (k : Nat) (w : Word) : (s.setReg k w).queues = s.queues := rfl
@[simp] theorem setReg_turns (s : State) (k : Nat) (w : Word) : (s.setReg k w).turns = s.turns := rfl
@[simp] theorem setReg_keptQueues (s : State) (k : Nat) (w : Word) : (s.setReg k w).keptQueues = s.keptQueues := rfl
@[simp] theorem setReg_pools (s : State) (k : Nat) (w : Word) : (s.setReg k w).pools = s.pools := rfl
@[simp] theorem setReg_attns (s : State) (k : Nat) (w : Word) : (s.setReg k w).attns = s.attns := rfl
@[simp] theorem setReg_pcie (s : State) (k : Nat) (w : Word) : (s.setReg k w).pcie = s.pcie := rfl
@[simp] theorem setReg_caddy (s : State) (k : Nat) (w : Word) : (s.setReg k w).caddy = s.caddy := rfl
@[simp] theorem setReg_uart (s : State) (k : Nat) (w : Word) : (s.setReg k w).uart = s.uart := rfl
@[simp] theorem setReg_nor (s : State) (k : Nat) (w : Word) : (s.setReg k w).nor = s.nor := rfl
@[simp] theorem setReg_netSent (s : State) (k : Nat) (w : Word) : (s.setReg k w).netSent = s.netSent := rfl
@[simp] theorem setReg_tsu (s : State) (k : Nat) (w : Word) : (s.setReg k w).tsu = s.tsu := rfl
@[simp] theorem setReg_str (s : State) (k : Nat) (w : Word) : (s.setReg k w).str = s.str := rfl
@[simp] theorem setReg_lse (s : State) (k : Nat) (w : Word) : (s.setReg k w).lse = s.lse := rfl
@[simp] theorem setReg_fusion (s : State) (k : Nat) (w : Word) : (s.setReg k w).fusion = s.fusion := rfl
@[simp] theorem setReg_ports (s : State) (k : Nat) (w : Word) : (s.setReg k w).ports = s.ports := rfl
@[simp] theorem setReg_loom (s : State) (k : Nat) (w : Word) : (s.setReg k w).loom = s.loom := rfl
@[simp] theorem setReg_sec (s : State) (k : Nat) (w : Word) : (s.setReg k w).sec = s.sec := rfl
@[simp] theorem setReg_sb (s : State) (k : Nat) (w : Word) : (s.setReg k w).sb = s.sb := rfl
@[simp] theorem setReg_debugData (s : State) (k : Nat) (w : Word) : (s.setReg k w).debugData = s.debugData := rfl
@[simp] theorem setReg_regDue (s : State) (k : Nat) (w : Word) : (s.setReg k w).regDue = s.regDue := rfl
@[simp] theorem setReg_moverEvents (s : State) (k : Nat) (w : Word) : (s.setReg k w).moverEvents = s.moverEvents := rfl

@[simp] theorem wr_pending (s : State) (a : Nat) (b : Byte) : (s.wr a b).pending = s.pending := rfl
@[simp] theorem wr_freeCtr (s : State) (a : Nat) (b : Byte) : (s.wr a b).freeCtr = s.freeCtr := rfl
@[simp] theorem wr_upNs (s : State) (a : Nat) (b : Byte) : (s.wr a b).upNs = s.upNs := rfl
@[simp] theorem wr_resp (s : State) (a : Nat) (b : Byte) : (s.wr a b).resp = s.resp := rfl
@[simp] theorem wr_respData (s : State) (a : Nat) (b : Byte) : (s.wr a b).respData = s.respData := rfl
@[simp] theorem wr_regs (s : State) (a : Nat) (b : Byte) : (s.wr a b).regs = s.regs := rfl
@[simp] theorem wr_synd (s : State) (a : Nat) (b : Byte) : (s.wr a b).synd = s.synd := rfl
@[simp] theorem wr_keyed (s : State) (a : Nat) (b : Byte) : (s.wr a b).keyed = s.keyed := rfl
@[simp] theorem wr_ward (s : State) (a : Nat) (b : Byte) : (s.wr a b).ward = s.ward := rfl
@[simp] theorem wr_park (s : State) (a : Nat) (b : Byte) : (s.wr a b).park = s.park := rfl
@[simp] theorem wr_power (s : State) (a : Nat) (b : Byte) : (s.wr a b).power = s.power := rfl
@[simp] theorem wr_img (s : State) (a : Nat) (b : Byte) : (s.wr a b).img = s.img := rfl
@[simp] theorem wr_gsk (s : State) (a : Nat) (b : Byte) : (s.wr a b).gsk = s.gsk := rfl
@[simp] theorem wr_enclD (s : State) (a : Nat) (b : Byte) : (s.wr a b).enclD = s.enclD := rfl
@[simp] theorem wr_enclS (s : State) (a : Nat) (b : Byte) : (s.wr a b).enclS = s.enclS := rfl
@[simp] theorem wr_weave (s : State) (a : Nat) (b : Byte) : (s.wr a b).weave = s.weave := rfl
@[simp] theorem wr_chans (s : State) (a : Nat) (b : Byte) : (s.wr a b).chans = s.chans := rfl
@[simp] theorem wr_tileRam (s : State) (a : Nat) (b : Byte) : (s.wr a b).tileRam = s.tileRam := rfl
@[simp] theorem wr_cmnRam (s : State) (a : Nat) (b : Byte) : (s.wr a b).cmnRam = s.cmnRam := rfl
@[simp] theorem wr_usable (s : State) (a : Nat) (b : Byte) : (s.wr a b).usable = s.usable := rfl
@[simp] theorem wr_safe (s : State) (a : Nat) (b : Byte) : (s.wr a b).safe = s.safe := rfl
@[simp] theorem wr_tiles (s : State) (a : Nat) (b : Byte) : (s.wr a b).tiles = s.tiles := rfl
@[simp] theorem wr_movers (s : State) (a : Nat) (b : Byte) : (s.wr a b).movers = s.movers := rfl
@[simp] theorem wr_models (s : State) (a : Nat) (b : Byte) : (s.wr a b).models = s.models := rfl
@[simp] theorem wr_slots (s : State) (a : Nat) (b : Byte) : (s.wr a b).slots = s.slots := rfl
@[simp] theorem wr_evicts (s : State) (a : Nat) (b : Byte) : (s.wr a b).evicts = s.evicts := rfl
@[simp] theorem wr_handles (s : State) (a : Nat) (b : Byte) : (s.wr a b).handles = s.handles := rfl
@[simp] theorem wr_queues (s : State) (a : Nat) (b : Byte) : (s.wr a b).queues = s.queues := rfl
@[simp] theorem wr_turns (s : State) (a : Nat) (b : Byte) : (s.wr a b).turns = s.turns := rfl
@[simp] theorem wr_keptQueues (s : State) (a : Nat) (b : Byte) : (s.wr a b).keptQueues = s.keptQueues := rfl
@[simp] theorem wr_pools (s : State) (a : Nat) (b : Byte) : (s.wr a b).pools = s.pools := rfl
@[simp] theorem wr_attns (s : State) (a : Nat) (b : Byte) : (s.wr a b).attns = s.attns := rfl
@[simp] theorem wr_pcie (s : State) (a : Nat) (b : Byte) : (s.wr a b).pcie = s.pcie := rfl
@[simp] theorem wr_caddy (s : State) (a : Nat) (b : Byte) : (s.wr a b).caddy = s.caddy := rfl
@[simp] theorem wr_uart (s : State) (a : Nat) (b : Byte) : (s.wr a b).uart = s.uart := rfl
@[simp] theorem wr_nor (s : State) (a : Nat) (b : Byte) : (s.wr a b).nor = s.nor := rfl
@[simp] theorem wr_netSent (s : State) (a : Nat) (b : Byte) : (s.wr a b).netSent = s.netSent := rfl
@[simp] theorem wr_tsu (s : State) (a : Nat) (b : Byte) : (s.wr a b).tsu = s.tsu := rfl
@[simp] theorem wr_str (s : State) (a : Nat) (b : Byte) : (s.wr a b).str = s.str := rfl
@[simp] theorem wr_lse (s : State) (a : Nat) (b : Byte) : (s.wr a b).lse = s.lse := rfl
@[simp] theorem wr_fusion (s : State) (a : Nat) (b : Byte) : (s.wr a b).fusion = s.fusion := rfl
@[simp] theorem wr_ports (s : State) (a : Nat) (b : Byte) : (s.wr a b).ports = s.ports := rfl
@[simp] theorem wr_loom (s : State) (a : Nat) (b : Byte) : (s.wr a b).loom = s.loom := rfl
@[simp] theorem wr_sec (s : State) (a : Nat) (b : Byte) : (s.wr a b).sec = s.sec := rfl
@[simp] theorem wr_sb (s : State) (a : Nat) (b : Byte) : (s.wr a b).sb = s.sb := rfl
@[simp] theorem wr_debugData (s : State) (a : Nat) (b : Byte) : (s.wr a b).debugData = s.debugData := rfl
@[simp] theorem wr_regDue (s : State) (a : Nat) (b : Byte) : (s.wr a b).regDue = s.regDue := rfl
@[simp] theorem wr_moverEvents (s : State) (a : Nat) (b : Byte) : (s.wr a b).moverEvents = s.moverEvents := rfl

@[simp] theorem respond_pending (s : State) (r : Status) (d : Nat) : (s.respond r d).pending = s.pending := rfl
@[simp] theorem respond_freeCtr (s : State) (r : Status) (d : Nat) : (s.respond r d).freeCtr = s.freeCtr := rfl
@[simp] theorem respond_upNs (s : State) (r : Status) (d : Nat) : (s.respond r d).upNs = s.upNs := rfl
@[simp] theorem respond_regs (s : State) (r : Status) (d : Nat) : (s.respond r d).regs = s.regs := rfl
@[simp] theorem respond_mem (s : State) (r : Status) (d : Nat) : (s.respond r d).mem = s.mem := rfl
@[simp] theorem respond_synd (s : State) (r : Status) (d : Nat) : (s.respond r d).synd = s.synd := rfl
@[simp] theorem respond_keyed (s : State) (r : Status) (d : Nat) : (s.respond r d).keyed = s.keyed := rfl
@[simp] theorem respond_ward (s : State) (r : Status) (d : Nat) : (s.respond r d).ward = s.ward := rfl
@[simp] theorem respond_park (s : State) (r : Status) (d : Nat) : (s.respond r d).park = s.park := rfl
@[simp] theorem respond_power (s : State) (r : Status) (d : Nat) : (s.respond r d).power = s.power := rfl
@[simp] theorem respond_img (s : State) (r : Status) (d : Nat) : (s.respond r d).img = s.img := rfl
@[simp] theorem respond_gsk (s : State) (r : Status) (d : Nat) : (s.respond r d).gsk = s.gsk := rfl
@[simp] theorem respond_enclD (s : State) (r : Status) (d : Nat) : (s.respond r d).enclD = s.enclD := rfl
@[simp] theorem respond_enclS (s : State) (r : Status) (d : Nat) : (s.respond r d).enclS = s.enclS := rfl
@[simp] theorem respond_weave (s : State) (r : Status) (d : Nat) : (s.respond r d).weave = s.weave := rfl
@[simp] theorem respond_chans (s : State) (r : Status) (d : Nat) : (s.respond r d).chans = s.chans := rfl
@[simp] theorem respond_tileRam (s : State) (r : Status) (d : Nat) : (s.respond r d).tileRam = s.tileRam := rfl
@[simp] theorem respond_cmnRam (s : State) (r : Status) (d : Nat) : (s.respond r d).cmnRam = s.cmnRam := rfl
@[simp] theorem respond_usable (s : State) (r : Status) (d : Nat) : (s.respond r d).usable = s.usable := rfl
@[simp] theorem respond_safe (s : State) (r : Status) (d : Nat) : (s.respond r d).safe = s.safe := rfl
@[simp] theorem respond_tiles (s : State) (r : Status) (d : Nat) : (s.respond r d).tiles = s.tiles := rfl
@[simp] theorem respond_movers (s : State) (r : Status) (d : Nat) : (s.respond r d).movers = s.movers := rfl
@[simp] theorem respond_models (s : State) (r : Status) (d : Nat) : (s.respond r d).models = s.models := rfl
@[simp] theorem respond_slots (s : State) (r : Status) (d : Nat) : (s.respond r d).slots = s.slots := rfl
@[simp] theorem respond_evicts (s : State) (r : Status) (d : Nat) : (s.respond r d).evicts = s.evicts := rfl
@[simp] theorem respond_handles (s : State) (r : Status) (d : Nat) : (s.respond r d).handles = s.handles := rfl
@[simp] theorem respond_queues (s : State) (r : Status) (d : Nat) : (s.respond r d).queues = s.queues := rfl
@[simp] theorem respond_turns (s : State) (r : Status) (d : Nat) : (s.respond r d).turns = s.turns := rfl
@[simp] theorem respond_keptQueues (s : State) (r : Status) (d : Nat) : (s.respond r d).keptQueues = s.keptQueues := rfl
@[simp] theorem respond_pools (s : State) (r : Status) (d : Nat) : (s.respond r d).pools = s.pools := rfl
@[simp] theorem respond_attns (s : State) (r : Status) (d : Nat) : (s.respond r d).attns = s.attns := rfl
@[simp] theorem respond_pcie (s : State) (r : Status) (d : Nat) : (s.respond r d).pcie = s.pcie := rfl
@[simp] theorem respond_caddy (s : State) (r : Status) (d : Nat) : (s.respond r d).caddy = s.caddy := rfl
@[simp] theorem respond_uart (s : State) (r : Status) (d : Nat) : (s.respond r d).uart = s.uart := rfl
@[simp] theorem respond_nor (s : State) (r : Status) (d : Nat) : (s.respond r d).nor = s.nor := rfl
@[simp] theorem respond_netSent (s : State) (r : Status) (d : Nat) : (s.respond r d).netSent = s.netSent := rfl
@[simp] theorem respond_tsu (s : State) (r : Status) (d : Nat) : (s.respond r d).tsu = s.tsu := rfl
@[simp] theorem respond_str (s : State) (r : Status) (d : Nat) : (s.respond r d).str = s.str := rfl
@[simp] theorem respond_lse (s : State) (r : Status) (d : Nat) : (s.respond r d).lse = s.lse := rfl
@[simp] theorem respond_fusion (s : State) (r : Status) (d : Nat) : (s.respond r d).fusion = s.fusion := rfl
@[simp] theorem respond_ports (s : State) (r : Status) (d : Nat) : (s.respond r d).ports = s.ports := rfl
@[simp] theorem respond_loom (s : State) (r : Status) (d : Nat) : (s.respond r d).loom = s.loom := rfl
@[simp] theorem respond_sec (s : State) (r : Status) (d : Nat) : (s.respond r d).sec = s.sec := rfl
@[simp] theorem respond_sb (s : State) (r : Status) (d : Nat) : (s.respond r d).sb = s.sb := rfl
@[simp] theorem respond_debugData (s : State) (r : Status) (d : Nat) : (s.respond r d).debugData = s.debugData := rfl
@[simp] theorem respond_regDue (s : State) (r : Status) (d : Nat) : (s.respond r d).regDue = s.regDue := rfl
@[simp] theorem respond_moverEvents (s : State) (r : Status) (d : Nat) : (s.respond r d).moverEvents = s.moverEvents := rfl

@[simp] theorem setGasket_pending (s : State) (g : Nat) (x : Gasket) : (s.setGasket g x).pending = s.pending := rfl
@[simp] theorem setGasket_freeCtr (s : State) (g : Nat) (x : Gasket) : (s.setGasket g x).freeCtr = s.freeCtr := rfl
@[simp] theorem setGasket_upNs (s : State) (g : Nat) (x : Gasket) : (s.setGasket g x).upNs = s.upNs := rfl
@[simp] theorem setGasket_resp (s : State) (g : Nat) (x : Gasket) : (s.setGasket g x).resp = s.resp := rfl
@[simp] theorem setGasket_respData (s : State) (g : Nat) (x : Gasket) : (s.setGasket g x).respData = s.respData := rfl
@[simp] theorem setGasket_regs (s : State) (g : Nat) (x : Gasket) : (s.setGasket g x).regs = s.regs := rfl
@[simp] theorem setGasket_mem (s : State) (g : Nat) (x : Gasket) : (s.setGasket g x).mem = s.mem := rfl
@[simp] theorem setGasket_synd (s : State) (g : Nat) (x : Gasket) : (s.setGasket g x).synd = s.synd := rfl
@[simp] theorem setGasket_keyed (s : State) (g : Nat) (x : Gasket) : (s.setGasket g x).keyed = s.keyed := rfl
@[simp] theorem setGasket_ward (s : State) (g : Nat) (x : Gasket) : (s.setGasket g x).ward = s.ward := rfl
@[simp] theorem setGasket_park (s : State) (g : Nat) (x : Gasket) : (s.setGasket g x).park = s.park := rfl
@[simp] theorem setGasket_power (s : State) (g : Nat) (x : Gasket) : (s.setGasket g x).power = s.power := rfl
@[simp] theorem setGasket_img (s : State) (g : Nat) (x : Gasket) : (s.setGasket g x).img = s.img := rfl
@[simp] theorem setGasket_enclD (s : State) (g : Nat) (x : Gasket) : (s.setGasket g x).enclD = s.enclD := rfl
@[simp] theorem setGasket_enclS (s : State) (g : Nat) (x : Gasket) : (s.setGasket g x).enclS = s.enclS := rfl
@[simp] theorem setGasket_weave (s : State) (g : Nat) (x : Gasket) : (s.setGasket g x).weave = s.weave := rfl
@[simp] theorem setGasket_chans (s : State) (g : Nat) (x : Gasket) : (s.setGasket g x).chans = s.chans := rfl
@[simp] theorem setGasket_tileRam (s : State) (g : Nat) (x : Gasket) : (s.setGasket g x).tileRam = s.tileRam := rfl
@[simp] theorem setGasket_cmnRam (s : State) (g : Nat) (x : Gasket) : (s.setGasket g x).cmnRam = s.cmnRam := rfl
@[simp] theorem setGasket_usable (s : State) (g : Nat) (x : Gasket) : (s.setGasket g x).usable = s.usable := rfl
@[simp] theorem setGasket_safe (s : State) (g : Nat) (x : Gasket) : (s.setGasket g x).safe = s.safe := rfl
@[simp] theorem setGasket_tiles (s : State) (g : Nat) (x : Gasket) : (s.setGasket g x).tiles = s.tiles := rfl
@[simp] theorem setGasket_movers (s : State) (g : Nat) (x : Gasket) : (s.setGasket g x).movers = s.movers := rfl
@[simp] theorem setGasket_models (s : State) (g : Nat) (x : Gasket) : (s.setGasket g x).models = s.models := rfl
@[simp] theorem setGasket_slots (s : State) (g : Nat) (x : Gasket) : (s.setGasket g x).slots = s.slots := rfl
@[simp] theorem setGasket_evicts (s : State) (g : Nat) (x : Gasket) : (s.setGasket g x).evicts = s.evicts := rfl
@[simp] theorem setGasket_handles (s : State) (g : Nat) (x : Gasket) : (s.setGasket g x).handles = s.handles := rfl
@[simp] theorem setGasket_queues (s : State) (g : Nat) (x : Gasket) : (s.setGasket g x).queues = s.queues := rfl
@[simp] theorem setGasket_turns (s : State) (g : Nat) (x : Gasket) : (s.setGasket g x).turns = s.turns := rfl
@[simp] theorem setGasket_keptQueues (s : State) (g : Nat) (x : Gasket) : (s.setGasket g x).keptQueues = s.keptQueues := rfl
@[simp] theorem setGasket_pools (s : State) (g : Nat) (x : Gasket) : (s.setGasket g x).pools = s.pools := rfl
@[simp] theorem setGasket_attns (s : State) (g : Nat) (x : Gasket) : (s.setGasket g x).attns = s.attns := rfl
@[simp] theorem setGasket_pcie (s : State) (g : Nat) (x : Gasket) : (s.setGasket g x).pcie = s.pcie := rfl
@[simp] theorem setGasket_caddy (s : State) (g : Nat) (x : Gasket) : (s.setGasket g x).caddy = s.caddy := rfl
@[simp] theorem setGasket_uart (s : State) (g : Nat) (x : Gasket) : (s.setGasket g x).uart = s.uart := rfl
@[simp] theorem setGasket_nor (s : State) (g : Nat) (x : Gasket) : (s.setGasket g x).nor = s.nor := rfl
@[simp] theorem setGasket_netSent (s : State) (g : Nat) (x : Gasket) : (s.setGasket g x).netSent = s.netSent := rfl
@[simp] theorem setGasket_tsu (s : State) (g : Nat) (x : Gasket) : (s.setGasket g x).tsu = s.tsu := rfl
@[simp] theorem setGasket_str (s : State) (g : Nat) (x : Gasket) : (s.setGasket g x).str = s.str := rfl
@[simp] theorem setGasket_lse (s : State) (g : Nat) (x : Gasket) : (s.setGasket g x).lse = s.lse := rfl
@[simp] theorem setGasket_fusion (s : State) (g : Nat) (x : Gasket) : (s.setGasket g x).fusion = s.fusion := rfl
@[simp] theorem setGasket_ports (s : State) (g : Nat) (x : Gasket) : (s.setGasket g x).ports = s.ports := rfl
@[simp] theorem setGasket_loom (s : State) (g : Nat) (x : Gasket) : (s.setGasket g x).loom = s.loom := rfl
@[simp] theorem setGasket_sec (s : State) (g : Nat) (x : Gasket) : (s.setGasket g x).sec = s.sec := rfl
@[simp] theorem setGasket_sb (s : State) (g : Nat) (x : Gasket) : (s.setGasket g x).sb = s.sb := rfl
@[simp] theorem setGasket_debugData (s : State) (g : Nat) (x : Gasket) : (s.setGasket g x).debugData = s.debugData := rfl
@[simp] theorem setGasket_regDue (s : State) (g : Nat) (x : Gasket) : (s.setGasket g x).regDue = s.regDue := rfl
@[simp] theorem setGasket_moverEvents (s : State) (g : Nat) (x : Gasket) : (s.setGasket g x).moverEvents = s.moverEvents := rfl

@[simp] theorem setChan_pending (s : State) (m : Nat) (x : Chan) : (s.setChan m x).pending = s.pending := rfl
@[simp] theorem setChan_freeCtr (s : State) (m : Nat) (x : Chan) : (s.setChan m x).freeCtr = s.freeCtr := rfl
@[simp] theorem setChan_upNs (s : State) (m : Nat) (x : Chan) : (s.setChan m x).upNs = s.upNs := rfl
@[simp] theorem setChan_resp (s : State) (m : Nat) (x : Chan) : (s.setChan m x).resp = s.resp := rfl
@[simp] theorem setChan_respData (s : State) (m : Nat) (x : Chan) : (s.setChan m x).respData = s.respData := rfl
@[simp] theorem setChan_regs (s : State) (m : Nat) (x : Chan) : (s.setChan m x).regs = s.regs := rfl
@[simp] theorem setChan_mem (s : State) (m : Nat) (x : Chan) : (s.setChan m x).mem = s.mem := rfl
@[simp] theorem setChan_synd (s : State) (m : Nat) (x : Chan) : (s.setChan m x).synd = s.synd := rfl
@[simp] theorem setChan_keyed (s : State) (m : Nat) (x : Chan) : (s.setChan m x).keyed = s.keyed := rfl
@[simp] theorem setChan_ward (s : State) (m : Nat) (x : Chan) : (s.setChan m x).ward = s.ward := rfl
@[simp] theorem setChan_park (s : State) (m : Nat) (x : Chan) : (s.setChan m x).park = s.park := rfl
@[simp] theorem setChan_power (s : State) (m : Nat) (x : Chan) : (s.setChan m x).power = s.power := rfl
@[simp] theorem setChan_img (s : State) (m : Nat) (x : Chan) : (s.setChan m x).img = s.img := rfl
@[simp] theorem setChan_gsk (s : State) (m : Nat) (x : Chan) : (s.setChan m x).gsk = s.gsk := rfl
@[simp] theorem setChan_enclD (s : State) (m : Nat) (x : Chan) : (s.setChan m x).enclD = s.enclD := rfl
@[simp] theorem setChan_enclS (s : State) (m : Nat) (x : Chan) : (s.setChan m x).enclS = s.enclS := rfl
@[simp] theorem setChan_weave (s : State) (m : Nat) (x : Chan) : (s.setChan m x).weave = s.weave := rfl
@[simp] theorem setChan_tileRam (s : State) (m : Nat) (x : Chan) : (s.setChan m x).tileRam = s.tileRam := rfl
@[simp] theorem setChan_cmnRam (s : State) (m : Nat) (x : Chan) : (s.setChan m x).cmnRam = s.cmnRam := rfl
@[simp] theorem setChan_usable (s : State) (m : Nat) (x : Chan) : (s.setChan m x).usable = s.usable := rfl
@[simp] theorem setChan_safe (s : State) (m : Nat) (x : Chan) : (s.setChan m x).safe = s.safe := rfl
@[simp] theorem setChan_tiles (s : State) (m : Nat) (x : Chan) : (s.setChan m x).tiles = s.tiles := rfl
@[simp] theorem setChan_movers (s : State) (m : Nat) (x : Chan) : (s.setChan m x).movers = s.movers := rfl
@[simp] theorem setChan_models (s : State) (m : Nat) (x : Chan) : (s.setChan m x).models = s.models := rfl
@[simp] theorem setChan_slots (s : State) (m : Nat) (x : Chan) : (s.setChan m x).slots = s.slots := rfl
@[simp] theorem setChan_evicts (s : State) (m : Nat) (x : Chan) : (s.setChan m x).evicts = s.evicts := rfl
@[simp] theorem setChan_handles (s : State) (m : Nat) (x : Chan) : (s.setChan m x).handles = s.handles := rfl
@[simp] theorem setChan_queues (s : State) (m : Nat) (x : Chan) : (s.setChan m x).queues = s.queues := rfl
@[simp] theorem setChan_turns (s : State) (m : Nat) (x : Chan) : (s.setChan m x).turns = s.turns := rfl
@[simp] theorem setChan_keptQueues (s : State) (m : Nat) (x : Chan) : (s.setChan m x).keptQueues = s.keptQueues := rfl
@[simp] theorem setChan_pools (s : State) (m : Nat) (x : Chan) : (s.setChan m x).pools = s.pools := rfl
@[simp] theorem setChan_attns (s : State) (m : Nat) (x : Chan) : (s.setChan m x).attns = s.attns := rfl
@[simp] theorem setChan_pcie (s : State) (m : Nat) (x : Chan) : (s.setChan m x).pcie = s.pcie := rfl
@[simp] theorem setChan_caddy (s : State) (m : Nat) (x : Chan) : (s.setChan m x).caddy = s.caddy := rfl
@[simp] theorem setChan_uart (s : State) (m : Nat) (x : Chan) : (s.setChan m x).uart = s.uart := rfl
@[simp] theorem setChan_nor (s : State) (m : Nat) (x : Chan) : (s.setChan m x).nor = s.nor := rfl
@[simp] theorem setChan_netSent (s : State) (m : Nat) (x : Chan) : (s.setChan m x).netSent = s.netSent := rfl
@[simp] theorem setChan_tsu (s : State) (m : Nat) (x : Chan) : (s.setChan m x).tsu = s.tsu := rfl
@[simp] theorem setChan_str (s : State) (m : Nat) (x : Chan) : (s.setChan m x).str = s.str := rfl
@[simp] theorem setChan_lse (s : State) (m : Nat) (x : Chan) : (s.setChan m x).lse = s.lse := rfl
@[simp] theorem setChan_fusion (s : State) (m : Nat) (x : Chan) : (s.setChan m x).fusion = s.fusion := rfl
@[simp] theorem setChan_ports (s : State) (m : Nat) (x : Chan) : (s.setChan m x).ports = s.ports := rfl
@[simp] theorem setChan_loom (s : State) (m : Nat) (x : Chan) : (s.setChan m x).loom = s.loom := rfl
@[simp] theorem setChan_sec (s : State) (m : Nat) (x : Chan) : (s.setChan m x).sec = s.sec := rfl
@[simp] theorem setChan_sb (s : State) (m : Nat) (x : Chan) : (s.setChan m x).sb = s.sb := rfl
@[simp] theorem setChan_debugData (s : State) (m : Nat) (x : Chan) : (s.setChan m x).debugData = s.debugData := rfl
@[simp] theorem setChan_regDue (s : State) (m : Nat) (x : Chan) : (s.setChan m x).regDue = s.regDue := rfl
@[simp] theorem setChan_moverEvents (s : State) (m : Nat) (x : Chan) : (s.setChan m x).moverEvents = s.moverEvents := rfl

@[simp] theorem setTile_pending (s : State) (t : Nat) (x : Tile) : (s.setTile t x).pending = s.pending := rfl
@[simp] theorem setTile_freeCtr (s : State) (t : Nat) (x : Tile) : (s.setTile t x).freeCtr = s.freeCtr := rfl
@[simp] theorem setTile_upNs (s : State) (t : Nat) (x : Tile) : (s.setTile t x).upNs = s.upNs := rfl
@[simp] theorem setTile_resp (s : State) (t : Nat) (x : Tile) : (s.setTile t x).resp = s.resp := rfl
@[simp] theorem setTile_respData (s : State) (t : Nat) (x : Tile) : (s.setTile t x).respData = s.respData := rfl
@[simp] theorem setTile_regs (s : State) (t : Nat) (x : Tile) : (s.setTile t x).regs = s.regs := rfl
@[simp] theorem setTile_mem (s : State) (t : Nat) (x : Tile) : (s.setTile t x).mem = s.mem := rfl
@[simp] theorem setTile_synd (s : State) (t : Nat) (x : Tile) : (s.setTile t x).synd = s.synd := rfl
@[simp] theorem setTile_keyed (s : State) (t : Nat) (x : Tile) : (s.setTile t x).keyed = s.keyed := rfl
@[simp] theorem setTile_ward (s : State) (t : Nat) (x : Tile) : (s.setTile t x).ward = s.ward := rfl
@[simp] theorem setTile_park (s : State) (t : Nat) (x : Tile) : (s.setTile t x).park = s.park := rfl
@[simp] theorem setTile_power (s : State) (t : Nat) (x : Tile) : (s.setTile t x).power = s.power := rfl
@[simp] theorem setTile_img (s : State) (t : Nat) (x : Tile) : (s.setTile t x).img = s.img := rfl
@[simp] theorem setTile_gsk (s : State) (t : Nat) (x : Tile) : (s.setTile t x).gsk = s.gsk := rfl
@[simp] theorem setTile_enclD (s : State) (t : Nat) (x : Tile) : (s.setTile t x).enclD = s.enclD := rfl
@[simp] theorem setTile_enclS (s : State) (t : Nat) (x : Tile) : (s.setTile t x).enclS = s.enclS := rfl
@[simp] theorem setTile_weave (s : State) (t : Nat) (x : Tile) : (s.setTile t x).weave = s.weave := rfl
@[simp] theorem setTile_chans (s : State) (t : Nat) (x : Tile) : (s.setTile t x).chans = s.chans := rfl
@[simp] theorem setTile_tileRam (s : State) (t : Nat) (x : Tile) : (s.setTile t x).tileRam = s.tileRam := rfl
@[simp] theorem setTile_cmnRam (s : State) (t : Nat) (x : Tile) : (s.setTile t x).cmnRam = s.cmnRam := rfl
@[simp] theorem setTile_usable (s : State) (t : Nat) (x : Tile) : (s.setTile t x).usable = s.usable := rfl
@[simp] theorem setTile_safe (s : State) (t : Nat) (x : Tile) : (s.setTile t x).safe = s.safe := rfl
@[simp] theorem setTile_movers (s : State) (t : Nat) (x : Tile) : (s.setTile t x).movers = s.movers := rfl
@[simp] theorem setTile_models (s : State) (t : Nat) (x : Tile) : (s.setTile t x).models = s.models := rfl
@[simp] theorem setTile_slots (s : State) (t : Nat) (x : Tile) : (s.setTile t x).slots = s.slots := rfl
@[simp] theorem setTile_evicts (s : State) (t : Nat) (x : Tile) : (s.setTile t x).evicts = s.evicts := rfl
@[simp] theorem setTile_handles (s : State) (t : Nat) (x : Tile) : (s.setTile t x).handles = s.handles := rfl
@[simp] theorem setTile_queues (s : State) (t : Nat) (x : Tile) : (s.setTile t x).queues = s.queues := rfl
@[simp] theorem setTile_turns (s : State) (t : Nat) (x : Tile) : (s.setTile t x).turns = s.turns := rfl
@[simp] theorem setTile_keptQueues (s : State) (t : Nat) (x : Tile) : (s.setTile t x).keptQueues = s.keptQueues := rfl
@[simp] theorem setTile_pools (s : State) (t : Nat) (x : Tile) : (s.setTile t x).pools = s.pools := rfl
@[simp] theorem setTile_attns (s : State) (t : Nat) (x : Tile) : (s.setTile t x).attns = s.attns := rfl
@[simp] theorem setTile_pcie (s : State) (t : Nat) (x : Tile) : (s.setTile t x).pcie = s.pcie := rfl
@[simp] theorem setTile_caddy (s : State) (t : Nat) (x : Tile) : (s.setTile t x).caddy = s.caddy := rfl
@[simp] theorem setTile_uart (s : State) (t : Nat) (x : Tile) : (s.setTile t x).uart = s.uart := rfl
@[simp] theorem setTile_nor (s : State) (t : Nat) (x : Tile) : (s.setTile t x).nor = s.nor := rfl
@[simp] theorem setTile_netSent (s : State) (t : Nat) (x : Tile) : (s.setTile t x).netSent = s.netSent := rfl
@[simp] theorem setTile_tsu (s : State) (t : Nat) (x : Tile) : (s.setTile t x).tsu = s.tsu := rfl
@[simp] theorem setTile_str (s : State) (t : Nat) (x : Tile) : (s.setTile t x).str = s.str := rfl
@[simp] theorem setTile_lse (s : State) (t : Nat) (x : Tile) : (s.setTile t x).lse = s.lse := rfl
@[simp] theorem setTile_fusion (s : State) (t : Nat) (x : Tile) : (s.setTile t x).fusion = s.fusion := rfl
@[simp] theorem setTile_ports (s : State) (t : Nat) (x : Tile) : (s.setTile t x).ports = s.ports := rfl
@[simp] theorem setTile_loom (s : State) (t : Nat) (x : Tile) : (s.setTile t x).loom = s.loom := rfl
@[simp] theorem setTile_sec (s : State) (t : Nat) (x : Tile) : (s.setTile t x).sec = s.sec := rfl
@[simp] theorem setTile_sb (s : State) (t : Nat) (x : Tile) : (s.setTile t x).sb = s.sb := rfl
@[simp] theorem setTile_debugData (s : State) (t : Nat) (x : Tile) : (s.setTile t x).debugData = s.debugData := rfl
@[simp] theorem setTile_regDue (s : State) (t : Nat) (x : Tile) : (s.setTile t x).regDue = s.regDue := rfl
@[simp] theorem setTile_moverEvents (s : State) (t : Nat) (x : Tile) : (s.setTile t x).moverEvents = s.moverEvents := rfl

@[simp] theorem setMchan_pending (s : State) (m c : Nat) (x : MChan) : (s.setMchan m c x).pending = s.pending := rfl
@[simp] theorem setMchan_freeCtr (s : State) (m c : Nat) (x : MChan) : (s.setMchan m c x).freeCtr = s.freeCtr := rfl
@[simp] theorem setMchan_upNs (s : State) (m c : Nat) (x : MChan) : (s.setMchan m c x).upNs = s.upNs := rfl
@[simp] theorem setMchan_resp (s : State) (m c : Nat) (x : MChan) : (s.setMchan m c x).resp = s.resp := rfl
@[simp] theorem setMchan_respData (s : State) (m c : Nat) (x : MChan) : (s.setMchan m c x).respData = s.respData := rfl
@[simp] theorem setMchan_regs (s : State) (m c : Nat) (x : MChan) : (s.setMchan m c x).regs = s.regs := rfl
@[simp] theorem setMchan_mem (s : State) (m c : Nat) (x : MChan) : (s.setMchan m c x).mem = s.mem := rfl
@[simp] theorem setMchan_synd (s : State) (m c : Nat) (x : MChan) : (s.setMchan m c x).synd = s.synd := rfl
@[simp] theorem setMchan_keyed (s : State) (m c : Nat) (x : MChan) : (s.setMchan m c x).keyed = s.keyed := rfl
@[simp] theorem setMchan_ward (s : State) (m c : Nat) (x : MChan) : (s.setMchan m c x).ward = s.ward := rfl
@[simp] theorem setMchan_park (s : State) (m c : Nat) (x : MChan) : (s.setMchan m c x).park = s.park := rfl
@[simp] theorem setMchan_power (s : State) (m c : Nat) (x : MChan) : (s.setMchan m c x).power = s.power := rfl
@[simp] theorem setMchan_img (s : State) (m c : Nat) (x : MChan) : (s.setMchan m c x).img = s.img := rfl
@[simp] theorem setMchan_gsk (s : State) (m c : Nat) (x : MChan) : (s.setMchan m c x).gsk = s.gsk := rfl
@[simp] theorem setMchan_enclD (s : State) (m c : Nat) (x : MChan) : (s.setMchan m c x).enclD = s.enclD := rfl
@[simp] theorem setMchan_enclS (s : State) (m c : Nat) (x : MChan) : (s.setMchan m c x).enclS = s.enclS := rfl
@[simp] theorem setMchan_weave (s : State) (m c : Nat) (x : MChan) : (s.setMchan m c x).weave = s.weave := rfl
@[simp] theorem setMchan_chans (s : State) (m c : Nat) (x : MChan) : (s.setMchan m c x).chans = s.chans := rfl
@[simp] theorem setMchan_tileRam (s : State) (m c : Nat) (x : MChan) : (s.setMchan m c x).tileRam = s.tileRam := rfl
@[simp] theorem setMchan_cmnRam (s : State) (m c : Nat) (x : MChan) : (s.setMchan m c x).cmnRam = s.cmnRam := rfl
@[simp] theorem setMchan_usable (s : State) (m c : Nat) (x : MChan) : (s.setMchan m c x).usable = s.usable := rfl
@[simp] theorem setMchan_safe (s : State) (m c : Nat) (x : MChan) : (s.setMchan m c x).safe = s.safe := rfl
@[simp] theorem setMchan_tiles (s : State) (m c : Nat) (x : MChan) : (s.setMchan m c x).tiles = s.tiles := rfl
@[simp] theorem setMchan_models (s : State) (m c : Nat) (x : MChan) : (s.setMchan m c x).models = s.models := rfl
@[simp] theorem setMchan_slots (s : State) (m c : Nat) (x : MChan) : (s.setMchan m c x).slots = s.slots := rfl
@[simp] theorem setMchan_evicts (s : State) (m c : Nat) (x : MChan) : (s.setMchan m c x).evicts = s.evicts := rfl
@[simp] theorem setMchan_handles (s : State) (m c : Nat) (x : MChan) : (s.setMchan m c x).handles = s.handles := rfl
@[simp] theorem setMchan_queues (s : State) (m c : Nat) (x : MChan) : (s.setMchan m c x).queues = s.queues := rfl
@[simp] theorem setMchan_turns (s : State) (m c : Nat) (x : MChan) : (s.setMchan m c x).turns = s.turns := rfl
@[simp] theorem setMchan_keptQueues (s : State) (m c : Nat) (x : MChan) : (s.setMchan m c x).keptQueues = s.keptQueues := rfl
@[simp] theorem setMchan_pools (s : State) (m c : Nat) (x : MChan) : (s.setMchan m c x).pools = s.pools := rfl
@[simp] theorem setMchan_attns (s : State) (m c : Nat) (x : MChan) : (s.setMchan m c x).attns = s.attns := rfl
@[simp] theorem setMchan_pcie (s : State) (m c : Nat) (x : MChan) : (s.setMchan m c x).pcie = s.pcie := rfl
@[simp] theorem setMchan_caddy (s : State) (m c : Nat) (x : MChan) : (s.setMchan m c x).caddy = s.caddy := rfl
@[simp] theorem setMchan_uart (s : State) (m c : Nat) (x : MChan) : (s.setMchan m c x).uart = s.uart := rfl
@[simp] theorem setMchan_nor (s : State) (m c : Nat) (x : MChan) : (s.setMchan m c x).nor = s.nor := rfl
@[simp] theorem setMchan_netSent (s : State) (m c : Nat) (x : MChan) : (s.setMchan m c x).netSent = s.netSent := rfl
@[simp] theorem setMchan_tsu (s : State) (m c : Nat) (x : MChan) : (s.setMchan m c x).tsu = s.tsu := rfl
@[simp] theorem setMchan_str (s : State) (m c : Nat) (x : MChan) : (s.setMchan m c x).str = s.str := rfl
@[simp] theorem setMchan_lse (s : State) (m c : Nat) (x : MChan) : (s.setMchan m c x).lse = s.lse := rfl
@[simp] theorem setMchan_fusion (s : State) (m c : Nat) (x : MChan) : (s.setMchan m c x).fusion = s.fusion := rfl
@[simp] theorem setMchan_ports (s : State) (m c : Nat) (x : MChan) : (s.setMchan m c x).ports = s.ports := rfl
@[simp] theorem setMchan_loom (s : State) (m c : Nat) (x : MChan) : (s.setMchan m c x).loom = s.loom := rfl
@[simp] theorem setMchan_sec (s : State) (m c : Nat) (x : MChan) : (s.setMchan m c x).sec = s.sec := rfl
@[simp] theorem setMchan_sb (s : State) (m c : Nat) (x : MChan) : (s.setMchan m c x).sb = s.sb := rfl
@[simp] theorem setMchan_debugData (s : State) (m c : Nat) (x : MChan) : (s.setMchan m c x).debugData = s.debugData := rfl
@[simp] theorem setMchan_regDue (s : State) (m c : Nat) (x : MChan) : (s.setMchan m c x).regDue = s.regDue := rfl
@[simp] theorem setMchan_moverEvents (s : State) (m c : Nat) (x : MChan) : (s.setMchan m c x).moverEvents = s.moverEvents := rfl

@[simp] theorem setModel_pending (s : State) (m : Nat) (x : Model) : (s.setModel m x).pending = s.pending := rfl
@[simp] theorem setModel_freeCtr (s : State) (m : Nat) (x : Model) : (s.setModel m x).freeCtr = s.freeCtr := rfl
@[simp] theorem setModel_upNs (s : State) (m : Nat) (x : Model) : (s.setModel m x).upNs = s.upNs := rfl
@[simp] theorem setModel_resp (s : State) (m : Nat) (x : Model) : (s.setModel m x).resp = s.resp := rfl
@[simp] theorem setModel_respData (s : State) (m : Nat) (x : Model) : (s.setModel m x).respData = s.respData := rfl
@[simp] theorem setModel_regs (s : State) (m : Nat) (x : Model) : (s.setModel m x).regs = s.regs := rfl
@[simp] theorem setModel_mem (s : State) (m : Nat) (x : Model) : (s.setModel m x).mem = s.mem := rfl
@[simp] theorem setModel_synd (s : State) (m : Nat) (x : Model) : (s.setModel m x).synd = s.synd := rfl
@[simp] theorem setModel_keyed (s : State) (m : Nat) (x : Model) : (s.setModel m x).keyed = s.keyed := rfl
@[simp] theorem setModel_ward (s : State) (m : Nat) (x : Model) : (s.setModel m x).ward = s.ward := rfl
@[simp] theorem setModel_park (s : State) (m : Nat) (x : Model) : (s.setModel m x).park = s.park := rfl
@[simp] theorem setModel_power (s : State) (m : Nat) (x : Model) : (s.setModel m x).power = s.power := rfl
@[simp] theorem setModel_img (s : State) (m : Nat) (x : Model) : (s.setModel m x).img = s.img := rfl
@[simp] theorem setModel_gsk (s : State) (m : Nat) (x : Model) : (s.setModel m x).gsk = s.gsk := rfl
@[simp] theorem setModel_enclD (s : State) (m : Nat) (x : Model) : (s.setModel m x).enclD = s.enclD := rfl
@[simp] theorem setModel_enclS (s : State) (m : Nat) (x : Model) : (s.setModel m x).enclS = s.enclS := rfl
@[simp] theorem setModel_weave (s : State) (m : Nat) (x : Model) : (s.setModel m x).weave = s.weave := rfl
@[simp] theorem setModel_chans (s : State) (m : Nat) (x : Model) : (s.setModel m x).chans = s.chans := rfl
@[simp] theorem setModel_tileRam (s : State) (m : Nat) (x : Model) : (s.setModel m x).tileRam = s.tileRam := rfl
@[simp] theorem setModel_cmnRam (s : State) (m : Nat) (x : Model) : (s.setModel m x).cmnRam = s.cmnRam := rfl
@[simp] theorem setModel_usable (s : State) (m : Nat) (x : Model) : (s.setModel m x).usable = s.usable := rfl
@[simp] theorem setModel_safe (s : State) (m : Nat) (x : Model) : (s.setModel m x).safe = s.safe := rfl
@[simp] theorem setModel_tiles (s : State) (m : Nat) (x : Model) : (s.setModel m x).tiles = s.tiles := rfl
@[simp] theorem setModel_movers (s : State) (m : Nat) (x : Model) : (s.setModel m x).movers = s.movers := rfl
@[simp] theorem setModel_slots (s : State) (m : Nat) (x : Model) : (s.setModel m x).slots = s.slots := rfl
@[simp] theorem setModel_evicts (s : State) (m : Nat) (x : Model) : (s.setModel m x).evicts = s.evicts := rfl
@[simp] theorem setModel_handles (s : State) (m : Nat) (x : Model) : (s.setModel m x).handles = s.handles := rfl
@[simp] theorem setModel_queues (s : State) (m : Nat) (x : Model) : (s.setModel m x).queues = s.queues := rfl
@[simp] theorem setModel_turns (s : State) (m : Nat) (x : Model) : (s.setModel m x).turns = s.turns := rfl
@[simp] theorem setModel_keptQueues (s : State) (m : Nat) (x : Model) : (s.setModel m x).keptQueues = s.keptQueues := rfl
@[simp] theorem setModel_pools (s : State) (m : Nat) (x : Model) : (s.setModel m x).pools = s.pools := rfl
@[simp] theorem setModel_attns (s : State) (m : Nat) (x : Model) : (s.setModel m x).attns = s.attns := rfl
@[simp] theorem setModel_pcie (s : State) (m : Nat) (x : Model) : (s.setModel m x).pcie = s.pcie := rfl
@[simp] theorem setModel_caddy (s : State) (m : Nat) (x : Model) : (s.setModel m x).caddy = s.caddy := rfl
@[simp] theorem setModel_uart (s : State) (m : Nat) (x : Model) : (s.setModel m x).uart = s.uart := rfl
@[simp] theorem setModel_nor (s : State) (m : Nat) (x : Model) : (s.setModel m x).nor = s.nor := rfl
@[simp] theorem setModel_netSent (s : State) (m : Nat) (x : Model) : (s.setModel m x).netSent = s.netSent := rfl
@[simp] theorem setModel_tsu (s : State) (m : Nat) (x : Model) : (s.setModel m x).tsu = s.tsu := rfl
@[simp] theorem setModel_str (s : State) (m : Nat) (x : Model) : (s.setModel m x).str = s.str := rfl
@[simp] theorem setModel_lse (s : State) (m : Nat) (x : Model) : (s.setModel m x).lse = s.lse := rfl
@[simp] theorem setModel_fusion (s : State) (m : Nat) (x : Model) : (s.setModel m x).fusion = s.fusion := rfl
@[simp] theorem setModel_ports (s : State) (m : Nat) (x : Model) : (s.setModel m x).ports = s.ports := rfl
@[simp] theorem setModel_loom (s : State) (m : Nat) (x : Model) : (s.setModel m x).loom = s.loom := rfl
@[simp] theorem setModel_sec (s : State) (m : Nat) (x : Model) : (s.setModel m x).sec = s.sec := rfl
@[simp] theorem setModel_sb (s : State) (m : Nat) (x : Model) : (s.setModel m x).sb = s.sb := rfl
@[simp] theorem setModel_debugData (s : State) (m : Nat) (x : Model) : (s.setModel m x).debugData = s.debugData := rfl
@[simp] theorem setModel_regDue (s : State) (m : Nat) (x : Model) : (s.setModel m x).regDue = s.regDue := rfl
@[simp] theorem setModel_moverEvents (s : State) (m : Nat) (x : Model) : (s.setModel m x).moverEvents = s.moverEvents := rfl

@[simp] theorem setSlot_pending (s : State) (k : Nat) (x : Slot) : (s.setSlot k x).pending = s.pending := rfl
@[simp] theorem setSlot_freeCtr (s : State) (k : Nat) (x : Slot) : (s.setSlot k x).freeCtr = s.freeCtr := rfl
@[simp] theorem setSlot_upNs (s : State) (k : Nat) (x : Slot) : (s.setSlot k x).upNs = s.upNs := rfl
@[simp] theorem setSlot_resp (s : State) (k : Nat) (x : Slot) : (s.setSlot k x).resp = s.resp := rfl
@[simp] theorem setSlot_respData (s : State) (k : Nat) (x : Slot) : (s.setSlot k x).respData = s.respData := rfl
@[simp] theorem setSlot_regs (s : State) (k : Nat) (x : Slot) : (s.setSlot k x).regs = s.regs := rfl
@[simp] theorem setSlot_mem (s : State) (k : Nat) (x : Slot) : (s.setSlot k x).mem = s.mem := rfl
@[simp] theorem setSlot_synd (s : State) (k : Nat) (x : Slot) : (s.setSlot k x).synd = s.synd := rfl
@[simp] theorem setSlot_keyed (s : State) (k : Nat) (x : Slot) : (s.setSlot k x).keyed = s.keyed := rfl
@[simp] theorem setSlot_ward (s : State) (k : Nat) (x : Slot) : (s.setSlot k x).ward = s.ward := rfl
@[simp] theorem setSlot_park (s : State) (k : Nat) (x : Slot) : (s.setSlot k x).park = s.park := rfl
@[simp] theorem setSlot_power (s : State) (k : Nat) (x : Slot) : (s.setSlot k x).power = s.power := rfl
@[simp] theorem setSlot_img (s : State) (k : Nat) (x : Slot) : (s.setSlot k x).img = s.img := rfl
@[simp] theorem setSlot_gsk (s : State) (k : Nat) (x : Slot) : (s.setSlot k x).gsk = s.gsk := rfl
@[simp] theorem setSlot_enclD (s : State) (k : Nat) (x : Slot) : (s.setSlot k x).enclD = s.enclD := rfl
@[simp] theorem setSlot_enclS (s : State) (k : Nat) (x : Slot) : (s.setSlot k x).enclS = s.enclS := rfl
@[simp] theorem setSlot_weave (s : State) (k : Nat) (x : Slot) : (s.setSlot k x).weave = s.weave := rfl
@[simp] theorem setSlot_chans (s : State) (k : Nat) (x : Slot) : (s.setSlot k x).chans = s.chans := rfl
@[simp] theorem setSlot_tileRam (s : State) (k : Nat) (x : Slot) : (s.setSlot k x).tileRam = s.tileRam := rfl
@[simp] theorem setSlot_cmnRam (s : State) (k : Nat) (x : Slot) : (s.setSlot k x).cmnRam = s.cmnRam := rfl
@[simp] theorem setSlot_usable (s : State) (k : Nat) (x : Slot) : (s.setSlot k x).usable = s.usable := rfl
@[simp] theorem setSlot_safe (s : State) (k : Nat) (x : Slot) : (s.setSlot k x).safe = s.safe := rfl
@[simp] theorem setSlot_tiles (s : State) (k : Nat) (x : Slot) : (s.setSlot k x).tiles = s.tiles := rfl
@[simp] theorem setSlot_movers (s : State) (k : Nat) (x : Slot) : (s.setSlot k x).movers = s.movers := rfl
@[simp] theorem setSlot_models (s : State) (k : Nat) (x : Slot) : (s.setSlot k x).models = s.models := rfl
@[simp] theorem setSlot_evicts (s : State) (k : Nat) (x : Slot) : (s.setSlot k x).evicts = s.evicts := rfl
@[simp] theorem setSlot_handles (s : State) (k : Nat) (x : Slot) : (s.setSlot k x).handles = s.handles := rfl
@[simp] theorem setSlot_queues (s : State) (k : Nat) (x : Slot) : (s.setSlot k x).queues = s.queues := rfl
@[simp] theorem setSlot_turns (s : State) (k : Nat) (x : Slot) : (s.setSlot k x).turns = s.turns := rfl
@[simp] theorem setSlot_keptQueues (s : State) (k : Nat) (x : Slot) : (s.setSlot k x).keptQueues = s.keptQueues := rfl
@[simp] theorem setSlot_pools (s : State) (k : Nat) (x : Slot) : (s.setSlot k x).pools = s.pools := rfl
@[simp] theorem setSlot_attns (s : State) (k : Nat) (x : Slot) : (s.setSlot k x).attns = s.attns := rfl
@[simp] theorem setSlot_pcie (s : State) (k : Nat) (x : Slot) : (s.setSlot k x).pcie = s.pcie := rfl
@[simp] theorem setSlot_caddy (s : State) (k : Nat) (x : Slot) : (s.setSlot k x).caddy = s.caddy := rfl
@[simp] theorem setSlot_uart (s : State) (k : Nat) (x : Slot) : (s.setSlot k x).uart = s.uart := rfl
@[simp] theorem setSlot_nor (s : State) (k : Nat) (x : Slot) : (s.setSlot k x).nor = s.nor := rfl
@[simp] theorem setSlot_netSent (s : State) (k : Nat) (x : Slot) : (s.setSlot k x).netSent = s.netSent := rfl
@[simp] theorem setSlot_tsu (s : State) (k : Nat) (x : Slot) : (s.setSlot k x).tsu = s.tsu := rfl
@[simp] theorem setSlot_str (s : State) (k : Nat) (x : Slot) : (s.setSlot k x).str = s.str := rfl
@[simp] theorem setSlot_lse (s : State) (k : Nat) (x : Slot) : (s.setSlot k x).lse = s.lse := rfl
@[simp] theorem setSlot_fusion (s : State) (k : Nat) (x : Slot) : (s.setSlot k x).fusion = s.fusion := rfl
@[simp] theorem setSlot_ports (s : State) (k : Nat) (x : Slot) : (s.setSlot k x).ports = s.ports := rfl
@[simp] theorem setSlot_loom (s : State) (k : Nat) (x : Slot) : (s.setSlot k x).loom = s.loom := rfl
@[simp] theorem setSlot_sec (s : State) (k : Nat) (x : Slot) : (s.setSlot k x).sec = s.sec := rfl
@[simp] theorem setSlot_sb (s : State) (k : Nat) (x : Slot) : (s.setSlot k x).sb = s.sb := rfl
@[simp] theorem setSlot_debugData (s : State) (k : Nat) (x : Slot) : (s.setSlot k x).debugData = s.debugData := rfl
@[simp] theorem setSlot_regDue (s : State) (k : Nat) (x : Slot) : (s.setSlot k x).regDue = s.regDue := rfl
@[simp] theorem setSlot_moverEvents (s : State) (k : Nat) (x : Slot) : (s.setSlot k x).moverEvents = s.moverEvents := rfl

@[simp] theorem setQueue_pending (s : State) (e q : Nat) (x : Queue) : (s.setQueue e q x).pending = s.pending := rfl
@[simp] theorem setQueue_freeCtr (s : State) (e q : Nat) (x : Queue) : (s.setQueue e q x).freeCtr = s.freeCtr := rfl
@[simp] theorem setQueue_upNs (s : State) (e q : Nat) (x : Queue) : (s.setQueue e q x).upNs = s.upNs := rfl
@[simp] theorem setQueue_resp (s : State) (e q : Nat) (x : Queue) : (s.setQueue e q x).resp = s.resp := rfl
@[simp] theorem setQueue_respData (s : State) (e q : Nat) (x : Queue) : (s.setQueue e q x).respData = s.respData := rfl
@[simp] theorem setQueue_regs (s : State) (e q : Nat) (x : Queue) : (s.setQueue e q x).regs = s.regs := rfl
@[simp] theorem setQueue_mem (s : State) (e q : Nat) (x : Queue) : (s.setQueue e q x).mem = s.mem := rfl
@[simp] theorem setQueue_synd (s : State) (e q : Nat) (x : Queue) : (s.setQueue e q x).synd = s.synd := rfl
@[simp] theorem setQueue_keyed (s : State) (e q : Nat) (x : Queue) : (s.setQueue e q x).keyed = s.keyed := rfl
@[simp] theorem setQueue_ward (s : State) (e q : Nat) (x : Queue) : (s.setQueue e q x).ward = s.ward := rfl
@[simp] theorem setQueue_park (s : State) (e q : Nat) (x : Queue) : (s.setQueue e q x).park = s.park := rfl
@[simp] theorem setQueue_power (s : State) (e q : Nat) (x : Queue) : (s.setQueue e q x).power = s.power := rfl
@[simp] theorem setQueue_img (s : State) (e q : Nat) (x : Queue) : (s.setQueue e q x).img = s.img := rfl
@[simp] theorem setQueue_gsk (s : State) (e q : Nat) (x : Queue) : (s.setQueue e q x).gsk = s.gsk := rfl
@[simp] theorem setQueue_enclD (s : State) (e q : Nat) (x : Queue) : (s.setQueue e q x).enclD = s.enclD := rfl
@[simp] theorem setQueue_enclS (s : State) (e q : Nat) (x : Queue) : (s.setQueue e q x).enclS = s.enclS := rfl
@[simp] theorem setQueue_weave (s : State) (e q : Nat) (x : Queue) : (s.setQueue e q x).weave = s.weave := rfl
@[simp] theorem setQueue_chans (s : State) (e q : Nat) (x : Queue) : (s.setQueue e q x).chans = s.chans := rfl
@[simp] theorem setQueue_tileRam (s : State) (e q : Nat) (x : Queue) : (s.setQueue e q x).tileRam = s.tileRam := rfl
@[simp] theorem setQueue_cmnRam (s : State) (e q : Nat) (x : Queue) : (s.setQueue e q x).cmnRam = s.cmnRam := rfl
@[simp] theorem setQueue_usable (s : State) (e q : Nat) (x : Queue) : (s.setQueue e q x).usable = s.usable := rfl
@[simp] theorem setQueue_safe (s : State) (e q : Nat) (x : Queue) : (s.setQueue e q x).safe = s.safe := rfl
@[simp] theorem setQueue_tiles (s : State) (e q : Nat) (x : Queue) : (s.setQueue e q x).tiles = s.tiles := rfl
@[simp] theorem setQueue_movers (s : State) (e q : Nat) (x : Queue) : (s.setQueue e q x).movers = s.movers := rfl
@[simp] theorem setQueue_models (s : State) (e q : Nat) (x : Queue) : (s.setQueue e q x).models = s.models := rfl
@[simp] theorem setQueue_slots (s : State) (e q : Nat) (x : Queue) : (s.setQueue e q x).slots = s.slots := rfl
@[simp] theorem setQueue_evicts (s : State) (e q : Nat) (x : Queue) : (s.setQueue e q x).evicts = s.evicts := rfl
@[simp] theorem setQueue_handles (s : State) (e q : Nat) (x : Queue) : (s.setQueue e q x).handles = s.handles := rfl
@[simp] theorem setQueue_turns (s : State) (e q : Nat) (x : Queue) : (s.setQueue e q x).turns = s.turns := rfl
@[simp] theorem setQueue_keptQueues (s : State) (e q : Nat) (x : Queue) : (s.setQueue e q x).keptQueues = s.keptQueues := rfl
@[simp] theorem setQueue_pools (s : State) (e q : Nat) (x : Queue) : (s.setQueue e q x).pools = s.pools := rfl
@[simp] theorem setQueue_attns (s : State) (e q : Nat) (x : Queue) : (s.setQueue e q x).attns = s.attns := rfl
@[simp] theorem setQueue_pcie (s : State) (e q : Nat) (x : Queue) : (s.setQueue e q x).pcie = s.pcie := rfl
@[simp] theorem setQueue_caddy (s : State) (e q : Nat) (x : Queue) : (s.setQueue e q x).caddy = s.caddy := rfl
@[simp] theorem setQueue_uart (s : State) (e q : Nat) (x : Queue) : (s.setQueue e q x).uart = s.uart := rfl
@[simp] theorem setQueue_nor (s : State) (e q : Nat) (x : Queue) : (s.setQueue e q x).nor = s.nor := rfl
@[simp] theorem setQueue_netSent (s : State) (e q : Nat) (x : Queue) : (s.setQueue e q x).netSent = s.netSent := rfl
@[simp] theorem setQueue_tsu (s : State) (e q : Nat) (x : Queue) : (s.setQueue e q x).tsu = s.tsu := rfl
@[simp] theorem setQueue_str (s : State) (e q : Nat) (x : Queue) : (s.setQueue e q x).str = s.str := rfl
@[simp] theorem setQueue_lse (s : State) (e q : Nat) (x : Queue) : (s.setQueue e q x).lse = s.lse := rfl
@[simp] theorem setQueue_fusion (s : State) (e q : Nat) (x : Queue) : (s.setQueue e q x).fusion = s.fusion := rfl
@[simp] theorem setQueue_ports (s : State) (e q : Nat) (x : Queue) : (s.setQueue e q x).ports = s.ports := rfl
@[simp] theorem setQueue_loom (s : State) (e q : Nat) (x : Queue) : (s.setQueue e q x).loom = s.loom := rfl
@[simp] theorem setQueue_sec (s : State) (e q : Nat) (x : Queue) : (s.setQueue e q x).sec = s.sec := rfl
@[simp] theorem setQueue_sb (s : State) (e q : Nat) (x : Queue) : (s.setQueue e q x).sb = s.sb := rfl
@[simp] theorem setQueue_debugData (s : State) (e q : Nat) (x : Queue) : (s.setQueue e q x).debugData = s.debugData := rfl
@[simp] theorem setQueue_regDue (s : State) (e q : Nat) (x : Queue) : (s.setQueue e q x).regDue = s.regDue := rfl
@[simp] theorem setQueue_moverEvents (s : State) (e q : Nat) (x : Queue) : (s.setQueue e q x).moverEvents = s.moverEvents := rfl

@[simp] theorem setKvPool_pending (s : State) (i : Nat) (x : Pool) : (s.setKvPool i x).pending = s.pending := rfl
@[simp] theorem setKvPool_freeCtr (s : State) (i : Nat) (x : Pool) : (s.setKvPool i x).freeCtr = s.freeCtr := rfl
@[simp] theorem setKvPool_upNs (s : State) (i : Nat) (x : Pool) : (s.setKvPool i x).upNs = s.upNs := rfl
@[simp] theorem setKvPool_resp (s : State) (i : Nat) (x : Pool) : (s.setKvPool i x).resp = s.resp := rfl
@[simp] theorem setKvPool_respData (s : State) (i : Nat) (x : Pool) : (s.setKvPool i x).respData = s.respData := rfl
@[simp] theorem setKvPool_regs (s : State) (i : Nat) (x : Pool) : (s.setKvPool i x).regs = s.regs := rfl
@[simp] theorem setKvPool_mem (s : State) (i : Nat) (x : Pool) : (s.setKvPool i x).mem = s.mem := rfl
@[simp] theorem setKvPool_synd (s : State) (i : Nat) (x : Pool) : (s.setKvPool i x).synd = s.synd := rfl
@[simp] theorem setKvPool_keyed (s : State) (i : Nat) (x : Pool) : (s.setKvPool i x).keyed = s.keyed := rfl
@[simp] theorem setKvPool_ward (s : State) (i : Nat) (x : Pool) : (s.setKvPool i x).ward = s.ward := rfl
@[simp] theorem setKvPool_park (s : State) (i : Nat) (x : Pool) : (s.setKvPool i x).park = s.park := rfl
@[simp] theorem setKvPool_power (s : State) (i : Nat) (x : Pool) : (s.setKvPool i x).power = s.power := rfl
@[simp] theorem setKvPool_img (s : State) (i : Nat) (x : Pool) : (s.setKvPool i x).img = s.img := rfl
@[simp] theorem setKvPool_gsk (s : State) (i : Nat) (x : Pool) : (s.setKvPool i x).gsk = s.gsk := rfl
@[simp] theorem setKvPool_enclD (s : State) (i : Nat) (x : Pool) : (s.setKvPool i x).enclD = s.enclD := rfl
@[simp] theorem setKvPool_enclS (s : State) (i : Nat) (x : Pool) : (s.setKvPool i x).enclS = s.enclS := rfl
@[simp] theorem setKvPool_weave (s : State) (i : Nat) (x : Pool) : (s.setKvPool i x).weave = s.weave := rfl
@[simp] theorem setKvPool_chans (s : State) (i : Nat) (x : Pool) : (s.setKvPool i x).chans = s.chans := rfl
@[simp] theorem setKvPool_tileRam (s : State) (i : Nat) (x : Pool) : (s.setKvPool i x).tileRam = s.tileRam := rfl
@[simp] theorem setKvPool_cmnRam (s : State) (i : Nat) (x : Pool) : (s.setKvPool i x).cmnRam = s.cmnRam := rfl
@[simp] theorem setKvPool_usable (s : State) (i : Nat) (x : Pool) : (s.setKvPool i x).usable = s.usable := rfl
@[simp] theorem setKvPool_safe (s : State) (i : Nat) (x : Pool) : (s.setKvPool i x).safe = s.safe := rfl
@[simp] theorem setKvPool_tiles (s : State) (i : Nat) (x : Pool) : (s.setKvPool i x).tiles = s.tiles := rfl
@[simp] theorem setKvPool_movers (s : State) (i : Nat) (x : Pool) : (s.setKvPool i x).movers = s.movers := rfl
@[simp] theorem setKvPool_models (s : State) (i : Nat) (x : Pool) : (s.setKvPool i x).models = s.models := rfl
@[simp] theorem setKvPool_slots (s : State) (i : Nat) (x : Pool) : (s.setKvPool i x).slots = s.slots := rfl
@[simp] theorem setKvPool_evicts (s : State) (i : Nat) (x : Pool) : (s.setKvPool i x).evicts = s.evicts := rfl
@[simp] theorem setKvPool_handles (s : State) (i : Nat) (x : Pool) : (s.setKvPool i x).handles = s.handles := rfl
@[simp] theorem setKvPool_queues (s : State) (i : Nat) (x : Pool) : (s.setKvPool i x).queues = s.queues := rfl
@[simp] theorem setKvPool_turns (s : State) (i : Nat) (x : Pool) : (s.setKvPool i x).turns = s.turns := rfl
@[simp] theorem setKvPool_keptQueues (s : State) (i : Nat) (x : Pool) : (s.setKvPool i x).keptQueues = s.keptQueues := rfl
@[simp] theorem setKvPool_attns (s : State) (i : Nat) (x : Pool) : (s.setKvPool i x).attns = s.attns := rfl
@[simp] theorem setKvPool_pcie (s : State) (i : Nat) (x : Pool) : (s.setKvPool i x).pcie = s.pcie := rfl
@[simp] theorem setKvPool_caddy (s : State) (i : Nat) (x : Pool) : (s.setKvPool i x).caddy = s.caddy := rfl
@[simp] theorem setKvPool_uart (s : State) (i : Nat) (x : Pool) : (s.setKvPool i x).uart = s.uart := rfl
@[simp] theorem setKvPool_nor (s : State) (i : Nat) (x : Pool) : (s.setKvPool i x).nor = s.nor := rfl
@[simp] theorem setKvPool_netSent (s : State) (i : Nat) (x : Pool) : (s.setKvPool i x).netSent = s.netSent := rfl
@[simp] theorem setKvPool_tsu (s : State) (i : Nat) (x : Pool) : (s.setKvPool i x).tsu = s.tsu := rfl
@[simp] theorem setKvPool_str (s : State) (i : Nat) (x : Pool) : (s.setKvPool i x).str = s.str := rfl
@[simp] theorem setKvPool_lse (s : State) (i : Nat) (x : Pool) : (s.setKvPool i x).lse = s.lse := rfl
@[simp] theorem setKvPool_fusion (s : State) (i : Nat) (x : Pool) : (s.setKvPool i x).fusion = s.fusion := rfl
@[simp] theorem setKvPool_ports (s : State) (i : Nat) (x : Pool) : (s.setKvPool i x).ports = s.ports := rfl
@[simp] theorem setKvPool_loom (s : State) (i : Nat) (x : Pool) : (s.setKvPool i x).loom = s.loom := rfl
@[simp] theorem setKvPool_sec (s : State) (i : Nat) (x : Pool) : (s.setKvPool i x).sec = s.sec := rfl
@[simp] theorem setKvPool_sb (s : State) (i : Nat) (x : Pool) : (s.setKvPool i x).sb = s.sb := rfl
@[simp] theorem setKvPool_debugData (s : State) (i : Nat) (x : Pool) : (s.setKvPool i x).debugData = s.debugData := rfl
@[simp] theorem setKvPool_regDue (s : State) (i : Nat) (x : Pool) : (s.setKvPool i x).regDue = s.regDue := rfl
@[simp] theorem setKvPool_moverEvents (s : State) (i : Nat) (x : Pool) : (s.setKvPool i x).moverEvents = s.moverEvents := rfl

/-! ### Reading back -/

theorem reg_setReg (s : State) (k j : Nat) (w : Word) : (s.setReg k w).reg j = if j = k then w else s.reg j := by
  unfold reg setReg
  split
  · rename_i h; subst h; exact SMap.get_set_same ..
  · rename_i h; exact SMap.get_set_other _ _ _ _ h
@[simp] theorem reg_setReg_same (s : State) (k : Nat) (w : Word) : (s.setReg k w).reg k = w := by simp [reg_setReg]
theorem reg_setReg_other (s : State) {k j : Nat} (w : Word) (h : j ≠ k) : (s.setReg k w).reg j = s.reg j := by simp [reg_setReg, h]
@[simp] theorem reg_respond (s : State) (r : Status) (d k : Nat) : (s.respond r d).reg k = s.reg k := rfl

/-- A byte just stored is read back; every other byte is as before. -/
theorem rd_wr (s : State) (a b : Nat) (x : Byte) : (s.wr a x).rd b = if b = a then x else s.rd b := by
  unfold rd wr; exact SMap.get_set ..

theorem tile_setTile (s : State) (t u : Nat) (x : Tile) : (s.setTile t x).tile u = if u = t then x else s.tile u := by
  unfold tile setTile; exact SMap.get_set ..
theorem gasket_setGasket (s : State) (g h : Nat) (x : Gasket) : (s.setGasket g x).gasket h = if h = g then x else s.gasket h := by
  unfold gasket setGasket; exact SMap.get_set ..
theorem chan_setChan (s : State) (m n : Nat) (x : Chan) : (s.setChan m x).chan n = if n = m then x else s.chan n := by
  unfold chan setChan; exact SMap.get_set ..
theorem slot_setSlot (s : State) (k j : Nat) (x : Slot) : (s.setSlot k x).slot j = if j = k then x else s.slot j := by
  unfold slot setSlot; exact SMap.get_set ..
theorem model_setModel (s : State) (m n : Nat) (x : Model) : (s.setModel m x).model n = if n = m then x else s.model n := by
  unfold model setModel; exact SMap.get_set ..
theorem kvPool_setKvPool (s : State) (i j : Nat) (x : Pool) : (s.setKvPool i x).kvPool j = if j = i then x else s.kvPool j := by
  unfold kvPool setKvPool; exact SMap.get_set ..
@[simp] theorem mchan_setMchan (s : State) (m c : Nat) (x : MChan) : (s.setMchan m c x).mchan m c = x := by
  unfold mchan setMchan; exact SMap.get_set_same ..
@[simp] theorem queue_setQueue (s : State) (e q : Nat) (x : Queue) : (s.setQueue e q x).queue e q = x := by
  unfold queue setQueue; exact SMap.get_set_same ..

/-! ### The canonical form of memory -/

theorem wf_wr (s : State) (a : Nat) (b : Byte) (h : SMap.wf memDefault s.mem = true) : SMap.wf memDefault (s.wr a b).mem = true :=
  SMap.wf_set _ _ _ _ h

theorem wf_wrBytes (s : State) (a : Nat) (bs : List Byte) (h : SMap.wf memDefault s.mem = true) :
    SMap.wf memDefault (s.wrBytes a bs).mem = true := by
  induction bs generalizing s a with
  | nil => exact h
  | cons b bs ih => exact ih _ _ (wf_wr _ _ _ h)

theorem wf_wrNat (s : State) (a n v : Nat) (h : SMap.wf memDefault s.mem = true) :
    SMap.wf memDefault (s.wrNat a n v).mem = true := wf_wrBytes _ _ _ h

theorem wf_zeroRange (s : State) (lo hi : Nat) (h : SMap.wf memDefault s.mem = true) :
    SMap.wf memDefault (s.zeroRange lo hi).mem = true := SMap.wf_filter _ _ _ h

/-- The memory of the reset state is in canonical form. -/
theorem wf_reset : SMap.wf memDefault reset.mem = true := rfl

/-- A run of stored bytes leaves every byte outside it alone. -/
theorem rd_wrBytes_outside (s : State) (a : Nat) (bs : List Byte) (b : Nat) (h : b < a ∨ a + bs.length ≤ b) :
    (s.wrBytes a bs).rd b = s.rd b := by
  induction bs generalizing s a with
  | nil => rfl
  | cons x bs ih =>
    simp only [List.length_cons] at h
    unfold wrBytes
    rw [ih _ _ (by omega), rd_wr, if_neg (by omega)]

/-- A run of stored bytes is read back. -/
theorem rdBytes_wrBytes (s : State) (a : Nat) (bs : List Byte) : (s.wrBytes a bs).rdBytes a bs.length = bs := by
  induction bs generalizing s a with
  | nil => rfl
  | cons x bs ih =>
    simp only [List.length_cons, rdBytes, wrBytes]
    rw [rd_wrBytes_outside _ _ _ _ (by omega), rd_wr, if_pos rfl, ih]

/-! ### Entries -/

theorem find?_map_seq (l : List Entry) (n : Nat) (f : Entry → Entry) (hf : ∀ y, (f y).seq = y.seq) :
    (l.map fun y => if y.seq = n then f y else y).find? (·.seq = n) = (l.find? (·.seq = n)).map f := by
  induction l with
  | nil => rfl
  | cons y l ih =>
    by_cases h : y.seq = n
    · simp [h, hf]
    · simp [h, ih]

/-- The entry changed is the entry found. -/
theorem entry_modEntry (s : State) (r : EntryRef) (f : Entry → Entry) (hf : ∀ y, (f y).seq = y.seq) :
    (s.modEntry r f).entry r = (s.entry r).map f := by
  unfold modEntry entry
  dsimp only
  rw [queue_setQueue]
  exact find?_map_seq _ _ _ hf

/-- An operation that had not ended ends with what `endEntry` is given. -/
theorem entry_endEntry (s : State) (r : EntryRef) (d : Ending) :
    (s.endEntry r d).entry r = (s.entry r).map fun y => if y.ending.isSome then y else { y with ending := some d, endNs := s.upNs } :=
  entry_modEntry _ _ _ fun y => by split <;> rfl

theorem running_eq {s : State} {r : EntryRef} {c o : Nat} {y : Entry} (h : s.running r c o = some y) :
    s.entry r = some y ∧ y.started = true ∧ y.ending = none ∧ y.cls = c ∧ y.op = o := by
  unfold running at h
  split at h
  · rename_i z hz
    split at h
    · rename_i hc
      cases h
      exact ⟨hz, hc.1, by simpa using hc.2.1, hc.2.2.1, hc.2.2.2⟩
    · cases h
  · cases h

/-- A running operation that finishes has ended with the code and RESULT. -/
theorem entry_finish {s : State} {r : EntryRef} {c o : Nat} {y : Entry} (h : s.running r c o = some y) (st : Status) (k : Nat) :
    ∃ z d, (s.finish r st k).entry r = some z ∧ z.ending = some d ∧ d.status = st ∧ d.result = k := by
  obtain ⟨he, _, hn, _⟩ := running_eq h
  unfold finish
  rw [he]
  dsimp only
  rw [entry_endEntry, he]
  simp [hn]

end Sys2Proof.Machine.State
end

