-- ==== Sys2Proof/Laws/Cmd.lean ====
section
/-! SUPPORT. What the shared operations of commands do: a register command that reaches its register, and one a state set
admits or refuses. -/

namespace Sys2Proof.Machine.State

open Sys2Proof.Machine

/-- A register command that passes the gate answers what the register's own rule gives. -/
theorem regCmd_admitted {s : State} {who : Requester} {op : WOp} {k : Nat} {f : State → Status × Nat × State}
    (h : s.regGate who op k true = none) : s.regCmd who op k f = (f s).2.2.respond (f s).1 (f s).2.1 := by
  unfold regCmd; rw [h]

/-- One that the gate stops answers the gate's code. -/
theorem regCmd_stopped {s t : State} {who : Requester} {op : WOp} {k : Nat} {f : State → Status × Nat × State} {st : Status}
    (h : s.regGate who op k true = some (st, t)) : s.regCmd who op k f = t.respond st 0 := by
  unfold regCmd; rw [h]

theorem inStates_admitted {s : State} {who : Requester} {k : Nat} {w : WSet} {acts : Bool} {f : State → Status × Nat × State}
    (h : w.has s.ward.st = true) : s.inStates who k w acts f = f s := by
  unfold inStates; rw [if_pos (Or.inr (Or.inr h))]

/-- A request reaches no register unless register space answers. -/
theorem answers_of_gate {s : State} {who : Requester} {op : WOp} {k : Nat} {al : Bool} (h : s.regGate who op k al = none) :
    s.answers = true := by
  cases ho : s.answers
  · simp [regGate, ho] at h
  · rfl

/-- A state in which register space answers is in the state set of a register writable in all of them. -/
theorem all_of_answers {s : State} (h : s.answers = true) : WSet.all.has s.ward.st = true := by
  revert h; unfold answers; cases s.ward.st <;> simp [WSet.has]

/-- An entry that runs is in flight, started, not ended, of its class and operation. -/
theorem running_entry {s : State} {r : EntryRef} {c o : Nat} {y : Entry} (h : s.running r c o = some y) :
    s.entry r = some y ∧ y.started = true ∧ y.ending = none ∧ y.cls = c ∧ y.op = o := by
  unfold running at h
  split at h
  · split at h
    · rename_i z hz hc; cases h; exact ⟨hz, hc.1, by simpa using hc.2.1, hc.2.2⟩
    · cases h
  · cases h

end Sys2Proof.Machine.State
end

