-- ==== Sys2Proof/Laws/Kept.lean ====
section
/-! SUPPORT. What a command keeps: the queue, the boot flash and the fuses, and how folds and branches keep them. -/

namespace Sys2Proof.Machine

open State

/-- What only UPDATE and the FUSE commands may change, and what no command changes: the boot flash, the fuses, the queue. -/
def kept (s : State) : List Instr × List (Nat × Byte) × Fuses := (s.pending, s.nor, s.sec.fuses)
/-- The same of an outcome. -/
def outKept (o : Out) : List Instr × List (Nat × Byte) × Fuses := match o with | .next t => kept t | _ => ([], [], {})

@[simp] theorem outKept_next (t : State) : outKept (.next t) = kept t := by cases t; rfl

@[simp] theorem kept_fold (s : State) : (s.pending, s.nor, s.sec.fuses) = kept s := by cases s; rfl

@[simp] theorem kept_mk : ∀ v0 v1 v2 v3 v4 v5 v6 v7 v8 v9 v10 v11 v12 v13 v14 v15 v16 v17 v18 v19 v20 v21 v22 v23 v24 v25 v26 v27 v28 v29 v30 v31 v32 v33 v34 v35 v36 v37 v38 v39 v40 v41 v42 v43 v44 v45 v46 v47 v48, kept ⟨v0, v1, v2, v3, v4, v5, v6, v7, v8, v9, v10, v11, v12, v13, v14, v15, v16, v17, v18, v19, v20, v21, v22, v23, v24, v25, v26, v27, v28, v29, v30, v31, v32, v33, v34, v35, v36, v37, v38, v39, v40, v41, v42, v43, v44, v45, v46, v47, v48⟩ = (v0, v38, v46.fuses) := by intros; rfl

theorem foldl_kept {α} (f : State → α → State) (l : List α) (s : State) (h : ∀ t a, kept (f t a) = kept t) : kept (l.foldl f s) = kept s := by
  induction l generalizing s with
  | nil => rfl
  | cons a l ih => rw [List.foldl, ih, h]

theorem foldl_kept2 {α β} (f : β × State → α → β × State) (l : List α) (s : β × State) (h : ∀ t a, kept (f t a).2 = kept t.2) : kept (l.foldl f s).2 = kept s.2 := by
  induction l generalizing s with
  | nil => rfl
  | cons a l ih => rw [List.foldl, ih, h]

theorem foldl_kept22 {α β γ} (f : β × γ × State → α → β × γ × State) (l : List α) (s : β × γ × State) (h : ∀ t a, kept (f t a).2.2 = kept t.2.2) : kept (l.foldl f s).2.2 = kept s.2.2 := by
  induction l generalizing s with
  | nil => rfl
  | cons a l ih => rw [List.foldl, ih, h]

theorem foldl_kept222 {α β γ δ} (f : β × γ × δ × State → α → β × γ × δ × State) (l : List α) (s : β × γ × δ × State) (h : ∀ t a, kept (f t a).2.2.2 = kept t.2.2.2) : kept (l.foldl f s).2.2.2 = kept s.2.2.2 := by
  induction l generalizing s with
  | nil => rfl
  | cons a l ih => rw [List.foldl, ih, h]

theorem of_pair {α : Type} {x : α × State} {a : α} {t s : State} (h : x = (a, t)) (hk : kept x.2 = kept s) : kept t = kept s := by subst h; exact hk

theorem of_trip {α β : Type} {x : α × β × State} {a : α} {b : β} {t s : State} (h : x = (a, b, t)) (hk : kept x.2.2 = kept s) : kept t = kept s := by subst h; exact hk

@[simp] theorem ite_snd {c : Prop} [Decidable c] {β γ} (a b : β × γ) : (if c then a else b).2 = if c then a.2 else b.2 := by split <;> rfl

@[simp] theorem ite_fst {c : Prop} [Decidable c] {β γ} (a b : β × γ) : (if c then a else b).1 = if c then a.1 else b.1 := by split <;> rfl

@[simp] theorem kept_ite {c : Prop} [Decidable c] (a b : State) : kept (if c then a else b) = if c then kept a else kept b := by split <;> rfl

@[simp] theorem outKept_ite {c : Prop} [Decidable c] (a b : Out) : outKept (if c then a else b) = if c then outKept a else outKept b := by split <;> rfl

end Sys2Proof.Machine
end

