-- ==== Sys2Proof/Laws/KeptMem.lean ====
section
/-! SUPPORT. The operations on memory, registers, requests and tiles keep the queue, the boot flash and the fuses. -/

set_option linter.unusedSimpArgs false

namespace Sys2Proof.Machine

open State

@[simp] theorem State.setReg_kept (s : State) (k : Nat) (w : Word) : kept (State.setReg s k w) = kept s := by simp [State.setReg]

@[simp] theorem State.setFld_kept (s : State) (k : Nat) (hi : Nat) (lo : Nat) (v : Nat) : kept (State.setFld s k hi lo v) = kept s := by simp [State.setFld]

@[simp] theorem State.bumpBy_kept (s : State) (k : Nat) (hi : Nat) (lo : Nat) (n : Nat) : kept (State.bumpBy s k hi lo n) = kept s := by simp [State.bumpBy]

@[simp] theorem State.bump_kept (s : State) (k : Nat) (hi : Nat) (lo : Nat) : kept (State.bump s k hi lo) = kept s := by simp [State.bump]

@[simp] theorem State.draw_kept (s : State) : kept (State.draw s).2 = kept s := by simp [State.draw]

@[simp] theorem State.drawBytes_kept (s : State) (n : Nat) : kept (State.drawBytes s n).2 = kept s := by simp [State.drawBytes]

@[simp] theorem State.wr_kept (s : State) (a : Nat) (b : Byte) : kept (State.wr s a b) = kept s := by simp [State.wr]

@[simp] theorem State.wrBytes_kept (s : State) (a : Nat) (a2 : List Byte) : kept (State.wrBytes s a a2) = kept s := by
  induction a2 generalizing s a with
  | nil => rfl
  | cons b bs ih => unfold wrBytes; rw [ih, wr_kept]

@[simp] theorem State.wrNat_kept (s : State) (a : Nat) (n : Nat) (v : Nat) : kept (State.wrNat s a n v) = kept s := by simp [State.wrNat]

@[simp] theorem State.zeroRange_kept (s : State) (lo : Nat) (hi : Nat) : kept (State.zeroRange s lo hi) = kept s := by simp [State.zeroRange]

@[simp] theorem State.setGasket_kept (s : State) (g : Nat) (x : Gasket) : kept (State.setGasket s g x) = kept s := by simp [State.setGasket]

@[simp] theorem State.modGasket_kept (s : State) (g : Nat) (f : Gasket → Gasket) : kept (State.modGasket s g f) = kept s := by simp [State.modGasket]

@[simp] theorem State.setChan_kept (s : State) (m : Nat) (x : Chan) : kept (State.setChan s m x) = kept s := by simp [State.setChan]

@[simp] theorem State.modChan_kept (s : State) (m : Nat) (f : Chan → Chan) : kept (State.modChan s m f) = kept s := by simp [State.modChan]

@[simp] theorem State.setTram_kept (s : State) (t : Nat) (x : Sram) : kept (State.setTram s t x) = kept s := by simp [State.setTram]

@[simp] theorem State.setCram_kept (s : State) (k : Nat) (x : Sram) : kept (State.setCram s k x) = kept s := by simp [State.setCram]

@[simp] theorem State.setTile_kept (s : State) (t : Nat) (x : Tile) : kept (State.setTile s t x) = kept s := by simp [State.setTile]

@[simp] theorem State.modTile_kept (s : State) (t : Nat) (f : Tile → Tile) : kept (State.modTile s t f) = kept s := by simp [State.modTile]

@[simp] theorem State.setMchan_kept (s : State) (m : Nat) (c : Nat) (x : MChan) : kept (State.setMchan s m c x) = kept s := by simp [State.setMchan]

@[simp] theorem State.modMchan_kept (s : State) (m : Nat) (c : Nat) (f : MChan → MChan) : kept (State.modMchan s m c f) = kept s := by simp [State.modMchan]

@[simp] theorem State.setModel_kept (s : State) (m : Nat) (x : Model) : kept (State.setModel s m x) = kept s := by simp [State.setModel]

@[simp] theorem State.setSlot_kept (s : State) (k : Nat) (x : Slot) : kept (State.setSlot s k x) = kept s := by simp [State.setSlot]

@[simp] theorem State.modSlot_kept (s : State) (k : Nat) (f : Slot → Slot) : kept (State.modSlot s k f) = kept s := by simp [State.modSlot]

@[simp] theorem State.setQueue_kept (s : State) (e : Nat) (q : Nat) (x : Queue) : kept (State.setQueue s e q x) = kept s := by simp [State.setQueue]

@[simp] theorem State.setKvPool_kept (s : State) (i : Nat) (x : Pool) : kept (State.setKvPool s i x) = kept s := by simp [State.setKvPool]

@[simp] theorem State.post_kept (s : State) (r : Report) : kept (State.post s r) = kept s := by simp [State.post]

@[simp] theorem State.setEncl_kept (s : State) (e : Nat) (x : Encl) : kept (State.setEncl s e x) = kept s := by simp [State.setEncl]

@[simp] theorem State.raise_kept (s : State) (v : Nat) : kept (State.raise s v) = kept s := by simp [State.raise]

@[simp] theorem State.respond_kept (s : State) (st : Status) (data : Nat) : kept (State.respond s st data) = kept s := by simp [State.respond]

@[simp] theorem State.refuse_kept (s : State) (c : CmdClass) (src : ReqSource) (g : Guard) (encl : Nat) : kept (State.refuse s c src g encl) = kept s := by simp [State.refuse]

@[simp] theorem State.sysErr_kept (s : State) (kind : Nat) (key : Nat) (tag : Nat) : kept (State.sysErr s kind key tag) = kept s := by simp [State.sysErr]

theorem State.action_kept (s : State) (k : Nat) (w : WSet) (f : State → State) (h_f : ∀ y0, kept (f y0) = kept y0) : kept (State.action s k w f) = kept s := by simp [State.action, h_f]

@[simp] theorem State.sbEvent_kept (s : State) (i : Nat) : kept (State.sbEvent s i) = kept s := by simp [State.sbEvent]

@[simp] theorem State.sbBusy_kept (s : State) (ns : Nat) : kept (State.sbBusy s ns) = kept s := by simp [State.sbBusy]

@[simp] theorem State.goto_kept (s : State) (st : DevState) (causes : Nat) : kept (State.goto s st causes) = kept s := by simp [State.goto]

@[simp] theorem State.absorb_kept (s : State) (causes : Nat) : kept (State.absorb s causes) = kept s := by simp [State.absorb]

@[simp] theorem State.setSynd_kept (s : State) (u : Nat) (x : Nat) : kept (State.setSynd s u x) = kept s := by simp [State.setSynd]

@[simp] theorem State.setListOf_kept (s : State) (p : Place) (l : List Nat) : kept (State.setListOf s p l) = kept s := by
  unfold State.setListOf
  (repeat' split) <;> simp

@[simp] theorem State.arrayOverflow_kept (s : State) (p : Place) (u : Nat) : kept (State.arrayOverflow s p u) = kept s := by
  unfold State.arrayOverflow
  (repeat' split) <;> simp

@[simp] theorem State.touchCode_kept (s : State) (p : Place) (u : Nat) : kept (State.touchCode s p u) = kept s := by
  unfold State.touchCode
  (repeat' split) <;> simp

@[simp] theorem State.poisonUnit_kept (s : State) (p : Place) (u : Nat) : kept (State.poisonUnit s p u) = kept s := by simp [State.poisonUnit]

@[simp] theorem State.setKeyed_kept (s : State) (u : Nat) (key : Nat) : kept (State.setKeyed s u key) = kept s := by simp [State.setKeyed]

@[simp] theorem State.rekey_kept (s : State) (p : Place) (u : Nat) (key : Nat) : kept (State.rekey s p u key) = kept s := by simp [State.rekey]

@[simp] theorem State.goodUnit_kept (s : State) (p : Place) (u : Nat) : kept (State.goodUnit s p u) = kept s := by simp [State.goodUnit]

@[simp] theorem State.flipBit_kept (s : State) (u : Nat) (i : Nat) : kept (State.flipBit s u i) = kept s := by simp [State.flipBit]

@[simp] theorem State.applyUpset_kept (s : State) (p : Place) (x : Upset) : kept (State.applyUpset s p x) = kept s := by
  unfold State.applyUpset
  try dsimp only
  all_goals repeat' first
    | (with_reducible rfl)
    | (simp only [outKept_next, kept_mk, kept_fold, ite_snd, ite_fst, kept_ite, outKept_ite, ite_self, foldl_kept, foldl_kept2, foldl_kept22, foldl_kept222, implies_true, State.rekey_kept, State.setSynd_kept, State.flipBit_kept, State.bump_kept]; done)
    | split
    | (refine (foldl_kept _ _ _ ?_).trans ?_ <;> intros)
    | (refine (foldl_kept2 _ _ _ ?_).trans ?_ <;> intros)
    | (refine (foldl_kept22 _ _ _ ?_).trans ?_ <;> intros)
    | (refine (foldl_kept222 _ _ _ ?_).trans ?_ <;> intros)
    | (simp only [outKept_next, kept_mk, kept_fold, ite_snd, ite_fst, kept_ite, outKept_ite, ite_self, foldl_kept, foldl_kept2, foldl_kept22, foldl_kept222, implies_true, State.rekey_kept, State.setSynd_kept, State.flipBit_kept, State.bump_kept])
    | (refine of_pair (by assumption) ?_)
    | (refine of_trip (by assumption) ?_)

@[simp] theorem State.ceEvent_kept (s : State) (m : Nat) : kept (State.ceEvent s m) = kept s := by simp [State.ceEvent]

@[simp] theorem State.logEvent.sramEvent_kept (s : State) (cnt : Nat) (log : Nat) (w : Nat) (synd : Nat) (e : EccEvent) : kept (State.logEvent.sramEvent s cnt log w synd e) = kept s := by simp [State.logEvent.sramEvent]

@[simp] theorem State.logEvent_kept (s : State) (p : Place) (u : Nat) (tag : Nat) (e : EccEvent) : kept (State.logEvent s p u tag e) = kept s := by
  unfold State.logEvent
  (repeat' split) <;> simp

@[simp] theorem State.correctUnit_kept (s : State) (p : Place) (u : Nat) (bit : Nat) : kept (State.correctUnit s p u bit) = kept s := by simp [State.correctUnit]

@[simp] theorem State.readUnit_kept (s : State) (p : Place) (u : Nat) (key : Nat) (tag : Nat) (linkUe : Bool) : kept (State.readUnit s p u key tag linkUe).2.2 = kept s := by
  unfold State.readUnit
  (repeat' split) <;> simp

@[simp] theorem State.reached_kept (s : State) (u : Nat) (v : Nat) : kept (State.reached s u v) = kept s := by simp [State.reached]

@[simp] theorem State.found_kept (s : State) (p : Place) (ups : List Upset) (u : Nat) : kept (State.found s p ups u) = kept s := by
  unfold State.found
  try dsimp only
  all_goals repeat' first
    | (with_reducible rfl)
    | (simp only [outKept_next, kept_mk, kept_fold, ite_snd, ite_fst, kept_ite, outKept_ite, ite_self, foldl_kept, foldl_kept2, foldl_kept22, foldl_kept222, implies_true, State.reached_kept]; done)
    | split
    | (refine (foldl_kept _ _ _ ?_).trans ?_ <;> intros)
    | (refine (foldl_kept2 _ _ _ ?_).trans ?_ <;> intros)
    | (refine (foldl_kept22 _ _ _ ?_).trans ?_ <;> intros)
    | (refine (foldl_kept222 _ _ _ ?_).trans ?_ <;> intros)
    | (simp only [outKept_next, kept_mk, kept_fold, ite_snd, ite_fst, kept_ite, outKept_ite, ite_self, foldl_kept, foldl_kept2, foldl_kept22, foldl_kept222, implies_true, State.reached_kept])
    | (refine of_pair (by assumption) ?_)
    | (refine of_trip (by assumption) ?_)

@[simp] theorem State.readUnitAt_kept (s : State) (p : Place) (ups : List Upset) (u : Nat) (key : Nat) (tag : Nat) (linkUe : Bool) : kept (State.readUnitAt s p ups u key tag linkUe).2.2 = kept s := by
  unfold State.readUnitAt
  try dsimp only
  all_goals repeat' first
    | (with_reducible rfl)
    | (simp only [outKept_next, kept_mk, kept_fold, ite_snd, ite_fst, kept_ite, outKept_ite, ite_self, foldl_kept, foldl_kept2, foldl_kept22, foldl_kept222, implies_true, State.found_kept, State.readUnit_kept]; done)
    | split
    | (refine (foldl_kept _ _ _ ?_).trans ?_ <;> intros)
    | (refine (foldl_kept2 _ _ _ ?_).trans ?_ <;> intros)
    | (refine (foldl_kept22 _ _ _ ?_).trans ?_ <;> intros)
    | (refine (foldl_kept222 _ _ _ ?_).trans ?_ <;> intros)
    | (simp only [outKept_next, kept_mk, kept_fold, ite_snd, ite_fst, kept_ite, outKept_ite, ite_self, foldl_kept, foldl_kept2, foldl_kept22, foldl_kept222, implies_true, State.found_kept, State.readUnit_kept])
    | (refine of_pair (by assumption) ?_)
    | (refine of_trip (by assumption) ?_)

@[simp] theorem State.settleLost_kept (s : State) (p : Place) (us : List Nat) : kept (State.settleLost s p us) = kept s := by
  unfold State.settleLost
  try dsimp only
  all_goals repeat' first
    | (with_reducible rfl)
    | (simp only [outKept_next, kept_mk, kept_fold, ite_snd, ite_fst, kept_ite, outKept_ite, ite_self, foldl_kept, foldl_kept2, foldl_kept22, foldl_kept222, implies_true, State.drawBytes_kept, State.draw_kept, State.modChan_kept, State.setSynd_kept, State.setKeyed_kept, State.wrBytes_kept]; done)
    | split
    | (refine (foldl_kept _ _ _ ?_).trans ?_ <;> intros)
    | (refine (foldl_kept2 _ _ _ ?_).trans ?_ <;> intros)
    | (refine (foldl_kept22 _ _ _ ?_).trans ?_ <;> intros)
    | (refine (foldl_kept222 _ _ _ ?_).trans ?_ <;> intros)
    | (simp only [outKept_next, kept_mk, kept_fold, ite_snd, ite_fst, kept_ite, outKept_ite, ite_self, foldl_kept, foldl_kept2, foldl_kept22, foldl_kept222, implies_true, State.drawBytes_kept, State.draw_kept, State.modChan_kept, State.setSynd_kept, State.setKeyed_kept, State.wrBytes_kept])
    | (refine of_pair (by assumption) ?_)
    | (refine of_trip (by assumption) ?_)

@[simp] theorem State.applyUpsets_kept (s : State) (p : Place) (us : List Nat) (ups : List Upset) : kept (State.applyUpsets s p us ups) = kept s := by
  unfold State.applyUpsets
  try dsimp only
  all_goals repeat' first
    | (with_reducible rfl)
    | (simp only [outKept_next, kept_mk, kept_fold, ite_snd, ite_fst, kept_ite, outKept_ite, ite_self, foldl_kept, foldl_kept2, foldl_kept22, foldl_kept222, implies_true, State.applyUpset_kept, State.settleLost_kept]; done)
    | split
    | (refine (foldl_kept _ _ _ ?_).trans ?_ <;> intros)
    | (refine (foldl_kept2 _ _ _ ?_).trans ?_ <;> intros)
    | (refine (foldl_kept22 _ _ _ ?_).trans ?_ <;> intros)
    | (refine (foldl_kept222 _ _ _ ?_).trans ?_ <;> intros)
    | (simp only [outKept_next, kept_mk, kept_fold, ite_snd, ite_fst, kept_ite, outKept_ite, ite_self, foldl_kept, foldl_kept2, foldl_kept22, foldl_kept222, implies_true, State.applyUpset_kept, State.settleLost_kept])
    | (refine of_pair (by assumption) ?_)
    | (refine of_trip (by assumption) ?_)

@[simp] theorem State.memReadP_kept (s : State) (a : Nat) (len : Nat) (key : Nat) (tag : Nat) (ups : List Upset) : kept (State.memReadP s a len key tag ups).2.2.2 = kept s := by
  unfold State.memReadP
  try dsimp only
  all_goals repeat' first
    | (with_reducible rfl)
    | (simp only [outKept_next, kept_mk, kept_fold, ite_snd, ite_fst, kept_ite, outKept_ite, ite_self, foldl_kept, foldl_kept2, foldl_kept22, foldl_kept222, implies_true, State.applyUpsets_kept, State.readUnitAt_kept]; done)
    | split
    | (refine (foldl_kept _ _ _ ?_).trans ?_ <;> intros)
    | (refine (foldl_kept2 _ _ _ ?_).trans ?_ <;> intros)
    | (refine (foldl_kept22 _ _ _ ?_).trans ?_ <;> intros)
    | (refine (foldl_kept222 _ _ _ ?_).trans ?_ <;> intros)
    | (simp only [outKept_next, kept_mk, kept_fold, ite_snd, ite_fst, kept_ite, outKept_ite, ite_self, foldl_kept, foldl_kept2, foldl_kept22, foldl_kept222, implies_true, State.applyUpsets_kept, State.readUnitAt_kept])
    | (refine of_pair (by assumption) ?_)
    | (refine of_trip (by assumption) ?_)

@[simp] theorem State.memRead_kept (s : State) (a : Nat) (len : Nat) (key : Nat) (tag : Nat) (ups : List Upset) : kept (State.memRead s a len key tag ups).2.2 = kept s := by simp [State.memRead]

@[simp] theorem State.merge_kept (s : State) (p : Place) (u : Nat) (key : Nat) (a : Nat) (bs : List Byte) : kept (State.merge s p u key a bs) = kept s := by simp [State.merge]

@[simp] theorem State.writeUnit_kept (s : State) (p : Place) (u : Nat) (key : Nat) (a : Nat) (bs : List Byte) (pw : Bool) (tag : Nat) (linkUe : Bool) : kept (State.writeUnit s p u key a bs pw tag linkUe).2 = kept s := by
  simp only [State.writeUnit]
  (repeat' split) <;> simp

@[simp] theorem State.memWriteP_kept (s : State) (a : Nat) (bs : List Byte) (mask : List Bool) (key tag : Nat) (ups : List Upset) :
    kept (s.memWriteP a bs mask key tag ups).2 = kept s := by
  unfold memWriteP
  dsimp only
  refine (foldl_kept2 _ _ _ fun t u => ?_).trans ?_
  · dsimp only; split <;> simp
  · simp

@[simp] theorem State.memWrite_kept (s : State) (a : Nat) (bs : List Byte) (pw : Bool) (key : Nat) (tag : Nat) (ups : List Upset) : kept (State.memWrite s a bs pw key tag ups).2 = kept s := by simp [State.memWrite]

@[simp] theorem State.memAtomic_kept (s : State) (a : Nat) (size : Nat) (key : Nat) (tag : Nat) (ups : List Upset) (f : Nat → Status × List Byte × Option Nat) : kept (State.memAtomic s a size key tag ups f).2.2 = kept s := by
  simp only [State.memAtomic]
  (repeat' split) <;> simp

@[simp] theorem State.regStore_kept (s : State) (k : Nat) (v : Word) (tag : Nat) (free : Bool) : kept (State.regStore s k v tag free).1 = kept s := by
  unfold State.regStore
  (repeat' split) <;> simp

@[simp] theorem State.regRead_kept (s : State) (k : Nat) : kept (State.regRead s k).2 = kept s := by simp [State.regRead]

@[simp] theorem State.setBport_kept (s : State) (p : Nat) (x : Brikel) : kept (State.setBport s p x) = kept s := by simp [State.setBport]

@[simp] theorem State.modBport_kept (s : State) (p : Nat) (f : Brikel → Brikel) : kept (State.modBport s p f) = kept s := by simp [State.modBport]

@[simp] theorem State.setSession_kept (s : State) (k : Nat) (x : Session) : kept (State.setSession s k x) = kept s := by simp [State.setSession]

@[simp] theorem State.dropSession_kept (s : State) (k : Nat) : kept (State.dropSession s k) = kept s := by simp [State.dropSession]

@[simp] theorem State.setLink_kept (s : State) (via : Nat) (x : LinkLayer) : kept (State.setLink s via x) = kept s := by
  unfold State.setLink
  (repeat' split) <;> simp

@[simp] theorem State.sendPkt_kept (s : State) (via : Nat) (p : Pkt) : kept (State.sendPkt s via p) = kept s := by
  simp only [State.sendPkt]
  (repeat' split) <;> simp

theorem State.openSession_kept {s : State} {peer : Nat} {x : Nat × State} (h : State.openSession s peer = some x) : kept x.2 = kept s := by
  unfold openSession at h
  split at h
  · cases h; rfl
  · split at h
    · cases h
    · cases h; rfl

theorem State.viaOf_kept {s : State} {a : Route} {x : Nat × State} (h : State.viaOf s a = some x) : kept x.2 = kept s := by
  unfold viaOf at h
  split at h
  · cases h; rfl
  · rename_i n
    have ho : ∀ y, s.openSession n = some y → kept y.2 = kept s := fun _ => openSession_kept
    revert ho h
    generalize s.openSession n = o
    intro h ho
    cases o with
    | none => cases h
    | some y => cases h; exact ho y rfl
  · cases h

@[simp] theorem State.raisePartition_kept (s : State) (tag : Nat) (gsk : Nat) : kept (State.raisePartition s tag gsk) = kept s := by simp [State.raisePartition]

@[simp] theorem State.deny_kept (s : State) (tag : Nat) (gsk : Nat) (op : Nat) (reason : Nat) (addr : Nat) (fault : Bool) : kept (State.deny s tag gsk op reason addr fault) = kept s := by simp [State.deny]

@[simp] theorem State.respDone_kept (s : State) (q : WReq) (st : Status) (d : List Byte) : kept (State.respDone s q st d) = kept s := by simp [State.respDone]

@[simp] theorem State.classRefuse_kept (s : State) (who : Requester) (op : WOp) (b : Nat) (addr : Nat) : kept (State.classRefuse s who op b addr) = kept s := by simp [State.classRefuse]

@[simp] theorem State.endCommons_kept (s : State) (a : Nat) (seized : Bool) : kept (State.endCommons s a seized) = kept s := by simp [State.endCommons]

@[simp] theorem State.commonsGone_kept (s : State) : kept (State.commonsGone s) = kept s := by
  unfold State.commonsGone
  try dsimp only
  all_goals repeat' first
    | (with_reducible rfl)
    | (simp only [outKept_next, kept_mk, kept_fold, ite_snd, ite_fst, kept_ite, outKept_ite, ite_self, foldl_kept, foldl_kept2, foldl_kept22, foldl_kept222, implies_true, State.endCommons_kept]; done)
    | split
    | (refine (foldl_kept _ _ _ ?_).trans ?_ <;> intros)
    | (refine (foldl_kept2 _ _ _ ?_).trans ?_ <;> intros)
    | (refine (foldl_kept22 _ _ _ ?_).trans ?_ <;> intros)
    | (refine (foldl_kept222 _ _ _ ?_).trans ?_ <;> intros)
    | (simp only [outKept_next, kept_mk, kept_fold, ite_snd, ite_fst, kept_ite, outKept_ite, ite_self, foldl_kept, foldl_kept2, foldl_kept22, foldl_kept222, implies_true, State.endCommons_kept])
    | (refine of_pair (by assumption) ?_)
    | (refine of_trip (by assumption) ?_)

@[simp] theorem State.commonsTick_kept (s : State) : kept (State.commonsTick s) = kept s := by
  unfold State.commonsTick
  try dsimp only
  all_goals repeat' first
    | (with_reducible rfl)
    | (simp only [outKept_next, kept_mk, kept_fold, ite_snd, ite_fst, kept_ite, outKept_ite, ite_self, foldl_kept, foldl_kept2, foldl_kept22, foldl_kept222, implies_true, State.endCommons_kept]; done)
    | split
    | (refine (foldl_kept _ _ _ ?_).trans ?_ <;> intros)
    | (refine (foldl_kept2 _ _ _ ?_).trans ?_ <;> intros)
    | (refine (foldl_kept22 _ _ _ ?_).trans ?_ <;> intros)
    | (refine (foldl_kept222 _ _ _ ?_).trans ?_ <;> intros)
    | (simp only [outKept_next, kept_mk, kept_fold, ite_snd, ite_fst, kept_ite, outKept_ite, ite_self, foldl_kept, foldl_kept2, foldl_kept22, foldl_kept222, implies_true, State.endCommons_kept])
    | (refine of_pair (by assumption) ?_)
    | (refine of_trip (by assumption) ?_)

theorem State.regGate_kept {s : State} {who : Requester} {op : WOp} {k : Nat} {al : Bool} {p : Status × State} (h : State.regGate s who op k al = some p) : kept p.2 = kept s := by
  unfold regGate at h
  dsimp only at h
  repeat' (first | split at h | (cases h))
  all_goals first | rfl | exact deny_kept .. | exact classRefuse_kept .. | exact sysErr_kept ..

@[simp] theorem State.loomEngine_kept (s : State) (who : Requester) (opc addr len : Nat) (d : List Byte) (answer : Status × List Byte) :
    kept (s.loomEngine who opc addr len d answer).2.2 = kept s := by
  unfold loomEngine
  dsimp only
  split
  · rfl
  · split
    · rfl
    · cases hv : s.viaOf (s.routeTo (nodeOf addr)) with
      | none => dsimp only; split <;> simp
      | some x => have := viaOf_kept hv; dsimp only; split <;> simpa using this

@[simp] theorem State.pcieEngine_kept (s : State) (answer : Status × List Byte) : kept (State.pcieEngine s answer).2.2 = kept s := by simp [State.pcieEngine]

@[simp] theorem State.countPeak_kept (s : State) (who : Requester) (p : Place) : kept (State.countPeak s who p) = kept s := by simp [State.countPeak]

@[simp] theorem State.zeroThrough_kept (s : State) (who : Requester) (lo : Nat) (hi : Nat) : kept (State.zeroThrough s who lo hi) = kept s := by
  unfold State.zeroThrough
  try dsimp only
  all_goals repeat' first
    | (with_reducible rfl)
    | (simp only [outKept_next, kept_mk, kept_fold, ite_snd, ite_fst, kept_ite, outKept_ite, ite_self, foldl_kept, foldl_kept2, foldl_kept22, foldl_kept222, implies_true, State.zeroRange_kept, State.setKeyed_kept]; done)
    | split
    | (refine (foldl_kept _ _ _ ?_).trans ?_ <;> intros)
    | (refine (foldl_kept2 _ _ _ ?_).trans ?_ <;> intros)
    | (refine (foldl_kept22 _ _ _ ?_).trans ?_ <;> intros)
    | (refine (foldl_kept222 _ _ _ ?_).trans ?_ <;> intros)
    | (simp only [outKept_next, kept_mk, kept_fold, ite_snd, ite_fst, kept_ite, outKept_ite, ite_self, foldl_kept, foldl_kept2, foldl_kept22, foldl_kept222, implies_true, State.zeroRange_kept, State.setKeyed_kept])
    | (refine of_pair (by assumption) ?_)
    | (refine of_trip (by assumption) ?_)

@[simp] theorem State.privRead_kept (s : State) (a : Nat) (len : Nat) : kept (State.privRead s a len).2.2 = kept s := by simp [State.privRead]

@[simp] theorem State.privWrite_kept (s : State) (a : Nat) (bs : List Byte) : kept (State.privWrite s a bs) = kept s := by simp [State.privWrite]

@[simp] theorem State.masked_kept (x : Status × List Byte × State) : kept (State.masked x).2.2.2 = kept x.2.2 := by simp [State.masked]

@[simp] theorem State.flitLost_kept (s : State) (tag : Nat) (router : Nat) : kept (State.flitLost s tag router) = kept s := by simp [State.flitLost]

@[simp] theorem State.passRead_kept (s : State) (who : Requester) (addr len : Nat) (ext : List ExtData) (ups : List Upset) :
    kept (s.passRead who addr len ext ups).2.2.2 = kept s := by
  unfold passRead masked
  dsimp only
  split
  · simp
  · split
    · split
      · rename_i h; exact regGate_kept h
      · simp
    · simp
    · split
      · rfl
      · split
        · simp
        · split
          · simp
          · rfl

@[simp] theorem State.requestP_kept (s : State) (who : Requester) (addr : Nat) (len : Nat) (ext : List ExtData) (ups : List Upset) : kept (State.requestP s who addr len ext ups).2.2.2 = kept s := by
  simp only [State.requestP]
  (repeat' split) <;> simp

@[simp] theorem State.passWrite_kept (s : State) (who : Requester) (addr : Nat) (bs : List Byte) (mask : List Bool) (ext : List ExtData)
    (ups : List Upset) : kept (s.passWrite who addr bs mask ext ups).2 = kept s := by
  unfold passWrite
  dsimp only
  split
  · simp
  · split
    · split
      · rename_i h; exact regGate_kept h
      · simp
    · simp
    · split
      · rfl
      · split
        · split <;> simp
        · split
          · simp
          · rfl

@[simp] theorem State.requestWriteP_kept (s : State) (who : Requester) (addr : Nat) (bs : List Byte) (mask : List Bool) (ext : List ExtData) (ups : List Upset) : kept (State.requestWriteP s who addr bs mask ext ups).2 = kept s := by
  simp only [State.requestWriteP]
  (repeat' split) <;> simp

@[simp] theorem State.readRunP_kept (s : State) (who : Requester) (addr : Nat) (n : Nat) (ext : List ExtData) (ups : List Upset) : kept (State.readRunP s who addr n ext ups).2.2.2 = kept s := by
  unfold State.readRunP
  try dsimp only
  all_goals repeat' first
    | (with_reducible rfl)
    | (simp only [outKept_next, kept_mk, kept_fold, ite_snd, ite_fst, kept_ite, outKept_ite, ite_self, foldl_kept, foldl_kept2, foldl_kept22, foldl_kept222, implies_true, State.requestP_kept]; done)
    | split
    | (refine (foldl_kept _ _ _ ?_).trans ?_ <;> intros)
    | (refine (foldl_kept2 _ _ _ ?_).trans ?_ <;> intros)
    | (refine (foldl_kept22 _ _ _ ?_).trans ?_ <;> intros)
    | (refine (foldl_kept222 _ _ _ ?_).trans ?_ <;> intros)
    | (simp only [outKept_next, kept_mk, kept_fold, ite_snd, ite_fst, kept_ite, outKept_ite, ite_self, foldl_kept, foldl_kept2, foldl_kept22, foldl_kept222, implies_true, State.requestP_kept])
    | (refine of_pair (by assumption) ?_)
    | (refine of_trip (by assumption) ?_)

@[simp] theorem State.readRun_kept (s : State) (who : Requester) (addr : Nat) (n : Nat) (ext : List ExtData) (ups : List Upset) : kept (State.readRun s who addr n ext ups).2.2 = kept s := by simp [State.readRun]

@[simp] theorem State.writeRunP_kept (s : State) (who : Requester) (addr : Nat) (bs : List Byte) (mask : List Bool) (ext : List ExtData) (ups : List Upset) : kept (State.writeRunP s who addr bs mask ext ups).2 = kept s := by
  unfold State.writeRunP
  try dsimp only
  all_goals repeat' first
    | (with_reducible rfl)
    | (simp only [outKept_next, kept_mk, kept_fold, ite_snd, ite_fst, kept_ite, outKept_ite, ite_self, foldl_kept, foldl_kept2, foldl_kept22, foldl_kept222, implies_true, State.requestWriteP_kept]; done)
    | split
    | (refine (foldl_kept _ _ _ ?_).trans ?_ <;> intros)
    | (refine (foldl_kept2 _ _ _ ?_).trans ?_ <;> intros)
    | (refine (foldl_kept22 _ _ _ ?_).trans ?_ <;> intros)
    | (refine (foldl_kept222 _ _ _ ?_).trans ?_ <;> intros)
    | (simp only [outKept_next, kept_mk, kept_fold, ite_snd, ite_fst, kept_ite, outKept_ite, ite_self, foldl_kept, foldl_kept2, foldl_kept22, foldl_kept222, implies_true, State.requestWriteP_kept])
    | (refine of_pair (by assumption) ?_)
    | (refine of_trip (by assumption) ?_)

@[simp] theorem State.writeRun_kept (s : State) (who : Requester) (addr : Nat) (bs : List Byte) (ext : List ExtData) (ups : List Upset) : kept (State.writeRun s who addr bs ext ups).2 = kept s := by simp [State.writeRun]

@[simp] theorem State.modEntry_kept (s : State) (r : EntryRef) (f : Entry → Entry) : kept (State.modEntry s r f) = kept s := by simp [State.modEntry]

@[simp] theorem State.endEntry_kept (s : State) (r : EntryRef) (e : Ending) : kept (State.endEntry s r e) = kept s := by simp [State.endEntry]

@[simp] theorem State.finish_kept (s : State) (r : EntryRef) (st : Status) (result : Nat) : kept (State.finish s r st result) = kept s := by
  unfold State.finish
  (repeat' split) <;> simp

@[simp] theorem State.contribute_kept (s : State) (r : EntryRef) (st : Status) (validity : Nat) (fp : Nat) (wrote : Bool) : kept (State.contribute s r st validity fp wrote) = kept s := by simp [State.contribute]

@[simp] theorem State.endAll_kept (s : State) (e : Nat) (st : Status) : kept (State.endAll s e st) = kept s := by
  unfold State.endAll
  try dsimp only
  all_goals repeat' first
    | (with_reducible rfl)
    | (simp only [outKept_next, kept_mk, kept_fold, ite_snd, ite_fst, kept_ite, outKept_ite, ite_self, foldl_kept, foldl_kept2, foldl_kept22, foldl_kept222, implies_true, State.setQueue_kept]; done)
    | split
    | (refine (foldl_kept _ _ _ ?_).trans ?_ <;> intros)
    | (refine (foldl_kept2 _ _ _ ?_).trans ?_ <;> intros)
    | (refine (foldl_kept22 _ _ _ ?_).trans ?_ <;> intros)
    | (refine (foldl_kept222 _ _ _ ?_).trans ?_ <;> intros)
    | (simp only [outKept_next, kept_mk, kept_fold, ite_snd, ite_fst, kept_ite, outKept_ite, ite_self, foldl_kept, foldl_kept2, foldl_kept22, foldl_kept222, implies_true, State.setQueue_kept])
    | (refine of_pair (by assumption) ?_)
    | (refine of_trip (by assumption) ?_)

@[simp] theorem State.elapse_kept (s : State) (n : Nat) : kept (State.elapse s n) = kept s := by simp [State.elapse]

@[simp] theorem State.elapseTo_kept (s : State) (t : Nat) : kept (State.elapseTo s t) = kept s := by simp [State.elapseTo]

@[simp] theorem State.elapseToTsu_kept (s : State) (t : Nat) : kept (State.elapseToTsu s t) = kept s := by simp [State.elapseToTsu]

@[simp] theorem State.tsramRead_kept (s : State) (t : Nat) (off : Nat) (n : Nat) (ups : List Upset) : kept (State.tsramRead s t off n ups).2 = kept s := by simp [State.tsramRead]

@[simp] theorem State.tsramWriteP_kept (s : State) (t : Nat) (off : Nat) (bs : List Byte) (mask : List Bool) (ups : List Upset) : kept (State.tsramWriteP s t off bs mask ups) = kept s := by simp [State.tsramWriteP]

@[simp] theorem State.tsramWrite_kept (s : State) (t : Nat) (off : Nat) (bs : List Byte) (ups : List Upset) : kept (State.tsramWrite s t off bs ups) = kept s := by simp [State.tsramWrite]

@[simp] theorem State.fpFlags_kept (s : State) (t : Nat) (fl : Nat) : kept (State.fpFlags s t fl) = kept s := by simp [State.fpFlags]

@[simp] theorem State.proofDrain_kept (s : State) (t : Nat) (acc : Nat) (b : Bank) (flips : List (Nat × Nat)) : kept (State.proofDrain s t acc b flips).2 = kept s := by
  unfold State.proofDrain
  try dsimp only
  all_goals repeat' first
    | (with_reducible rfl)
    | (simp only [outKept_next, kept_mk, kept_fold, ite_snd, ite_fst, kept_ite, outKept_ite, ite_self, foldl_kept, foldl_kept2, foldl_kept22, foldl_kept222, implies_true, State.setTile_kept, State.bump_kept, State.setReg_kept, State.post_kept]; done)
    | split
    | (refine (foldl_kept _ _ _ ?_).trans ?_ <;> intros)
    | (refine (foldl_kept2 _ _ _ ?_).trans ?_ <;> intros)
    | (refine (foldl_kept22 _ _ _ ?_).trans ?_ <;> intros)
    | (refine (foldl_kept222 _ _ _ ?_).trans ?_ <;> intros)
    | (simp only [outKept_next, kept_mk, kept_fold, ite_snd, ite_fst, kept_ite, outKept_ite, ite_self, foldl_kept, foldl_kept2, foldl_kept22, foldl_kept222, implies_true, State.setTile_kept, State.bump_kept, State.setReg_kept, State.post_kept])
    | (refine of_pair (by assumption) ?_)
    | (refine of_trip (by assumption) ?_)

@[simp] theorem State.drain_kept (s : State) (t : Nat) (op : TeOp) (flips : List (Nat × Nat)) : kept (State.drain s t op flips) = kept s := by
  simp only [State.drain]
  (repeat' split) <;> simp

@[simp] theorem State.teRun_kept (s : State) (t : Nat) (op : TeOp) (ups : List Upset) (flips : List (Nat × Nat)) : kept (State.teRun s t op ups flips) = kept s := by
  unfold State.teRun
  try dsimp only
  all_goals repeat' first
    | (with_reducible rfl)
    | (simp only [outKept_next, kept_mk, kept_fold, ite_snd, ite_fst, kept_ite, outKept_ite, ite_self, foldl_kept, foldl_kept2, foldl_kept22, foldl_kept222, implies_true, State.tsramRead_kept, State.fpFlags_kept, State.setTile_kept, State.drain_kept]; done)
    | split
    | (refine (foldl_kept _ _ _ ?_).trans ?_ <;> intros)
    | (refine (foldl_kept2 _ _ _ ?_).trans ?_ <;> intros)
    | (refine (foldl_kept22 _ _ _ ?_).trans ?_ <;> intros)
    | (refine (foldl_kept222 _ _ _ ?_).trans ?_ <;> intros)
    | (simp only [outKept_next, kept_mk, kept_fold, ite_snd, ite_fst, kept_ite, outKept_ite, ite_self, foldl_kept, foldl_kept2, foldl_kept22, foldl_kept222, implies_true, State.tsramRead_kept, State.fpFlags_kept, State.setTile_kept, State.drain_kept])
    | (refine of_pair (by assumption) ?_)
    | (refine of_trip (by assumption) ?_)

@[simp] theorem State.residueMismatch_kept (s : State) (t : Nat) (cls : Nat) (lane : Nat) : kept (State.residueMismatch s t cls lane) = kept s := by simp [State.residueMismatch]

@[simp] theorem State.readLane_kept (s : State) (t : Nat) (r : Nat) (l : Nat) (flips : List (Nat × Nat × Nat)) : kept (State.readLane s t r l flips).2 = kept s := by simp [State.readLane]

@[simp] theorem State.putLane_kept (s : State) (t : Nat) (r : Nat) (l : Nat) (v : Nat) : kept (State.putLane s t r l v) = kept s := by simp [State.putLane]

@[simp] theorem State.vuRun_kept (s0 : State) (t : Nat) (op : VuOp) (ups : List Upset) (regFlips : List (Nat × Nat × Nat)) (pathFlips : List (Nat × Nat)) : kept (State.vuRun s0 t op ups regFlips pathFlips) = kept s0 := by
  unfold State.vuRun
  try dsimp only
  all_goals repeat' first
    | (with_reducible rfl)
    | (simp only [outKept_next, kept_mk, kept_fold, ite_snd, ite_fst, kept_ite, outKept_ite, ite_self, foldl_kept, foldl_kept2, foldl_kept22, foldl_kept222, implies_true, State.putLane_kept, State.readLane_kept, State.modTile_kept, State.tsramRead_kept, State.tsramWrite_kept, State.fpFlags_kept, State.residueMismatch_kept, State.draw_kept]; done)
    | split
    | (refine (foldl_kept _ _ _ ?_).trans ?_ <;> intros)
    | (refine (foldl_kept2 _ _ _ ?_).trans ?_ <;> intros)
    | (refine (foldl_kept22 _ _ _ ?_).trans ?_ <;> intros)
    | (refine (foldl_kept222 _ _ _ ?_).trans ?_ <;> intros)
    | (simp only [outKept_next, kept_mk, kept_fold, ite_snd, ite_fst, kept_ite, outKept_ite, ite_self, foldl_kept, foldl_kept2, foldl_kept22, foldl_kept222, implies_true, State.putLane_kept, State.readLane_kept, State.modTile_kept, State.tsramRead_kept, State.tsramWrite_kept, State.fpFlags_kept, State.residueMismatch_kept, State.draw_kept])
    | (refine of_pair (by assumption) ?_)
    | (refine of_trip (by assumption) ?_)

@[simp] theorem State.postKernel_kept (s : State) (t : Nat) (st : Status) : kept (State.postKernel s t st) = kept s := by
  simp only [State.postKernel]
  (repeat' split) <;> simp

@[simp] theorem State.unstall_kept (s : State) (t : Nat) : kept (State.unstall s t) = kept s := by simp [State.unstall]

@[simp] theorem State.tileStop_kept (s : State) (t : Nat) (st : Status) : kept (State.tileStop s t st) = kept s := by
  simp only [State.tileStop]
  (repeat' split) <;> simp

@[simp] theorem State.kernelEnds_kept (s0 : State) (t : Nat) : kept (State.kernelEnds s0 t) = kept s0 := by simp [State.kernelEnds]

@[simp] theorem State.doSwitch_kept (s : State) (t : Nat) : kept (State.doSwitch s t) = kept s := by simp [State.doSwitch]

@[simp] theorem State.trySwitch_kept (s : State) (t : Nat) : kept (State.trySwitch s t) = kept s := by
  simp only [State.trySwitch]
  (repeat' split) <;> simp

@[simp] theorem execKernelLaunch_kept (t : Nat) (k : Nat) (r : EntryRef) (entry : Nat) (w0 : Nat) (w0Len : Nat) (w1 : Nat) (w1Len : Nat) (model : Nat) (budgetUs : Nat) (fills : List FillSpec) (s : State) : outKept (execKernelLaunch t k r entry w0 w0Len w1 w1Len model budgetUs fills s) = kept s := by
  unfold execKernelLaunch
  (repeat' split) <;> simp

@[simp] theorem execTeOperation_kept (t : Nat) (op : TeOp) (upsets : List Upset) (accFlips : List (Nat × Nat)) (s : State) : outKept (execTeOperation t op upsets accFlips s) = kept s := by simp [execTeOperation]

@[simp] theorem execVuInstruction_kept (t : Nat) (op : VuOp) (upsets : List Upset) (regFlips : List (Nat × Nat × Nat)) (pathFlips : List (Nat × Nat)) (s : State) : outKept (execVuInstruction t op upsets regFlips pathFlips s) = kept s := by simp [execVuInstruction]

@[simp] theorem execFence_kept (t : Nat) (s : State) : outKept (execFence t s) = kept s := by simp [execFence]

@[simp] theorem execFencePf_kept (t : Nat) (s : State) : outKept (execFencePf t s) = kept s := by simp [execFencePf]

@[simp] theorem execBufferSwitch_kept (t : Nat) (next : List FillSpec) (s : State) : outKept (execBufferSwitch t next s) = kept s := by simp [execBufferSwitch]

@[simp] theorem execFillComplete_kept (t : Nat) (ext : List ExtData) (upsets : List Upset) (s : State) : outKept (execFillComplete t ext upsets s) = kept s := by
  simp only [execFillComplete]
  (repeat' split) <;> simp

@[simp] theorem execKernelComplete_kept (t : Nat) (s : State) : outKept (execKernelComplete t s) = kept s := by simp [execKernelComplete]

@[simp] theorem execKernelBudgetExpiry_kept (t : Nat) (s : State) : outKept (execKernelBudgetExpiry t s) = kept s := by
  unfold execKernelBudgetExpiry; split <;> simp [elapseTo, elapse]

@[simp] theorem execKernelAbort_kept (t : Nat) (s : State) : outKept (execKernelAbort t s) = kept s := by simp [execKernelAbort]

@[simp] theorem execAbortDrained_kept (t : Nat) (s : State) : outKept (execAbortDrained t s) = kept s := by simp [execAbortDrained]

@[simp] theorem execTileCntClrProof_kept (t : Nat) (s : State) : outKept (execTileCntClrProof t s) = kept s := by simp [execTileCntClrProof, State.action_kept]

@[simp] theorem execTileCntClrVu_kept (t : Nat) (s : State) : outKept (execTileCntClrVu t s) = kept s := by simp [execTileCntClrVu, State.action_kept]

@[simp] theorem execTileCntClrPf_kept (t : Nat) (s : State) : outKept (execTileCntClrPf t s) = kept s := by simp [execTileCntClrPf, State.action_kept]

@[simp] theorem execTileCntClrBank_kept (t : Nat) (s : State) : outKept (execTileCntClrBank t s) = kept s := by simp [execTileCntClrBank, State.action_kept]

end Sys2Proof.Machine
end

