-- ==== Sys2Proof/Laws/KeptKv.lean ====
section
/-! SUPPORT. The operations on the KV pools and the attention operators keep the queue, the boot flash and the fuses. -/

set_option linter.unusedSimpArgs false

namespace Sys2Proof.Machine

open State

/-- A program over the working copy leaves what is kept as it was. -/
structure KvKept {α : Type} (m : KvM α) : Prop where
  h : ∀ x : KvSt, kept ((m.run).run x).2.s = kept x.s

theorem KvKept.pure {α : Type} (a : α) : KvKept (pure a : KvM α) := ⟨fun _ => rfl⟩

theorem KvKept.throw {α : Type} (e : Status) : KvKept (throw e : KvM α) := ⟨fun _ => rfl⟩

theorem KvKept.bind {α β : Type} {m : KvM α} {f : α → KvM β} (hm : KvKept m) (hf : ∀ a, KvKept (f a)) : KvKept (m >>= f) := by
  refine ⟨fun x => ?_⟩
  have h := hm.h x
  show kept (((ExceptT.bindCont f =<< m.run : StateM KvSt _)).run x).2.s = _
  cases hx : (m.run).run x with
  | mk r y =>
    rw [hx] at h
    have e : ((ExceptT.bindCont f =<< m.run : StateM KvSt (Except Status β)).run x) = (ExceptT.bindCont f r).run y := by
      show (do let p ← m.run.run x; (ExceptT.bindCont f p.1).run p.2 : Id _) = _
      rw [hx]; rfl
    rw [e]
    cases r with
    | ok a => exact ((hf a).h y).trans h
    | error st => exact h

theorem KvKept.modify {f : KvSt → KvSt} (h : ∀ x, kept (f x).s = kept x.s) : KvKept (modify f : KvM Unit) := ⟨fun x => h x⟩

theorem KvKept.get : KvKept (get : KvM KvSt) := ⟨fun _ => rfl⟩

theorem KvKept.get_bind {β : Type} {f : KvSt → KvM β} (hf : ∀ x, kept (((f x).run).run x).2.s = kept x.s) : KvKept ((MonadState.get : KvM KvSt) >>= f) := ⟨fun x => hf x⟩

theorem KvKept.set_bind {β : Type} {x y : KvSt} {m : Unit → KvM β} (hx : kept y.s = kept x.s) (hm : ∀ u, KvKept (m u)) :
    kept ((((MonadStateOf.set y : KvM PUnit) >>= m).run).run x).2.s = kept x.s := ((hm ()).h y).trans hx

theorem KvKept.foldlM {α β : Type} {f : β → α → KvM β} {l : List α} {b : β} (h : ∀ b a, KvKept (f b a)) : KvKept (l.foldlM f b) := by
  induction l generalizing b with
  | nil => exact .pure b
  | cons a l ih => rw [List.foldlM_cons]; exact .bind (h b a) fun b => ih

theorem KvKept.mapM {α β : Type} {f : α → KvM β} {l : List α} (h : ∀ a, KvKept (f a)) : KvKept (l.mapM f) := by
  induction l with
  | nil => exact .pure []
  | cons a l ih => rw [List.mapM_cons]; exact .bind (h a) fun b => .bind ih fun _ => .pure _

theorem KvKept.forIn {α β : Type} {f : α → β → KvM (ForInStep β)} {l : List α} {b : β} (h : ∀ a b, KvKept (f a b)) : KvKept (forIn l b f) := by
  induction l generalizing b with
  | nil => exact .pure b
  | cons a l ih =>
    rw [List.forIn_cons]
    refine .bind (h a b) fun r => ?_
    cases r with
    | done b => exact .pure b
    | yield b => exact ih

theorem foldl_kept_of {α β} (g : β → State) (f : β → α → β) (l : List α) (b : β) (h : ∀ t a, kept (g (f t a)) = kept (g t)) :
    kept (g (l.foldl f b)) = kept (g b) := by
  induction l generalizing b with
  | nil => rfl
  | cons a l ih => rw [List.foldl, ih, h]

namespace KvM

theorem bytes_kept (v : KvEnv) (a n : Nat) : KvKept (bytes v a n) := by
  unfold bytes
  refine .get_bind fun x => ?_
  dsimp only
  refine KvKept.set_bind (readRun_kept ..) fun _ => ?_
  split
  · exact .pure _
  · exact .throw _

theorem pageBytes_kept (v : KvEnv) (a n : Nat) : KvKept (pageBytes v a n) := by
  unfold pageBytes
  refine .get_bind fun x => ?_
  dsimp only
  refine KvKept.set_bind (readRun_kept ..) fun _ => ?_
  split
  · exact .pure _
  · exact .throw _

theorem writeRows_kept (v : KvEnv) (a : Nat) (bs : List Byte) (mask : List Bool) : KvKept (writeRows v a bs mask) := by
  unfold writeRows
  refine .get_bind fun x => ?_
  dsimp only
  refine KvKept.set_bind (writeRunP_kept ..) fun _ => ?_
  split
  · exact .pure _
  · exact .throw _

theorem word_kept (v : KvEnv) (a : Nat) : KvKept (word v a) := by
  unfold word
  try dsimp only
  all_goals (repeat' (first | (with_reducible_and_instances exact .pure _) | (with_reducible_and_instances exact .throw _) | (with_reducible_and_instances exact .get) | (with_reducible exact bytes_kept ..) | (with_reducible refine KvKept.get_bind fun _ => ?_; (try dsimp only); refine KvKept.set_bind (by simp only [readRunP_kept, stageCheck_kept, setReg_kept, draw_kept]) fun _ => ?_) | (with_reducible refine .bind ?_ fun _ => ?_) | (with_reducible refine .mapM fun _ => ?_) | (with_reducible refine .foldlM fun _ _ => ?_) | (with_reducible refine .forIn fun _ _ => ?_) | (with_reducible refine .modify fun _ => ?_) | (with_reducible exact bumpBy_kept ..) | (with_reducible exact zeroRange_kept ..) | split | (with_reducible rfl)))

theorem put_kept (a w : Nat) : KvKept (put a w) := by
  unfold put
  try dsimp only
  all_goals (repeat' (first | (with_reducible_and_instances exact .pure _) | (with_reducible_and_instances exact .throw _) | (with_reducible_and_instances exact .get) | (with_reducible refine KvKept.get_bind fun _ => ?_; (try dsimp only); refine KvKept.set_bind (by simp only [readRunP_kept, stageCheck_kept, setReg_kept, draw_kept]) fun _ => ?_) | (with_reducible refine .bind ?_ fun _ => ?_) | (with_reducible refine .mapM fun _ => ?_) | (with_reducible refine .foldlM fun _ _ => ?_) | (with_reducible refine .forIn fun _ _ => ?_) | (with_reducible refine .modify fun _ => ?_) | (with_reducible exact bumpBy_kept ..) | (with_reducible exact zeroRange_kept ..) | split | (with_reducible rfl)))

theorem word2_kept (v : KvEnv) (a : Nat) : KvKept (word2 v a) := by
  unfold word2
  try dsimp only
  all_goals (repeat' (first | (with_reducible_and_instances exact .pure _) | (with_reducible_and_instances exact .throw _) | (with_reducible_and_instances exact .get) | (with_reducible exact word_kept ..) | (with_reducible refine KvKept.get_bind fun _ => ?_; (try dsimp only); refine KvKept.set_bind (by simp only [readRunP_kept, stageCheck_kept, setReg_kept, draw_kept]) fun _ => ?_) | (with_reducible refine .bind ?_ fun _ => ?_) | (with_reducible refine .mapM fun _ => ?_) | (with_reducible refine .foldlM fun _ _ => ?_) | (with_reducible refine .forIn fun _ _ => ?_) | (with_reducible refine .modify fun _ => ?_) | (with_reducible exact bumpBy_kept ..) | (with_reducible exact zeroRange_kept ..) | split | (with_reducible rfl)))

theorem put2_kept (a w : Nat) : KvKept (put2 a w) := by
  unfold put2
  try dsimp only
  all_goals (repeat' (first | (with_reducible_and_instances exact .pure _) | (with_reducible_and_instances exact .throw _) | (with_reducible_and_instances exact .get) | (with_reducible exact put_kept ..) | (with_reducible refine KvKept.get_bind fun _ => ?_; (try dsimp only); refine KvKept.set_bind (by simp only [readRunP_kept, stageCheck_kept, setReg_kept, draw_kept]) fun _ => ?_) | (with_reducible refine .bind ?_ fun _ => ?_) | (with_reducible refine .mapM fun _ => ?_) | (with_reducible refine .foldlM fun _ _ => ?_) | (with_reducible refine .forIn fun _ _ => ?_) | (with_reducible refine .modify fun _ => ?_) | (with_reducible exact bumpBy_kept ..) | (with_reducible exact zeroRange_kept ..) | split | (with_reducible rfl)))

theorem pool_kept  : KvKept pool := by
  unfold pool
  try dsimp only
  all_goals (repeat' (first | (with_reducible_and_instances exact .pure _) | (with_reducible_and_instances exact .throw _) | (with_reducible_and_instances exact .get) | (with_reducible refine KvKept.get_bind fun _ => ?_; (try dsimp only); refine KvKept.set_bind (by simp only [readRunP_kept, stageCheck_kept, setReg_kept, draw_kept]) fun _ => ?_) | (with_reducible refine .bind ?_ fun _ => ?_) | (with_reducible refine .mapM fun _ => ?_) | (with_reducible refine .foldlM fun _ _ => ?_) | (with_reducible refine .forIn fun _ _ => ?_) | (with_reducible refine .modify fun _ => ?_) | (with_reducible exact bumpBy_kept ..) | (with_reducible exact zeroRange_kept ..) | split | (with_reducible rfl)))

theorem setPool_kept (f : Pool → Pool) : KvKept (setPool f) := by
  unfold setPool
  try dsimp only
  all_goals (repeat' (first | (with_reducible_and_instances exact .pure _) | (with_reducible_and_instances exact .throw _) | (with_reducible_and_instances exact .get) | (with_reducible exact pool_kept ..) | (with_reducible refine KvKept.get_bind fun _ => ?_; (try dsimp only); refine KvKept.set_bind (by simp only [readRunP_kept, stageCheck_kept, setReg_kept, draw_kept]) fun _ => ?_) | (with_reducible refine .bind ?_ fun _ => ?_) | (with_reducible refine .mapM fun _ => ?_) | (with_reducible refine .foldlM fun _ _ => ?_) | (with_reducible refine .forIn fun _ _ => ?_) | (with_reducible refine .modify fun _ => ?_) | (with_reducible exact bumpBy_kept ..) | (with_reducible exact zeroRange_kept ..) | split | (with_reducible rfl)))

theorem count_kept (k hi lo n : Nat) : KvKept (count k hi lo n) := by
  unfold count
  try dsimp only
  all_goals (repeat' (first | (with_reducible_and_instances exact .pure _) | (with_reducible_and_instances exact .throw _) | (with_reducible_and_instances exact .get) | (with_reducible refine KvKept.get_bind fun _ => ?_; (try dsimp only); refine KvKept.set_bind (by simp only [readRunP_kept, stageCheck_kept, setReg_kept, draw_kept]) fun _ => ?_) | (with_reducible refine .bind ?_ fun _ => ?_) | (with_reducible refine .mapM fun _ => ?_) | (with_reducible refine .foldlM fun _ _ => ?_) | (with_reducible refine .forIn fun _ _ => ?_) | (with_reducible refine .modify fun _ => ?_) | (with_reducible exact bumpBy_kept ..) | (with_reducible exact zeroRange_kept ..) | split | (with_reducible rfl)))

theorem broken_kept {α : Type} : KvKept (broken : KvM α) := by
  unfold broken
  try dsimp only
  all_goals (repeat' (first | (with_reducible_and_instances exact .pure _) | (with_reducible_and_instances exact .throw _) | (with_reducible_and_instances exact .get) | (with_reducible exact setPool_kept ..) | (with_reducible refine KvKept.get_bind fun _ => ?_; (try dsimp only); refine KvKept.set_bind (by simp only [readRunP_kept, stageCheck_kept, setReg_kept, draw_kept]) fun _ => ?_) | (with_reducible refine .bind ?_ fun _ => ?_) | (with_reducible refine .mapM fun _ => ?_) | (with_reducible refine .foldlM fun _ _ => ?_) | (with_reducible refine .forIn fun _ _ => ?_) | (with_reducible refine .modify fun _ => ?_) | (with_reducible exact bumpBy_kept ..) | (with_reducible exact zeroRange_kept ..) | split | (with_reducible rfl)))

theorem checkPage_kept (v : KvEnv) (g : Nat) : KvKept (checkPage v g) := by
  unfold checkPage
  try dsimp only
  all_goals (repeat' (first | (with_reducible_and_instances exact .pure _) | (with_reducible_and_instances exact .throw _) | (with_reducible_and_instances exact .get) | (with_reducible exact broken_kept ..) | (with_reducible refine KvKept.get_bind fun _ => ?_; (try dsimp only); refine KvKept.set_bind (by simp only [readRunP_kept, stageCheck_kept, setReg_kept, draw_kept]) fun _ => ?_) | (with_reducible refine .bind ?_ fun _ => ?_) | (with_reducible refine .mapM fun _ => ?_) | (with_reducible refine .foldlM fun _ _ => ?_) | (with_reducible refine .forIn fun _ _ => ?_) | (with_reducible refine .modify fun _ => ?_) | (with_reducible exact bumpBy_kept ..) | (with_reducible exact zeroRange_kept ..) | split | (with_reducible rfl)))

theorem page_kept (v : KvEnv) (g : Nat) : KvKept (page v g) := by
  unfold page
  try dsimp only
  all_goals (repeat' (first | (with_reducible_and_instances exact .pure _) | (with_reducible_and_instances exact .throw _) | (with_reducible_and_instances exact .get) | (with_reducible exact checkPage_kept ..) | (with_reducible exact broken_kept ..) | (with_reducible exact word_kept ..) | (with_reducible refine KvKept.get_bind fun _ => ?_; (try dsimp only); refine KvKept.set_bind (by simp only [readRunP_kept, stageCheck_kept, setReg_kept, draw_kept]) fun _ => ?_) | (with_reducible refine .bind ?_ fun _ => ?_) | (with_reducible refine .mapM fun _ => ?_) | (with_reducible refine .foldlM fun _ _ => ?_) | (with_reducible refine .forIn fun _ _ => ?_) | (with_reducible refine .modify fun _ => ?_) | (with_reducible exact bumpBy_kept ..) | (with_reducible exact zeroRange_kept ..) | split | (with_reducible rfl)))

theorem setPage_kept (v : KvEnv) (g : Nat) (p : PageRec) : KvKept (setPage v g p) := by
  unfold setPage
  try dsimp only
  all_goals (repeat' (first | (with_reducible_and_instances exact .pure _) | (with_reducible_and_instances exact .throw _) | (with_reducible_and_instances exact .get) | (with_reducible exact put_kept ..) | (with_reducible refine KvKept.get_bind fun _ => ?_; (try dsimp only); refine KvKept.set_bind (by simp only [readRunP_kept, stageCheck_kept, setReg_kept, draw_kept]) fun _ => ?_) | (with_reducible refine .bind ?_ fun _ => ?_) | (with_reducible refine .mapM fun _ => ?_) | (with_reducible refine .foldlM fun _ _ => ?_) | (with_reducible refine .forIn fun _ _ => ?_) | (with_reducible refine .modify fun _ => ?_) | (with_reducible exact bumpBy_kept ..) | (with_reducible exact zeroRange_kept ..) | split | (with_reducible rfl)))

theorem listed_kept (v : KvEnv) (g : Nat) : KvKept (listed v g) := by
  unfold listed
  try dsimp only
  all_goals (repeat' (first | (with_reducible_and_instances exact .pure _) | (with_reducible_and_instances exact .throw _) | (with_reducible_and_instances exact .get) | (with_reducible exact page_kept ..) | (with_reducible exact broken_kept ..) | (with_reducible refine KvKept.get_bind fun _ => ?_; (try dsimp only); refine KvKept.set_bind (by simp only [readRunP_kept, stageCheck_kept, setReg_kept, draw_kept]) fun _ => ?_) | (with_reducible refine .bind ?_ fun _ => ?_) | (with_reducible refine .mapM fun _ => ?_) | (with_reducible refine .foldlM fun _ _ => ?_) | (with_reducible refine .forIn fun _ _ => ?_) | (with_reducible refine .modify fun _ => ?_) | (with_reducible exact bumpBy_kept ..) | (with_reducible exact zeroRange_kept ..) | split | (with_reducible rfl)))

theorem hashOf_kept (v : KvEnv) (g : Nat) : KvKept (hashOf v g) := by
  unfold hashOf
  try dsimp only
  all_goals (repeat' (first | (with_reducible_and_instances exact .pure _) | (with_reducible_and_instances exact .throw _) | (with_reducible_and_instances exact .get) | (with_reducible exact word2_kept ..) | (with_reducible refine KvKept.get_bind fun _ => ?_; (try dsimp only); refine KvKept.set_bind (by simp only [readRunP_kept, stageCheck_kept, setReg_kept, draw_kept]) fun _ => ?_) | (with_reducible refine .bind ?_ fun _ => ?_) | (with_reducible refine .mapM fun _ => ?_) | (with_reducible refine .foldlM fun _ _ => ?_) | (with_reducible refine .forIn fun _ _ => ?_) | (with_reducible refine .modify fun _ => ?_) | (with_reducible exact bumpBy_kept ..) | (with_reducible exact zeroRange_kept ..) | split | (with_reducible rfl)))

theorem link_kept (v : KvEnv) (g : Nat) (off : Nat) : KvKept (link v g off) := by
  unfold link
  try dsimp only
  all_goals (repeat' (first | (with_reducible_and_instances exact .pure _) | (with_reducible_and_instances exact .throw _) | (with_reducible_and_instances exact .get) | (with_reducible exact word_kept ..) | (with_reducible exact checkPage_kept ..) | (with_reducible refine KvKept.get_bind fun _ => ?_; (try dsimp only); refine KvKept.set_bind (by simp only [readRunP_kept, readRun_kept, setReg_kept, draw_kept]) fun _ => ?_) | (with_reducible refine .bind ?_ fun _ => ?_) | (with_reducible refine .mapM fun _ => ?_) | (with_reducible refine .foldlM fun _ _ => ?_) | (with_reducible refine .forIn fun _ _ => ?_) | (with_reducible refine .modify fun _ => ?_) | (simp only [bumpBy_kept, zeroRange_kept, setReg_kept]; done) | split | (with_reducible rfl)))

theorem chain_kept (v : KvEnv) (w0 : Nat) (w1 : Nat) : KvKept (chain v w0 w1) := by
  induction w0 generalizing w1 with
  | zero => unfold chain; split <;> first | exact .pure _ | exact broken_kept
  | succ n ih => unfold chain; (repeat' (first | exact ih _ | (with_reducible_and_instances exact .pure _) | (with_reducible_and_instances exact .throw _) | (with_reducible_and_instances exact .get) | (with_reducible exact checkPage_kept ..) | (with_reducible exact link_kept ..) | (with_reducible refine KvKept.get_bind fun _ => ?_; (try dsimp only); refine KvKept.set_bind (by simp only [readRunP_kept, stageCheck_kept, setReg_kept, draw_kept]) fun _ => ?_) | (with_reducible refine .bind ?_ fun _ => ?_) | (with_reducible refine .mapM fun _ => ?_) | (with_reducible refine .foldlM fun _ _ => ?_) | (with_reducible refine .forIn fun _ _ => ?_) | (with_reducible refine .modify fun _ => ?_) | (with_reducible exact bumpBy_kept ..) | (with_reducible exact zeroRange_kept ..) | split | (with_reducible rfl)))

theorem bucketPages_kept (v : KvEnv) (h : Nat) : KvKept (bucketPages v h) := by
  unfold bucketPages
  try dsimp only
  all_goals (repeat' (first | (with_reducible_and_instances exact .pure _) | (with_reducible_and_instances exact .throw _) | (with_reducible_and_instances exact .get) | (with_reducible exact chain_kept ..) | (with_reducible exact word_kept ..) | (with_reducible refine KvKept.get_bind fun _ => ?_; (try dsimp only); refine KvKept.set_bind (by simp only [readRunP_kept, stageCheck_kept, setReg_kept, draw_kept]) fun _ => ?_) | (with_reducible refine .bind ?_ fun _ => ?_) | (with_reducible refine .mapM fun _ => ?_) | (with_reducible refine .foldlM fun _ _ => ?_) | (with_reducible refine .forIn fun _ _ => ?_) | (with_reducible refine .modify fun _ => ?_) | (with_reducible exact bumpBy_kept ..) | (with_reducible exact zeroRange_kept ..) | split | (with_reducible rfl)))

theorem tokensOf_kept (v : KvEnv) (g : Nat) : KvKept (tokensOf v g) := by
  unfold tokensOf
  try dsimp only
  all_goals (repeat' (first | (with_reducible_and_instances exact .pure _) | (with_reducible_and_instances exact .throw _) | (with_reducible_and_instances exact .get) | (with_reducible exact word_kept ..) | (with_reducible refine KvKept.get_bind fun _ => ?_; (try dsimp only); refine KvKept.set_bind (by simp only [readRunP_kept, stageCheck_kept, setReg_kept, draw_kept]) fun _ => ?_) | (with_reducible refine .bind ?_ fun _ => ?_) | (with_reducible refine .mapM fun _ => ?_) | (with_reducible refine .foldlM fun _ _ => ?_) | (with_reducible refine .forIn fun _ _ => ?_) | (with_reducible refine .modify fun _ => ?_) | (with_reducible exact bumpBy_kept ..) | (with_reducible exact zeroRange_kept ..) | split | (with_reducible rfl)))

theorem search_kept (v : KvEnv) (h parent : Nat) (toks : List Byte) : KvKept (search v h parent toks) := by
  unfold search
  try dsimp only
  all_goals (repeat' (first | (with_reducible_and_instances exact .pure _) | (with_reducible_and_instances exact .throw _) | (with_reducible_and_instances exact .get) | (with_reducible exact tokensOf_kept ..) | (with_reducible exact bucketPages_kept ..) | (with_reducible exact link_kept ..) | (with_reducible exact hashOf_kept ..) | (with_reducible refine KvKept.get_bind fun _ => ?_; (try dsimp only); refine KvKept.set_bind (by simp only [readRunP_kept, stageCheck_kept, setReg_kept, draw_kept]) fun _ => ?_) | (with_reducible refine .bind ?_ fun _ => ?_) | (with_reducible refine .mapM fun _ => ?_) | (with_reducible refine .foldlM fun _ _ => ?_) | (with_reducible refine .forIn fun _ _ => ?_) | (with_reducible refine .modify fun _ => ?_) | (with_reducible exact bumpBy_kept ..) | (with_reducible exact zeroRange_kept ..) | split | (with_reducible rfl)))

theorem lookup_kept (v : KvEnv) (w0 : List (List Byte)) (w1 : Nat) (w2 : Nat) : KvKept (lookup v w0 w1 w2) := by
  induction w0 generalizing w1 w2 with
  | nil => exact .pure _
  | cons g gs ih => unfold lookup; (repeat' (first | exact ih _ _ | (with_reducible_and_instances exact .pure _) | (with_reducible_and_instances exact .throw _) | (with_reducible_and_instances exact .get) | (with_reducible exact pool_kept ..) | (with_reducible exact search_kept ..) | (with_reducible refine KvKept.get_bind fun _ => ?_; (try dsimp only); refine KvKept.set_bind (by simp only [readRunP_kept, stageCheck_kept, setReg_kept, draw_kept]) fun _ => ?_) | (with_reducible refine .bind ?_ fun _ => ?_) | (with_reducible refine .mapM fun _ => ?_) | (with_reducible refine .foldlM fun _ _ => ?_) | (with_reducible refine .forIn fun _ _ => ?_) | (with_reducible refine .modify fun _ => ?_) | (with_reducible exact bumpBy_kept ..) | (with_reducible exact zeroRange_kept ..) | split | (with_reducible rfl)))

theorem prefixPages_kept (v : KvEnv) (addr count : Nat) : KvKept (prefixPages v addr count) := by
  unfold prefixPages
  try dsimp only
  all_goals (repeat' (first | (with_reducible_and_instances exact .pure _) | (with_reducible_and_instances exact .throw _) | (with_reducible_and_instances exact .get) | (with_reducible exact count_kept ..) | (with_reducible exact bytes_kept ..) | (with_reducible refine KvKept.get_bind fun _ => ?_; (try dsimp only); refine KvKept.set_bind (by simp only [readRunP_kept, stageCheck_kept, setReg_kept, draw_kept]) fun _ => ?_) | (with_reducible refine .bind ?_ fun _ => ?_) | (with_reducible refine .mapM fun _ => ?_) | (with_reducible refine .foldlM fun _ _ => ?_) | (with_reducible refine .forIn fun _ _ => ?_) | (with_reducible refine .modify fun _ => ?_) | (with_reducible exact bumpBy_kept ..) | (with_reducible exact zeroRange_kept ..) | split | (with_reducible rfl)))

theorem untree_kept (v : KvEnv) (g : Nat) : KvKept (untree v g) := by
  unfold untree
  try dsimp only
  all_goals (repeat' (first | (with_reducible_and_instances exact .pure _) | (with_reducible_and_instances exact .throw _) | (with_reducible_and_instances exact .get) | (with_reducible exact bucketPages_kept ..) | (with_reducible exact link_kept ..) | (with_reducible exact hashOf_kept ..) | (with_reducible exact setPage_kept ..) | (with_reducible exact page_kept ..) | (with_reducible exact put_kept ..) | (with_reducible refine KvKept.get_bind fun _ => ?_; (try dsimp only); refine KvKept.set_bind (by simp only [readRunP_kept, stageCheck_kept, setReg_kept, draw_kept]) fun _ => ?_) | (with_reducible refine .bind ?_ fun _ => ?_) | (with_reducible refine .mapM fun _ => ?_) | (with_reducible refine .foldlM fun _ _ => ?_) | (with_reducible refine .forIn fun _ _ => ?_) | (with_reducible refine .modify fun _ => ?_) | (with_reducible exact bumpBy_kept ..) | (with_reducible exact zeroRange_kept ..) | split | (with_reducible rfl)))

theorem intree_kept (v : KvEnv) (g h parent : Nat) : KvKept (intree v g h parent) := by
  unfold intree
  try dsimp only
  all_goals (repeat' (first | (with_reducible_and_instances exact .pure _) | (with_reducible_and_instances exact .throw _) | (with_reducible_and_instances exact .get) | (with_reducible exact setPage_kept ..) | (with_reducible exact page_kept ..) | (with_reducible exact put2_kept ..) | (with_reducible exact put_kept ..) | (with_reducible exact word_kept ..) | (with_reducible refine KvKept.get_bind fun _ => ?_; (try dsimp only); refine KvKept.set_bind (by simp only [readRunP_kept, stageCheck_kept, setReg_kept, draw_kept]) fun _ => ?_) | (with_reducible refine .bind ?_ fun _ => ?_) | (with_reducible refine .mapM fun _ => ?_) | (with_reducible refine .foldlM fun _ _ => ?_) | (with_reducible refine .forIn fun _ _ => ?_) | (with_reducible refine .modify fun _ => ?_) | (with_reducible exact bumpBy_kept ..) | (with_reducible exact zeroRange_kept ..) | split | (with_reducible rfl)))

theorem uncache_kept (v : KvEnv) (g : Nat) : KvKept (uncache v g) := by
  unfold uncache
  try dsimp only
  all_goals (repeat' (first | (with_reducible_and_instances exact .pure _) | (with_reducible_and_instances exact .throw _) | (with_reducible_and_instances exact .get) | (with_reducible exact link_kept ..) | (with_reducible exact checkPage_kept ..) | (with_reducible exact setPool_kept ..) | (with_reducible exact put_kept ..) | (with_reducible refine KvKept.get_bind fun _ => ?_; (try dsimp only); refine KvKept.set_bind (by simp only [readRunP_kept, stageCheck_kept, setReg_kept, draw_kept]) fun _ => ?_) | (with_reducible refine .bind ?_ fun _ => ?_) | (with_reducible refine .mapM fun _ => ?_) | (with_reducible refine .foldlM fun _ _ => ?_) | (with_reducible refine .forIn fun _ _ => ?_) | (with_reducible refine .modify fun _ => ?_) | (with_reducible exact bumpBy_kept ..) | (with_reducible exact zeroRange_kept ..) | split | (with_reducible rfl)))

theorem alloc_kept (v : KvEnv) : KvKept (alloc v) := by
  unfold alloc
  try dsimp only
  all_goals (repeat' (first | (with_reducible_and_instances exact .pure _) | (with_reducible_and_instances exact .throw _) | (with_reducible_and_instances exact .get) | (with_reducible exact uncache_kept ..) | (with_reducible exact untree_kept ..) | (with_reducible exact link_kept ..) | (with_reducible exact setPage_kept ..) | (with_reducible exact page_kept ..) | (with_reducible exact setPool_kept ..) | (with_reducible exact pool_kept ..) | (with_reducible refine KvKept.get_bind fun _ => ?_; (try dsimp only); refine KvKept.set_bind (by simp only [readRunP_kept, stageCheck_kept, setReg_kept, draw_kept]) fun _ => ?_) | (with_reducible refine .bind ?_ fun _ => ?_) | (with_reducible refine .mapM fun _ => ?_) | (with_reducible refine .foldlM fun _ _ => ?_) | (with_reducible refine .forIn fun _ _ => ?_) | (with_reducible refine .modify fun _ => ?_) | (with_reducible exact bumpBy_kept ..) | (with_reducible exact zeroRange_kept ..) | split | (with_reducible rfl)))

theorem freePage_kept (v : KvEnv) (g : Nat) : KvKept (freePage v g) := by
  unfold freePage
  try dsimp only
  all_goals (repeat' (first | (with_reducible_and_instances exact .pure _) | (with_reducible_and_instances exact .throw _) | (with_reducible_and_instances exact .get) | (with_reducible exact setPage_kept ..) | (with_reducible exact pool_kept ..) | (with_reducible exact put_kept ..) | (with_reducible exact setPool_kept ..) | (with_reducible refine KvKept.get_bind fun _ => ?_; (try dsimp only); refine KvKept.set_bind (by simp only [readRunP_kept, readRun_kept, setReg_kept, draw_kept]) fun _ => ?_) | (with_reducible refine .bind ?_ fun _ => ?_) | (with_reducible refine .mapM fun _ => ?_) | (with_reducible refine .foldlM fun _ _ => ?_) | (with_reducible refine .forIn fun _ _ => ?_) | (with_reducible refine .modify fun _ => ?_) | (simp only [bumpBy_kept, zeroRange_kept, setReg_kept]; done) | split | (with_reducible rfl)))

theorem giveBack_kept (v : KvEnv) (gs : List Nat) : KvKept (giveBack v gs) := by
  unfold giveBack
  try dsimp only
  all_goals (repeat' (first | (with_reducible_and_instances exact .pure _) | (with_reducible_and_instances exact .throw _) | (with_reducible_and_instances exact .get) | (with_reducible exact page_kept ..) | (with_reducible exact uncache_kept ..) | (with_reducible exact untree_kept ..) | (with_reducible exact freePage_kept ..) | (with_reducible refine KvKept.get_bind fun _ => ?_; (try dsimp only); refine KvKept.set_bind (by simp only [readRunP_kept, readRun_kept, setReg_kept, draw_kept]) fun _ => ?_) | (with_reducible refine .bind ?_ fun _ => ?_) | (with_reducible refine .mapM fun _ => ?_) | (with_reducible refine .foldlM fun _ _ => ?_) | (with_reducible refine .forIn fun _ _ => ?_) | (with_reducible refine .modify fun _ => ?_) | (simp only [bumpBy_kept, zeroRange_kept, setReg_kept]; done) | split | (with_reducible rfl)))

theorem release_kept (v : KvEnv) (g : Nat) : KvKept (release v g) := by
  unfold release
  try dsimp only
  all_goals (repeat' (first | (with_reducible_and_instances exact .pure _) | (with_reducible_and_instances exact .throw _) | (with_reducible_and_instances exact .get) | (with_reducible exact listed_kept ..) | (with_reducible exact setPage_kept ..) | (with_reducible exact pool_kept ..) | (with_reducible exact put_kept ..) | (with_reducible exact setPool_kept ..) | (with_reducible exact freePage_kept ..) | (with_reducible exact untree_kept ..) | (with_reducible refine KvKept.get_bind fun _ => ?_; (try dsimp only); refine KvKept.set_bind (by simp only [readRunP_kept, readRun_kept, setReg_kept, draw_kept]) fun _ => ?_) | (with_reducible refine .bind ?_ fun _ => ?_) | (with_reducible refine .mapM fun _ => ?_) | (with_reducible refine .foldlM fun _ _ => ?_) | (with_reducible refine .forIn fun _ _ => ?_) | (with_reducible refine .modify fun _ => ?_) | (simp only [bumpBy_kept, zeroRange_kept, setReg_kept]; done) | split | (with_reducible rfl)))

theorem mapPage_kept (v : KvEnv) (g : Nat) : KvKept (mapPage v g) := by
  unfold mapPage
  try dsimp only
  all_goals (repeat' (first | (with_reducible_and_instances exact .pure _) | (with_reducible_and_instances exact .throw _) | (with_reducible_and_instances exact .get) | (with_reducible exact uncache_kept ..) | (with_reducible exact setPage_kept ..) | (with_reducible exact page_kept ..) | (with_reducible refine KvKept.get_bind fun _ => ?_; (try dsimp only); refine KvKept.set_bind (by simp only [readRunP_kept, stageCheck_kept, setReg_kept, draw_kept]) fun _ => ?_) | (with_reducible refine .bind ?_ fun _ => ?_) | (with_reducible refine .mapM fun _ => ?_) | (with_reducible refine .foldlM fun _ _ => ?_) | (with_reducible refine .forIn fun _ _ => ?_) | (with_reducible refine .modify fun _ => ?_) | (with_reducible exact bumpBy_kept ..) | (with_reducible exact zeroRange_kept ..) | split | (with_reducible rfl)))

theorem seq_kept (v : KvEnv) (i : Nat) : KvKept (seq v i) := by
  unfold seq
  try dsimp only
  all_goals (repeat' (first | (with_reducible_and_instances exact .pure _) | (with_reducible_and_instances exact .throw _) | (with_reducible_and_instances exact .get) | (with_reducible exact broken_kept ..) | (with_reducible exact word2_kept ..) | (with_reducible exact word_kept ..) | (with_reducible refine KvKept.get_bind fun _ => ?_; (try dsimp only); refine KvKept.set_bind (by simp only [readRunP_kept, stageCheck_kept, setReg_kept, draw_kept]) fun _ => ?_) | (with_reducible refine .bind ?_ fun _ => ?_) | (with_reducible refine .mapM fun _ => ?_) | (with_reducible refine .foldlM fun _ _ => ?_) | (with_reducible refine .forIn fun _ _ => ?_) | (with_reducible refine .modify fun _ => ?_) | (with_reducible exact bumpBy_kept ..) | (with_reducible exact zeroRange_kept ..) | split | (with_reducible rfl)))

theorem setSeq_kept (v : KvEnv) (r : SeqRec) : KvKept (setSeq v r) := by
  unfold setSeq
  try dsimp only
  all_goals (repeat' (first | (with_reducible_and_instances exact .pure _) | (with_reducible_and_instances exact .throw _) | (with_reducible_and_instances exact .get) | (with_reducible exact put2_kept ..) | (with_reducible exact put_kept ..) | (with_reducible refine KvKept.get_bind fun _ => ?_; (try dsimp only); refine KvKept.set_bind (by simp only [readRunP_kept, stageCheck_kept, setReg_kept, draw_kept]) fun _ => ?_) | (with_reducible refine .bind ?_ fun _ => ?_) | (with_reducible refine .mapM fun _ => ?_) | (with_reducible refine .foldlM fun _ _ => ?_) | (with_reducible refine .forIn fun _ _ => ?_) | (with_reducible refine .modify fun _ => ?_) | (with_reducible exact bumpBy_kept ..) | (with_reducible exact zeroRange_kept ..) | split | (with_reducible rfl)))

theorem named_kept (v : KvEnv) (h : Nat) : KvKept (named v h) := by
  unfold named
  try dsimp only
  all_goals (repeat' (first | (with_reducible_and_instances exact .pure _) | (with_reducible_and_instances exact .throw _) | (with_reducible_and_instances exact .get) | (with_reducible exact seq_kept ..) | (with_reducible refine KvKept.get_bind fun _ => ?_; (try dsimp only); refine KvKept.set_bind (by simp only [readRunP_kept, stageCheck_kept, setReg_kept, draw_kept]) fun _ => ?_) | (with_reducible refine .bind ?_ fun _ => ?_) | (with_reducible refine .mapM fun _ => ?_) | (with_reducible refine .foldlM fun _ _ => ?_) | (with_reducible refine .forIn fun _ _ => ?_) | (with_reducible refine .modify fun _ => ?_) | (with_reducible exact bumpBy_kept ..) | (with_reducible exact zeroRange_kept ..) | split | (with_reducible rfl)))

theorem entryPage_kept (v : KvEnv) (r : SeqRec) (i : Nat) : KvKept (entryPage v r i) := by
  unfold entryPage
  try dsimp only
  all_goals (repeat' (first | (with_reducible_and_instances exact .pure _) | (with_reducible_and_instances exact .throw _) | (with_reducible_and_instances exact .get) | (with_reducible exact listed_kept ..) | (with_reducible exact word_kept ..) | (with_reducible refine KvKept.get_bind fun _ => ?_; (try dsimp only); refine KvKept.set_bind (by simp only [readRunP_kept, stageCheck_kept, setReg_kept, draw_kept]) fun _ => ?_) | (with_reducible refine .bind ?_ fun _ => ?_) | (with_reducible refine .mapM fun _ => ?_) | (with_reducible refine .foldlM fun _ _ => ?_) | (with_reducible refine .forIn fun _ _ => ?_) | (with_reducible refine .modify fun _ => ?_) | (with_reducible exact bumpBy_kept ..) | (with_reducible exact zeroRange_kept ..) | split | (with_reducible rfl)))

theorem freeRec_kept (v : KvEnv) (w0 : Nat) (w1 : Nat) : KvKept (freeRec v w0 w1) := by
  induction w0 generalizing w1 with
  | zero => exact .pure _
  | succ n ih => unfold freeRec; (repeat' (first | exact ih _ | (with_reducible_and_instances exact .pure _) | (with_reducible_and_instances exact .throw _) | (with_reducible_and_instances exact .get) | (with_reducible exact seq_kept ..) | (with_reducible refine KvKept.get_bind fun _ => ?_; (try dsimp only); refine KvKept.set_bind (by simp only [readRunP_kept, stageCheck_kept, setReg_kept, draw_kept]) fun _ => ?_) | (with_reducible refine .bind ?_ fun _ => ?_) | (with_reducible refine .mapM fun _ => ?_) | (with_reducible refine .foldlM fun _ _ => ?_) | (with_reducible refine .forIn fun _ _ => ?_) | (with_reducible refine .modify fun _ => ?_) | (with_reducible exact bumpBy_kept ..) | (with_reducible exact zeroRange_kept ..) | split | (with_reducible rfl)))

theorem admitNew_kept (v : KvEnv) : KvKept (admitNew v) := by
  unfold admitNew
  try dsimp only
  all_goals (repeat' (first | (with_reducible_and_instances exact .pure _) | (with_reducible_and_instances exact .throw _) | (with_reducible_and_instances exact .get) | (with_reducible exact freeRec_kept ..) | (with_reducible exact count_kept ..) | (with_reducible exact pool_kept ..) | (with_reducible refine KvKept.get_bind fun _ => ?_; (try dsimp only); refine KvKept.set_bind (by simp only [readRunP_kept, stageCheck_kept, setReg_kept, draw_kept]) fun _ => ?_) | (with_reducible refine .bind ?_ fun _ => ?_) | (with_reducible refine .mapM fun _ => ?_) | (with_reducible refine .foldlM fun _ _ => ?_) | (with_reducible refine .forIn fun _ _ => ?_) | (with_reducible refine .modify fun _ => ?_) | (with_reducible exact bumpBy_kept ..) | (with_reducible exact zeroRange_kept ..) | split | (with_reducible rfl)))

theorem ready_kept  : KvKept ready := by
  unfold ready
  try dsimp only
  all_goals (repeat' (first | (with_reducible_and_instances exact .pure _) | (with_reducible_and_instances exact .throw _) | (with_reducible_and_instances exact .get) | (with_reducible exact pool_kept ..) | (with_reducible refine KvKept.get_bind fun _ => ?_; (try dsimp only); refine KvKept.set_bind (by simp only [readRunP_kept, stageCheck_kept, setReg_kept, draw_kept]) fun _ => ?_) | (with_reducible refine .bind ?_ fun _ => ?_) | (with_reducible refine .mapM fun _ => ?_) | (with_reducible refine .foldlM fun _ _ => ?_) | (with_reducible refine .forIn fun _ _ => ?_) | (with_reducible refine .modify fun _ => ?_) | (with_reducible exact bumpBy_kept ..) | (with_reducible exact zeroRange_kept ..) | split | (with_reducible rfl)))

theorem range_kept (b : Bool) : KvKept (range b) := by
  unfold range
  try dsimp only
  all_goals (repeat' (first | (with_reducible_and_instances exact .pure _) | (with_reducible_and_instances exact .throw _) | (with_reducible_and_instances exact .get) | (with_reducible refine KvKept.get_bind fun _ => ?_; (try dsimp only); refine KvKept.set_bind (by simp only [readRunP_kept, stageCheck_kept, setReg_kept, draw_kept]) fun _ => ?_) | (with_reducible refine .bind ?_ fun _ => ?_) | (with_reducible refine .mapM fun _ => ?_) | (with_reducible refine .foldlM fun _ _ => ?_) | (with_reducible refine .forIn fun _ _ => ?_) | (with_reducible refine .modify fun _ => ?_) | (with_reducible exact bumpBy_kept ..) | (with_reducible exact zeroRange_kept ..) | split | (with_reducible rfl)))

theorem writePlane_kept (v : KvEnv) (g q lo fill : Nat) (srcFmt : Nat) (rows : List Byte) : KvKept (writePlane v g q lo fill srcFmt rows) := by
  unfold writePlane
  try dsimp only
  all_goals (repeat' (first | (with_reducible_and_instances exact .pure _) | (with_reducible_and_instances exact .throw _) | (with_reducible_and_instances exact .get) | (with_reducible exact pool_kept ..) | (with_reducible exact writeRows_kept ..) | (with_reducible exact pageBytes_kept ..) | (with_reducible refine KvKept.get_bind fun _ => ?_; (try dsimp only); refine KvKept.set_bind (by simp only [readRunP_kept, stageCheck_kept, setReg_kept, draw_kept]) fun _ => ?_) | (with_reducible refine .bind ?_ fun _ => ?_) | (with_reducible refine .mapM fun _ => ?_) | (with_reducible refine .foldlM fun _ _ => ?_) | (with_reducible refine .forIn fun _ _ => ?_) | (with_reducible refine .modify fun _ => ?_) | (with_reducible exact bumpBy_kept ..) | (with_reducible exact zeroRange_kept ..) | split | (with_reducible rfl)))

theorem summary_kept (v : KvEnv) (g l h : Nat) : KvKept (summary v g l h) := by
  unfold summary
  try dsimp only
  all_goals (repeat' (first | (with_reducible_and_instances exact .pure _) | (with_reducible_and_instances exact .throw _) | (with_reducible_and_instances exact .get) | (with_reducible exact pool_kept ..) | (with_reducible exact pageBytes_kept ..) | (with_reducible refine KvKept.get_bind fun _ => ?_; (try dsimp only); refine KvKept.set_bind (by simp only [readRunP_kept, stageCheck_kept, setReg_kept, draw_kept]) fun _ => ?_) | (with_reducible refine .bind ?_ fun _ => ?_) | (with_reducible refine .mapM fun _ => ?_) | (with_reducible refine .foldlM fun _ _ => ?_) | (with_reducible refine .forIn fun _ _ => ?_) | (with_reducible refine .modify fun _ => ?_) | (with_reducible exact bumpBy_kept ..) | (with_reducible exact zeroRange_kept ..) | split | (with_reducible rfl)))

theorem writeIndex_kept (v : KvEnv) (list limit i g : Nat) : KvKept (writeIndex v list limit i g) := by
  unfold writeIndex
  try dsimp only
  all_goals (repeat' (first | (with_reducible_and_instances exact .pure _) | (with_reducible_and_instances exact .throw _) | (with_reducible_and_instances exact .get) | (with_reducible exact summary_kept ..) | (with_reducible exact pool_kept ..) | (with_reducible exact writeRows_kept ..) | (with_reducible refine KvKept.get_bind fun _ => ?_; (try dsimp only); refine KvKept.set_bind (by simp only [readRunP_kept, stageCheck_kept, setReg_kept, draw_kept]) fun _ => ?_) | (with_reducible refine .bind ?_ fun _ => ?_) | (with_reducible refine .mapM fun _ => ?_) | (with_reducible refine .foldlM fun _ _ => ?_) | (with_reducible refine .forIn fun _ _ => ?_) | (with_reducible refine .modify fun _ => ?_) | (with_reducible exact bumpBy_kept ..) | (with_reducible exact zeroRange_kept ..) | split | (with_reducible rfl)))

theorem appendNeed_kept (v : KvEnv) (r : SeqRec) (n : Nat) : KvKept (appendNeed v r n) := by
  unfold appendNeed
  try dsimp only
  all_goals (repeat' (first | (with_reducible_and_instances exact .pure _) | (with_reducible_and_instances exact .throw _) | (with_reducible_and_instances exact .get) | (with_reducible exact entryPage_kept ..) | (with_reducible exact page_kept ..) | (with_reducible refine KvKept.get_bind fun _ => ?_; (try dsimp only); refine KvKept.set_bind (by simp only [readRunP_kept, stageCheck_kept, setReg_kept, draw_kept]) fun _ => ?_) | (with_reducible refine .bind ?_ fun _ => ?_) | (with_reducible refine .mapM fun _ => ?_) | (with_reducible refine .foldlM fun _ _ => ?_) | (with_reducible refine .forIn fun _ _ => ?_) | (with_reducible refine .modify fun _ => ?_) | (with_reducible exact bumpBy_kept ..) | (with_reducible exact zeroRange_kept ..) | split | (with_reducible rfl)))

theorem appendPlan_kept (v : KvEnv) (r : KvM.SeqRec) (n : Nat) (tokids : Nat) (source : Nat) (srcFmt : Nat) : KvKept (appendPlan v r n tokids source srcFmt) := by
  unfold appendPlan
  try dsimp only
  all_goals (repeat' (first | (with_reducible_and_instances exact .pure _) | (with_reducible_and_instances exact .throw _) | (with_reducible_and_instances exact .get) | (with_reducible exact pool_kept ..) | (with_reducible exact appendNeed_kept ..) | (with_reducible exact bytes_kept ..) | (with_reducible exact page_kept ..) | (with_reducible exact writePlane_kept ..) | (with_reducible exact writeIndex_kept ..) | (with_reducible exact entryPage_kept ..) | (with_reducible exact alloc_kept ..) | (with_reducible exact writeRows_kept ..) | (with_reducible refine KvKept.get_bind fun _ => ?_; (try dsimp only); refine KvKept.set_bind (by simp only [readRunP_kept, readRun_kept, setReg_kept, draw_kept]) fun _ => ?_) | (with_reducible refine .bind ?_ fun _ => ?_) | (with_reducible refine .mapM fun _ => ?_) | (with_reducible refine .foldlM fun _ _ => ?_) | (with_reducible refine .forIn fun _ _ => ?_) | (with_reducible refine .modify fun _ => ?_) | (simp only [bumpBy_kept, zeroRange_kept, setReg_kept, readRunP_kept]; done) | split | (with_reducible rfl)))

theorem joinTree_kept (v : KvEnv) (r : SeqRec) (i g : Nat) : KvKept (joinTree v r i g) := by
  unfold joinTree
  try dsimp only
  all_goals (repeat' (first | (with_reducible_and_instances exact .pure _) | (with_reducible_and_instances exact .throw _) | (with_reducible_and_instances exact .get) | (with_reducible exact intree_kept ..) | (with_reducible exact search_kept ..) | (with_reducible exact tokensOf_kept ..) | (with_reducible exact hashOf_kept ..) | (with_reducible exact page_kept ..) | (with_reducible exact pool_kept ..) | (with_reducible exact word_kept ..) | (with_reducible refine KvKept.get_bind fun _ => ?_; (try dsimp only); refine KvKept.set_bind (by simp only [readRunP_kept, stageCheck_kept, setReg_kept, draw_kept]) fun _ => ?_) | (with_reducible refine .bind ?_ fun _ => ?_) | (with_reducible refine .mapM fun _ => ?_) | (with_reducible refine .foldlM fun _ _ => ?_) | (with_reducible refine .forIn fun _ _ => ?_) | (with_reducible refine .modify fun _ => ?_) | (with_reducible exact bumpBy_kept ..) | (with_reducible exact zeroRange_kept ..) | split | (with_reducible rfl)))

theorem appendApply_kept (v : KvEnv) (r : SeqRec) (plan : List AppPage) : KvKept (appendApply v r plan) := by
  unfold appendApply
  try dsimp only
  all_goals (repeat' (first | (with_reducible_and_instances exact .pure _) | (with_reducible_and_instances exact .throw _) | (with_reducible_and_instances exact .get) | (with_reducible exact joinTree_kept ..) | (with_reducible exact release_kept ..) | (with_reducible exact setPage_kept ..) | (with_reducible exact page_kept ..) | (with_reducible exact count_kept ..) | (with_reducible exact put_kept ..) | (with_reducible exact word_kept ..) | (with_reducible refine KvKept.get_bind fun _ => ?_; (try dsimp only); refine KvKept.set_bind (by simp only [readRunP_kept, stageCheck_kept, setReg_kept, draw_kept]) fun _ => ?_) | (with_reducible refine .bind ?_ fun _ => ?_) | (with_reducible refine .mapM fun _ => ?_) | (with_reducible refine .foldlM fun _ _ => ?_) | (with_reducible refine .forIn fun _ _ => ?_) | (with_reducible refine .modify fun _ => ?_) | (with_reducible exact bumpBy_kept ..) | (with_reducible exact zeroRange_kept ..) | split | (with_reducible rfl)))

theorem appendUndo_kept (v : KvEnv) (plan : List AppPage) : KvKept (appendUndo v plan) := by
  unfold appendUndo
  try dsimp only
  all_goals (repeat' (first | (with_reducible_and_instances exact .pure _) | (with_reducible_and_instances exact .throw _) | (with_reducible_and_instances exact .get) | (with_reducible exact freePage_kept ..) | (with_reducible refine KvKept.get_bind fun _ => ?_; (try dsimp only); refine KvKept.set_bind (by simp only [readRunP_kept, readRun_kept, setReg_kept, draw_kept]) fun _ => ?_) | (with_reducible refine .bind ?_ fun _ => ?_) | (with_reducible refine .mapM fun _ => ?_) | (with_reducible refine .foldlM fun _ _ => ?_) | (with_reducible refine .forIn fun _ _ => ?_) | (with_reducible refine .modify fun _ => ?_) | (simp only [bumpBy_kept, zeroRange_kept, setReg_kept]; done) | split | (with_reducible rfl)))

theorem appendRows_kept (v : KvEnv) (r : SeqRec) (n tokids source srcFmt : Nat) : KvKept (appendRows v r n tokids source srcFmt) := by
  unfold appendRows
  try dsimp only
  all_goals (repeat' (first | (with_reducible_and_instances exact .pure _) | (with_reducible_and_instances exact .throw _) | (with_reducible_and_instances exact .get) | (with_reducible exact appendApply_kept ..) | (with_reducible exact appendPlan_kept ..) | (with_reducible refine KvKept.get_bind fun _ => ?_; (try dsimp only); refine KvKept.set_bind (by simp only [readRunP_kept, stageCheck_kept, setReg_kept, draw_kept]) fun _ => ?_) | (with_reducible refine .bind ?_ fun _ => ?_) | (with_reducible refine .mapM fun _ => ?_) | (with_reducible refine .foldlM fun _ _ => ?_) | (with_reducible refine .forIn fun _ _ => ?_) | (with_reducible refine .modify fun _ => ?_) | (with_reducible exact bumpBy_kept ..) | (with_reducible exact zeroRange_kept ..) | split | (with_reducible rfl)))

theorem appendCommit_kept (v : KvEnv) (r : SeqRec) (n lease : Nat) : KvKept (appendCommit v r n lease) := by
  unfold appendCommit
  try dsimp only
  all_goals (repeat' (first | (with_reducible_and_instances exact .pure _) | (with_reducible_and_instances exact .throw _) | (with_reducible_and_instances exact .get) | (with_reducible exact setSeq_kept ..) | (with_reducible refine KvKept.get_bind fun _ => ?_; (try dsimp only); refine KvKept.set_bind (by simp only [readRunP_kept, stageCheck_kept, setReg_kept, draw_kept]) fun _ => ?_) | (with_reducible refine .bind ?_ fun _ => ?_) | (with_reducible refine .mapM fun _ => ?_) | (with_reducible refine .foldlM fun _ _ => ?_) | (with_reducible refine .forIn fun _ _ => ?_) | (with_reducible refine .modify fun _ => ?_) | (with_reducible exact bumpBy_kept ..) | (with_reducible exact zeroRange_kept ..) | split | (with_reducible rfl)))

end KvM

@[simp] theorem State.stageCheck_kept (s : State) (who : Requester) (a2 : List (Nat × Nat)) : kept (State.stageCheck s who a2).2 = kept s := by
  induction a2 generalizing s with
  | nil => rfl
  | cons w l ih =>
    unfold stageCheck
    split
    · exact deny_kept ..
    · split
      · rfl
      · exact ih s

theorem State.kvCommit_kept (v : KvEnv) (x : KvSt) : kept (State.kvCommit v x).2 = kept x.s := by
  have h := stageCheck_kept x.s v.who x.stage
  unfold kvCommit
  revert h
  generalize x.s.stageCheck v.who x.stage = p
  obtain ⟨st, s1⟩ := p
  intro h
  dsimp only
  split
  · refine (setKvPool_kept ..).trans ((foldl_kept _ _ _ ?_).trans h)
    intros; exact requestWriteP_kept ..
  · exact h

@[simp] theorem State.kvBroken_kept (v : KvEnv) (x : KvSt) (t : State) : kept (State.kvBroken v x t) = kept t := by simp [State.kvBroken]

@[simp] theorem State.kvUndo_kept (v : KvEnv) (x : KvSt) (t : State) : kept (State.kvUndo v x t) = kept t := by
  unfold kvUndo
  split
  · exact kvBroken_kept ..
  · have hk := (KvM.giveBack_kept v x.taken).h { s := t, pool := t.kvPool v.pid }
    revert hk
    generalize ((KvM.giveBack v x.taken).run).run { s := t, pool := t.kvPool v.pid } = ry
    obtain ⟨r, y⟩ := ry
    intro hk
    cases r with
    | ok a => exact (kvCommit_kept ..).trans hk
    | error e => exact (kvBroken_kept ..).trans hk

theorem State.kvRun_kept {α : Type} (s : State) (v : KvEnv) (m : KvM α) (h : KvKept m) : kept (State.kvRun s v m).2.2.2 = kept s := by
  have hk := h.h { s := s, pool := s.kvPool v.pid }
  unfold kvRun
  revert hk
  generalize (m.run).run { s := s, pool := s.kvPool v.pid } = rx
  obtain ⟨r, x⟩ := rx
  intro hk
  cases r with
  | ok a =>
    have h2 := kvCommit_kept v x
    dsimp only
    split
    · exact h2.trans hk
    · exact (kvUndo_kept ..).trans (h2.trans hk)
  | error st => exact (kvUndo_kept ..).trans hk

theorem State.kvDo_kept {α : Type} (s : State) (v : KvEnv) (m : KvM α) (h : KvKept m) : kept (State.kvDo s v m) = kept s :=
  kvRun_kept s v m h

theorem State.kvCheck_kept {α : Type} (s : State) (v : KvEnv) (m : KvM α) (h : KvKept m) : kept (State.kvCheck s v m).2 = kept s := by
  have hk := h.h { s := s, pool := s.kvPool v.pid }
  unfold kvCheck
  revert hk
  generalize (m.run).run { s := s, pool := s.kvPool v.pid } = rx
  obtain ⟨r, x⟩ := rx
  intro hk
  cases r <;> exact (kvBroken_kept ..).trans hk

namespace KvM

theorem poolResetCheck_kept (v : KvEnv) (y : Entry) : KvKept (poolResetCheck v y) := by
  unfold poolResetCheck
  try dsimp only
  all_goals (repeat' (first | (with_reducible_and_instances exact .pure _) | (with_reducible_and_instances exact .throw _) | (with_reducible_and_instances exact .get) | (with_reducible exact range_kept ..) | (with_reducible exact pool_kept ..) | (with_reducible refine KvKept.get_bind fun _ => ?_; (try dsimp only); refine KvKept.set_bind (by simp only [readRunP_kept, stageCheck_kept, setReg_kept, draw_kept]) fun _ => ?_) | (with_reducible refine .bind ?_ fun _ => ?_) | (with_reducible refine .mapM fun _ => ?_) | (with_reducible refine .foldlM fun _ _ => ?_) | (with_reducible refine .forIn fun _ _ => ?_) | (with_reducible refine .modify fun _ => ?_) | (with_reducible exact bumpBy_kept ..) | (with_reducible exact zeroRange_kept ..) | split | (with_reducible rfl)))

theorem metaWritable_kept (v : KvEnv) : KvKept (metaWritable v) := by
  unfold metaWritable
  refine .get_bind fun x => ?_
  have h := stageCheck_kept x.s v.who [(v.metaAt, 0), (v.metaAt + v.metaBytes - 4, 0)]
  revert h
  generalize x.s.stageCheck v.who _ = p
  obtain ⟨st, s1⟩ := p
  intro h
  refine KvKept.set_bind h fun _ => ?_
  split
  · exact .pure _
  · exact .throw _

theorem zeroMeta_kept (v : KvEnv) : KvKept (zeroMeta v) := by
  unfold zeroMeta
  try dsimp only
  all_goals (repeat' (first | (with_reducible_and_instances exact .pure _) | (with_reducible_and_instances exact .throw _) | (with_reducible_and_instances exact .get) | (with_reducible refine KvKept.get_bind fun _ => ?_; (try dsimp only); refine KvKept.set_bind (by simp only [readRunP_kept, readRun_kept, setReg_kept, draw_kept, zeroThrough_kept]) fun _ => ?_) | (with_reducible refine .bind ?_ fun _ => ?_) | (with_reducible refine .mapM fun _ => ?_) | (with_reducible refine .foldlM fun _ _ => ?_) | (with_reducible refine .forIn fun _ _ => ?_) | (with_reducible refine .modify fun _ => ?_) | (simp only [bumpBy_kept, zeroRange_kept, setReg_kept, zeroThrough_kept]; done) | split | (with_reducible rfl)))

end KvM

theorem KvM.fresh_kept : KvKept KvM.fresh := by
  unfold KvM.fresh
  refine KvKept.get_bind fun x => ?_
  dsimp only
  split
  · rfl
  · exact KvKept.set_bind (draw_kept _) fun _ => .pure _

namespace KvM

theorem clearCounters_kept (v : KvEnv) : KvKept (clearCounters v) := by
  exact .modify fun x => (setReg_kept ..).trans (setReg_kept ..)

theorem poolReset_kept (v : KvEnv) (y : Entry) : KvKept (poolReset v y) := by
  unfold poolReset
  try dsimp only
  all_goals (repeat' (first | (with_reducible_and_instances exact .pure _) | (with_reducible_and_instances exact .throw _) | (with_reducible_and_instances exact .get) | (with_reducible exact clearCounters_kept ..) | (with_reducible exact fresh_kept ..) | (with_reducible exact zeroMeta_kept ..) | (with_reducible exact metaWritable_kept ..) | (with_reducible exact poolResetCheck_kept ..) | (with_reducible exact setPool_kept ..) | (with_reducible exact put_kept ..) | (with_reducible refine KvKept.get_bind fun _ => ?_; (try dsimp only); refine KvKept.set_bind (by simp only [readRunP_kept, stageCheck_kept, setReg_kept, draw_kept]) fun _ => ?_) | (with_reducible refine .bind ?_ fun _ => ?_) | (with_reducible refine .mapM fun _ => ?_) | (with_reducible refine .foldlM fun _ _ => ?_) | (with_reducible refine .forIn fun _ _ => ?_) | (with_reducible refine .modify fun _ => ?_) | (with_reducible exact bumpBy_kept ..) | (with_reducible exact zeroRange_kept ..) | split | (with_reducible rfl)))

theorem seqOpenCheck_kept (v : KvEnv) (y : Entry) : KvKept (seqOpenCheck v y) := by
  unfold seqOpenCheck
  try dsimp only
  all_goals (repeat' (first | (with_reducible_and_instances exact .pure _) | (with_reducible_and_instances exact .throw _) | (with_reducible_and_instances exact .get) | (with_reducible exact range_kept ..) | (with_reducible exact ready_kept ..) | (with_reducible exact admitNew_kept ..) | (with_reducible refine KvKept.get_bind fun _ => ?_; (try dsimp only); refine KvKept.set_bind (by simp only [readRunP_kept, stageCheck_kept, setReg_kept, draw_kept]) fun _ => ?_) | (with_reducible refine .bind ?_ fun _ => ?_) | (with_reducible refine .mapM fun _ => ?_) | (with_reducible refine .foldlM fun _ _ => ?_) | (with_reducible refine .forIn fun _ _ => ?_) | (with_reducible refine .modify fun _ => ?_) | (with_reducible exact bumpBy_kept ..) | (with_reducible exact zeroRange_kept ..) | split | (with_reducible rfl)))

theorem mappable_kept (v : KvEnv) (w0 : List Nat) : KvKept (mappable v w0) := by
  induction w0 with
  | nil => exact .pure _
  | cons g gs ih => unfold mappable; (repeat' (first | exact ih | (with_reducible_and_instances exact .pure _) | (with_reducible_and_instances exact .throw _) | (with_reducible_and_instances exact .get) | (with_reducible exact page_kept ..) | (with_reducible refine KvKept.get_bind fun _ => ?_; (try dsimp only); refine KvKept.set_bind (by simp only [readRunP_kept, stageCheck_kept, setReg_kept, draw_kept]) fun _ => ?_) | (with_reducible refine .bind ?_ fun _ => ?_) | (with_reducible refine .mapM fun _ => ?_) | (with_reducible refine .foldlM fun _ _ => ?_) | (with_reducible refine .forIn fun _ _ => ?_) | (with_reducible refine .modify fun _ => ?_) | (with_reducible exact bumpBy_kept ..) | (with_reducible exact zeroRange_kept ..) | split | (with_reducible rfl)))

theorem seqOpen_kept (v : KvEnv) (y : Entry) : KvKept (seqOpen v y) := by
  unfold seqOpen
  try dsimp only
  all_goals (repeat' (first | (with_reducible_and_instances exact .pure _) | (with_reducible_and_instances exact .throw _) | (with_reducible_and_instances exact .get) | (with_reducible exact mappable_kept ..) | (with_reducible exact seqOpenCheck_kept ..) | (with_reducible exact writeIndex_kept ..) | (with_reducible exact setSeq_kept ..) | (with_reducible exact mapPage_kept ..) | (with_reducible exact prefixPages_kept ..) | (with_reducible exact lookup_kept ..) | (with_reducible exact count_kept ..) | (with_reducible exact setPool_kept ..) | (with_reducible exact put_kept ..) | (with_reducible refine KvKept.get_bind fun _ => ?_; (try dsimp only); refine KvKept.set_bind (by simp only [readRunP_kept, stageCheck_kept, setReg_kept, draw_kept]) fun _ => ?_) | (with_reducible refine .bind ?_ fun _ => ?_) | (with_reducible refine .mapM fun _ => ?_) | (with_reducible refine .foldlM fun _ _ => ?_) | (with_reducible refine .forIn fun _ _ => ?_) | (with_reducible refine .modify fun _ => ?_) | (with_reducible exact bumpBy_kept ..) | (with_reducible exact zeroRange_kept ..) | split | (with_reducible rfl)))

theorem seqForkCheck_kept (v : KvEnv) (y : Entry) : KvKept (seqForkCheck v y) := by
  unfold seqForkCheck
  try dsimp only
  all_goals (repeat' (first | (with_reducible_and_instances exact .pure _) | (with_reducible_and_instances exact .throw _) | (with_reducible_and_instances exact .get) | (with_reducible exact range_kept ..) | (with_reducible exact ready_kept ..) | (with_reducible exact admitNew_kept ..) | (with_reducible exact named_kept ..) | (with_reducible refine KvKept.get_bind fun _ => ?_; (try dsimp only); refine KvKept.set_bind (by simp only [readRunP_kept, stageCheck_kept, setReg_kept, draw_kept]) fun _ => ?_) | (with_reducible refine .bind ?_ fun _ => ?_) | (with_reducible refine .mapM fun _ => ?_) | (with_reducible refine .foldlM fun _ _ => ?_) | (with_reducible refine .forIn fun _ _ => ?_) | (with_reducible refine .modify fun _ => ?_) | (with_reducible exact bumpBy_kept ..) | (with_reducible exact zeroRange_kept ..) | split | (with_reducible rfl)))

theorem seqFork_kept (v : KvEnv) (y : Entry) : KvKept (seqFork v y) := by
  unfold seqFork
  try dsimp only
  all_goals (repeat' (first | (with_reducible_and_instances exact .pure _) | (with_reducible_and_instances exact .throw _) | (with_reducible_and_instances exact .get) | (with_reducible exact seqForkCheck_kept ..) | (with_reducible exact writeIndex_kept ..) | (with_reducible exact entryPage_kept ..) | (with_reducible exact setSeq_kept ..) | (with_reducible exact setPage_kept ..) | (with_reducible exact page_kept ..) | (with_reducible exact setPool_kept ..) | (with_reducible exact put_kept ..) | (with_reducible refine KvKept.get_bind fun _ => ?_; (try dsimp only); refine KvKept.set_bind (by simp only [readRunP_kept, stageCheck_kept, setReg_kept, draw_kept]) fun _ => ?_) | (with_reducible refine .bind ?_ fun _ => ?_) | (with_reducible refine .mapM fun _ => ?_) | (with_reducible refine .foldlM fun _ _ => ?_) | (with_reducible refine .forIn fun _ _ => ?_) | (with_reducible refine .modify fun _ => ?_) | (with_reducible exact bumpBy_kept ..) | (with_reducible exact zeroRange_kept ..) | split | (with_reducible rfl)))

theorem seqAppendCheck_kept (v : KvEnv) (y : Entry) : KvKept (seqAppendCheck v y) := by
  unfold seqAppendCheck
  try dsimp only
  all_goals (repeat' (first | (with_reducible_and_instances exact .pure _) | (with_reducible_and_instances exact .throw _) | (with_reducible_and_instances exact .get) | (with_reducible exact range_kept ..) | (with_reducible exact ready_kept ..) | (with_reducible exact named_kept ..) | (with_reducible refine KvKept.get_bind fun _ => ?_; (try dsimp only); refine KvKept.set_bind (by simp only [readRunP_kept, stageCheck_kept, setReg_kept, draw_kept]) fun _ => ?_) | (with_reducible refine .bind ?_ fun _ => ?_) | (with_reducible refine .mapM fun _ => ?_) | (with_reducible refine .foldlM fun _ _ => ?_) | (with_reducible refine .forIn fun _ _ => ?_) | (with_reducible refine .modify fun _ => ?_) | (with_reducible exact bumpBy_kept ..) | (with_reducible exact zeroRange_kept ..) | split | (with_reducible rfl)))

theorem seqAppend_kept (v : KvEnv) (y : Entry) (e : Nat) : KvKept (seqAppend v y e) := by
  unfold seqAppend
  try dsimp only
  all_goals (repeat' (first | (with_reducible_and_instances exact .pure _) | (with_reducible_and_instances exact .throw _) | (with_reducible_and_instances exact .get) | (with_reducible exact seqAppendCheck_kept ..) | (with_reducible exact appendCommit_kept ..) | (with_reducible exact appendRows_kept ..) | (with_reducible exact appendNeed_kept ..) | (with_reducible exact setSeq_kept ..) | (with_reducible exact pool_kept ..) | (with_reducible refine KvKept.get_bind fun _ => ?_; (try dsimp only); refine KvKept.set_bind (by simp only [readRunP_kept, stageCheck_kept, setReg_kept, draw_kept]) fun _ => ?_) | (with_reducible refine .bind ?_ fun _ => ?_) | (with_reducible refine .mapM fun _ => ?_) | (with_reducible refine .foldlM fun _ _ => ?_) | (with_reducible refine .forIn fun _ _ => ?_) | (with_reducible refine .modify fun _ => ?_) | (with_reducible exact bumpBy_kept ..) | (with_reducible exact zeroRange_kept ..) | split | (with_reducible rfl)))

theorem freeLease_kept (v : KvEnv) (idx : Nat) : KvKept (freeLease v idx) := by
  unfold freeLease
  try dsimp only
  all_goals (repeat' (first | (with_reducible_and_instances exact .pure _) | (with_reducible_and_instances exact .throw _) | (with_reducible_and_instances exact .get) | (with_reducible exact setSeq_kept ..) | (with_reducible exact seq_kept ..) | (with_reducible refine KvKept.get_bind fun _ => ?_; (try dsimp only); refine KvKept.set_bind (by simp only [readRunP_kept, stageCheck_kept, setReg_kept, draw_kept]) fun _ => ?_) | (with_reducible refine .bind ?_ fun _ => ?_) | (with_reducible refine .mapM fun _ => ?_) | (with_reducible refine .foldlM fun _ _ => ?_) | (with_reducible refine .forIn fun _ _ => ?_) | (with_reducible refine .modify fun _ => ?_) | (with_reducible exact bumpBy_kept ..) | (with_reducible exact zeroRange_kept ..) | split | (with_reducible rfl)))

theorem endLease_kept (v : KvEnv) (idx : Nat) (f : Nat → Nat) : KvKept (endLease v idx f) := by
  unfold endLease
  try dsimp only
  all_goals (repeat' (first | (with_reducible_and_instances exact .pure _) | (with_reducible_and_instances exact .throw _) | (with_reducible_and_instances exact .get) | (with_reducible exact setSeq_kept ..) | (with_reducible exact seq_kept ..) | (with_reducible refine KvKept.get_bind fun _ => ?_; (try dsimp only); refine KvKept.set_bind (by simp only [readRunP_kept, stageCheck_kept, setReg_kept, draw_kept]) fun _ => ?_) | (with_reducible refine .bind ?_ fun _ => ?_) | (with_reducible refine .mapM fun _ => ?_) | (with_reducible refine .foldlM fun _ _ => ?_) | (with_reducible refine .forIn fun _ _ => ?_) | (with_reducible refine .modify fun _ => ?_) | (with_reducible exact bumpBy_kept ..) | (with_reducible exact zeroRange_kept ..) | split | (with_reducible rfl)))

theorem seqAppendResume_kept (v : KvEnv) (y : Entry) (idx : Nat) : KvKept (seqAppendResume v y idx) := by
  unfold seqAppendResume
  try dsimp only
  all_goals (repeat' (first | (with_reducible_and_instances exact .pure _) | (with_reducible_and_instances exact .throw _) | (with_reducible_and_instances exact .get) | (with_reducible exact appendCommit_kept ..) | (with_reducible exact appendRows_kept ..) | (with_reducible exact ready_kept ..) | (with_reducible exact seq_kept ..) | (with_reducible refine KvKept.get_bind fun _ => ?_; (try dsimp only); refine KvKept.set_bind (by simp only [readRunP_kept, stageCheck_kept, setReg_kept, draw_kept]) fun _ => ?_) | (with_reducible refine .bind ?_ fun _ => ?_) | (with_reducible refine .mapM fun _ => ?_) | (with_reducible refine .foldlM fun _ _ => ?_) | (with_reducible refine .forIn fun _ _ => ?_) | (with_reducible refine .modify fun _ => ?_) | (with_reducible exact bumpBy_kept ..) | (with_reducible exact zeroRange_kept ..) | split | (with_reducible rfl)))

theorem seqTrimCheck_kept (v : KvEnv) (y : Entry) : KvKept (seqTrimCheck v y) := by
  unfold seqTrimCheck
  try dsimp only
  all_goals (repeat' (first | (with_reducible_and_instances exact .pure _) | (with_reducible_and_instances exact .throw _) | (with_reducible_and_instances exact .get) | (with_reducible exact range_kept ..) | (with_reducible exact ready_kept ..) | (with_reducible exact named_kept ..) | (with_reducible refine KvKept.get_bind fun _ => ?_; (try dsimp only); refine KvKept.set_bind (by simp only [readRunP_kept, stageCheck_kept, setReg_kept, draw_kept]) fun _ => ?_) | (with_reducible refine .bind ?_ fun _ => ?_) | (with_reducible refine .mapM fun _ => ?_) | (with_reducible refine .foldlM fun _ _ => ?_) | (with_reducible refine .forIn fun _ _ => ?_) | (with_reducible refine .modify fun _ => ?_) | (with_reducible exact bumpBy_kept ..) | (with_reducible exact zeroRange_kept ..) | split | (with_reducible rfl)))

theorem releaseFrom_kept (v : KvEnv) (r : SeqRec) (n : Nat) : KvKept (releaseFrom v r n) := by
  unfold releaseFrom
  try dsimp only
  all_goals (repeat' (first | (with_reducible_and_instances exact .pure _) | (with_reducible_and_instances exact .throw _) | (with_reducible_and_instances exact .get) | (with_reducible exact entryPage_kept ..) | (with_reducible exact release_kept ..) | (with_reducible refine KvKept.get_bind fun _ => ?_; (try dsimp only); refine KvKept.set_bind (by simp only [readRunP_kept, stageCheck_kept, setReg_kept, draw_kept]) fun _ => ?_) | (with_reducible refine .bind ?_ fun _ => ?_) | (with_reducible refine .mapM fun _ => ?_) | (with_reducible refine .foldlM fun _ _ => ?_) | (with_reducible refine .forIn fun _ _ => ?_) | (with_reducible refine .modify fun _ => ?_) | (with_reducible exact bumpBy_kept ..) | (with_reducible exact zeroRange_kept ..) | split | (with_reducible rfl)))

theorem seqTrim_kept (v : KvEnv) (y : Entry) : KvKept (seqTrim v y) := by
  unfold seqTrim
  try dsimp only
  all_goals (repeat' (first | (with_reducible_and_instances exact .pure _) | (with_reducible_and_instances exact .throw _) | (with_reducible_and_instances exact .get) | (with_reducible exact releaseFrom_kept ..) | (with_reducible exact seqTrimCheck_kept ..) | (with_reducible exact setSeq_kept ..) | (with_reducible refine KvKept.get_bind fun _ => ?_; (try dsimp only); refine KvKept.set_bind (by simp only [readRunP_kept, stageCheck_kept, setReg_kept, draw_kept]) fun _ => ?_) | (with_reducible refine .bind ?_ fun _ => ?_) | (with_reducible refine .mapM fun _ => ?_) | (with_reducible refine .foldlM fun _ _ => ?_) | (with_reducible refine .forIn fun _ _ => ?_) | (with_reducible refine .modify fun _ => ?_) | (with_reducible exact bumpBy_kept ..) | (with_reducible exact zeroRange_kept ..) | split | (with_reducible rfl)))

theorem seqCloseCheck_kept (v : KvEnv) (y : Entry) : KvKept (seqCloseCheck v y) := by
  unfold seqCloseCheck
  try dsimp only
  all_goals (repeat' (first | (with_reducible_and_instances exact .pure _) | (with_reducible_and_instances exact .throw _) | (with_reducible_and_instances exact .get) | (with_reducible exact ready_kept ..) | (with_reducible exact named_kept ..) | (with_reducible refine KvKept.get_bind fun _ => ?_; (try dsimp only); refine KvKept.set_bind (by simp only [readRunP_kept, stageCheck_kept, setReg_kept, draw_kept]) fun _ => ?_) | (with_reducible refine .bind ?_ fun _ => ?_) | (with_reducible refine .mapM fun _ => ?_) | (with_reducible refine .foldlM fun _ _ => ?_) | (with_reducible refine .forIn fun _ _ => ?_) | (with_reducible refine .modify fun _ => ?_) | (with_reducible exact bumpBy_kept ..) | (with_reducible exact zeroRange_kept ..) | split | (with_reducible rfl)))

theorem seqClose_kept (v : KvEnv) (y : Entry) : KvKept (seqClose v y) := by
  unfold seqClose
  try dsimp only
  all_goals (repeat' (first | (with_reducible_and_instances exact .pure _) | (with_reducible_and_instances exact .throw _) | (with_reducible_and_instances exact .get) | (with_reducible exact seqCloseCheck_kept ..) | (with_reducible exact releaseFrom_kept ..) | (with_reducible exact setSeq_kept ..) | (with_reducible exact setPool_kept ..) | (with_reducible refine KvKept.get_bind fun _ => ?_; (try dsimp only); refine KvKept.set_bind (by simp only [readRunP_kept, stageCheck_kept, setReg_kept, draw_kept]) fun _ => ?_) | (with_reducible refine .bind ?_ fun _ => ?_) | (with_reducible refine .mapM fun _ => ?_) | (with_reducible refine .foldlM fun _ _ => ?_) | (with_reducible refine .forIn fun _ _ => ?_) | (with_reducible refine .modify fun _ => ?_) | (with_reducible exact bumpBy_kept ..) | (with_reducible exact zeroRange_kept ..) | split | (with_reducible rfl)))

theorem prefixQuery_kept (v : KvEnv) (y : Entry) : KvKept (prefixQuery v y) := by
  unfold prefixQuery
  try dsimp only
  all_goals (repeat' (first | (with_reducible_and_instances exact .pure _) | (with_reducible_and_instances exact .throw _) | (with_reducible_and_instances exact .get) | (with_reducible exact ready_kept ..) | (with_reducible exact prefixPages_kept ..) | (with_reducible exact lookup_kept ..) | (with_reducible refine KvKept.get_bind fun _ => ?_; (try dsimp only); refine KvKept.set_bind (by simp only [readRunP_kept, stageCheck_kept, setReg_kept, draw_kept]) fun _ => ?_) | (with_reducible refine .bind ?_ fun _ => ?_) | (with_reducible refine .mapM fun _ => ?_) | (with_reducible refine .foldlM fun _ _ => ?_) | (with_reducible refine .forIn fun _ _ => ?_) | (with_reducible refine .modify fun _ => ?_) | (with_reducible exact bumpBy_kept ..) | (with_reducible exact zeroRange_kept ..) | split | (with_reducible rfl)))

end KvM

@[simp] theorem State.admitKv_kept (s : State) (y : Entry) (e : Nat) (ext : List ExtData) (ups : List Upset) : kept (State.admitKv s y e ext ups).2 = kept s := by
  unfold admitKv
  split
  · rfl
  · split <;> refine kvCheck_kept _ _ _ ?_
    · exact KvM.poolResetCheck_kept ..
    · exact KvM.seqOpenCheck_kept ..
    · exact KvM.seqForkCheck_kept ..
    · exact KvM.seqAppendCheck_kept ..
    · exact KvM.seqTrimCheck_kept ..
    · exact KvM.seqCloseCheck_kept ..
    · exact KvM.ready_kept

theorem State.kvOp_kept (s : State) (r : EntryRef) (op : Nat) (ext : List ExtData) (ups : List Upset) (m : KvEnv → Entry → KvM Nat) (h : ∀ v y, KvKept (m v y)) : kept (State.kvOp s r op ext ups m) = kept s := by
  unfold kvOp
  split
  · rfl
  · split
    · exact finish_kept ..
    · exact (finish_kept ..).trans (kvRun_kept _ _ _ (h _ _))

@[simp] theorem State.dropWaiter_kept (s : State) (v : KvEnv) (w : Waiter) : kept (State.dropWaiter s v w) = kept s := by
  unfold dropWaiter
  exact (kvDo_kept _ _ _ (KvM.freeLease_kept ..)).trans (setKvPool_kept ..)

@[simp] theorem execPoolReset_kept (r : EntryRef) (ext : List ExtData) (upsets : List Upset) (s : State) : outKept (execPoolReset r ext upsets s) = kept s := by
  exact kvOp_kept _ _ _ _ _ _ fun _ _ => KvM.poolReset_kept ..

@[simp] theorem execSeqOpen_kept (r : EntryRef) (ext : List ExtData) (upsets : List Upset) (s : State) : outKept (execSeqOpen r ext upsets s) = kept s := by
  exact kvOp_kept _ _ _ _ _ _ fun _ _ => KvM.seqOpen_kept ..

@[simp] theorem execSeqFork_kept (r : EntryRef) (ext : List ExtData) (upsets : List Upset) (s : State) : outKept (execSeqFork r ext upsets s) = kept s := by
  exact kvOp_kept _ _ _ _ _ _ fun _ _ => KvM.seqFork_kept ..

@[simp] theorem execSeqAppend_kept (r : EntryRef) (ext : List ExtData) (upsets : List Upset) (s : State) : outKept (execSeqAppend r ext upsets s) = kept s := by
  unfold execSeqAppend
  split
  · simp
  · rename_i y _
    split
    · simp
    · split
      · simp
      · rename_i v _
        have hk := kvRun_kept s v _ (KvM.seqAppend_kept v y r.encl)
        revert hk
        generalize s.kvRun v (KvM.seqAppend v y r.encl) = q
        obtain ⟨⟨st, res⟩, fl, b, t⟩ := q
        intro hk
        rcases res with _ | _ | _ <;> simp [hk] <;> exact hk

@[simp] theorem execAppendPagesGranted_kept (pid : Nat) (ext : List ExtData) (upsets : List Upset) (s : State) : outKept (execAppendPagesGranted pid ext upsets s) = kept s := by
  unfold execAppendPagesGranted
  dsimp only
  split
  · simp
  · rename_i w rest _
    split
    · simp
    · split
      · simp
      · split
        · rename_i y v _ _
          have hk := (kvRun_kept (s.setKvPool pid { s.kvPool pid with waits := rest }) v _ (KvM.seqAppendResume_kept v y w.idx)).trans (setKvPool_kept ..)
          revert hk
          generalize (s.setKvPool pid { s.kvPool pid with waits := rest }).kvRun v (KvM.seqAppendResume v y w.idx) = q
          obtain ⟨⟨st, res⟩, fl, b, t⟩ := q
          intro hk
          dsimp only
          split <;> simp [hk] <;> exact hk
        · simp
        · simp

@[simp] theorem execAppendWaitExpiry_kept (pid : Nat) (s : State) : outKept (execAppendWaitExpiry pid s) = kept s := by
  unfold execAppendWaitExpiry
  dsimp only
  split
  · rfl
  · split
    · exact (finish_kept ..).trans ((setKvPool_kept ..).trans ((bump_kept ..).trans (elapseTo_kept ..)))
    · exact (finish_kept ..).trans ((dropWaiter_kept ..).trans ((bump_kept ..).trans (elapseTo_kept ..)))

@[simp] theorem execSeqTrim_kept (r : EntryRef) (ext : List ExtData) (upsets : List Upset) (s : State) : outKept (execSeqTrim r ext upsets s) = kept s := by
  exact kvOp_kept _ _ _ _ _ _ fun _ _ => KvM.seqTrim_kept ..

@[simp] theorem execSeqClose_kept (r : EntryRef) (ext : List ExtData) (upsets : List Upset) (s : State) : outKept (execSeqClose r ext upsets s) = kept s := by
  exact kvOp_kept _ _ _ _ _ _ fun _ _ => KvM.seqClose_kept ..

@[simp] theorem execPrefixQuery_kept (r : EntryRef) (ext : List ExtData) (upsets : List Upset) (s : State) : outKept (execPrefixQuery r ext upsets s) = kept s := by
  unfold execPrefixQuery
  split
  · simp
  · rename_i y _
    split
    · simp
    · rename_i v _
      have hk := kvRun_kept s v _ (KvM.prefixQuery_kept v y)
      revert hk
      generalize s.kvRun v (KvM.prefixQuery v y) = q
      obtain ⟨⟨st, res⟩, fl, b, t⟩ := q
      intro hk
      rcases res with _ | _ <;> simp [hk] <;> exact hk

@[simp] theorem execKvCntClr_kept (mask : Nat) (s : State) : outKept (execKvCntClr mask s) = kept s := by
  unfold execKvCntClr
  try dsimp only
  all_goals repeat' first
    | (with_reducible rfl)
    | (simp only [outKept_next, kept_mk, kept_fold, ite_snd, ite_fst, kept_ite, outKept_ite, ite_self, foldl_kept, foldl_kept2, foldl_kept22, foldl_kept222, implies_true, State.action_kept, State.setReg_kept]; done)
    | split
    | (refine (foldl_kept _ _ _ ?_).trans ?_ <;> intros)
    | (refine (foldl_kept2 _ _ _ ?_).trans ?_ <;> intros)
    | (refine (foldl_kept22 _ _ _ ?_).trans ?_ <;> intros)
    | (refine (foldl_kept222 _ _ _ ?_).trans ?_ <;> intros)
    | (refine (State.action_kept _ _ _ _ ?_).trans ?_ <;> intros)
    | (simp only [outKept_next, kept_mk, kept_fold, ite_snd, ite_fst, kept_ite, outKept_ite, ite_self, foldl_kept, foldl_kept2, foldl_kept22, foldl_kept222, implies_true, State.action_kept, State.setReg_kept])
    | (refine of_pair (by assumption) ?_)
    | (refine of_trip (by assumption) ?_)

@[simp] theorem State.kernelBegins_kept (s : State) (t : Nat) : kept (State.kernelBegins s t) = kept s := by simp [State.kernelBegins]

namespace KvM

theorem attnCheck_kept (v : KvEnv) (h : AttnHdr) (op groupSize : Nat) : KvKept (attnCheck v h op groupSize) := by
  unfold attnCheck
  try dsimp only
  all_goals (repeat' (first | (with_reducible_and_instances exact .pure _) | (with_reducible_and_instances exact .throw _) | (with_reducible_and_instances exact .get) | (with_reducible exact range_kept ..) | (with_reducible exact ready_kept ..) | (with_reducible exact named_kept ..) | (with_reducible exact pool_kept ..) | (with_reducible refine KvKept.get_bind fun _ => ?_; (try dsimp only); refine KvKept.set_bind (by simp only [readRunP_kept, stageCheck_kept, setReg_kept, draw_kept]) fun _ => ?_) | (with_reducible refine .bind ?_ fun _ => ?_) | (with_reducible refine .mapM fun _ => ?_) | (with_reducible refine .foldlM fun _ _ => ?_) | (with_reducible refine .forIn fun _ _ => ?_) | (with_reducible refine .modify fun _ => ?_) | (with_reducible exact bumpBy_kept ..) | (with_reducible exact zeroRange_kept ..) | split | (with_reducible rfl)))

theorem pageOf_kept (v : KvEnv) (r : SeqRec) (plan : List AppPage) (i : Nat) : KvKept (pageOf v r plan i) := by
  unfold pageOf
  try dsimp only
  all_goals (repeat' (first | (with_reducible_and_instances exact .pure _) | (with_reducible_and_instances exact .throw _) | (with_reducible_and_instances exact .get) | (with_reducible exact entryPage_kept ..) | (with_reducible refine KvKept.get_bind fun _ => ?_; (try dsimp only); refine KvKept.set_bind (by simp only [readRunP_kept, stageCheck_kept, setReg_kept, draw_kept]) fun _ => ?_) | (with_reducible refine .bind ?_ fun _ => ?_) | (with_reducible refine .mapM fun _ => ?_) | (with_reducible refine .foldlM fun _ _ => ?_) | (with_reducible refine .forIn fun _ _ => ?_) | (with_reducible refine .modify fun _ => ?_) | (with_reducible exact bumpBy_kept ..) | (with_reducible exact zeroRange_kept ..) | split | (with_reducible rfl)))

theorem pageKeys_kept (v : KvEnv) (l h i g n : Nat) : KvKept (pageKeys v l h i g n) := by
  unfold pageKeys
  try dsimp only
  all_goals (repeat' (first | (with_reducible_and_instances exact .pure _) | (with_reducible_and_instances exact .throw _) | (with_reducible_and_instances exact .get) | (with_reducible exact pool_kept ..) | (with_reducible exact pageBytes_kept ..) | (with_reducible refine KvKept.get_bind fun _ => ?_; (try dsimp only); refine KvKept.set_bind (by simp only [readRunP_kept, stageCheck_kept, setReg_kept, draw_kept]) fun _ => ?_) | (with_reducible refine .bind ?_ fun _ => ?_) | (with_reducible refine .mapM fun _ => ?_) | (with_reducible refine .foldlM fun _ _ => ?_) | (with_reducible refine .forIn fun _ _ => ?_) | (with_reducible refine .modify fun _ => ?_) | (with_reducible exact bumpBy_kept ..) | (with_reducible exact zeroRange_kept ..) | split | (with_reducible rfl)))

theorem queryRow_kept (v : KvEnv) (hd : AttnHdr) (j h g : Nat) : KvKept (queryRow v hd j h g) := by
  unfold queryRow
  try dsimp only
  all_goals (repeat' (first | (with_reducible_and_instances exact .pure _) | (with_reducible_and_instances exact .throw _) | (with_reducible_and_instances exact .get) | (with_reducible exact pool_kept ..) | (with_reducible exact pageBytes_kept ..) | (with_reducible refine KvKept.get_bind fun _ => ?_; (try dsimp only); refine KvKept.set_bind (by simp only [readRunP_kept, stageCheck_kept, setReg_kept, draw_kept]) fun _ => ?_) | (with_reducible refine .bind ?_ fun _ => ?_) | (with_reducible refine .mapM fun _ => ?_) | (with_reducible refine .foldlM fun _ _ => ?_) | (with_reducible refine .forIn fun _ _ => ?_) | (with_reducible refine .modify fun _ => ?_) | (with_reducible exact bumpBy_kept ..) | (with_reducible exact zeroRange_kept ..) | split | (with_reducible rfl)))

theorem kernelFlags_kept (t : Nat) (fl : Nat) : KvKept (kernelFlags t fl) := by
  unfold kernelFlags
  try dsimp only
  all_goals (repeat' (first | (with_reducible_and_instances exact .pure _) | (with_reducible_and_instances exact .throw _) | (with_reducible_and_instances exact .get) | (with_reducible refine KvKept.get_bind fun _ => ?_; (try dsimp only); refine KvKept.set_bind (by simp only [readRunP_kept, readRun_kept, setReg_kept, draw_kept, fpFlags_kept]) fun _ => ?_) | (with_reducible refine .bind ?_ fun _ => ?_) | (with_reducible refine .mapM fun _ => ?_) | (with_reducible refine .foldlM fun _ _ => ?_) | (with_reducible refine .forIn fun _ _ => ?_) | (with_reducible refine .modify fun _ => ?_) | (simp only [bumpBy_kept, zeroRange_kept, setReg_kept, fpFlags_kept]; done) | split | (with_reducible rfl)))

theorem teProduct_kept (v : KvEnv) (t : Nat) (pair : Nat) (kn : Nat) (a : Nat → Nat → Nat) (b : Nat → Nat → Nat) (dead : Nat → Nat → Bool) : KvKept (teProduct v t pair kn a b dead) := by
  unfold teProduct
  try dsimp only
  all_goals (repeat' (first | (with_reducible_and_instances exact .pure _) | (with_reducible_and_instances exact .throw _) | (with_reducible_and_instances exact .get) | (with_reducible exact kernelFlags_kept ..) | (with_reducible refine KvKept.get_bind fun _ => ?_; (try dsimp only); refine KvKept.set_bind (by simp only [readRunP_kept, readRun_kept, setReg_kept, draw_kept, proofDrain_kept]) fun _ => ?_) | (with_reducible refine .bind ?_ fun _ => ?_) | (with_reducible refine .mapM fun _ => ?_) | (with_reducible refine .foldlM fun _ _ => ?_) | (with_reducible refine .forIn fun _ _ => ?_) | (with_reducible refine .modify fun _ => ?_) | (simp only [bumpBy_kept, zeroRange_kept, setReg_kept, proofDrain_kept]; done) | split | (with_reducible rfl)))

theorem dotRows_kept (v : KvEnv) (t : Nat) (pair : Nat) (dim : Nat) (qs : List (List Nat)) (xs : List (List Nat)) (live : Nat → Bool) : KvKept (dotRows v t pair dim qs xs live) := by
  unfold dotRows
  try dsimp only
  all_goals (repeat' (first | (with_reducible_and_instances exact .pure _) | (with_reducible_and_instances exact .throw _) | (with_reducible_and_instances exact .get) | (with_reducible exact teProduct_kept ..) | (with_reducible refine KvKept.get_bind fun _ => ?_; (try dsimp only); refine KvKept.set_bind (by simp only [readRunP_kept, readRun_kept, setReg_kept, draw_kept]) fun _ => ?_) | (with_reducible refine .bind ?_ fun _ => ?_) | (with_reducible refine .mapM fun _ => ?_) | (with_reducible refine .foldlM fun _ _ => ?_) | (with_reducible refine .forIn fun _ _ => ?_) | (with_reducible refine .modify fun _ => ?_) | (simp only [bumpBy_kept, zeroRange_kept, setReg_kept]; done) | split | (with_reducible rfl)))

theorem queryBlocks_kept (v : KvEnv) (hd : AttnHdr) (h : Nat) (per : Nat) : KvKept (queryBlocks v hd h per) := by
  unfold queryBlocks
  try dsimp only
  all_goals (repeat' (first | (with_reducible_and_instances exact .pure _) | (with_reducible_and_instances exact .throw _) | (with_reducible_and_instances exact .get) | (with_reducible exact queryRow_kept ..) | (with_reducible refine KvKept.get_bind fun _ => ?_; (try dsimp only); refine KvKept.set_bind (by simp only [readRunP_kept, readRun_kept, setReg_kept, draw_kept]) fun _ => ?_) | (with_reducible refine .bind ?_ fun _ => ?_) | (with_reducible refine .mapM fun _ => ?_) | (with_reducible refine .foldlM fun _ _ => ?_) | (with_reducible refine .forIn fun _ _ => ?_) | (with_reducible refine .modify fun _ => ?_) | (simp only [bumpBy_kept, zeroRange_kept, setReg_kept]; done) | split | (with_reducible rfl)))

theorem retrieve_kept (v : KvEnv) (hd : AttnHdr) (r : KvM.SeqRec) (h : Nat) (n : Nat) (tile : Nat) : KvKept (retrieve v hd r h n tile) := by
  unfold retrieve
  try dsimp only
  all_goals (repeat' (first | (with_reducible_and_instances exact .pure _) | (with_reducible_and_instances exact .throw _) | (with_reducible_and_instances exact .get) | (with_reducible exact pool_kept ..) | (with_reducible exact pageBytes_kept ..) | (with_reducible exact queryBlocks_kept ..) | (with_reducible exact dotRows_kept ..) | (with_reducible exact kernelFlags_kept ..) | (with_reducible refine KvKept.get_bind fun _ => ?_; (try dsimp only); refine KvKept.set_bind (by simp only [readRunP_kept, readRun_kept, setReg_kept, draw_kept]) fun _ => ?_) | (with_reducible refine .bind ?_ fun _ => ?_) | (with_reducible refine .mapM fun _ => ?_) | (with_reducible refine .foldlM fun _ _ => ?_) | (with_reducible refine .forIn fun _ _ => ?_) | (with_reducible refine .modify fun _ => ?_) | (simp only [bumpBy_kept, zeroRange_kept, setReg_kept]; done) | split | (with_reducible rfl)))

theorem chunkUnit_kept (v : KvEnv) (hd : AttnHdr) (t : Nat) (h : Nat) (c : Nat) (qs : List (Nat × List Nat)) (keys : List Key) (masked : Nat → Nat → Bool) : KvKept (chunkUnit v hd t h c qs keys masked) := by
  unfold chunkUnit
  try dsimp only
  all_goals (repeat' (first | (with_reducible_and_instances exact .pure _) | (with_reducible_and_instances exact .throw _) | (with_reducible_and_instances exact .get) | (with_reducible exact pool_kept ..) | (with_reducible exact dotRows_kept ..) | (with_reducible exact kernelFlags_kept ..) | (with_reducible exact teProduct_kept ..) | (with_reducible refine KvKept.get_bind fun _ => ?_; (try dsimp only); refine KvKept.set_bind (by simp only [readRunP_kept, readRun_kept, setReg_kept, draw_kept, modTile_kept]) fun _ => ?_) | (with_reducible refine .bind ?_ fun _ => ?_) | (with_reducible refine .mapM fun _ => ?_) | (with_reducible refine .foldlM fun _ _ => ?_) | (with_reducible refine .forIn fun _ _ => ?_) | (with_reducible refine .modify fun _ => ?_) | (simp only [bumpBy_kept, zeroRange_kept, setReg_kept, modTile_kept]; done) | split | (with_reducible rfl)))

end KvM

theorem KvM.attend_kept (v : KvEnv) (hd : AttnHdr) (r : SeqRec) (plan : List AppPage) (op n : Nat) (tiles : List Nat) : KvKept (KvM.attend v hd r plan op n tiles) := by
  unfold KvM.attend
  dsimp only
  refine .bind KvM.pool_kept fun _ => .bind (.modify fun _ => foldl_kept _ _ _ fun t a => by simp) fun _ => .bind (.mapM fun _ => ?_) fun _ => ?_
  · split
    · exact .bind (KvM.retrieve_kept ..) fun _ => .bind (.mapM fun _ => .bind (KvM.pageOf_kept ..) fun _ => KvM.pageKeys_kept ..) fun _ =>
        .bind (KvM.queryBlocks_kept ..) fun _ => .bind (.mapM fun _ => .mapM fun _ => KvM.chunkUnit_kept ..) fun _ => .pure _
    · exact .bind (.pure _) fun _ => .bind (.mapM fun _ => .bind (KvM.pageOf_kept ..) fun _ => KvM.pageKeys_kept ..) fun _ =>
        .bind (KvM.queryBlocks_kept ..) fun _ => .bind (.mapM fun _ => .mapM fun _ => KvM.chunkUnit_kept ..) fun _ => .pure _
  · refine .bind .get fun _ => ?_
    split
    · exact .throw _
    · exact .pure _

namespace KvM

theorem walkS_kept (v : KvEnv) (r : SeqRec) (op : Nat) : KvKept (walkS v r op) := by
  unfold walkS
  try dsimp only
  all_goals (repeat' (first | (with_reducible_and_instances exact .pure _) | (with_reducible_and_instances exact .throw _) | (with_reducible_and_instances exact .get) | (with_reducible exact entryPage_kept ..) | (with_reducible exact page_kept ..) | (with_reducible exact pool_kept ..) | (with_reducible refine KvKept.get_bind fun _ => ?_; (try dsimp only); refine KvKept.set_bind (by simp only [readRunP_kept, stageCheck_kept, setReg_kept, draw_kept]) fun _ => ?_) | (with_reducible refine .bind ?_ fun _ => ?_) | (with_reducible refine .mapM fun _ => ?_) | (with_reducible refine .foldlM fun _ _ => ?_) | (with_reducible refine .forIn fun _ _ => ?_) | (with_reducible refine .modify fun _ => ?_) | (with_reducible exact bumpBy_kept ..) | (with_reducible exact zeroRange_kept ..) | split | (with_reducible rfl)))

theorem attnRun_kept (v : KvEnv) (hd : AttnHdr) (y : Entry) (r : EntryRef) (tiles : List Nat) (a5 : Bool) : KvKept (attnRun v hd y r tiles a5) := by
  unfold attnRun
  try dsimp only
  all_goals (repeat' (first | (with_reducible_and_instances exact .pure _) | (with_reducible_and_instances exact .throw _) | (with_reducible_and_instances exact .get) | (with_reducible exact pool_kept ..) | (with_reducible exact walkS_kept ..) | (with_reducible exact setSeq_kept ..) | (with_reducible exact attend_kept ..) | (with_reducible exact appendPlan_kept ..) | (with_reducible exact appendNeed_kept ..) | (with_reducible exact seq_kept ..) | (with_reducible exact attnCheck_kept ..) | (with_reducible refine KvKept.get_bind fun _ => ?_; (try dsimp only); refine KvKept.set_bind (by simp only [readRunP_kept, readRun_kept, setReg_kept, draw_kept]) fun _ => ?_) | (with_reducible refine .bind ?_ fun _ => ?_) | (with_reducible refine .mapM fun _ => ?_) | (with_reducible refine .foldlM fun _ _ => ?_) | (with_reducible refine .forIn fun _ _ => ?_) | (with_reducible refine .modify fun _ => ?_) | (simp only [bumpBy_kept, zeroRange_kept, setReg_kept]; done) | split | (with_reducible rfl)))

theorem attnUndo_kept (v : KvEnv) (a : Attn) : KvKept (attnUndo v a) := by
  unfold attnUndo
  try dsimp only
  all_goals (repeat' (first | (with_reducible_and_instances exact .pure _) | (with_reducible_and_instances exact .throw _) | (with_reducible_and_instances exact .get) | (with_reducible exact freeLease_kept ..) | (with_reducible exact appendUndo_kept ..) | (with_reducible refine KvKept.get_bind fun _ => ?_; (try dsimp only); refine KvKept.set_bind (by simp only [readRunP_kept, stageCheck_kept, setReg_kept, draw_kept]) fun _ => ?_) | (with_reducible refine .bind ?_ fun _ => ?_) | (with_reducible refine .mapM fun _ => ?_) | (with_reducible refine .foldlM fun _ _ => ?_) | (with_reducible refine .forIn fun _ _ => ?_) | (with_reducible refine .modify fun _ => ?_) | (with_reducible exact bumpBy_kept ..) | (with_reducible exact zeroRange_kept ..) | split | (with_reducible rfl)))

theorem attnCommit_kept (v : KvEnv) (a : Attn) : KvKept (attnCommit v a) := by
  unfold attnCommit
  try dsimp only
  all_goals (repeat' (first | (with_reducible_and_instances exact .pure _) | (with_reducible_and_instances exact .throw _) | (with_reducible_and_instances exact .get) | (with_reducible exact appendCommit_kept ..) | (with_reducible exact appendApply_kept ..) | (with_reducible exact seq_kept ..) | (with_reducible refine KvKept.get_bind fun _ => ?_; (try dsimp only); refine KvKept.set_bind (by simp only [readRunP_kept, stageCheck_kept, setReg_kept, draw_kept]) fun _ => ?_) | (with_reducible refine .bind ?_ fun _ => ?_) | (with_reducible refine .mapM fun _ => ?_) | (with_reducible refine .foldlM fun _ _ => ?_) | (with_reducible refine .forIn fun _ _ => ?_) | (with_reducible refine .modify fun _ => ?_) | (with_reducible exact bumpBy_kept ..) | (with_reducible exact zeroRange_kept ..) | split | (with_reducible rfl)))

end KvM

@[simp] theorem State.attnAdmit_kept (s : State) (y : Entry) (e : Nat) (ext : List ExtData) (ups : List Upset) : kept (State.attnAdmit s y e ext ups).2 = kept s := by
  simp only [State.attnAdmit]
  (repeat' split) <;> simp

theorem State.admitAttn_kept (s : State) (y : Entry) (e : Nat) (ext : List ExtData) (ups : List Upset) : kept (State.admitAttn s y e ext ups).2 = kept s := by
  have h1 := attnAdmit_kept s y e ext ups
  unfold admitAttn
  split
  · rename_i heq; rw [heq] at h1; exact h1
  · rename_i heq; rw [heq] at h1; exact (kvCheck_kept _ _ _ (KvM.attnCheck_kept ..)).trans h1

@[simp] theorem State.partialWrites_kept (s : State) (op : Nat) (a : Attn) : kept (State.partialWrites s op a).2 = kept s := by
  unfold State.partialWrites
  try dsimp only
  all_goals repeat' first
    | (with_reducible rfl)
    | (simp only [outKept_next, kept_mk, kept_fold, ite_snd, ite_fst, kept_ite, outKept_ite, ite_self, foldl_kept, foldl_kept2, foldl_kept22, foldl_kept222, implies_true, State.deny_kept]; done)
    | split
    | (refine (foldl_kept _ _ _ ?_).trans ?_ <;> intros)
    | (refine (foldl_kept2 _ _ _ ?_).trans ?_ <;> intros)
    | (refine (foldl_kept22 _ _ _ ?_).trans ?_ <;> intros)
    | (refine (foldl_kept222 _ _ _ ?_).trans ?_ <;> intros)
    | (simp only [outKept_next, kept_mk, kept_fold, ite_snd, ite_fst, kept_ite, outKept_ite, ite_self, foldl_kept, foldl_kept2, foldl_kept22, foldl_kept222, implies_true, State.deny_kept])
    | (refine of_pair (by assumption) ?_)
    | (refine of_trip (by assumption) ?_)

@[simp] theorem State.setAttn_kept (s : State) (a : Attn) : kept (State.setAttn s a) = kept s := by simp [State.setAttn]

@[simp] theorem State.dropAttn_kept (s : State) (r : EntryRef) : kept (State.dropAttn s r) = kept s := by simp [State.dropAttn]

@[simp] theorem State.attnUndo_kept (s : State) (r : EntryRef) : kept (State.attnUndo s r) = kept s := by
  unfold attnUndo
  split
  · rfl
  · dsimp only
    split
    · exact dropAttn_kept ..
    · split
      · exact dropAttn_kept ..
      · exact (kvDo_kept _ _ _ (KvM.attnUndo_kept ..)).trans (dropAttn_kept ..)

@[simp] theorem State.attnEnd_kept (s : State) (r : EntryRef) (st : Status) : kept (State.attnEnd s r st) = kept s := by simp [State.attnEnd]

@[simp] theorem State.attnEnds_kept (a : Attn) (code : Status) (x : (Status × Option Unit) × Nat × Bool × State) : kept (State.attnEnds a code x) = kept x.2.2.2 := by simp [State.attnEnds]

@[simp] theorem State.attnFinish_kept (s : State) (a : Attn) (ext : List ExtData) (ups : List Upset) : kept (State.attnFinish s a ext ups) = kept s := by
  unfold attnFinish
  dsimp only
  generalize (if (Option.map (fun x => x.poisoned) (s.entry a.r)).getD false = true then Status.poisoned else Status.ok) = code
  split
  · exact (finish_kept ..).trans (dropAttn_kept ..)
  · split
    · exact attnEnd_kept ..
    · exact (attnEnds_kept ..).trans (kvRun_kept _ _ _ (KvM.attnCommit_kept ..))

theorem State.mergeHead_kept (s : State) (op : Nat) (a : Attn) (h : Nat) (ext : List ExtData) (ups : List Upset) : kept (State.mergeHead s op a h ext ups) = kept s := by
  unfold mergeHead
  extract_lets es c per
  have hk : ∀ (f : Status × Nat × State → Nat → Status × Nat × State) (l : List Nat),
      (∀ t a, kept (f t a).2.2 = kept t.2.2) → kept (l.foldl f (.ok, 0, s)).2.2 = kept s :=
    fun f l hf => foldl_kept_of (·.2.2) f l _ hf
  generalize hf : (fun (acc : Status × Nat × State) (jr : Nat) => _) = f
  have hf' : ∀ t a, kept (f t a).2.2 = kept t.2.2 := by
    intro t a
    rw [← hf]
    dsimp only
    split
    · rfl
    · exact writeRun_kept ..
  have hk := hk f (List.range (a.rows * a.group)) hf'
  revert hk
  generalize (List.range (a.rows * a.group)).foldl f (.ok, 0, s) = p
  obtain ⟨st, fl, s1⟩ := p
  intro hk
  dsimp only
  generalize (if st = Status.poisoned then Status.poisoned else Status.ok) = code
  split
  · exact (attnEnd_kept ..).trans ((contribute_kept ..).trans hk)
  · split
    · exact (setAttn_kept ..).trans ((contribute_kept ..).trans hk)
    · split
      · exact (setAttn_kept ..).trans ((contribute_kept ..).trans hk)
      · exact (attnFinish_kept ..).trans ((setAttn_kept ..).trans ((contribute_kept ..).trans hk))

theorem State.attnStart.go_kept (r : EntryRef) (op : Nat) (ext : List ExtData) (ups : List Upset) (s : State) (y : Entry) (h : AttnHdr) (v : KvEnv) (tiles : List Nat) (p : Pool) (granted : Bool) : kept (State.attnStart.go r op ext ups s y h v tiles p granted) = kept s := by
  have hk := (kvRun_kept (s.setKvPool v.pid p) v _ (KvM.attnRun_kept v h y r tiles granted)).trans (setKvPool_kept ..)
  unfold attnStart.go
  dsimp only
  revert hk
  generalize (s.setKvPool v.pid p).kvRun v (KvM.attnRun v h y r tiles granted) = q
  obtain ⟨⟨st, res⟩, fl, b, t⟩ := q
  intro hk
  dsimp only
  generalize (if b = true then Status.poisoned else Status.ok) = code
  have hc := (contribute_kept t r code 0 fl false).trans hk
  generalize t.contribute r code 0 fl false = t1 at hc
  rcases res with _ | _ | a
  · refine (finish_kept ..).trans ?_
    split
    · exact (kvDo_kept _ _ _ (KvM.freeLease_kept ..)).trans hc
    · exact hc
  · exact (setKvPool_kept ..).trans hc
  · have hp := (partialWrites_kept (t1.modEntry r fun z => { z with tiles := tileMask tiles }) op a).trans ((modEntry_kept ..).trans hc)
    dsimp only
    revert hp
    generalize (t1.modEntry r fun z => { z with tiles := tileMask tiles }).partialWrites op a = q
    obtain ⟨w, t2⟩ := q
    intro hp
    dsimp only
    split
    · exact (attnEnd_kept ..).trans ((setAttn_kept ..).trans hp)
    · split
      · refine (foldl_kept _ _ _ ?_).trans ((setAttn_kept ..).trans hp)
        intro u k
        split
        · rfl
        · exact mergeHead_kept ..
      · exact (setAttn_kept ..).trans hp

@[simp] theorem State.attnStart_kept (s : State) (r : EntryRef) (op : Nat) (ext : List ExtData) (ups : List Upset) (flips : List (Nat × Nat × Nat)) : kept (State.attnStart s r op ext ups flips) = kept s := by
  unfold attnStart
  split
  · rfl
  · rename_i y _
    dsimp only
    split
    · rfl
    · have h1 := attnAdmit_kept s y r.encl ext ups
      split
      · rename_i heq; rw [heq] at h1; exact (finish_kept ..).trans h1
      · rename_i heq; rw [heq] at h1
        split
        · split
          · exact h1
          · exact (attnStart.go_kept ..).trans h1
        · exact (attnStart.go_kept ..).trans h1

@[simp] theorem execPrefillAttn_kept (r : EntryRef) (ext : List ExtData) (upsets : List Upset) (accFlips : List (Nat × Nat × Nat)) (s : State) : outKept (execPrefillAttn r ext upsets accFlips s) = kept s := by simp [execPrefillAttn]

@[simp] theorem execDecodeAttn_kept (r : EntryRef) (ext : List ExtData) (upsets : List Upset) (accFlips : List (Nat × Nat × Nat)) (s : State) : outKept (execDecodeAttn r ext upsets accFlips s) = kept s := by simp [execDecodeAttn]

@[simp] theorem execRetrievalAttn_kept (r : EntryRef) (ext : List ExtData) (upsets : List Upset) (accFlips : List (Nat × Nat × Nat)) (s : State) : outKept (execRetrievalAttn r ext upsets accFlips s) = kept s := by simp [execRetrievalAttn]

@[simp] theorem execPartialMerge_kept (r : EntryRef) (head : Nat) (ext : List ExtData) (upsets : List Upset) (s : State) : outKept (execPartialMerge r head ext upsets s) = kept s := by
  unfold execPartialMerge
  try dsimp only
  all_goals repeat' first
    | (with_reducible rfl)
    | (simp only [outKept_next, kept_mk, kept_fold, ite_snd, ite_fst, kept_ite, outKept_ite, ite_self, foldl_kept, foldl_kept2, foldl_kept22, foldl_kept222, implies_true, State.mergeHead_kept]; done)
    | split
    | (refine (foldl_kept _ _ _ ?_).trans ?_ <;> intros)
    | (refine (foldl_kept2 _ _ _ ?_).trans ?_ <;> intros)
    | (refine (foldl_kept22 _ _ _ ?_).trans ?_ <;> intros)
    | (refine (foldl_kept222 _ _ _ ?_).trans ?_ <;> intros)
    | (simp only [outKept_next, kept_mk, kept_fold, ite_snd, ite_fst, kept_ite, outKept_ite, ite_self, foldl_kept, foldl_kept2, foldl_kept22, foldl_kept222, implies_true, State.mergeHead_kept])
    | (refine of_pair (by assumption) ?_)
    | (refine of_trip (by assumption) ?_)

end Sys2Proof.Machine
end

