-- ==== Sys2Proof/Laws/KeptIo.lean ====
section
/-! SUPPORT. The operations on the links, the network, time, sensors, movers and weights keep the queue, the boot flash and the fuses. -/

set_option linter.unusedSimpArgs false

namespace Sys2Proof.Machine

open State

theorem State.regCmd_kept (s : State) (who : Requester) (op : WOp) (k : Nat) (f : State → Status × Nat × State) (h_f : ∀ y0, kept (f y0).2.2 = kept y0) : kept (State.regCmd s who op k f) = kept s := by
  unfold regCmd
  split
  · rename_i heq; exact (respond_kept ..).trans (regGate_kept heq)
  · exact (respond_kept ..).trans (h_f _)

theorem State.inStates_kept (s : State) (who : Requester) (k : Nat) (w : WSet) (acts : Bool) (f : State → Status × Nat × State) (h_f : ∀ y0, kept (f y0).2.2 = kept y0) : kept (State.inStates s who k w acts f).2.2 = kept s := by simp [State.inStates, h_f]

@[simp] theorem State.loomDone_kept (s : State) (q : LReq) (st : Status) (d : List Byte) : kept (State.loomDone s q st d) = kept s := by
  unfold State.loomDone
  (repeat' split) <;> simp

@[simp] theorem State.viaLost_kept (s : State) (via : Nat) : kept (State.viaLost s via) = kept s := by
  unfold State.viaLost
  try dsimp only
  all_goals repeat' first
    | (with_reducible rfl)
    | (simp only [outKept_next, kept_mk, kept_fold, ite_snd, ite_fst, kept_ite, outKept_ite, ite_self, foldl_kept, foldl_kept2, foldl_kept22, foldl_kept222, implies_true, State.bump_kept, State.loomDone_kept]; done)
    | split
    | (refine (foldl_kept _ _ _ ?_).trans ?_ <;> intros)
    | (refine (foldl_kept2 _ _ _ ?_).trans ?_ <;> intros)
    | (refine (foldl_kept22 _ _ _ ?_).trans ?_ <;> intros)
    | (refine (foldl_kept222 _ _ _ ?_).trans ?_ <;> intros)
    | (simp only [outKept_next, kept_mk, kept_fold, ite_snd, ite_fst, kept_ite, outKept_ite, ite_self, foldl_kept, foldl_kept2, foldl_kept22, foldl_kept222, implies_true, State.bump_kept, State.loomDone_kept])
    | (refine of_pair (by assumption) ?_)
    | (refine of_trip (by assumption) ?_)

@[simp] theorem State.portState_kept (s : State) (p : Nat) (st : LState) : kept (State.portState s p st) = kept s := by simp [State.portState]

@[simp] theorem State.portDown_kept (s : State) (p : Nat) : kept (State.portDown s p) = kept s := by simp [State.portDown]

@[simp] theorem State.protoError_kept (s : State) (p : Nat) : kept (State.protoError s p) = kept s := by simp [State.protoError]

@[simp] theorem State.portUp_kept (s : State) (p : Nat) : kept (State.portUp s p) = kept s := by simp [State.portUp]

@[simp] theorem State.portOff_kept (s : State) (p : Nat) : kept (State.portOff s p) = kept s := by simp [State.portOff]

@[simp] theorem State.moverSignal_kept (s : State) (m : Nat) (c : Nat) : kept (State.moverSignal s m c) = kept s := by simp [State.moverSignal]

@[simp] theorem State.recordEnds_kept (m : Nat) (c : Nat) (r : Running) (x : Status × State) : kept (State.recordEnds m c r x).2 = kept x.2 := by simp [State.recordEnds]

@[simp] theorem State.chRecord_kept (s : State) (m : Nat) (c : Nat) (r : Running) (ups : List Upset) : kept (State.chRecord s m c r ups).2 = kept s := by simp [State.chRecord]

@[simp] theorem State.peekEnds_kept (x : Status × List Byte × State) : kept (State.peekEnds x).2.2 = kept x.2.2 := by simp [State.peekEnds]

@[simp] theorem State.chPeek_kept (s : State) (m : Nat) (c : Nat) (ups : List Upset) : kept (State.chPeek s m c ups).2.2 = kept s := by
  exact (peekEnds_kept _).trans (readRun_kept ..)

@[simp] theorem State.flushOne_kept (m : Nat) (c : Nat) (code : Status) (ups : List Upset) (x : Nat × Nat × State) : kept (State.flushOne m c code ups x) = kept x.2.2 := by simp [State.flushOne]

@[simp] theorem State.chFlush_kept (s : State) (m : Nat) (c : Nat) (code : Status) (ups : List Upset) (a5 : Nat) : kept (State.chFlush s m c code ups a5) = kept s := by
  induction a5 generalizing s with
  | zero => rfl
  | succ n ih =>
    rw [chFlush.eq_2]
    split
    · rfl
    · exact (ih _).trans ((flushOne_kept ..).trans (chPeek_kept ..))

@[simp] theorem State.chStop_kept (s : State) (m : Nat) (c : Nat) (code : Status) (ups : List Upset) : kept (State.chStop s m c code ups) = kept s := by simp [State.chStop]

@[simp] theorem State.chAbort_kept (s : State) (m : Nat) (c : Nat) (code : Status) : kept (State.chAbort s m c code) = kept s := by
  simp only [State.chAbort]
  (repeat' split) <;> simp

@[simp] theorem State.chLeaseEnd_kept (s : State) (m : Nat) (c : Nat) (seized : Bool) : kept (State.chLeaseEnd s m c seized) = kept s := by simp [State.chLeaseEnd]

@[simp] theorem State.chLeaseTick_kept (s : State) (m : Nat) (c : Nat) : kept (State.chLeaseTick s m c) = kept s := by simp [State.chLeaseTick]

@[simp] theorem State.chAcquire_kept (s : State) (who : Requester) (m : Nat) (c : Nat) : kept (State.chAcquire s who m c).2.2 = kept s := by simp [State.chAcquire]

@[simp] theorem State.chRenew_kept (s : State) (who : Requester) (m : Nat) (c : Nat) (gen : Nat) (release : Bool) : kept (State.chRenew s who m c gen release).2.2 = kept s := by simp [State.chRenew]

theorem State.byHolder_kept (s : State) (who : Requester) (m : Nat) (c : Nat) (f : State → Status × Nat × State) (h_f : ∀ y0, kept (f y0).2.2 = kept y0) : kept (State.byHolder s who m c f).2.2 = kept s := by simp [State.byHolder, h_f]

@[simp] theorem State.readElem_kept (s : State) (who : Requester) (base : Nat) (at2 : Nat) (es : Nat) (ext : List ExtData) (ups : List Upset) : kept (State.readElem s who base at2 es ext ups).2.2.2 = kept s := by simp [State.readElem]

@[simp] theorem State.srcPlane_kept (s : State) (who : Requester) (d : List Byte) (base : Nat) (ext : List ExtData) (ups : List Upset) : kept (State.srcPlane s who d base ext ups).2.2 = kept s := by
  unfold State.srcPlane
  try dsimp only
  all_goals repeat' first
    | (with_reducible rfl)
    | (simp only [outKept_next, kept_mk, kept_fold, ite_snd, ite_fst, kept_ite, outKept_ite, ite_self, foldl_kept, foldl_kept2, foldl_kept22, foldl_kept222, implies_true, State.readElem_kept]; done)
    | split
    | (refine (foldl_kept _ _ _ ?_).trans ?_ <;> intros)
    | (refine (foldl_kept2 _ _ _ ?_).trans ?_ <;> intros)
    | (refine (foldl_kept22 _ _ _ ?_).trans ?_ <;> intros)
    | (refine (foldl_kept222 _ _ _ ?_).trans ?_ <;> intros)
    | (simp only [outKept_next, kept_mk, kept_fold, ite_snd, ite_fst, kept_ite, outKept_ite, ite_self, foldl_kept, foldl_kept2, foldl_kept22, foldl_kept222, implies_true, State.readElem_kept])
    | (refine of_pair (by assumption) ?_)
    | (refine of_trip (by assumption) ?_)

@[simp] theorem State.writePacked_kept (s : State) (who : Requester) (a : Nat) (l : List (Byte × Bool)) (acc : Copied) (ext : List ExtData) (ups : List Upset) : kept (State.writePacked s who a l acc ext ups).2 = kept s := by
  unfold State.writePacked
  try dsimp only
  all_goals repeat' first
    | (with_reducible rfl)
    | (simp only [outKept_next, kept_mk, kept_fold, ite_snd, ite_fst, kept_ite, outKept_ite, ite_self, foldl_kept, foldl_kept2, foldl_kept22, foldl_kept222, implies_true, State.requestWriteP_kept]; done)
    | split
    | (refine (foldl_kept _ _ _ ?_).trans ?_ <;> intros)
    | (refine (foldl_kept2 _ _ _ ?_).trans ?_ <;> intros)
    | (refine (foldl_kept22 _ _ _ ?_).trans ?_ <;> intros)
    | (refine (foldl_kept222 _ _ _ ?_).trans ?_ <;> intros)
    | (simp only [outKept_next, kept_mk, kept_fold, ite_snd, ite_fst, kept_ite, outKept_ite, ite_self, foldl_kept, foldl_kept2, foldl_kept22, foldl_kept222, implies_true, State.requestWriteP_kept])
    | (refine of_pair (by assumption) ?_)
    | (refine of_trip (by assumption) ?_)

@[simp] theorem State.writePlaneD_kept (s : State) (who : Requester) (d : List Byte) (base : Nat) (vals : List (Nat × Bool)) (acc : Copied) (ext : List ExtData) (ups : List Upset) : kept (State.writePlaneD s who d base vals acc ext ups).2 = kept s := by
  unfold State.writePlaneD
  try dsimp only
  all_goals repeat' first
    | (with_reducible rfl)
    | (simp only [outKept_next, kept_mk, kept_fold, ite_snd, ite_fst, kept_ite, outKept_ite, ite_self, foldl_kept, foldl_kept2, foldl_kept22, foldl_kept222, implies_true, State.writePacked_kept]; done)
    | split
    | (refine (foldl_kept _ _ _ ?_).trans ?_ <;> intros)
    | (refine (foldl_kept2 _ _ _ ?_).trans ?_ <;> intros)
    | (refine (foldl_kept22 _ _ _ ?_).trans ?_ <;> intros)
    | (refine (foldl_kept222 _ _ _ ?_).trans ?_ <;> intros)
    | (simp only [outKept_next, kept_mk, kept_fold, ite_snd, ite_fst, kept_ite, outKept_ite, ite_self, foldl_kept, foldl_kept2, foldl_kept22, foldl_kept222, implies_true, State.writePacked_kept])
    | (refine of_pair (by assumption) ?_)
    | (refine of_trip (by assumption) ?_)

@[simp] theorem State.mixPlane_kept (s : State) (who : Requester) (d : List Byte) (sb : Nat) (db : Nat) (vals : List (Nat × Bool)) (acc : Copied) (ext : List ExtData) (ups : List Upset) : kept (State.mixPlane s who d sb db vals acc ext ups).2 = kept s := by simp [State.mixPlane]

@[simp] theorem State.copyRun_kept (s : State) (who : Requester) (d : List Byte) (ext : List ExtData) (ups : List Upset) : kept (State.copyRun s who d ext ups).2 = kept s := by
  unfold State.copyRun
  try dsimp only
  all_goals repeat' first
    | (with_reducible rfl)
    | (simp only [outKept_next, kept_mk, kept_fold, ite_snd, ite_fst, kept_ite, outKept_ite, ite_self, foldl_kept, foldl_kept2, foldl_kept22, foldl_kept222, implies_true, State.srcPlane_kept, State.mixPlane_kept, State.writePlaneD_kept]; done)
    | split
    | (refine (foldl_kept _ _ _ ?_).trans ?_ <;> intros)
    | (refine (foldl_kept2 _ _ _ ?_).trans ?_ <;> intros)
    | (refine (foldl_kept22 _ _ _ ?_).trans ?_ <;> intros)
    | (refine (foldl_kept222 _ _ _ ?_).trans ?_ <;> intros)
    | (simp only [outKept_next, kept_mk, kept_fold, ite_snd, ite_fst, kept_ite, outKept_ite, ite_self, foldl_kept, foldl_kept2, foldl_kept22, foldl_kept222, implies_true, State.srcPlane_kept, State.mixPlane_kept, State.writePlaneD_kept])
    | (refine of_pair (by assumption) ?_)
    | (refine of_trip (by assumption) ?_)

@[simp] theorem State.walkRun_kept (s : State) (who : Requester) (d : List Byte) (ext : List ExtData) (ups : List Upset) : kept (State.walkRun s who d ext ups).2 = kept s := by
  unfold State.walkRun
  try dsimp only
  all_goals repeat' first
    | (with_reducible rfl)
    | (simp only [outKept_next, kept_mk, kept_fold, ite_snd, ite_fst, kept_ite, outKept_ite, ite_self, foldl_kept, foldl_kept2, foldl_kept22, foldl_kept222, implies_true, State.readRun_kept, State.readRunP_kept, State.writePacked_kept]; done)
    | split
    | (refine (foldl_kept _ _ _ ?_).trans ?_ <;> intros)
    | (refine (foldl_kept2 _ _ _ ?_).trans ?_ <;> intros)
    | (refine (foldl_kept22 _ _ _ ?_).trans ?_ <;> intros)
    | (refine (foldl_kept222 _ _ _ ?_).trans ?_ <;> intros)
    | (simp only [outKept_next, kept_mk, kept_fold, ite_snd, ite_fst, kept_ite, outKept_ite, ite_self, foldl_kept, foldl_kept2, foldl_kept22, foldl_kept222, implies_true, State.readRun_kept, State.readRunP_kept, State.writePacked_kept])
    | (refine of_pair (by assumption) ?_)
    | (refine of_trip (by assumption) ?_)

@[simp] theorem State.descRun_kept (s : State) (who : Requester) (d : List Byte) (ext : List ExtData) (ups : List Upset) : kept (State.descRun s who d ext ups).2 = kept s := by simp [State.descRun]

@[simp] theorem execMoverLeaseAcquire_kept (who : Requester) (m : Nat) (c : Nat) (s : State) : outKept (execMoverLeaseAcquire who m c s) = kept s := by simp [execMoverLeaseAcquire, State.regCmd_kept, State.inStates_kept]

@[simp] theorem execMoverLeaseRenew_kept (who : Requester) (m : Nat) (c : Nat) (gen : Nat) (s : State) : outKept (execMoverLeaseRenew who m c gen s) = kept s := by simp [execMoverLeaseRenew, State.regCmd_kept, State.inStates_kept]

@[simp] theorem execMoverLeaseRelease_kept (who : Requester) (m : Nat) (c : Nat) (gen : Nat) (s : State) : outKept (execMoverLeaseRelease who m c gen s) = kept s := by simp [execMoverLeaseRelease, State.regCmd_kept, State.inStates_kept]

@[simp] theorem execMoverDoorbell_kept (who : Requester) (m : Nat) (c : Nat) (tail : Nat) (s : State) : outKept (execMoverDoorbell who m c tail s) = kept s := by
  unfold execMoverDoorbell
  try dsimp only
  all_goals repeat' first
    | (with_reducible rfl)
    | (simp only [outKept_next, kept_mk, kept_fold, ite_snd, ite_fst, kept_ite, outKept_ite, ite_self, foldl_kept, foldl_kept2, foldl_kept22, foldl_kept222, implies_true, State.regCmd_kept, State.inStates_kept, State.byHolder_kept, State.setFld_kept, State.modMchan_kept]; done)
    | split
    | (refine (foldl_kept _ _ _ ?_).trans ?_ <;> intros)
    | (refine (foldl_kept2 _ _ _ ?_).trans ?_ <;> intros)
    | (refine (foldl_kept22 _ _ _ ?_).trans ?_ <;> intros)
    | (refine (foldl_kept222 _ _ _ ?_).trans ?_ <;> intros)
    | (refine (State.regCmd_kept _ _ _ _ _ ?_).trans ?_ <;> intros)
    | (refine (State.inStates_kept _ _ _ _ _ _ ?_).trans ?_ <;> intros)
    | (refine (State.byHolder_kept _ _ _ _ _ ?_).trans ?_ <;> intros)
    | (simp only [outKept_next, kept_mk, kept_fold, ite_snd, ite_fst, kept_ite, outKept_ite, ite_self, foldl_kept, foldl_kept2, foldl_kept22, foldl_kept222, implies_true, State.regCmd_kept, State.inStates_kept, State.byHolder_kept, State.setFld_kept, State.modMchan_kept])
    | (refine of_pair (by assumption) ?_)
    | (refine of_trip (by assumption) ?_)

@[simp] theorem State.descRuns_kept (m : Nat) (c : Nat) (op : Option EntryRef) (d : List Byte) (x : Copied × State) : kept (State.descRuns m c op d x) = kept x.2 := by simp [State.descRuns]

@[simp] theorem State.descBegin_kept (m : Nat) (c : Nat) (op : Option EntryRef) (ext : List ExtData) (ups : List Upset) (x : Status × List Byte × State) : kept (State.descBegin m c op ext ups x) = kept x.2.2 := by simp [State.descBegin]

@[simp] theorem execDescriptorStart_kept (m : Nat) (c : Nat) (op : Option EntryRef) (ext : List ExtData) (upsets : List Upset) (s : State) : outKept (execDescriptorStart m c op ext upsets s) = kept s := by simp [execDescriptorStart]

@[simp] theorem State.descServed_kept (s : State) (r : Running) (code : Status) : kept (State.descServed s r code) = kept s := by
  unfold State.descServed
  try dsimp only
  all_goals repeat' first
    | (with_reducible rfl)
    | (simp only [outKept_next, kept_mk, kept_fold, ite_snd, ite_fst, kept_ite, outKept_ite, ite_self, foldl_kept, foldl_kept2, foldl_kept22, foldl_kept222, implies_true, State.contribute_kept]; done)
    | split
    | (refine (foldl_kept _ _ _ ?_).trans ?_ <;> intros)
    | (refine (foldl_kept2 _ _ _ ?_).trans ?_ <;> intros)
    | (refine (foldl_kept22 _ _ _ ?_).trans ?_ <;> intros)
    | (refine (foldl_kept222 _ _ _ ?_).trans ?_ <;> intros)
    | (simp only [outKept_next, kept_mk, kept_fold, ite_snd, ite_fst, kept_ite, outKept_ite, ite_self, foldl_kept, foldl_kept2, foldl_kept22, foldl_kept222, implies_true, State.contribute_kept])
    | (refine of_pair (by assumption) ?_)
    | (refine of_trip (by assumption) ?_)

@[simp] theorem State.descEnds_kept (m : Nat) (c : Nat) (r : Running) (x : Status × State) : kept (State.descEnds m c r x) = kept x.2 := by simp [State.descEnds]

@[simp] theorem execDescriptorComplete_kept (m : Nat) (c : Nat) (s : State) : outKept (execDescriptorComplete m c s) = kept s := by
  simp only [execDescriptorComplete]
  (repeat' split) <;> simp

@[simp] theorem execMoverResume_kept (who : Requester) (m : Nat) (c : Nat) (s : State) : outKept (execMoverResume who m c s) = kept s := by
  unfold execMoverResume
  try dsimp only
  all_goals repeat' first
    | (with_reducible rfl)
    | (simp only [outKept_next, kept_mk, kept_fold, ite_snd, ite_fst, kept_ite, outKept_ite, ite_self, foldl_kept, foldl_kept2, foldl_kept22, foldl_kept222, implies_true, State.regCmd_kept, State.inStates_kept, State.byHolder_kept, State.modMchan_kept]; done)
    | split
    | (refine (foldl_kept _ _ _ ?_).trans ?_ <;> intros)
    | (refine (foldl_kept2 _ _ _ ?_).trans ?_ <;> intros)
    | (refine (foldl_kept22 _ _ _ ?_).trans ?_ <;> intros)
    | (refine (foldl_kept222 _ _ _ ?_).trans ?_ <;> intros)
    | (refine (State.regCmd_kept _ _ _ _ _ ?_).trans ?_ <;> intros)
    | (refine (State.inStates_kept _ _ _ _ _ _ ?_).trans ?_ <;> intros)
    | (refine (State.byHolder_kept _ _ _ _ _ ?_).trans ?_ <;> intros)
    | (simp only [outKept_next, kept_mk, kept_fold, ite_snd, ite_fst, kept_ite, outKept_ite, ite_self, foldl_kept, foldl_kept2, foldl_kept22, foldl_kept222, implies_true, State.regCmd_kept, State.inStates_kept, State.byHolder_kept, State.modMchan_kept])
    | (refine of_pair (by assumption) ?_)
    | (refine of_trip (by assumption) ?_)

@[simp] theorem State.countSeizure_kept (s : State) (p : Party) : kept (State.countSeizure s p) = kept s := by
  unfold State.countSeizure
  (repeat' split) <;> simp

@[simp] theorem State.endWord_kept (s : State) (pid : Nat) (w : Waiter) (seized : Bool) : kept (State.endWord s pid w seized) = kept s := by
  rw [endWord.eq_1]
  split
  · rfl
  · exact kvDo_kept _ _ _ (KvM.endLease_kept ..)

@[simp] theorem State.endAppend_kept (s : State) (pid : Nat) (w : Waiter) (seized : Bool) : kept (State.endAppend s pid w seized) = kept s := by
  rw [endAppend.eq_1]
  split
  · exact (attnEnd_kept ..).trans ((endWord_kept ..).trans (setKvPool_kept ..))
  · exact (finish_kept ..).trans ((endWord_kept ..).trans (setKvPool_kept ..))

@[simp] theorem State.endRemote_kept (s : State) (f : RLease → Bool) (seized : Bool) : kept (State.endRemote s f seized) = kept s := by simp [State.endRemote]

@[simp] theorem State.endBarrier_kept (s : State) (f : Coll → Bool) (st : Status) : kept (State.endBarrier s f st) = kept s := by
  unfold State.endBarrier
  try dsimp only
  all_goals repeat' first
    | (with_reducible rfl)
    | (simp only [outKept_next, kept_mk, kept_fold, ite_snd, ite_fst, kept_ite, outKept_ite, ite_self, foldl_kept, foldl_kept2, foldl_kept22, foldl_kept222, implies_true, State.finish_kept]; done)
    | split
    | (refine (foldl_kept _ _ _ ?_).trans ?_ <;> intros)
    | (refine (foldl_kept2 _ _ _ ?_).trans ?_ <;> intros)
    | (refine (foldl_kept22 _ _ _ ?_).trans ?_ <;> intros)
    | (refine (foldl_kept222 _ _ _ ?_).trans ?_ <;> intros)
    | (simp only [outKept_next, kept_mk, kept_fold, ite_snd, ite_fst, kept_ite, outKept_ite, ite_self, foldl_kept, foldl_kept2, foldl_kept22, foldl_kept222, implies_true, State.finish_kept])
    | (refine of_pair (by assumption) ?_)
    | (refine of_trip (by assumption) ?_)

@[simp] theorem State.keeperEnds_kept (s : State) (idx : Nat) (pc : Nat) : kept (State.keeperEnds s idx pc) = kept s := by
  unfold State.keeperEnds
  try dsimp only
  all_goals repeat' first
    | (with_reducible rfl)
    | (simp only [outKept_next, kept_mk, kept_fold, ite_snd, ite_fst, kept_ite, outKept_ite, ite_self, foldl_kept, foldl_kept2, foldl_kept22, foldl_kept222, implies_true, State.endCommons_kept, State.chLeaseEnd_kept, State.endAppend_kept, State.endBarrier_kept, State.endRemote_kept]; done)
    | split
    | (refine (foldl_kept _ _ _ ?_).trans ?_ <;> intros)
    | (refine (foldl_kept2 _ _ _ ?_).trans ?_ <;> intros)
    | (refine (foldl_kept22 _ _ _ ?_).trans ?_ <;> intros)
    | (refine (foldl_kept222 _ _ _ ?_).trans ?_ <;> intros)
    | (simp only [outKept_next, kept_mk, kept_fold, ite_snd, ite_fst, kept_ite, outKept_ite, ite_self, foldl_kept, foldl_kept2, foldl_kept22, foldl_kept222, implies_true, State.endCommons_kept, State.chLeaseEnd_kept, State.endAppend_kept, State.endBarrier_kept, State.endRemote_kept])
    | (refine of_pair (by assumption) ?_)
    | (refine of_trip (by assumption) ?_)

@[simp] theorem State.seize_kept (s : State) (p : Party) : kept (State.seize s p) = kept s := by simp [State.seize]

@[simp] theorem State.seizeNow_kept (s : State) (p : Party) : kept (State.seizeNow s p) = kept s := by
  unfold State.seizeNow
  try dsimp only
  all_goals repeat' first
    | (with_reducible rfl)
    | (simp only [outKept_next, kept_mk, kept_fold, ite_snd, ite_fst, kept_ite, outKept_ite, ite_self, foldl_kept, foldl_kept2, foldl_kept22, foldl_kept222, implies_true, State.keeperEnds_kept, State.countSeizure_kept]; done)
    | split
    | (refine (foldl_kept _ _ _ ?_).trans ?_ <;> intros)
    | (refine (foldl_kept2 _ _ _ ?_).trans ?_ <;> intros)
    | (refine (foldl_kept22 _ _ _ ?_).trans ?_ <;> intros)
    | (refine (foldl_kept222 _ _ _ ?_).trans ?_ <;> intros)
    | (simp only [outKept_next, kept_mk, kept_fold, ite_snd, ite_fst, kept_ite, outKept_ite, ite_self, foldl_kept, foldl_kept2, foldl_kept22, foldl_kept222, implies_true, State.keeperEnds_kept, State.countSeizure_kept])
    | (refine of_pair (by assumption) ?_)
    | (refine of_trip (by assumption) ?_)

@[simp] theorem State.seizureAct_kept (s : State) (i : Nat) : kept (State.seizureAct s i) = kept s := by
  unfold State.seizureAct
  (repeat' split) <;> simp

@[simp] theorem execLeaseExpiry_kept (l : LeaseRef) (s : State) : outKept (execLeaseExpiry l s) = kept s := by
  unfold execLeaseExpiry
  (repeat' split) <;> simp

@[simp] theorem execSeizureOrder_kept (k : Keeper) (s : State) : outKept (execSeizureOrder k s) = kept s := by simp [execSeizureOrder]

@[simp] theorem State.discipline_kept (s : State) (src : Nat) (off : Int) : kept (State.discipline s src off) = kept s := by simp [State.discipline]

@[simp] theorem State.sideMeasure_kept (s : State) (src : Nat) (off : Int) : kept (State.sideMeasure s src off) = kept s := by simp [State.sideMeasure]

@[simp] theorem State.measure_kept (s : State) (src : Nat) (off : Int) : kept (State.measure s src off) = kept s := by simp [State.measure]

@[simp] theorem State.setGptp_kept (s : State) (p : Nat) (x : GptpPort) : kept (State.setGptp s p x) = kept s := by simp [State.setGptp]

@[simp] theorem State.sendPtp_kept (s : State) (p : Nat) (kind : Nat) (seq : Nat) (time : Nat) : kept (State.sendPtp s p kind seq time) = kept s := by simp [State.sendPtp]

@[simp] theorem State.gptpRx_kept (s : State) (p : Nat) (m : List Byte) : kept (State.gptpRx s p m) = kept s := by
  simp only [State.gptpRx]
  (repeat' split) <;> simp

@[simp] theorem execPpsInEdge_kept (dt : Nat) (s : State) : outKept (execPpsInEdge dt s) = kept s := by simp [execPpsInEdge]

@[simp] theorem execGptpSyncTimer_kept (s : State) : outKept (execGptpSyncTimer s) = kept s := by
  unfold execGptpSyncTimer
  try dsimp only
  all_goals repeat' first
    | (with_reducible rfl)
    | (simp only [outKept_next, kept_mk, kept_fold, ite_snd, ite_fst, kept_ite, outKept_ite, ite_self, foldl_kept, foldl_kept2, foldl_kept22, foldl_kept222, implies_true, State.elapseTo_kept, State.setGptp_kept, State.sendPtp_kept]; done)
    | split
    | (refine (foldl_kept _ _ _ ?_).trans ?_ <;> intros)
    | (refine (foldl_kept2 _ _ _ ?_).trans ?_ <;> intros)
    | (refine (foldl_kept22 _ _ _ ?_).trans ?_ <;> intros)
    | (refine (foldl_kept222 _ _ _ ?_).trans ?_ <;> intros)
    | (simp only [outKept_next, kept_mk, kept_fold, ite_snd, ite_fst, kept_ite, outKept_ite, ite_self, foldl_kept, foldl_kept2, foldl_kept22, foldl_kept222, implies_true, State.elapseTo_kept, State.setGptp_kept, State.sendPtp_kept])
    | (refine of_pair (by assumption) ?_)
    | (refine of_trip (by assumption) ?_)

@[simp] theorem execPdelayTimer_kept (s : State) : outKept (execPdelayTimer s) = kept s := by
  unfold execPdelayTimer
  try dsimp only
  all_goals repeat' first
    | (with_reducible rfl)
    | (simp only [outKept_next, kept_mk, kept_fold, ite_snd, ite_fst, kept_ite, outKept_ite, ite_self, foldl_kept, foldl_kept2, foldl_kept22, foldl_kept222, implies_true, State.elapseTo_kept, State.setGptp_kept, State.sendPtp_kept]; done)
    | split
    | (refine (foldl_kept _ _ _ ?_).trans ?_ <;> intros)
    | (refine (foldl_kept2 _ _ _ ?_).trans ?_ <;> intros)
    | (refine (foldl_kept22 _ _ _ ?_).trans ?_ <;> intros)
    | (refine (foldl_kept222 _ _ _ ?_).trans ?_ <;> intros)
    | (simp only [outKept_next, kept_mk, kept_fold, ite_snd, ite_fst, kept_ite, outKept_ite, ite_self, foldl_kept, foldl_kept2, foldl_kept22, foldl_kept222, implies_true, State.elapseTo_kept, State.setGptp_kept, State.sendPtp_kept])
    | (refine of_pair (by assumption) ?_)
    | (refine of_trip (by assumption) ?_)

@[simp] theorem execTsuSourceLost_kept (s : State) : outKept (execTsuSourceLost s) = kept s := by simp [execTsuSourceLost]

@[simp] theorem execTsuHoldoverExpiry_kept (s : State) : outKept (execTsuHoldoverExpiry s) = kept s := by simp [execTsuHoldoverExpiry]

@[simp] theorem execPpsOutPulse_kept (s : State) : outKept (execPpsOutPulse s) = kept s := by simp [execPpsOutPulse]

@[simp] theorem execTsuTimeLoRead_kept (who : Requester) (s : State) : outKept (execTsuTimeLoRead who s) = kept s := by simp [execTsuTimeLoRead, State.regCmd_kept]

@[simp] theorem State.rxDrop_kept (s : State) (e : Nat) (m : Nat) : kept (State.rxDrop s e m) = kept s := by simp [State.rxDrop]

@[simp] theorem State.rxEnds_kept (e : Nat) (m : Nat) (tail : Nat) (x : Status × State) : kept (State.rxEnds e m tail x) = kept x.2 := by simp [State.rxEnds]

@[simp] theorem State.netRx_kept (s : State) (m : Nat) (frame : List Byte) (stamp : Nat) (vlan : Bool) (ext : List ExtData) (ups : List Upset) : kept (State.netRx s m frame stamp vlan ext ups) = kept s := by
  unfold State.netRx
  (repeat' split) <;> simp

@[simp] theorem State.txFrame_kept (e : Nat) (m : Nat) (a : Nat) (ext : List ExtData) (ups : List Upset) (x : Status × List Byte × State) : kept (State.txFrame e m a ext ups x).2.2 = kept x.2.2 := by simp [State.txFrame]

@[simp] theorem State.txEnds_kept (e : Nat) (m : Nat) (head : Nat) (up : Bool) (x : Status × List Byte × State) : kept (State.txEnds e m head up x) = kept x.2.2 := by simp [State.txEnds]

@[simp] theorem State.netTxOne_kept (s : State) (e : Nat) (m : Nat) (head : Nat) (up : Bool) (ext : List ExtData) (ups : List Upset) : kept (State.netTxOne s e m head up ext ups) = kept s := by simp [State.netTxOne]

@[simp] theorem State.netTx_kept (s : State) (e : Nat) (m : Nat) (up : Bool) (ext : List ExtData) (ups : List Upset) : kept (State.netTx s e m up ext ups) = kept s := by
  unfold State.netTx
  try dsimp only
  all_goals repeat' first
    | (with_reducible rfl)
    | (simp only [outKept_next, kept_mk, kept_fold, ite_snd, ite_fst, kept_ite, outKept_ite, ite_self, foldl_kept, foldl_kept2, foldl_kept22, foldl_kept222, implies_true, State.netTxOne_kept]; done)
    | split
    | (refine (foldl_kept _ _ _ ?_).trans ?_ <;> intros)
    | (refine (foldl_kept2 _ _ _ ?_).trans ?_ <;> intros)
    | (refine (foldl_kept22 _ _ _ ?_).trans ?_ <;> intros)
    | (refine (foldl_kept222 _ _ _ ?_).trans ?_ <;> intros)
    | (simp only [outKept_next, kept_mk, kept_fold, ite_snd, ite_fst, kept_ite, outKept_ite, ite_self, foldl_kept, foldl_kept2, foldl_kept22, foldl_kept222, implies_true, State.netTxOne_kept])
    | (refine of_pair (by assumption) ?_)
    | (refine of_trip (by assumption) ?_)

@[simp] theorem execNetTxDoorbell_kept (who : Requester) (e : Nat) (m : Nat) (tail : Nat) (up : Bool) (ext : List ExtData) (upsets : List Upset) (s : State) : outKept (execNetTxDoorbell who e m tail up ext upsets s) = kept s := by simp [execNetTxDoorbell, State.regCmd_kept, State.inStates_kept]

@[simp] theorem State.setStream_kept (s : State) (k : Nat) (x : Stream) : kept (State.setStream s k x) = kept s := by simp [State.setStream]

@[simp] theorem State.portDiscard_kept (s : State) (id : Nat) : kept (State.portDiscard s id) = kept s := by simp [State.portDiscard]

@[simp] theorem State.countDiscard_kept (s : State) (k : Nat) (j : Judged) : kept (State.countDiscard s k j) = kept s := by
  unfold State.countDiscard
  (repeat' split) <;> simp

@[simp] theorem State.ringWrite_kept (s : State) (r : StreamRec) (x : Stream) (arrival : Nat) (counter : Nat) (lost : Nat) (j : Judged) (senderValid : Bool) (payload : List Byte) (ext : List ExtData) (ups : List Upset) : kept (State.ringWrite s r x arrival counter lost j senderValid payload ext ups).2 = kept s := by simp [State.ringWrite]

@[simp] theorem State.datum_kept (s : State) (k : Nat) (r : StreamRec) (arrival : Nat) (backlog : Nat) (whole : Bool) (codesOk : Bool) (hdr : List Byte) (payload : List Byte) (ext : List ExtData) (ups : List Upset) : kept (State.datum s k r arrival backlog whole codesOk hdr payload ext ups) = kept s := by
  unfold State.datum
  (repeat' split) <;> simp

@[simp] theorem State.readBind_kept (s : State) (y : Entry) (e : Nat) (ext : List ExtData) (ups : List Upset) : kept (State.readBind s y e ext ups).2.2 = kept s := by simp [State.readBind]

@[simp] theorem State.admitIngest_kept (s : State) (y : Entry) (e : Nat) (ext : List ExtData) (ups : List Upset) : kept (State.admitIngest s y e ext ups).2 = kept s := by simp [State.admitIngest]

@[simp] theorem State.applyBind_kept (s : State) : kept (State.applyBind s) = kept s := by
  unfold State.applyBind
  try dsimp only
  all_goals repeat' first
    | (with_reducible rfl)
    | (simp only [outKept_next, kept_mk, kept_fold, ite_snd, ite_fst, kept_ite, outKept_ite, ite_self, foldl_kept, foldl_kept2, foldl_kept22, foldl_kept222, implies_true, State.setStream_kept, State.finish_kept]; done)
    | split
    | (refine (foldl_kept _ _ _ ?_).trans ?_ <;> intros)
    | (refine (foldl_kept2 _ _ _ ?_).trans ?_ <;> intros)
    | (refine (foldl_kept22 _ _ _ ?_).trans ?_ <;> intros)
    | (refine (foldl_kept222 _ _ _ ?_).trans ?_ <;> intros)
    | (simp only [outKept_next, kept_mk, kept_fold, ite_snd, ite_fst, kept_ite, outKept_ite, ite_self, foldl_kept, foldl_kept2, foldl_kept22, foldl_kept222, implies_true, State.setStream_kept, State.finish_kept])
    | (refine of_pair (by assumption) ?_)
    | (refine of_trip (by assumption) ?_)

@[simp] theorem State.closeSummaries_kept (s : State) : kept (State.closeSummaries s) = kept s := by
  unfold State.closeSummaries
  try dsimp only
  all_goals repeat' first
    | (with_reducible rfl)
    | (simp only [outKept_next, kept_mk, kept_fold, ite_snd, ite_fst, kept_ite, outKept_ite, ite_self, foldl_kept, foldl_kept2, foldl_kept22, foldl_kept222, implies_true, State.setStream_kept]; done)
    | split
    | (refine (foldl_kept _ _ _ ?_).trans ?_ <;> intros)
    | (refine (foldl_kept2 _ _ _ ?_).trans ?_ <;> intros)
    | (refine (foldl_kept22 _ _ _ ?_).trans ?_ <;> intros)
    | (refine (foldl_kept222 _ _ _ ?_).trans ?_ <;> intros)
    | (simp only [outKept_next, kept_mk, kept_fold, ite_snd, ite_fst, kept_ite, outKept_ite, ite_self, foldl_kept, foldl_kept2, foldl_kept22, foldl_kept222, implies_true, State.setStream_kept])
    | (refine of_pair (by assumption) ?_)
    | (refine of_trip (by assumption) ?_)

@[simp] theorem State.resumeStreams_kept (s : State) : kept (State.resumeStreams s) = kept s := by
  unfold State.resumeStreams
  try dsimp only
  all_goals repeat' first
    | (with_reducible rfl)
    | (simp only [outKept_next, kept_mk, kept_fold, ite_snd, ite_fst, kept_ite, outKept_ite, ite_self, foldl_kept, foldl_kept2, foldl_kept22, foldl_kept222, implies_true, State.setStream_kept]; done)
    | split
    | (refine (foldl_kept _ _ _ ?_).trans ?_ <;> intros)
    | (refine (foldl_kept2 _ _ _ ?_).trans ?_ <;> intros)
    | (refine (foldl_kept22 _ _ _ ?_).trans ?_ <;> intros)
    | (refine (foldl_kept222 _ _ _ ?_).trans ?_ <;> intros)
    | (simp only [outKept_next, kept_mk, kept_fold, ite_snd, ite_fst, kept_ite, outKept_ite, ite_self, foldl_kept, foldl_kept2, foldl_kept22, foldl_kept222, implies_true, State.setStream_kept])
    | (refine of_pair (by assumption) ?_)
    | (refine of_trip (by assumption) ?_)

@[simp] theorem State.outbound_kept (s : State) (dataId : Nat) (payload : List Byte) : kept (State.outbound s dataId payload).2 = kept s := by simp [State.outbound]

@[simp] theorem State.holdBack_kept (s : State) : kept (State.holdBack s) = kept s := by simp [State.holdBack]

@[simp] theorem State.ownerFrame_kept (s : State) (m : Nat) (id : Nat) (f : List Byte) (arr : Nat) (vlan : Bool) (ext : List ExtData) (ups : List Upset) : kept (State.ownerFrame s m id f arr vlan ext ups) = kept s := by
  unfold State.ownerFrame
  (repeat' split) <;> simp

@[simp] theorem State.sensorFrame_kept (s : State) (m : Nat) (id : Nat) (p : Port) (f : List Byte) (fcsOk : Bool) (backlog : Nat) (ext : List ExtData) (ups : List Upset) : kept (State.sensorFrame s m id p f fcsOk backlog ext ups) = kept s := by
  unfold State.sensorFrame
  (repeat' split) <;> simp

@[simp] theorem execIngestBind_kept (r : EntryRef) (ext : List ExtData) (upsets : List Upset) (s : State) : outKept (execIngestBind r ext upsets s) = kept s := by
  simp only [execIngestBind]
  (repeat' split) <;> simp

@[simp] theorem execCsi2FrameStart_kept (port : Nat) (vc : Nat) (dt : Nat) (backlog : Nat) (s : State) : outKept (execCsi2FrameStart port vc dt backlog s) = kept s := by
  unfold execCsi2FrameStart
  try dsimp only
  all_goals repeat' first
    | (with_reducible rfl)
    | (simp only [outKept_next, kept_mk, kept_fold, ite_snd, ite_fst, kept_ite, outKept_ite, ite_self, foldl_kept, foldl_kept2, foldl_kept22, foldl_kept222, implies_true, State.elapse_kept, State.datum_kept]; done)
    | split
    | (refine (foldl_kept _ _ _ ?_).trans ?_ <;> intros)
    | (refine (foldl_kept2 _ _ _ ?_).trans ?_ <;> intros)
    | (refine (foldl_kept22 _ _ _ ?_).trans ?_ <;> intros)
    | (refine (foldl_kept222 _ _ _ ?_).trans ?_ <;> intros)
    | (simp only [outKept_next, kept_mk, kept_fold, ite_snd, ite_fst, kept_ite, outKept_ite, ite_self, foldl_kept, foldl_kept2, foldl_kept22, foldl_kept222, implies_true, State.elapse_kept, State.datum_kept])
    | (refine of_pair (by assumption) ?_)
    | (refine of_trip (by assumption) ?_)

@[simp] theorem execCsi2LongPacket_kept (port : Nat) (vc : Nat) (dataType : Nat) (data : List Byte) (headerOk : Bool) (crcOk : Bool) (s : State) : outKept (execCsi2LongPacket port vc dataType data headerOk crcOk s) = kept s := by
  simp only [execCsi2LongPacket]
  (repeat' split) <;> simp

@[simp] theorem execCsi2FrameEnd_kept (port : Nat) (vc : Nat) (ext : List ExtData) (upsets : List Upset) (s : State) : outKept (execCsi2FrameEnd port vc ext upsets s) = kept s := by
  unfold execCsi2FrameEnd
  try dsimp only
  all_goals repeat' first
    | (with_reducible rfl)
    | (simp only [outKept_next, kept_mk, kept_fold, ite_snd, ite_fst, kept_ite, outKept_ite, ite_self, foldl_kept, foldl_kept2, foldl_kept22, foldl_kept222, implies_true, State.portDiscard_kept, State.datum_kept]; done)
    | split
    | (refine (foldl_kept _ _ _ ?_).trans ?_ <;> intros)
    | (refine (foldl_kept2 _ _ _ ?_).trans ?_ <;> intros)
    | (refine (foldl_kept22 _ _ _ ?_).trans ?_ <;> intros)
    | (refine (foldl_kept222 _ _ _ ?_).trans ?_ <;> intros)
    | (simp only [outKept_next, kept_mk, kept_fold, ite_snd, ite_fst, kept_ite, outKept_ite, ite_self, foldl_kept, foldl_kept2, foldl_kept22, foldl_kept222, implies_true, State.portDiscard_kept, State.datum_kept])
    | (refine of_pair (by assumption) ?_)
    | (refine of_trip (by assumption) ?_)

@[simp] theorem execEthernetFrameRx_kept (m : Nat) (frame : List Byte) (fcsOk : Bool) (dt : Nat) (backlog : Nat) (ext : List ExtData) (upsets : List Upset) (s : State) : outKept (execEthernetFrameRx m frame fcsOk dt backlog ext upsets s) = kept s := by
  simp only [execEthernetFrameRx]
  (repeat' split) <;> simp

@[simp] theorem execImuDrdy_kept (n : Nat) (dt : Nat) (s : State) : outKept (execImuDrdy n dt s) = kept s := by
  simp only [execImuDrdy]
  (repeat' split) <;> simp

@[simp] theorem execImuTransferDone_kept (n : Nat) (data : List Byte) (backlog : Nat) (ext : List ExtData) (upsets : List Upset) (s : State) : outKept (execImuTransferDone n data backlog ext upsets s) = kept s := by
  simp only [execImuTransferDone]
  (repeat' split) <;> simp

@[simp] theorem execCanFrameRx_kept (n : Nat) (ident : Nat) (fd : Bool) (crcOk : Bool) (own : Bool) (data : List Byte) (dt : Nat) (backlog : Nat) (ext : List ExtData) (upsets : List Upset) (s : State) : outKept (execCanFrameRx n ident fd crcOk own data dt backlog ext upsets s) = kept s := by
  simp only [execCanFrameRx]
  (repeat' split) <;> simp

@[simp] theorem execStreamSilent_kept (k : Nat) (s : State) : outKept (execStreamSilent k s) = kept s := by
  simp only [execStreamSilent]
  (repeat' split) <;> simp

@[simp] theorem execStrCntClrPorts_kept (who : Requester) (s : State) : outKept (execStrCntClrPorts who s) = kept s := by
  unfold execStrCntClrPorts
  try dsimp only
  all_goals repeat' first
    | (with_reducible rfl)
    | (simp only [outKept_next, kept_mk, kept_fold, ite_snd, ite_fst, kept_ite, outKept_ite, ite_self, foldl_kept, foldl_kept2, foldl_kept22, foldl_kept222, implies_true, State.regCmd_kept, State.inStates_kept, State.setReg_kept]; done)
    | split
    | (refine (foldl_kept _ _ _ ?_).trans ?_ <;> intros)
    | (refine (foldl_kept2 _ _ _ ?_).trans ?_ <;> intros)
    | (refine (foldl_kept22 _ _ _ ?_).trans ?_ <;> intros)
    | (refine (foldl_kept222 _ _ _ ?_).trans ?_ <;> intros)
    | (refine (State.regCmd_kept _ _ _ _ _ ?_).trans ?_ <;> intros)
    | (refine (State.inStates_kept _ _ _ _ _ _ ?_).trans ?_ <;> intros)
    | (simp only [outKept_next, kept_mk, kept_fold, ite_snd, ite_fst, kept_ite, outKept_ite, ite_self, foldl_kept, foldl_kept2, foldl_kept22, foldl_kept222, implies_true, State.regCmd_kept, State.inStates_kept, State.setReg_kept])
    | (refine of_pair (by assumption) ?_)
    | (refine of_trip (by assumption) ?_)

@[simp] theorem execStrCntClrStreams_kept (who : Requester) (s : State) : outKept (execStrCntClrStreams who s) = kept s := by
  unfold execStrCntClrStreams
  try dsimp only
  all_goals repeat' first
    | (with_reducible rfl)
    | (simp only [outKept_next, kept_mk, kept_fold, ite_snd, ite_fst, kept_ite, outKept_ite, ite_self, foldl_kept, foldl_kept2, foldl_kept22, foldl_kept222, implies_true, State.regCmd_kept, State.inStates_kept, State.setReg_kept]; done)
    | split
    | (refine (foldl_kept _ _ _ ?_).trans ?_ <;> intros)
    | (refine (foldl_kept2 _ _ _ ?_).trans ?_ <;> intros)
    | (refine (foldl_kept22 _ _ _ ?_).trans ?_ <;> intros)
    | (refine (foldl_kept222 _ _ _ ?_).trans ?_ <;> intros)
    | (refine (State.regCmd_kept _ _ _ _ _ ?_).trans ?_ <;> intros)
    | (refine (State.inStates_kept _ _ _ _ _ _ ?_).trans ?_ <;> intros)
    | (simp only [outKept_next, kept_mk, kept_fold, ite_snd, ite_fst, kept_ite, outKept_ite, ite_self, foldl_kept, foldl_kept2, foldl_kept22, foldl_kept222, implies_true, State.regCmd_kept, State.inStates_kept, State.setReg_kept])
    | (refine of_pair (by assumption) ?_)
    | (refine of_trip (by assumption) ?_)

@[simp] theorem State.addJob_kept (s : State) (j : Job) : kept (State.addJob s j) = kept s := by simp [State.addJob]

@[simp] theorem State.dropJobs_kept (s : State) (f : Job → Bool) : kept (State.dropJobs s f) = kept s := by simp [State.dropJobs]

@[simp] theorem State.dropEgoBind_kept (s : State) (r : EntryRef) : kept (State.dropEgoBind s r) = kept s := by simp [State.dropEgoBind]

@[simp] theorem State.midRun_kept (s : State) (j : Job) : kept (State.midRun s j).2 = kept s := by simp [State.midRun]

@[simp] theorem State.stopResult_kept (s : State) (j : Job) (outcome : Nat) : kept (State.stopResult s j outcome).2 = kept s := by simp [State.stopResult]

@[simp] theorem State.stopJobs_kept (s : State) (f : Job → Bool) (st : Status) : kept (State.stopJobs s f st) = kept s := by
  unfold State.stopJobs
  try dsimp only
  all_goals repeat' first
    | (with_reducible rfl)
    | (simp only [outKept_next, kept_mk, kept_fold, ite_snd, ite_fst, kept_ite, outKept_ite, ite_self, foldl_kept, foldl_kept2, foldl_kept22, foldl_kept222, implies_true, State.dropJobs_kept, State.stopResult_kept, State.finish_kept]; done)
    | split
    | (refine (foldl_kept _ _ _ ?_).trans ?_ <;> intros)
    | (refine (foldl_kept2 _ _ _ ?_).trans ?_ <;> intros)
    | (refine (foldl_kept22 _ _ _ ?_).trans ?_ <;> intros)
    | (refine (foldl_kept222 _ _ _ ?_).trans ?_ <;> intros)
    | (simp only [outKept_next, kept_mk, kept_fold, ite_snd, ite_fst, kept_ite, outKept_ite, ite_self, foldl_kept, foldl_kept2, foldl_kept22, foldl_kept222, implies_true, State.dropJobs_kept, State.stopResult_kept, State.finish_kept])
    | (refine of_pair (by assumption) ?_)
    | (refine of_trip (by assumption) ?_)

@[simp] theorem State.chkFail_kept (s : State) (e : Nat) (row : Nat) (wher : Nat) : kept (State.chkFail s e row wher) = kept s := by simp [State.chkFail]

@[simp] theorem State.solveDesc_kept (s : State) (y : Entry) (e : Nat) (len : Nat) (ext : List ExtData) (ups : List Upset) : kept (State.solveDesc s y e len ext ups).2.2 = kept s := by simp [State.solveDesc]

@[simp] theorem State.admitLse_kept (s : State) (y : Entry) (e : Nat) (ext : List ExtData) (ups : List Upset) : kept (State.admitLse s y e ext ups).2 = kept s := by simp [State.admitLse]

@[simp] theorem State.solveStart_kept (s : State) (r : EntryRef) (op : Nat) (ext : List ExtData) (ups : List Upset) : kept (State.solveStart s r op ext ups) = kept s := by
  simp only [State.solveStart]
  (repeat' split) <;> simp

@[simp] theorem State.readMeas_kept (s : State) (e : Nat) (addr : Nat) (ext : List ExtData) (ups : List Upset) : kept (State.readMeas s e addr ext ups).2.2.2 = kept s := by simp [State.readMeas]

@[simp] theorem State.counted_kept (s : State) (t : Tally) : kept (State.counted s t) = kept s := by simp [State.counted]

@[simp] theorem State.solveStops_kept (s : State) (r : EntryRef) (why : Stop) (flags : Nat) (iters : Nat) (cost : Nat) : kept (State.solveStops s r why flags iters cost) = kept s := by
  unfold State.solveStops
  try dsimp only
  all_goals repeat' first
    | (with_reducible rfl)
    | (simp only [outKept_next, kept_mk, kept_fold, ite_snd, ite_fst, kept_ite, outKept_ite, ite_self, foldl_kept, foldl_kept2, foldl_kept22, foldl_kept222, implies_true, State.finish_kept, State.contribute_kept, State.chkFail_kept]; done)
    | split
    | (refine (foldl_kept _ _ _ ?_).trans ?_ <;> intros)
    | (refine (foldl_kept2 _ _ _ ?_).trans ?_ <;> intros)
    | (refine (foldl_kept22 _ _ _ ?_).trans ?_ <;> intros)
    | (refine (foldl_kept222 _ _ _ ?_).trans ?_ <;> intros)
    | (simp only [outKept_next, kept_mk, kept_fold, ite_snd, ite_fst, kept_ite, outKept_ite, ite_self, foldl_kept, foldl_kept2, foldl_kept22, foldl_kept222, implies_true, State.finish_kept, State.contribute_kept, State.chkFail_kept])
    | (refine of_pair (by assumption) ?_)
    | (refine of_trip (by assumption) ?_)

@[simp] theorem State.runDense_kept (s : State) (j : Job) (flips : List (Nat × Nat × Nat × Nat)) (ext : List ExtData) (ups : List Upset) : kept (State.runDense s j flips ext ups) = kept s := by
  simp only [State.runDense]
  (repeat' split) <;> simp

@[simp] theorem State.bundleReads_kept (s : State) (j : Job) (ext : List ExtData) (ups : List Upset) : kept (State.bundleReads s j ext ups).2.2.2.2 = kept s := by
  unfold bundleReads
  simp only [apply_ite Prod.snd, kept_ite, readRun_kept]
  repeat' split
  all_goals rfl

@[simp] theorem State.bundleOut_kept (s : State) (j : Job) (x : BundleX) (ext : List ExtData) (ups : List Upset) : kept (State.bundleOut s j x ext ups).2 = kept s := by simp [State.bundleOut]

@[simp] theorem State.runBundle_kept (s : State) (j : Job) (flips : List (Nat × Nat × Nat × Nat)) (ext : List ExtData) (ups : List Upset) : kept (State.runBundle s j flips ext ups) = kept s := by
  have h1 := bundleReads_kept s j ext ups
  unfold runBundle
  dsimp only
  revert h1
  generalize s.bundleReads j ext ups = p
  obtain ⟨st, x, ⟨obs, sk⟩, cams, s1⟩ := p
  intro h1
  dsimp only at h1 ⊢
  split
  · exact (finish_kept ..).trans h1
  · split
    · exact (finish_kept ..).trans ((bumpBy_kept ..).trans h1)
    · generalize bundleRun j.desc (jobEnv j.desc (s1.fld Reg.lseChkCtl 2 0) flips) (Desc.iterMax j.desc) x obs cams = q
      obtain ⟨⟨it, n, e⟩, y⟩ := q
      dsimp only
      have h2 := (counted_kept s1 { y with dropped := y.dropped + sk }).trans h1
      have h3 := fun c : Nat × Status => (bundleOut_kept (s1.counted { y with dropped := y.dropped + sk }) j it.x ext ups).trans h2
      cases e with
      | stopped w => cases w <;> first | exact (solveStops_kept ..).trans h2 | (dsimp only; split <;> exact (finish_kept ..).trans (h3 (0, .ok)))
      | _ => dsimp only; split <;> exact (finish_kept ..).trans (h3 (0, .ok))

@[simp] theorem State.solverBudget_kept (s : State) (j : Job) (iters : Nat) (ext : List ExtData) (ups : List Upset) : kept (State.solverBudget s j iters ext ups).2 = kept s := by
  unfold solverBudget
  split
  · have h1 := bundleReads_kept s j ext ups
    dsimp only
    revert h1
    generalize s.bundleReads j ext ups = p
    obtain ⟨st, x, ⟨obs, sk⟩, cams, s1⟩ := p
    intro h1
    dsimp only at h1 ⊢
    split
    · exact h1
    · exact (bundleOut_kept ..).trans ((counted_kept ..).trans h1)
  · exact stopResult_kept ..

@[simp] theorem State.runAssign_kept (s : State) (j : Job) (differ : Bool) (ext : List ExtData) (ups : List Upset) : kept (State.runAssign s j differ ext ups) = kept s := by
  simp only [State.runAssign]
  (repeat' split) <;> simp

@[simp] theorem State.setEgo_kept (s : State) (x : Ego) : kept (State.setEgo s x) = kept s := by simp [State.setEgo]

@[simp] theorem State.egoRestart_kept (s : State) : kept (State.egoRestart s) = kept s := by
  unfold State.egoRestart
  (repeat' split) <;> simp

@[simp] theorem State.ringData_kept (s : State) (k : Nat) (r : StreamRec) (a : Nat) (b : Nat) (ext : List ExtData) (ups : List Upset) : kept (State.ringData s k r a b ext ups).2.2 = kept s := by
  unfold State.ringData
  try dsimp only
  all_goals repeat' first
    | (with_reducible rfl)
    | (simp only [outKept_next, kept_mk, kept_fold, ite_snd, ite_fst, kept_ite, outKept_ite, ite_self, foldl_kept, foldl_kept2, foldl_kept22, foldl_kept222, implies_true, State.readRun_kept]; done)
    | split
    | (refine (foldl_kept _ _ _ ?_).trans ?_ <;> intros)
    | (refine (foldl_kept2 _ _ _ ?_).trans ?_ <;> intros)
    | (refine (foldl_kept22 _ _ _ ?_).trans ?_ <;> intros)
    | (refine (foldl_kept222 _ _ _ ?_).trans ?_ <;> intros)
    | (simp only [outKept_next, kept_mk, kept_fold, ite_snd, ite_fst, kept_ite, outKept_ite, ite_self, foldl_kept, foldl_kept2, foldl_kept22, foldl_kept222, implies_true, State.readRun_kept])
    | (refine of_pair (by assumption) ?_)
    | (refine of_trip (by assumption) ?_)

@[simp] theorem State.windowData_kept (s : State) (d : List Byte) (a : Nat) (b : Nat) (ext : List ExtData) (ups : List Upset) : kept (State.windowData s d a b ext ups).2.2 = kept s := by
  unfold State.windowData
  try dsimp only
  all_goals repeat' first
    | (with_reducible rfl)
    | (simp only [outKept_next, kept_mk, kept_fold, ite_snd, ite_fst, kept_ite, outKept_ite, ite_self, foldl_kept, foldl_kept2, foldl_kept22, foldl_kept222, implies_true, State.ringData_kept]; done)
    | split
    | (refine (foldl_kept _ _ _ ?_).trans ?_ <;> intros)
    | (refine (foldl_kept2 _ _ _ ?_).trans ?_ <;> intros)
    | (refine (foldl_kept22 _ _ _ ?_).trans ?_ <;> intros)
    | (refine (foldl_kept222 _ _ _ ?_).trans ?_ <;> intros)
    | (simp only [outKept_next, kept_mk, kept_fold, ite_snd, ite_fst, kept_ite, outKept_ite, ite_self, foldl_kept, foldl_kept2, foldl_kept22, foldl_kept222, implies_true, State.ringData_kept])
    | (refine of_pair (by assumption) ?_)
    | (refine of_trip (by assumption) ?_)

@[simp] theorem State.egoRecord_kept (s : State) (x : Ego) (iters : Nat) (cost : Nat) (ext : List ExtData) (ups : List Upset) : kept (State.egoRecord s x iters cost ext ups) = kept s := by
  unfold State.egoRecord
  try dsimp only
  all_goals repeat' first
    | (with_reducible rfl)
    | (simp only [outKept_next, kept_mk, kept_fold, ite_snd, ite_fst, kept_ite, outKept_ite, ite_self, foldl_kept, foldl_kept2, foldl_kept22, foldl_kept222, implies_true, State.writeRun_kept, State.setEgo_kept]; done)
    | split
    | (refine (foldl_kept _ _ _ ?_).trans ?_ <;> intros)
    | (refine (foldl_kept2 _ _ _ ?_).trans ?_ <;> intros)
    | (refine (foldl_kept22 _ _ _ ?_).trans ?_ <;> intros)
    | (refine (foldl_kept222 _ _ _ ?_).trans ?_ <;> intros)
    | (simp only [outKept_next, kept_mk, kept_fold, ite_snd, ite_fst, kept_ite, outKept_ite, ite_self, foldl_kept, foldl_kept2, foldl_kept22, foldl_kept222, implies_true, State.writeRun_kept, State.setEgo_kept])
    | (refine of_pair (by assumption) ?_)
    | (refine of_trip (by assumption) ?_)

@[simp] theorem State.egoFail_kept (s : State) (flags : Nat) (iters : Nat) (cost : Nat) (ext : List ExtData) (ups : List Upset) : kept (State.egoFail s flags iters cost ext ups) = kept s := by
  unfold State.egoFail
  (repeat' split) <;> simp

@[simp] theorem State.egoLate_kept (s : State) (ext : List ExtData) (ups : List Upset) : kept (State.egoLate s ext ups) = kept s := by
  unfold State.egoLate
  try dsimp only
  all_goals repeat' first
    | (with_reducible rfl)
    | (simp only [outKept_next, kept_mk, kept_fold, ite_snd, ite_fst, kept_ite, outKept_ite, ite_self, foldl_kept, foldl_kept2, foldl_kept22, foldl_kept222, implies_true, State.midRun_kept, State.egoFail_kept]; done)
    | split
    | (refine (foldl_kept _ _ _ ?_).trans ?_ <;> intros)
    | (refine (foldl_kept2 _ _ _ ?_).trans ?_ <;> intros)
    | (refine (foldl_kept22 _ _ _ ?_).trans ?_ <;> intros)
    | (refine (foldl_kept222 _ _ _ ?_).trans ?_ <;> intros)
    | (simp only [outKept_next, kept_mk, kept_fold, ite_snd, ite_fst, kept_ite, outKept_ite, ite_self, foldl_kept, foldl_kept2, foldl_kept22, foldl_kept222, implies_true, State.midRun_kept, State.egoFail_kept])
    | (refine of_pair (by assumption) ?_)
    | (refine of_trip (by assumption) ?_)

@[simp] theorem State.egoSolved_kept (s : State) (flips : List (Nat × Nat × Nat × Nat)) (ext : List ExtData) (ups : List Upset) : kept (State.egoSolved s flips ext ups) = kept s := by
  unfold State.egoSolved
  (repeat' split) <;> simp

@[simp] theorem State.egoBind_kept (s : State) (ext : List ExtData) (ups : List Upset) : kept (State.egoBind s ext ups) = kept s := by
  unfold State.egoBind
  (repeat' split) <;> simp

@[simp] theorem State.egoSlide_kept (s : State) (n : Nat) (w : Int) (ext : List ExtData) (ups : List Upset) : kept (State.egoSlide s n w ext ups) = kept s := by
  simp only [State.egoSlide]
  (repeat' split) <;> simp

@[simp] theorem State.lseClear_kept (s : State) : kept (State.lseClear s) = kept s := by simp [State.lseClear]

@[simp] theorem execLseSolve_kept (r : EntryRef) (ext : List ExtData) (upsets : List Upset) (s : State) : outKept (execLseSolve r ext upsets s) = kept s := by simp [execLseSolve]

@[simp] theorem execLseBundle_kept (r : EntryRef) (ext : List ExtData) (upsets : List Upset) (s : State) : outKept (execLseBundle r ext upsets s) = kept s := by simp [execLseBundle]

@[simp] theorem execAssign_kept (r : EntryRef) (ext : List ExtData) (upsets : List Upset) (s : State) : outKept (execAssign r ext upsets s) = kept s := by simp [execAssign]

@[simp] theorem execLseJobStart_kept (assigner : Bool) (s : State) : outKept (execLseJobStart assigner s) = kept s := by
  simp only [execLseJobStart]
  (repeat' split) <;> simp

@[simp] theorem execLseJobSuspend_kept (s : State) : outKept (execLseJobSuspend s) = kept s := by
  unfold execLseJobSuspend
  (repeat' split) <;> simp

@[simp] theorem execLseJobComplete_kept (assigner : Bool) (flips : List (Nat × Nat × Nat × Nat)) (differ : Bool) (ext : List ExtData) (upsets : List Upset) (s : State) : outKept (execLseJobComplete assigner flips differ ext upsets s) = kept s := by
  unfold execLseJobComplete
  try dsimp only
  all_goals repeat' first
    | (with_reducible rfl)
    | (simp only [outKept_next, kept_mk, kept_fold, ite_snd, ite_fst, kept_ite, outKept_ite, ite_self, foldl_kept, foldl_kept2, foldl_kept22, foldl_kept222, implies_true, State.runAssign_kept, State.runDense_kept, State.runBundle_kept, State.egoSolved_kept]; done)
    | split
    | (refine (foldl_kept _ _ _ ?_).trans ?_ <;> intros)
    | (refine (foldl_kept2 _ _ _ ?_).trans ?_ <;> intros)
    | (refine (foldl_kept22 _ _ _ ?_).trans ?_ <;> intros)
    | (refine (foldl_kept222 _ _ _ ?_).trans ?_ <;> intros)
    | (simp only [outKept_next, kept_mk, kept_fold, ite_snd, ite_fst, kept_ite, outKept_ite, ite_self, foldl_kept, foldl_kept2, foldl_kept22, foldl_kept222, implies_true, State.runAssign_kept, State.runDense_kept, State.runBundle_kept, State.egoSolved_kept])
    | (refine of_pair (by assumption) ?_)
    | (refine of_trip (by assumption) ?_)

@[simp] theorem execEgoMeasPoll_kept (ext : List ExtData) (upsets : List Upset) (s : State) : outKept (execEgoMeasPoll ext upsets s) = kept s := by
  unfold execEgoMeasPoll
  (repeat' split) <;> simp

@[simp] theorem execEgoDeadline_kept (ext : List ExtData) (upsets : List Upset) (s : State) : outKept (execEgoDeadline ext upsets s) = kept s := by
  unfold execEgoDeadline
  (repeat' split) <;> simp

@[simp] theorem execLseCntClr_kept (who : Requester) (s : State) : outKept (execLseCntClr who s) = kept s := by simp [execLseCntClr, State.regCmd_kept, State.inStates_kept]

@[simp] theorem State.readProfile_kept (s : State) (y : Entry) (e : Nat) (ext : List ExtData) (ups : List Upset) : kept (State.readProfile s y e ext ups).2.2 = kept s := by simp [State.readProfile]

@[simp] theorem State.admitFusion_kept (s : State) (y : Entry) (e : Nat) (ext : List ExtData) (ups : List Upset) : kept (State.admitFusion s y e ext ups).2 = kept s := by simp [State.admitFusion]

@[simp] theorem State.trackRestart_kept (s : State) : kept (State.trackRestart s) = kept s := by simp [State.trackRestart]

@[simp] theorem State.fuRestart_kept (s : State) : kept (State.fuRestart s) = kept s := by simp [State.fuRestart]

@[simp] theorem State.fuTake_kept (s : State) : kept (State.fuTake s) = kept s := by simp [State.fuTake]

@[simp] theorem State.fuDue_kept (s : State) (n : Nat) : kept (State.fuDue s n) = kept s := by simp [State.fuDue]

@[simp] theorem State.fuBind_kept (s1 : State) : kept (State.fuBind s1) = kept s1 := by
  unfold State.fuBind
  (repeat' split) <;> simp

@[simp] theorem State.updateTrack_kept (p : List Byte) (t : Track) (d : Placed) (s : State) : kept (State.updateTrack p t d s).2 = kept s := by simp [State.updateTrack]

@[simp] theorem State.ledger_kept (s : State) (p : List Byte) (tracks : List Track) (dets : List Placed) (clashes : List State.Clash) (assigned : Bool) : kept (State.ledger s p tracks dets clashes assigned).2.2 = kept s := by
  unfold State.ledger
  try dsimp only
  all_goals repeat' first
    | (with_reducible rfl)
    | (simp only [outKept_next, kept_mk, kept_fold, ite_snd, ite_fst, kept_ite, outKept_ite, ite_self, foldl_kept, foldl_kept2, foldl_kept22, foldl_kept222, implies_true, State.updateTrack_kept]; done)
    | split
    | (refine (foldl_kept _ _ _ ?_).trans ?_ <;> intros)
    | (refine (foldl_kept2 _ _ _ ?_).trans ?_ <;> intros)
    | (refine (foldl_kept22 _ _ _ ?_).trans ?_ <;> intros)
    | (refine (foldl_kept222 _ _ _ ?_).trans ?_ <;> intros)
    | (simp only [outKept_next, kept_mk, kept_fold, ite_snd, ite_fst, kept_ite, outKept_ite, ite_self, foldl_kept, foldl_kept2, foldl_kept22, foldl_kept222, implies_true, State.updateTrack_kept])
    | (refine of_pair (by assumption) ?_)
    | (refine of_trip (by assumption) ?_)

@[simp] theorem State.sendFrame_kept (s : State) (p : List Byte) (n : Nat) (payload : List Byte) (readBack : Bool) (ext : List ExtData) (ups : List Upset) : kept (State.sendFrame s p n payload readBack ext ups) = kept s := by simp [State.sendFrame]

@[simp] theorem State.fuEpoch_kept (s : State) (inp : FusionIn) (ext : List ExtData) (ups : List Upset) : kept (State.fuEpoch s inp ext ups) = kept s := by
  unfold State.fuEpoch
  (repeat' split) <;> simp

@[simp] theorem State.haltFrame_kept (s : State) (n : Nat) (readBack : Bool) (ext : List ExtData) (ups : List Upset) : kept (State.haltFrame s n readBack ext ups) = kept s := by
  unfold State.haltFrame
  (repeat' split) <;> simp

@[simp] theorem State.fuCommit_kept (s : State) (inp : FusionIn) (ext : List ExtData) (ups : List Upset) : kept (State.fuCommit s inp ext ups) = kept s := by
  unfold State.fuCommit
  (repeat' split) <;> simp

@[simp] theorem execFuseEpoch_kept (r : EntryRef) (ext : List ExtData) (upsets : List Upset) (s : State) : outKept (execFuseEpoch r ext upsets s) = kept s := by
  simp only [execFuseEpoch]
  (repeat' split) <;> simp

@[simp] theorem execFusionFrameCommit_kept (inp : FusionIn) (ext : List ExtData) (upsets : List Upset) (s : State) : outKept (execFusionFrameCommit inp ext upsets s) = kept s := by simp [execFusionFrameCommit]

@[simp] theorem execFrameDeadline_kept (inp : FusionIn) (ext : List ExtData) (upsets : List Upset) (s : State) : outKept (execFrameDeadline inp ext upsets s) = kept s := by
  unfold execFrameDeadline
  (repeat' split) <;> simp

@[simp] theorem execGridExport_kept (r : EntryRef) (ext : List ExtData) (upsets : List Upset) (s : State) : outKept (execGridExport r ext upsets s) = kept s := by
  simp only [execGridExport]
  (repeat' split) <;> simp

@[simp] theorem execFuCntClr_kept (who : Requester) (s : State) : outKept (execFuCntClr who s) = kept s := by simp [execFuCntClr, State.regCmd_kept, State.inStates_kept]

@[simp] theorem State.disown_kept (s : State) (k : Nat) : kept (State.disown s k) = kept s := by simp [State.disown]

@[simp] theorem State.emptySlot_kept (s : State) (k : Nat) : kept (State.emptySlot s k) = kept s := by simp [State.emptySlot]

@[simp] theorem State.nvmeRead_kept (s : State) (k : Nat) (seg : Nat) (part : Nat) (units : Nat) : kept (State.nvmeRead s k seg part units) = kept s := by simp [State.nvmeRead]

@[simp] theorem State.loadFail_kept (s : State) (k : Nat) (st : Status) : kept (State.loadFail s k st) = kept s := by simp [State.loadFail]

theorem State.loadHeader_kept (s : State) (k : Nat) (h : List Byte) : kept (State.loadHeader s k h) = kept s := by
  unfold State.loadHeader
  (repeat' split) <;> simp

@[simp] theorem State.loadPart_kept (s : State) (k : Nat) (i : Nat) (part : Nat) (n : Nat) (ct : List Byte) (ext : List ExtData) (ups : List Upset) : kept (State.loadPart s k i part n ct ext ups) = kept s := by
  unfold State.loadPart
  try dsimp only
  all_goals repeat' first
    | (with_reducible rfl)
    | (simp only [outKept_next, kept_mk, kept_fold, ite_snd, ite_fst, kept_ite, outKept_ite, ite_self, foldl_kept, foldl_kept2, foldl_kept22, foldl_kept222, implies_true, State.writeRun_kept, State.modSlot_kept, State.loadFail_kept]; done)
    | split
    | (refine (foldl_kept _ _ _ ?_).trans ?_ <;> intros)
    | (refine (foldl_kept2 _ _ _ ?_).trans ?_ <;> intros)
    | (refine (foldl_kept22 _ _ _ ?_).trans ?_ <;> intros)
    | (refine (foldl_kept222 _ _ _ ?_).trans ?_ <;> intros)
    | (simp only [outKept_next, kept_mk, kept_fold, ite_snd, ite_fst, kept_ite, outKept_ite, ite_self, foldl_kept, foldl_kept2, foldl_kept22, foldl_kept222, implies_true, State.writeRun_kept, State.modSlot_kept, State.loadFail_kept])
    | (refine of_pair (by assumption) ?_)
    | (refine of_trip (by assumption) ?_)

@[simp] theorem State.loadSegment_kept (s : State) (k : Nat) (i : Nat) (ct : List Byte) (ext : List ExtData) (ups : List Upset) : kept (State.loadSegment s k i ct ext ups) = kept s := by
  simp only [State.loadSegment]
  (repeat' split) <;> simp

@[simp] theorem State.nvmeIssue_kept (k : Nat) (a1 : Nat) (a2 : State) : kept (State.nvmeIssue k a1 a2) = kept a2 := by
  induction a1 generalizing a2 with
  | zero => rfl
  | succ n ih =>
    unfold nvmeIssue
    dsimp only
    split
    · rfl
    · split
      · rfl
      · split
        · exact (ih _).trans (modSlot_kept ..)
        · split
          · exact (ih _).trans (modSlot_kept ..)
          · exact (ih _).trans ((modSlot_kept ..).trans (nvmeRead_kept ..))

@[simp] theorem State.loadBegin_kept (s : State) (k : Nat) (ext : List ExtData) (ups : List Upset) : kept (State.loadBegin s k ext ups) = kept s := by
  unfold State.loadBegin
  try dsimp only
  all_goals repeat' first
    | (with_reducible rfl)
    | (simp only [outKept_next, kept_mk, kept_fold, ite_snd, ite_fst, kept_ite, outKept_ite, ite_self, foldl_kept, foldl_kept2, foldl_kept22, foldl_kept222, implies_true, State.nvmeRead_kept, State.loadFail_kept, State.readRun_kept, State.loadHeader_kept]; done)
    | split
    | (refine (foldl_kept _ _ _ ?_).trans ?_ <;> intros)
    | (refine (foldl_kept2 _ _ _ ?_).trans ?_ <;> intros)
    | (refine (foldl_kept22 _ _ _ ?_).trans ?_ <;> intros)
    | (refine (foldl_kept222 _ _ _ ?_).trans ?_ <;> intros)
    | (simp only [outKept_next, kept_mk, kept_fold, ite_snd, ite_fst, kept_ite, outKept_ite, ite_self, foldl_kept, foldl_kept2, foldl_kept22, foldl_kept222, implies_true, State.nvmeRead_kept, State.loadFail_kept, State.readRun_kept, State.loadHeader_kept])
    | (refine of_pair (by assumption) ?_)
    | (refine of_trip (by assumption) ?_)

@[simp] theorem State.loadCt_kept (k : Nat) (i : Nat) (ext : List ExtData) (ups : List Upset) (x : Status × List Byte × State) : kept (State.loadCt k i ext ups x) = kept x.2.2 := by simp [State.loadCt]

@[simp] theorem State.loadBody_kept (s : State) (k : Nat) (ext : List ExtData) (ups : List Upset) : kept (State.loadBody s k ext ups) = kept s := by
  unfold State.loadBody
  try dsimp only
  all_goals repeat' first
    | (with_reducible rfl)
    | (simp only [outKept_next, kept_mk, kept_fold, ite_snd, ite_fst, kept_ite, outKept_ite, ite_self, foldl_kept, foldl_kept2, foldl_kept22, foldl_kept222, implies_true, State.loadSegment_kept, State.loadCt_kept, State.readRun_kept]; done)
    | split
    | (refine (foldl_kept _ _ _ ?_).trans ?_ <;> intros)
    | (refine (foldl_kept2 _ _ _ ?_).trans ?_ <;> intros)
    | (refine (foldl_kept22 _ _ _ ?_).trans ?_ <;> intros)
    | (refine (foldl_kept222 _ _ _ ?_).trans ?_ <;> intros)
    | (simp only [outKept_next, kept_mk, kept_fold, ite_snd, ite_fst, kept_ite, outKept_ite, ite_self, foldl_kept, foldl_kept2, foldl_kept22, foldl_kept222, implies_true, State.loadSegment_kept, State.loadCt_kept, State.readRun_kept])
    | (refine of_pair (by assumption) ?_)
    | (refine of_trip (by assumption) ?_)

@[simp] theorem State.loadWake_kept (s : State) (ext : List ExtData) (ups : List Upset) : kept (State.loadWake s ext ups) = kept s := by
  unfold State.loadWake
  (repeat' split) <;> simp

@[simp] theorem State.loadEndBad_kept (s : State) (k : Nat) (l : Load) (st : Status) : kept (State.loadEndBad s k l st) = kept s := by simp [State.loadEndBad]

@[simp] theorem State.admitLoad_kept (s : State) (y : Entry) (e : Nat) (ext : List ExtData) (ups : List Upset) : kept (State.admitLoad s y e ext ups).2 = kept s := by
  simp only [State.admitLoad]
  (repeat' split) <;> simp

@[simp] theorem State.admitWgt_kept (s : State) (y : Entry) (e : Nat) (ext : List ExtData) (ups : List Upset) : kept (State.admitWgt s y e ext ups).2 = kept s := by
  unfold State.admitWgt
  try dsimp only
  all_goals repeat' first
    | (with_reducible rfl)
    | (simp only [outKept_next, kept_mk, kept_fold, ite_snd, ite_fst, kept_ite, outKept_ite, ite_self, foldl_kept, foldl_kept2, foldl_kept22, foldl_kept222, implies_true, State.admitLoad_kept]; done)
    | split
    | (refine (foldl_kept _ _ _ ?_).trans ?_ <;> intros)
    | (refine (foldl_kept2 _ _ _ ?_).trans ?_ <;> intros)
    | (refine (foldl_kept22 _ _ _ ?_).trans ?_ <;> intros)
    | (refine (foldl_kept222 _ _ _ ?_).trans ?_ <;> intros)
    | (simp only [outKept_next, kept_mk, kept_fold, ite_snd, ite_fst, kept_ite, outKept_ite, ite_self, foldl_kept, foldl_kept2, foldl_kept22, foldl_kept222, implies_true, State.admitLoad_kept])
    | (refine of_pair (by assumption) ?_)
    | (refine of_trip (by assumption) ?_)

@[simp] theorem State.bindModels_kept (s : State) (r : EntryRef) (models : List Nat) : kept (State.bindModels s r models) = kept s := by
  unfold State.bindModels
  try dsimp only
  all_goals repeat' first
    | (with_reducible rfl)
    | (simp only [outKept_next, kept_mk, kept_fold, ite_snd, ite_fst, kept_ite, outKept_ite, ite_self, foldl_kept, foldl_kept2, foldl_kept22, foldl_kept222, implies_true, State.modEntry_kept, State.modSlot_kept]; done)
    | split
    | (refine (foldl_kept _ _ _ ?_).trans ?_ <;> intros)
    | (refine (foldl_kept2 _ _ _ ?_).trans ?_ <;> intros)
    | (refine (foldl_kept22 _ _ _ ?_).trans ?_ <;> intros)
    | (refine (foldl_kept222 _ _ _ ?_).trans ?_ <;> intros)
    | (simp only [outKept_next, kept_mk, kept_fold, ite_snd, ite_fst, kept_ite, outKept_ite, ite_self, foldl_kept, foldl_kept2, foldl_kept22, foldl_kept222, implies_true, State.modEntry_kept, State.modSlot_kept])
    | (refine of_pair (by assumption) ?_)
    | (refine of_trip (by assumption) ?_)

@[simp] theorem State.unbind_kept (s : State) (y : Entry) : kept (State.unbind s y) = kept s := by
  unfold State.unbind
  try dsimp only
  all_goals repeat' first
    | (with_reducible rfl)
    | (simp only [outKept_next, kept_mk, kept_fold, ite_snd, ite_fst, kept_ite, outKept_ite, ite_self, foldl_kept, foldl_kept2, foldl_kept22, foldl_kept222, implies_true, State.modSlot_kept]; done)
    | split
    | (refine (foldl_kept _ _ _ ?_).trans ?_ <;> intros)
    | (refine (foldl_kept2 _ _ _ ?_).trans ?_ <;> intros)
    | (refine (foldl_kept22 _ _ _ ?_).trans ?_ <;> intros)
    | (refine (foldl_kept222 _ _ _ ?_).trans ?_ <;> intros)
    | (simp only [outKept_next, kept_mk, kept_fold, ite_snd, ite_fst, kept_ite, outKept_ite, ite_self, foldl_kept, foldl_kept2, foldl_kept22, foldl_kept222, implies_true, State.modSlot_kept])
    | (refine of_pair (by assumption) ?_)
    | (refine of_trip (by assumption) ?_)

@[simp] theorem State.loseSlot_kept (s : State) (k : Nat) (st : Status) : kept (State.loseSlot s k st) = kept s := by
  unfold State.loseSlot
  try dsimp only
  all_goals repeat' first
    | (with_reducible rfl)
    | (simp only [outKept_next, kept_mk, kept_fold, ite_snd, ite_fst, kept_ite, outKept_ite, ite_self, foldl_kept, foldl_kept2, foldl_kept22, foldl_kept222, implies_true, State.setSlot_kept, State.finish_kept, State.loadFail_kept]; done)
    | split
    | (refine (foldl_kept _ _ _ ?_).trans ?_ <;> intros)
    | (refine (foldl_kept2 _ _ _ ?_).trans ?_ <;> intros)
    | (refine (foldl_kept22 _ _ _ ?_).trans ?_ <;> intros)
    | (refine (foldl_kept222 _ _ _ ?_).trans ?_ <;> intros)
    | (simp only [outKept_next, kept_mk, kept_fold, ite_snd, ite_fst, kept_ite, outKept_ite, ite_self, foldl_kept, foldl_kept2, foldl_kept22, foldl_kept222, implies_true, State.setSlot_kept, State.finish_kept, State.loadFail_kept])
    | (refine of_pair (by assumption) ?_)
    | (refine of_trip (by assumption) ?_)

@[simp] theorem State.remoteLeaseLost_kept (s : State) (st : Status) (p : Nat → Bool) : kept (State.remoteLeaseLost s st p) = kept s := by
  unfold State.remoteLeaseLost
  try dsimp only
  all_goals repeat' first
    | (with_reducible rfl)
    | (simp only [outKept_next, kept_mk, kept_fold, ite_snd, ite_fst, kept_ite, outKept_ite, ite_self, foldl_kept, foldl_kept2, foldl_kept22, foldl_kept222, implies_true, State.loseSlot_kept]; done)
    | split
    | (refine (foldl_kept _ _ _ ?_).trans ?_ <;> intros)
    | (refine (foldl_kept2 _ _ _ ?_).trans ?_ <;> intros)
    | (refine (foldl_kept22 _ _ _ ?_).trans ?_ <;> intros)
    | (refine (foldl_kept222 _ _ _ ?_).trans ?_ <;> intros)
    | (simp only [outKept_next, kept_mk, kept_fold, ite_snd, ite_fst, kept_ite, outKept_ite, ite_self, foldl_kept, foldl_kept2, foldl_kept22, foldl_kept222, implies_true, State.loseSlot_kept])
    | (refine of_pair (by assumption) ?_)
    | (refine of_trip (by assumption) ?_)

@[simp] theorem State.evictDone_kept (s : State) (v : Evict) : kept (State.evictDone s v) = kept s := by simp [State.evictDone]

@[simp] theorem execLeafLoad_kept (r : EntryRef) (ext : List ExtData) (upsets : List Upset) (s : State) : outKept (execLeafLoad r ext upsets s) = kept s := by
  unfold execLeafLoad
  try dsimp only
  all_goals repeat' first
    | (with_reducible rfl)
    | (simp only [outKept_next, kept_mk, kept_fold, ite_snd, ite_fst, kept_ite, outKept_ite, ite_self, foldl_kept, foldl_kept2, foldl_kept22, foldl_kept222, implies_true, State.admitLoad_kept, State.finish_kept, State.bump_kept, State.setModel_kept, State.loadBegin_kept, State.setSlot_kept]; done)
    | split
    | (refine (foldl_kept _ _ _ ?_).trans ?_ <;> intros)
    | (refine (foldl_kept2 _ _ _ ?_).trans ?_ <;> intros)
    | (refine (foldl_kept22 _ _ _ ?_).trans ?_ <;> intros)
    | (refine (foldl_kept222 _ _ _ ?_).trans ?_ <;> intros)
    | (simp only [outKept_next, kept_mk, kept_fold, ite_snd, ite_fst, kept_ite, outKept_ite, ite_self, foldl_kept, foldl_kept2, foldl_kept22, foldl_kept222, implies_true, State.admitLoad_kept, State.finish_kept, State.bump_kept, State.setModel_kept, State.loadBegin_kept, State.setSlot_kept])
    | (refine of_pair (by assumption) ?_)
    | (refine of_trip (by assumption) ?_)

@[simp] theorem execLeafLoadEnd_kept (k : Nat) (ext : List ExtData) (upsets : List Upset) (s : State) : outKept (execLeafLoadEnd k ext upsets s) = kept s := by
  simp only [execLeafLoadEnd]
  (repeat' split) <;> simp

@[simp] theorem execStagingComplete_kept (k : Nat) (layer : Nat) (r : EntryRef) (fills : List (Nat × FillSpec)) (ext : List ExtData) (upsets : List Upset) (s : State) : outKept (execStagingComplete k layer r fills ext upsets s) = kept s := by
  unfold execStagingComplete
  try dsimp only
  all_goals repeat' first
    | (with_reducible rfl)
    | (simp only [outKept_next, kept_mk, kept_fold, ite_snd, ite_fst, kept_ite, outKept_ite, ite_self, foldl_kept, foldl_kept2, foldl_kept22, foldl_kept222, implies_true, State.writeRun_kept, State.modSlot_kept, State.finish_kept, State.modTile_kept]; done)
    | split
    | (refine (foldl_kept _ _ _ ?_).trans ?_ <;> intros)
    | (refine (foldl_kept2 _ _ _ ?_).trans ?_ <;> intros)
    | (refine (foldl_kept22 _ _ _ ?_).trans ?_ <;> intros)
    | (refine (foldl_kept222 _ _ _ ?_).trans ?_ <;> intros)
    | (simp only [outKept_next, kept_mk, kept_fold, ite_snd, ite_fst, kept_ite, outKept_ite, ite_self, foldl_kept, foldl_kept2, foldl_kept22, foldl_kept222, implies_true, State.writeRun_kept, State.modSlot_kept, State.finish_kept, State.modTile_kept])
    | (refine of_pair (by assumption) ?_)
    | (refine of_trip (by assumption) ?_)

@[simp] theorem execPour_kept (r : EntryRef) (s : State) : outKept (execPour r s) = kept s := by
  unfold execPour
  (repeat' split) <;> simp

@[simp] theorem execEvict_kept (r : EntryRef) (s : State) : outKept (execEvict r s) = kept s := by
  unfold execEvict
  (repeat' split) <;> simp

@[simp] theorem execEvictRelease_kept (k : Nat) (s : State) : outKept (execEvictRelease k s) = kept s := by
  unfold execEvictRelease
  (repeat' split) <;> simp

end Sys2Proof.Machine
end

