-- ==== Sys2Proof/Laws/KeptLoom.lean ====
section
/-! SUPPORT. The operations on gaskets, the loom and its collectives keep the queue, the boot flash and the fuses. -/

set_option linter.unusedSimpArgs false

namespace Sys2Proof.Machine

open State

@[simp] theorem State.failTo_kept (s : State) (g : Nat) (st : Status) : kept (State.failTo s g st) = kept s := by
  unfold State.failTo
  try dsimp only
  all_goals repeat' first
    | (with_reducible rfl)
    | (simp only [outKept_next, kept_mk, kept_fold, ite_snd, ite_fst, kept_ite, outKept_ite, ite_self, foldl_kept, foldl_kept2, foldl_kept22, foldl_kept222, implies_true, State.bumpBy_kept, State.respDone_kept]; done)
    | split
    | (refine (foldl_kept _ _ _ ?_).trans ?_ <;> intros)
    | (refine (foldl_kept2 _ _ _ ?_).trans ?_ <;> intros)
    | (refine (foldl_kept22 _ _ _ ?_).trans ?_ <;> intros)
    | (refine (foldl_kept222 _ _ _ ?_).trans ?_ <;> intros)
    | (simp only [outKept_next, kept_mk, kept_fold, ite_snd, ite_fst, kept_ite, outKept_ite, ite_self, foldl_kept, foldl_kept2, foldl_kept22, foldl_kept222, implies_true, State.bumpBy_kept, State.respDone_kept])
    | (refine of_pair (by assumption) ?_)
    | (refine of_trip (by assumption) ?_)

@[simp] theorem State.gskSeal_kept (s : State) (g : Nat) : kept (State.gskSeal s g) = kept s := by simp [State.gskSeal]

@[simp] theorem State.gskDrain_kept (s : State) (g : Nat) : kept (State.gskDrain s g) = kept s := by simp [State.gskDrain]

@[simp] theorem State.gskDrainFor_kept (s : State) (g : Nat) (ns : Nat) : kept (State.gskDrainFor s g ns) = kept s := by simp [State.gskDrainFor]

@[simp] theorem State.gskForce_kept (s : State) (g : Nat) : kept (State.gskForce s g) = kept s := by simp [State.gskForce]

@[simp] theorem State.gskShut_kept (s : State) (g : Nat) : kept (State.gskShut s g) = kept s := by simp [State.gskShut]

@[simp] theorem State.gskOpen_kept (s : State) (g : Nat) : kept (State.gskOpen s g) = kept s := by simp [State.gskOpen]

@[simp] theorem State.abortsEnd_kept (s : State) : kept (State.abortsEnd s) = kept s := by
  unfold State.abortsEnd
  try dsimp only
  all_goals repeat' first
    | (with_reducible rfl)
    | (simp only [outKept_next, kept_mk, kept_fold, ite_snd, ite_fst, kept_ite, outKept_ite, ite_self, foldl_kept, foldl_kept2, foldl_kept22, foldl_kept222, implies_true, State.bump_kept, State.setEncl_kept]; done)
    | split
    | (refine (foldl_kept _ _ _ ?_).trans ?_ <;> intros)
    | (refine (foldl_kept2 _ _ _ ?_).trans ?_ <;> intros)
    | (refine (foldl_kept22 _ _ _ ?_).trans ?_ <;> intros)
    | (refine (foldl_kept222 _ _ _ ?_).trans ?_ <;> intros)
    | (simp only [outKept_next, kept_mk, kept_fold, ite_snd, ite_fst, kept_ite, outKept_ite, ite_self, foldl_kept, foldl_kept2, foldl_kept22, foldl_kept222, implies_true, State.bump_kept, State.setEncl_kept])
    | (refine of_pair (by assumption) ?_)
    | (refine of_trip (by assumption) ?_)

@[simp] theorem State.stewardStop_kept (s : State) (k : Nat) (st : Status) : kept (State.stewardStop s k st) = kept s := by
  unfold State.stewardStop
  try dsimp only
  all_goals repeat' first
    | (with_reducible rfl)
    | (simp only [outKept_next, kept_mk, kept_fold, ite_snd, ite_fst, kept_ite, outKept_ite, ite_self, foldl_kept, foldl_kept2, foldl_kept22, foldl_kept222, implies_true, State.loadFail_kept, State.setQueue_kept, State.endAll_kept]; done)
    | split
    | (refine (foldl_kept _ _ _ ?_).trans ?_ <;> intros)
    | (refine (foldl_kept2 _ _ _ ?_).trans ?_ <;> intros)
    | (refine (foldl_kept22 _ _ _ ?_).trans ?_ <;> intros)
    | (refine (foldl_kept222 _ _ _ ?_).trans ?_ <;> intros)
    | (simp only [outKept_next, kept_mk, kept_fold, ite_snd, ite_fst, kept_ite, outKept_ite, ite_self, foldl_kept, foldl_kept2, foldl_kept22, foldl_kept222, implies_true, State.loadFail_kept, State.setQueue_kept, State.endAll_kept])
    | (refine of_pair (by assumption) ?_)
    | (refine of_trip (by assumption) ?_)

@[simp] theorem State.blockStop_kept (s : State) (g : Nat) (st : Status) : kept (State.blockStop s g st) = kept s := by
  unfold State.blockStop
  try dsimp only
  all_goals repeat' first
    | (with_reducible rfl)
    | (simp only [outKept_next, kept_mk, kept_fold, ite_snd, ite_fst, kept_ite, outKept_ite, ite_self, foldl_kept, foldl_kept2, foldl_kept22, foldl_kept222, implies_true, State.modTile_kept, State.tileStop_kept, State.modMchan_kept, State.stewardStop_kept, State.stopJobs_kept, State.lseClear_kept, State.finish_kept, State.portOff_kept]; done)
    | split
    | (refine (foldl_kept _ _ _ ?_).trans ?_ <;> intros)
    | (refine (foldl_kept2 _ _ _ ?_).trans ?_ <;> intros)
    | (refine (foldl_kept22 _ _ _ ?_).trans ?_ <;> intros)
    | (refine (foldl_kept222 _ _ _ ?_).trans ?_ <;> intros)
    | (simp only [outKept_next, kept_mk, kept_fold, ite_snd, ite_fst, kept_ite, outKept_ite, ite_self, foldl_kept, foldl_kept2, foldl_kept22, foldl_kept222, implies_true, State.modTile_kept, State.tileStop_kept, State.modMchan_kept, State.stewardStop_kept, State.stopJobs_kept, State.lseClear_kept, State.finish_kept, State.portOff_kept])
    | (refine of_pair (by assumption) ?_)
    | (refine of_trip (by assumption) ?_)

@[simp] theorem State.gskCut_kept (s : State) (g : Nat) : kept (State.gskCut s g) = kept s := by simp [State.gskCut]

@[simp] theorem State.blockReset_kept (s : State) (g : Nat) : kept (State.blockReset s g) = kept s := by simp [State.blockReset]

@[simp] theorem State.blockFresh_kept (s : State) (g : Nat) : kept (State.blockFresh s g) = kept s := by
  unfold State.blockFresh
  try dsimp only
  all_goals repeat' first
    | (with_reducible rfl)
    | (simp only [outKept_next, kept_mk, kept_fold, ite_snd, ite_fst, kept_ite, outKept_ite, ite_self, foldl_kept, foldl_kept2, foldl_kept22, foldl_kept222, implies_true, State.zeroRange_kept, State.setTile_kept, State.setListOf_kept, State.modChan_kept, State.modMchan_kept, State.portUp_kept]; done)
    | split
    | (refine (foldl_kept _ _ _ ?_).trans ?_ <;> intros)
    | (refine (foldl_kept2 _ _ _ ?_).trans ?_ <;> intros)
    | (refine (foldl_kept22 _ _ _ ?_).trans ?_ <;> intros)
    | (refine (foldl_kept222 _ _ _ ?_).trans ?_ <;> intros)
    | (simp only [outKept_next, kept_mk, kept_fold, ite_snd, ite_fst, kept_ite, outKept_ite, ite_self, foldl_kept, foldl_kept2, foldl_kept22, foldl_kept222, implies_true, State.zeroRange_kept, State.setTile_kept, State.setListOf_kept, State.modChan_kept, State.modMchan_kept, State.portUp_kept])
    | (refine of_pair (by assumption) ?_)
    | (refine of_trip (by assumption) ?_)

@[simp] theorem State.countsClear_kept (s : State) (g : Nat) : kept (State.countsClear s g) = kept s := by simp [State.countsClear]

@[simp] theorem State.blockRelease_kept (s : State) (g : Nat) : kept (State.blockRelease s g) = kept s := by simp [State.blockRelease]

@[simp] theorem State.powerDown_kept (s : State) (g : Nat) (quiet : Bool) : kept (State.powerDown s g quiet) = kept s := by simp [State.powerDown]

@[simp] theorem State.powerUp_kept (s : State) (g : Nat) : kept (State.powerUp s g) = kept s := by simp [State.powerUp]

@[simp] theorem State.powerBlocks_kept (s : State) (gs : List Nat) : kept (State.powerBlocks s gs) = kept s := by
  unfold State.powerBlocks
  try dsimp only
  all_goals repeat' first
    | (with_reducible rfl)
    | (simp only [outKept_next, kept_mk, kept_fold, ite_snd, ite_fst, kept_ite, outKept_ite, ite_self, foldl_kept, foldl_kept2, foldl_kept22, foldl_kept222, implies_true, State.modGasket_kept]; done)
    | split
    | (refine (foldl_kept _ _ _ ?_).trans ?_ <;> intros)
    | (refine (foldl_kept2 _ _ _ ?_).trans ?_ <;> intros)
    | (refine (foldl_kept22 _ _ _ ?_).trans ?_ <;> intros)
    | (refine (foldl_kept222 _ _ _ ?_).trans ?_ <;> intros)
    | (simp only [outKept_next, kept_mk, kept_fold, ite_snd, ite_fst, kept_ite, outKept_ite, ite_self, foldl_kept, foldl_kept2, foldl_kept22, foldl_kept222, implies_true, State.modGasket_kept])
    | (refine of_pair (by assumption) ?_)
    | (refine of_trip (by assumption) ?_)

@[simp] theorem State.gskLocked_kept (s : State) (who : Requester) (g : Nat) : kept (State.gskLocked s who g) = kept s := by simp [State.gskLocked]

@[simp] theorem State.gskCtlWrite_kept (s : State) (who : Requester) (g : Nat) (v : Nat) : kept (State.gskCtlWrite s who g v) = kept s := by simp [State.gskCtlWrite]

@[simp] theorem State.gskWrite_kept (s : State) (who : Requester) (g : Nat) (cmd : Nat) : kept (State.gskWrite s who g cmd) = kept s := by simp [State.gskWrite, State.regCmd_kept]

@[simp] theorem execGasketDrain_kept (who : Requester) (g : Nat) (s : State) : outKept (execGasketDrain who g s) = kept s := by simp [execGasketDrain]

@[simp] theorem execGasketOpen_kept (who : Requester) (g : Nat) (s : State) : outKept (execGasketOpen who g s) = kept s := by simp [execGasketOpen]

@[simp] theorem execBlockReset_kept (who : Requester) (g : Nat) (s : State) : outKept (execBlockReset who g s) = kept s := by simp [execBlockReset]

@[simp] theorem execGasketDrainComplete_kept (g : Nat) (s : State) : outKept (execGasketDrainComplete g s) = kept s := by simp [execGasketDrainComplete]

@[simp] theorem execDrainTimeout_kept (g : Nat) (s : State) : outKept (execDrainTimeout g s) = kept s := by simp [execDrainTimeout]

@[simp] theorem State.cleared_kept (s : State) (sc : Scope) : kept (State.cleared s sc) = kept s := by simp [State.cleared]

@[simp] theorem State.resetBy_kept (s : State) (src : ResetSource) : kept (State.resetBy s src) = kept s := by simp [State.resetBy]

@[simp] theorem State.standbyExit_kept (s : State) : kept (State.standbyExit s) = kept s := by simp [State.standbyExit]

@[simp] theorem State.softReset_kept (s : State) : kept (State.softReset s) = kept s := by simp [State.softReset]

@[simp] theorem execPowerOnReset_kept (s : State) : outKept (execPowerOnReset s) = kept s := by simp [execPowerOnReset]

@[simp] theorem execLossOfVddAon_kept (s : State) : outKept (execLossOfVddAon s) = kept s := by simp [execLossOfVddAon]

@[simp] theorem execCoreBor_kept (s : State) : outKept (execCoreBor s) = kept s := by simp [execCoreBor]

@[simp] theorem execIoBor_kept (s : State) : outKept (execIoBor s) = kept s := by simp [execIoBor]

@[simp] theorem execResetNAssert_kept (lowNs : Nat) (s : State) : outKept (execResetNAssert lowNs s) = kept s := by simp [execResetNAssert]

@[simp] theorem execThermalTrip_kept (s : State) : outKept (execThermalTrip s) = kept s := by simp [execThermalTrip]

@[simp] theorem execSoftwareFullReset_kept (who : Requester) (v : Nat) (s : State) : outKept (execSoftwareFullReset who v s) = kept s := by simp [execSoftwareFullReset, State.regCmd_kept, State.inStates_kept]

@[simp] theorem execPcieHotReset_kept (s : State) : outKept (execPcieHotReset s) = kept s := by simp [execPcieHotReset]

@[simp] theorem State.sendReq_kept (s : State) (q : LReq) (via : Nat) (p : Pkt) : kept (State.sendReq s q via p) = kept s := by simp [State.sendReq]

@[simp] theorem State.trySend_kept (s : State) (q : LReq) (p : Pkt) : kept (State.trySend s q p) = kept s := by
  unfold trySend
  split
  · rfl
  · rename_i heq
    have hk := viaOf_kept heq
    split
    · rfl
    · exact (sendReq_kept ..).trans hk

@[simp] theorem State.issueLoom_kept (s : State) (w : WReq) (encl : Nat) (node : Nat) (opc : Nat) (size : Nat) (addr : Nat) (data : List Byte) : kept (State.issueLoom s w encl node opc size addr data) = kept s := by simp [State.issueLoom]

@[simp] theorem State.sendHeld_kept (s : State) (n : Nat) : kept (State.sendHeld s n) = kept s := by
  unfold State.sendHeld
  try dsimp only
  all_goals repeat' first
    | (with_reducible rfl)
    | (simp only [outKept_next, kept_mk, kept_fold, ite_snd, ite_fst, kept_ite, outKept_ite, ite_self, foldl_kept, foldl_kept2, foldl_kept22, foldl_kept222, implies_true, State.loomDone_kept, State.trySend_kept]; done)
    | split
    | (refine (foldl_kept _ _ _ ?_).trans ?_ <;> intros)
    | (refine (foldl_kept2 _ _ _ ?_).trans ?_ <;> intros)
    | (refine (foldl_kept22 _ _ _ ?_).trans ?_ <;> intros)
    | (refine (foldl_kept222 _ _ _ ?_).trans ?_ <;> intros)
    | (simp only [outKept_next, kept_mk, kept_fold, ite_snd, ite_fst, kept_ite, outKept_ite, ite_self, foldl_kept, foldl_kept2, foldl_kept22, foldl_kept222, implies_true, State.loomDone_kept, State.trySend_kept])
    | (refine of_pair (by assumption) ?_)
    | (refine of_trip (by assumption) ?_)

theorem State.sendTo_kept {s : State} {node : Nat} {p : Pkt} {t : State} (h : State.sendTo s node p = some t) : kept t = kept s := by
  unfold sendTo at h
  cases ho : s.viaOf (s.routeTo node) with
  | none => rw [ho] at h; cases h
  | some y => rw [ho] at h; cases h; exact (sendPkt_kept ..).trans (viaOf_kept ho)

theorem State.answer_kept (s : State) (h : LHdr) (st : Status) (d : List Byte) : kept (State.answer s h st d) = kept s := by
  unfold answer
  dsimp only
  cases ho : s.sendTo h.src _ with
  | none => rfl
  | some t => exact sendTo_kept ho

@[simp] theorem State.forward_kept (s : State) (p : Pkt) : kept (State.forward s p) = kept s := by
  unfold forward
  dsimp only
  split
  · rename_i heq; exact sendTo_kept heq
  · split
    · exact answer_kept ..
    · rfl

theorem State.inbound_kept (s : State) (via : Nat) (lvc : Nat) (opc : Nat) (f : State → LHdr → List Byte → State) (h_f : ∀ y0 y1 y2, kept (f y0 y1 y2) = kept y0) : kept (State.inbound s via lvc opc f) = kept s := by
  unfold State.inbound
  try dsimp only
  all_goals repeat' first
    | (with_reducible rfl)
    | (simp only [outKept_next, kept_mk, kept_fold, ite_snd, ite_fst, kept_ite, outKept_ite, ite_self, foldl_kept, foldl_kept2, foldl_kept22, foldl_kept222, implies_true, h_f, State.setLink_kept, State.answer_kept, State.forward_kept]; done)
    | split
    | (refine (foldl_kept _ _ _ ?_).trans ?_ <;> intros)
    | (refine (foldl_kept2 _ _ _ ?_).trans ?_ <;> intros)
    | (refine (foldl_kept22 _ _ _ ?_).trans ?_ <;> intros)
    | (refine (foldl_kept222 _ _ _ ?_).trans ?_ <;> intros)
    | (simp only [outKept_next, kept_mk, kept_fold, ite_snd, ite_fst, kept_ite, outKept_ite, ite_self, foldl_kept, foldl_kept2, foldl_kept22, foldl_kept222, implies_true, h_f, State.setLink_kept, State.answer_kept, State.forward_kept])
    | (refine of_pair (by assumption) ?_)
    | (refine of_trip (by assumption) ?_)

@[simp] theorem State.sendFrameT_kept (s : State) (k : Nat) (x : Session) (fl : List (List Byte)) : kept (State.sendFrameT s k x fl) = kept s := by simp [State.sendFrameT]

@[simp] theorem State.sessionDead_kept (s : State) (k : Nat) : kept (State.sessionDead s k) = kept s := by simp [State.sessionDead]

@[simp] theorem State.tunDrop_kept (s : State) : kept (State.tunDrop s) = kept s := by simp [State.tunDrop]

@[simp] theorem State.tunFlits_kept (s : State) (k : Nat) (a2 : List (List Byte)) : kept (State.tunFlits s k a2) = kept s := by
  induction a2 generalizing s with
  | nil => rfl
  | cons f fs ih =>
    unfold tunFlits
    split
    · rfl
    · dsimp only
      split
      · exact (sessionDead_kept ..).trans (setSession_kept ..)
      · exact (ih _).trans (setSession_kept ..)

@[simp] theorem State.tunnelRx_kept (s : State) (f : List Byte) (csumOk : Bool) (tagged : Bool) : kept (State.tunnelRx s f csumOk tagged) = kept s := by
  unfold tunnelRx
  extract_lets src n len
  split
  · rfl
  · split
    · exact tunDrop_kept ..
    · split
      · exact tunDrop_kept ..
      · rename_i heq
        have hk := openSession_kept heq
        split
        · exact hk
        · extract_lets gen t1
          refine (tunFlits_kept ..).trans ?_
          show kept (if _ then _ else if _ then _ else _) = _
          split
          · exact hk
          · split
            · exact (setSession_kept ..).trans hk
            · exact (setSession_kept ..).trans ((viaLost_kept ..).trans hk)

@[simp] theorem execLoomRdata_kept (via : Nat) (s : State) : outKept (execLoomRdata via s) = kept s := by
  unfold execLoomRdata
  try dsimp only
  all_goals repeat' first
    | (with_reducible rfl)
    | (simp only [outKept_next, kept_mk, kept_fold, ite_snd, ite_fst, kept_ite, outKept_ite, ite_self, foldl_kept, foldl_kept2, foldl_kept22, foldl_kept222, implies_true, State.inbound_kept, State.loomDone_kept]; done)
    | split
    | (refine (foldl_kept _ _ _ ?_).trans ?_ <;> intros)
    | (refine (foldl_kept2 _ _ _ ?_).trans ?_ <;> intros)
    | (refine (foldl_kept22 _ _ _ ?_).trans ?_ <;> intros)
    | (refine (foldl_kept222 _ _ _ ?_).trans ?_ <;> intros)
    | (refine (State.inbound_kept _ _ _ _ _ ?_).trans ?_ <;> intros)
    | (simp only [outKept_next, kept_mk, kept_fold, ite_snd, ite_fst, kept_ite, outKept_ite, ite_self, foldl_kept, foldl_kept2, foldl_kept22, foldl_kept222, implies_true, State.inbound_kept, State.loomDone_kept])
    | (refine of_pair (by assumption) ?_)
    | (refine of_trip (by assumption) ?_)

@[simp] theorem execLoomRstat_kept (via : Nat) (s : State) : outKept (execLoomRstat via s) = kept s := by
  unfold execLoomRstat
  try dsimp only
  all_goals repeat' first
    | (with_reducible rfl)
    | (simp only [outKept_next, kept_mk, kept_fold, ite_snd, ite_fst, kept_ite, outKept_ite, ite_self, foldl_kept, foldl_kept2, foldl_kept22, foldl_kept222, implies_true, State.inbound_kept, State.loomDone_kept, State.raisePartition_kept, State.bump_kept]; done)
    | split
    | (refine (foldl_kept _ _ _ ?_).trans ?_ <;> intros)
    | (refine (foldl_kept2 _ _ _ ?_).trans ?_ <;> intros)
    | (refine (foldl_kept22 _ _ _ ?_).trans ?_ <;> intros)
    | (refine (foldl_kept222 _ _ _ ?_).trans ?_ <;> intros)
    | (refine (State.inbound_kept _ _ _ _ _ ?_).trans ?_ <;> intros)
    | (simp only [outKept_next, kept_mk, kept_fold, ite_snd, ite_fst, kept_ite, outKept_ite, ite_self, foldl_kept, foldl_kept2, foldl_kept22, foldl_kept222, implies_true, State.inbound_kept, State.loomDone_kept, State.raisePartition_kept, State.bump_kept])
    | (refine of_pair (by assumption) ?_)
    | (refine of_trip (by assumption) ?_)

@[simp] theorem execLoomRequestTimeout_kept (tid : Nat) (s : State) : outKept (execLoomRequestTimeout tid s) = kept s := by
  unfold execLoomRequestTimeout
  (repeat' split) <;> simp

@[simp] theorem execRouteSwitch_kept (n : Nat) (s : State) : outKept (execRouteSwitch n s) = kept s := by simp [execRouteSwitch]

@[simp] theorem execTunnelFrameRx_kept (frame : List Byte) (csumOk : Bool) (tagged : Bool) (s : State) : outKept (execTunnelFrameRx frame csumOk tagged s) = kept s := by simp [execTunnelFrameRx]

@[simp] theorem execTunnelFrameSend_kept (k : Nat) (s : State) : outKept (execTunnelFrameSend k s) = kept s := by
  unfold execTunnelFrameSend
  (repeat' split) <;> simp

@[simp] theorem execTunnelNullFlit_kept (k : Nat) (s : State) : outKept (execTunnelNullFlit k s) = kept s := by
  unfold execTunnelNullFlit
  (repeat' split) <;> simp

@[simp] theorem execTunnelSessionIdle_kept (k : Nat) (s : State) : outKept (execTunnelSessionIdle k s) = kept s := by
  unfold execTunnelSessionIdle
  (repeat' split) <;> simp

@[simp] theorem execTunnelSessionDead_kept (k : Nat) (s : State) : outKept (execTunnelSessionDead k s) = kept s := by
  unfold execTunnelSessionDead
  (repeat' split) <;> simp

@[simp] theorem State.setColl_kept (s : State) (c : Coll) : kept (State.setColl s c) = kept s := by simp [State.setColl]

@[simp] theorem State.dropColl_kept (s : State) (r : EntryRef) : kept (State.dropColl s r) = kept s := by simp [State.dropColl]

@[simp] theorem State.say_kept (s : State) (m : LoomMsg) : kept (State.say s m) = kept s := by simp [State.say]

@[simp] theorem State.abortGroup_kept (s : State) (c : Coll) (st : Status) : kept (State.abortGroup s c st) = kept s := by simp [State.abortGroup]

@[simp] theorem State.collFail_kept (s : State) (c : Coll) (st : Status) : kept (State.collFail s c st) = kept s := by simp [State.collFail]

@[simp] theorem State.collEnded_kept (s : State) (r : EntryRef) (st : Status) : kept (State.collEnded s r st) = kept s := by
  unfold State.collEnded
  (repeat' split) <;> simp

@[simp] theorem State.collDone_kept (s : State) (c : Coll) : kept (State.collDone s c) = kept s := by
  simp only [State.collDone]
  (repeat' split) <;> simp

@[simp] theorem State.collRead_kept (s : State) (c : Coll) (a : Nat) (n : Nat) (ext : List ExtData) (ups : List Upset) : kept (State.collRead s c a n ext ups).2.2.2 = kept s := by simp [State.collRead]

@[simp] theorem State.collWrite_kept (s : State) (c : Coll) (a : Nat) (d : List Byte) (poison : Bool) (ext : List ExtData) (ups : List Upset) : kept (State.collWrite s c a d poison ext ups).2 = kept s := by simp [State.collWrite]

@[simp] theorem State.gatherWrite_kept (s : State) (c : Coll) (k : Nat) (lo : Nat) (d : List Byte) (poison : Bool) (ext : List ExtData) (ups : List Upset) : kept (State.gatherWrite s c k lo d poison ext ups).2 = kept s := by
  unfold State.gatherWrite
  try dsimp only
  all_goals repeat' first
    | (with_reducible rfl)
    | (simp only [outKept_next, kept_mk, kept_fold, ite_snd, ite_fst, kept_ite, outKept_ite, ite_self, foldl_kept, foldl_kept2, foldl_kept22, foldl_kept222, implies_true, State.collWrite_kept]; done)
    | split
    | (refine (foldl_kept _ _ _ ?_).trans ?_ <;> intros)
    | (refine (foldl_kept2 _ _ _ ?_).trans ?_ <;> intros)
    | (refine (foldl_kept22 _ _ _ ?_).trans ?_ <;> intros)
    | (refine (foldl_kept222 _ _ _ ?_).trans ?_ <;> intros)
    | (simp only [outKept_next, kept_mk, kept_fold, ite_snd, ite_fst, kept_ite, outKept_ite, ite_self, foldl_kept, foldl_kept2, foldl_kept22, foldl_kept222, implies_true, State.collWrite_kept])
    | (refine of_pair (by assumption) ?_)
    | (refine of_trip (by assumption) ?_)

@[simp] theorem State.collTop_kept (s : State) (c : Coll) (i : Nat) (d : List Byte) (ext : List ExtData) (ups : List Upset) : kept (State.collTop s c i d ext ups) = kept s := by simp [State.collTop]

@[simp] theorem State.collUp_kept (s : State) (c : Coll) (i : Nat) (d : List Byte) (poison : Bool) (first : Bool) (ext : List ExtData) (ups : List Upset) : kept (State.collUp s c i d poison first ext ups) = kept s := by simp [State.collUp]

@[simp] theorem State.collDown_kept (s : State) (c : Coll) (i : Nat) (d : List Byte) (poison : Bool) (ext : List ExtData) (ups : List Upset) : kept (State.collDown s c i d poison ext ups) = kept s := by simp [State.collDown]

@[simp] theorem State.collRing_kept (s : State) (c : Coll) (i : Nat) (d : List Byte) (poison : Bool) (ext : List ExtData) (ups : List Upset) : kept (State.collRing s c i d poison ext ups) = kept s := by simp [State.collRing]

theorem State.collAgain_kept (s : State) (r : EntryRef) (f : State → Coll → State) (h_f : ∀ y0 y1, kept (f y0 y1) = kept y0) : kept (State.collAgain s r f) = kept s := by
  unfold State.collAgain
  (repeat' split) <;> simp [h_f]

@[simp] theorem State.ringStart_kept (s : State) (c : Coll) (inPlace : Bool) (ext : List ExtData) (ups : List Upset) : kept (State.ringStart s c inPlace ext ups) = kept s := by
  unfold State.ringStart
  try dsimp only
  all_goals repeat' first
    | (with_reducible rfl)
    | (simp only [outKept_next, kept_mk, kept_fold, ite_snd, ite_fst, kept_ite, outKept_ite, ite_self, foldl_kept, foldl_kept2, foldl_kept22, foldl_kept222, implies_true, State.collAgain_kept, State.collRead_kept, State.collFail_kept, State.gatherWrite_kept, State.say_kept, State.setColl_kept, State.collDone_kept]; done)
    | split
    | (refine (foldl_kept _ _ _ ?_).trans ?_ <;> intros)
    | (refine (foldl_kept2 _ _ _ ?_).trans ?_ <;> intros)
    | (refine (foldl_kept22 _ _ _ ?_).trans ?_ <;> intros)
    | (refine (foldl_kept222 _ _ _ ?_).trans ?_ <;> intros)
    | (refine (State.collAgain_kept _ _ _ ?_).trans ?_ <;> intros)
    | (simp only [outKept_next, kept_mk, kept_fold, ite_snd, ite_fst, kept_ite, outKept_ite, ite_self, foldl_kept, foldl_kept2, foldl_kept22, foldl_kept222, implies_true, State.collAgain_kept, State.collRead_kept, State.collFail_kept, State.gatherWrite_kept, State.say_kept, State.setColl_kept, State.collDone_kept])
    | (refine of_pair (by assumption) ?_)
    | (refine of_trip (by assumption) ?_)

@[simp] theorem State.collGo_kept (s : State) (c : Coll) (ext : List ExtData) (ups : List Upset) : kept (State.collGo s c ext ups) = kept s := by
  unfold State.collGo
  try dsimp only
  all_goals repeat' first
    | (with_reducible rfl)
    | (simp only [outKept_next, kept_mk, kept_fold, ite_snd, ite_fst, kept_ite, outKept_ite, ite_self, foldl_kept, foldl_kept2, foldl_kept22, foldl_kept222, implies_true, State.setColl_kept, State.ringStart_kept, State.collAgain_kept, State.collRead_kept, State.collFail_kept, State.collUp_kept]; done)
    | split
    | (refine (foldl_kept _ _ _ ?_).trans ?_ <;> intros)
    | (refine (foldl_kept2 _ _ _ ?_).trans ?_ <;> intros)
    | (refine (foldl_kept22 _ _ _ ?_).trans ?_ <;> intros)
    | (refine (foldl_kept222 _ _ _ ?_).trans ?_ <;> intros)
    | (simp only [outKept_next, kept_mk, kept_fold, ite_snd, ite_fst, kept_ite, outKept_ite, ite_self, foldl_kept, foldl_kept2, foldl_kept22, foldl_kept222, implies_true, State.setColl_kept, State.ringStart_kept, State.collAgain_kept, State.collRead_kept, State.collFail_kept, State.collUp_kept])
    | (refine of_pair (by assumption) ?_)
    | (refine of_trip (by assumption) ?_)

@[simp] theorem State.collBegin_kept (s : State) (c : Coll) (ext : List ExtData) (ups : List Upset) : kept (State.collBegin s c ext ups) = kept s := by
  unfold State.collBegin
  try dsimp only
  all_goals repeat' first
    | (with_reducible rfl)
    | (simp only [outKept_next, kept_mk, kept_fold, ite_snd, ite_fst, kept_ite, outKept_ite, ite_self, foldl_kept, foldl_kept2, foldl_kept22, foldl_kept222, implies_true, State.finish_kept, State.collFail_kept, State.collGo_kept, State.say_kept]; done)
    | split
    | (refine (foldl_kept _ _ _ ?_).trans ?_ <;> intros)
    | (refine (foldl_kept2 _ _ _ ?_).trans ?_ <;> intros)
    | (refine (foldl_kept22 _ _ _ ?_).trans ?_ <;> intros)
    | (refine (foldl_kept222 _ _ _ ?_).trans ?_ <;> intros)
    | (simp only [outKept_next, kept_mk, kept_fold, ite_snd, ite_fst, kept_ite, outKept_ite, ite_self, foldl_kept, foldl_kept2, foldl_kept22, foldl_kept222, implies_true, State.finish_kept, State.collFail_kept, State.collGo_kept, State.say_kept])
    | (refine of_pair (by assumption) ?_)
    | (refine of_trip (by assumption) ?_)

@[simp] theorem State.collToken_kept (s : State) (c : Coll) (cop : Nat) (size : Nat) (count : Nat) (down : Bool) (agree : Bool) (ext : List ExtData) (ups : List Upset) : kept (State.collToken s c cop size count down agree ext ups) = kept s := by simp [State.collToken]

@[simp] theorem State.collStart_kept (s : State) (r : EntryRef) (op : Nat) (d : CollDesc) (ext : List ExtData) (ups : List Upset) : kept (State.collStart s r op d ext ups) = kept s := by
  unfold State.collStart
  (repeat' split) <;> simp

@[simp] theorem State.gatherStart_kept (s : State) (r : EntryRef) (ext : List ExtData) (ups : List Upset) : kept (State.gatherStart s r ext ups) = kept s := by
  unfold State.gatherStart
  (repeat' split) <;> simp

@[simp] theorem State.collTake_kept (s : State) (r : EntryRef) (cop : Nat) (size : Nat) (count : Nat) (down : Bool) (i : Nat) (d : List Byte) (poison : Bool) (token : Option Bool) (ext : List ExtData) (ups : List Upset) : kept (State.collTake s r cop size count down i d poison token ext ups) = kept s := by
  unfold State.collTake
  try dsimp only
  all_goals repeat' first
    | (with_reducible rfl)
    | (simp only [outKept_next, kept_mk, kept_fold, ite_snd, ite_fst, kept_ite, outKept_ite, ite_self, foldl_kept, foldl_kept2, foldl_kept22, foldl_kept222, implies_true, State.collAgain_kept, State.collToken_kept, State.collRing_kept, State.collDown_kept, State.collUp_kept]; done)
    | split
    | (refine (foldl_kept _ _ _ ?_).trans ?_ <;> intros)
    | (refine (foldl_kept2 _ _ _ ?_).trans ?_ <;> intros)
    | (refine (foldl_kept22 _ _ _ ?_).trans ?_ <;> intros)
    | (refine (foldl_kept222 _ _ _ ?_).trans ?_ <;> intros)
    | (simp only [outKept_next, kept_mk, kept_fold, ite_snd, ite_fst, kept_ite, outKept_ite, ite_self, foldl_kept, foldl_kept2, foldl_kept22, foldl_kept222, implies_true, State.collAgain_kept, State.collToken_kept, State.collRing_kept, State.collDown_kept, State.collUp_kept])
    | (refine of_pair (by assumption) ?_)
    | (refine of_trip (by assumption) ?_)

@[simp] theorem State.endGroup_kept (s : State) (g : Nat) (st : Status) : kept (State.endGroup s g st) = kept s := by
  unfold State.endGroup
  try dsimp only
  all_goals repeat' first
    | (with_reducible rfl)
    | (simp only [outKept_next, kept_mk, kept_fold, ite_snd, ite_fst, kept_ite, outKept_ite, ite_self, foldl_kept, foldl_kept2, foldl_kept22, foldl_kept222, implies_true, State.dropColl_kept, State.attnEnd_kept, State.finish_kept]; done)
    | split
    | (refine (foldl_kept _ _ _ ?_).trans ?_ <;> intros)
    | (refine (foldl_kept2 _ _ _ ?_).trans ?_ <;> intros)
    | (refine (foldl_kept22 _ _ _ ?_).trans ?_ <;> intros)
    | (refine (foldl_kept222 _ _ _ ?_).trans ?_ <;> intros)
    | (simp only [outKept_next, kept_mk, kept_fold, ite_snd, ite_fst, kept_ite, outKept_ite, ite_self, foldl_kept, foldl_kept2, foldl_kept22, foldl_kept222, implies_true, State.dropColl_kept, State.attnEnd_kept, State.finish_kept])
    | (refine of_pair (by assumption) ?_)
    | (refine of_trip (by assumption) ?_)

@[simp] theorem execAllReduce_kept (r : EntryRef) (d : CollDesc) (ext : List ExtData) (upsets : List Upset) (s : State) : outKept (execAllReduce r d ext upsets s) = kept s := by simp [execAllReduce]

@[simp] theorem execAllGather_kept (r : EntryRef) (d : CollDesc) (ext : List ExtData) (upsets : List Upset) (s : State) : outKept (execAllGather r d ext upsets s) = kept s := by simp [execAllGather]

@[simp] theorem execReduceScatter_kept (r : EntryRef) (d : CollDesc) (ext : List ExtData) (upsets : List Upset) (s : State) : outKept (execReduceScatter r d ext upsets s) = kept s := by simp [execReduceScatter]

@[simp] theorem execBroadcast_kept (r : EntryRef) (d : CollDesc) (ext : List ExtData) (upsets : List Upset) (s : State) : outKept (execBroadcast r d ext upsets s) = kept s := by simp [execBroadcast]

@[simp] theorem execBarrier_kept (r : EntryRef) (s : State) : outKept (execBarrier r s) = kept s := by simp [execBarrier]

@[simp] theorem execLoomColl_kept (r : EntryRef) (cop : Nat) (size : Nat) (count : Nat) (down : Bool) (chunk : Nat) (data : List Byte) (poison : Bool) (token : Option Bool) (ext : List ExtData) (upsets : List Upset) (s : State) : outKept (execLoomColl r cop size count down chunk data poison token ext upsets s) = kept s := by simp [execLoomColl]

@[simp] theorem execAbortGroup_kept (group : Nat) (status : Nat) (s : State) : outKept (execAbortGroup group status s) = kept s := by simp [execAbortGroup]

@[simp] theorem State.portActive_kept (s : State) (p : Nat) : kept (State.portActive s p) = kept s := by simp [State.portActive]

@[simp] theorem State.portRetrain_kept (s : State) (p : Nat) (out : Nat) : kept (State.portRetrain s p out) = kept s := by simp [State.portRetrain]

@[simp] theorem State.portSleep_kept (s : State) (p : Nat) : kept (State.portSleep s p) = kept s := by simp [State.portSleep]

@[simp] theorem State.portCozy_kept (s : State) (p : Nat) : kept (State.portCozy s p) = kept s := by
  simp only [State.portCozy]
  (repeat' split) <;> simp

@[simp] theorem State.sleepRequest_kept (s : State) (p : Nat) : kept (State.sleepRequest s p) = kept s := by simp [State.sleepRequest]

@[simp] theorem State.portTrained_kept (s : State) (p : Nat) : kept (State.portTrained s p) = kept s := by simp [State.portTrained]

@[simp] theorem State.checkReplays_kept (s : State) (p : Nat) : kept (State.checkReplays s p) = kept s := by simp [State.checkReplays]

@[simp] theorem State.portL1_kept (s : State) (p : Nat) : kept (State.portL1 s p) = kept s := by simp [State.portL1]

@[simp] theorem State.pmsgSent_kept (s : State) (p : Nat) (m : Nat) : kept (State.pmsgSent s p m) = kept s := by simp [State.pmsgSent]

@[simp] theorem State.pmsgTaken_kept (s : State) (p : Nat) (m : Nat) : kept (State.pmsgTaken s p m) = kept s := by simp [State.pmsgTaken]

theorem State.blkAction_kept (s : State) (p : Nat) (off : Nat) (f : State → State) (h_f : ∀ y0, kept (f y0) = kept y0) : kept (State.blkAction s p off f) = kept s := by simp [State.blkAction, h_f, State.action_kept]

@[simp] theorem execDetectBurst_kept (p : Nat) (s : State) : outKept (execDetectBurst p s) = kept s := by simp [execDetectBurst]

@[simp] theorem execPartnerDetected_kept (p : Nat) (s : State) : outKept (execPartnerDetected p s) = kept s := by simp [execPartnerDetected]

@[simp] theorem execTrainingTimeout_kept (p : Nat) (s : State) : outKept (execTrainingTimeout p s) = kept s := by simp [execTrainingTimeout]

@[simp] theorem execTrainingSetReceived_kept (p : Nat) (lane : Nat) (set : List Byte) (inverted : Bool) (count : Nat) (s : State) : outKept (execTrainingSetReceived p lane set inverted count s) = kept s := by simp [execTrainingSetReceived]

@[simp] theorem execFlitTx_kept (p : Nat) (s : State) : outKept (execFlitTx p s) = kept s := by simp [execFlitTx]

@[simp] theorem execFlitRx_kept (p : Nat) (wire : List (List LaneBlock)) (s : State) : outKept (execFlitRx p wire s) = kept s := by
  unfold execFlitRx
  try dsimp only
  all_goals repeat' first
    | (with_reducible rfl)
    | (simp only [outKept_next, kept_mk, kept_fold, ite_snd, ite_fst, kept_ite, outKept_ite, ite_self, foldl_kept, foldl_kept2, foldl_kept22, foldl_kept222, implies_true, State.bumpBy_kept, State.setBport_kept, State.bump_kept, State.protoError_kept, State.portActive_kept, State.checkReplays_kept, State.pmsgTaken_kept]; done)
    | split
    | (refine (foldl_kept _ _ _ ?_).trans ?_ <;> intros)
    | (refine (foldl_kept2 _ _ _ ?_).trans ?_ <;> intros)
    | (refine (foldl_kept22 _ _ _ ?_).trans ?_ <;> intros)
    | (refine (foldl_kept222 _ _ _ ?_).trans ?_ <;> intros)
    | (simp only [outKept_next, kept_mk, kept_fold, ite_snd, ite_fst, kept_ite, outKept_ite, ite_self, foldl_kept, foldl_kept2, foldl_kept22, foldl_kept222, implies_true, State.bumpBy_kept, State.setBport_kept, State.bump_kept, State.protoError_kept, State.portActive_kept, State.checkReplays_kept, State.pmsgTaken_kept])
    | (refine of_pair (by assumption) ?_)
    | (refine of_trip (by assumption) ?_)

@[simp] theorem execReplayTimeout_kept (p : Nat) (s : State) : outKept (execReplayTimeout p s) = kept s := by
  unfold execReplayTimeout
  (repeat' split) <;> simp

@[simp] theorem execBlockLockLoss_kept (p : Nat) (lane : Nat) (s : State) : outKept (execBlockLockLoss p lane s) = kept s := by simp [execBlockLockLoss]

@[simp] theorem execLaneErrorThreshold_kept (p : Nat) (lane : Nat) (errs : Nat) (s : State) : outKept (execLaneErrorThreshold p lane errs s) = kept s := by simp [execLaneErrorThreshold]

@[simp] theorem execFlitSilence_kept (p : Nat) (s : State) : outKept (execFlitSilence p s) = kept s := by simp [execFlitSilence]

@[simp] theorem execRetrainCmd_kept (p : Nat) (s : State) : outKept (execRetrainCmd p s) = kept s := by simp [execRetrainCmd, State.blkAction_kept]

@[simp] theorem execRetrainTimeout_kept (p : Nat) (s : State) : outKept (execRetrainTimeout p s) = kept s := by simp [execRetrainTimeout]

@[simp] theorem execLinkDownCmd_kept (p : Nat) (s : State) : outKept (execLinkDownCmd p s) = kept s := by simp [execLinkDownCmd, State.blkAction_kept]

@[simp] theorem execDownRetry_kept (p : Nat) (s : State) : outKept (execDownRetry p s) = kept s := by simp [execDownRetry]

@[simp] theorem execL1Idle_kept (p : Nat) (s : State) : outKept (execL1Idle p s) = kept s := by simp [execL1Idle]

@[simp] theorem execL1ReqTimeout_kept (p : Nat) (s : State) : outKept (execL1ReqTimeout p s) = kept s := by simp [execL1ReqTimeout]

@[simp] theorem execL1Exit_kept (p : Nat) (relock : Bool) (s : State) : outKept (execL1Exit p relock s) = kept s := by simp [execL1Exit]

@[simp] theorem execSleepDrainTimeout_kept (p : Nat) (s : State) : outKept (execSleepDrainTimeout p s) = kept s := by simp [execSleepDrainTimeout]

@[simp] theorem execSleepAckTimeout_kept (p : Nat) (s : State) : outKept (execSleepAckTimeout p s) = kept s := by simp [execSleepAckTimeout]

@[simp] theorem execWakePatternSend_kept (p : Nat) (s : State) : outKept (execWakePatternSend p s) = kept s := by simp [execWakePatternSend, State.blkAction_kept]

@[simp] theorem execBlkCntClr_kept (p : Nat) (s : State) : outKept (execBlkCntClr p s) = kept s := by simp [execBlkCntClr, State.action_kept]

@[simp] theorem State.sayAll_kept (s : State) (f : Nat → LoomMsg) : kept (State.sayAll s f) = kept s := by
  unfold State.sayAll
  try dsimp only
  all_goals repeat' first
    | (with_reducible rfl)
    | (simp only [outKept_next, kept_mk, kept_fold, ite_snd, ite_fst, kept_ite, outKept_ite, ite_self, foldl_kept, foldl_kept2, foldl_kept22, foldl_kept222, implies_true, State.say_kept]; done)
    | split
    | (refine (foldl_kept _ _ _ ?_).trans ?_ <;> intros)
    | (refine (foldl_kept2 _ _ _ ?_).trans ?_ <;> intros)
    | (refine (foldl_kept22 _ _ _ ?_).trans ?_ <;> intros)
    | (refine (foldl_kept222 _ _ _ ?_).trans ?_ <;> intros)
    | (simp only [outKept_next, kept_mk, kept_fold, ite_snd, ite_fst, kept_ite, outKept_ite, ite_self, foldl_kept, foldl_kept2, foldl_kept22, foldl_kept222, implies_true, State.say_kept])
    | (refine of_pair (by assumption) ?_)
    | (refine of_trip (by assumption) ?_)

@[simp] theorem State.modLoom_kept (s : State) (f : Loom → Loom) : kept (State.modLoom s f) = kept s := by simp [State.modLoom]

@[simp] theorem State.modVote_kept (s : State) (f : Vote → Vote) : kept (State.modVote s f) = kept s := by simp [State.modVote]

@[simp] theorem State.voteAbortAll_kept (s : State) : kept (State.voteAbortAll s) = kept s := by
  simp only [State.voteAbortAll]
  (repeat' split) <;> simp

@[simp] theorem State.voteViewChange_kept (s : State) : kept (State.voteViewChange s) = kept s := by simp [State.voteViewChange]

@[simp] theorem State.castTaken_kept (s : State) (n : Nat) (id : Nat) (yes : Bool) : kept (State.castTaken s n id yes) = kept s := by
  simp only [State.castTaken]
  (repeat' split) <;> simp

@[simp] theorem State.castOwn_kept (s : State) (yes : Bool) : kept (State.castOwn s yes) = kept s := by simp [State.castOwn]

@[simp] theorem State.voteOpens_kept (s : State) (id : Nat) (toMs : Nat) (entry : Option EntryRef) : kept (State.voteOpens s id toMs entry) = kept s := by simp [State.voteOpens]

@[simp] theorem State.memberLost_kept (s : State) (n : Nat) (groups : List Nat) : kept (State.memberLost s n groups) = kept s := by
  unfold State.memberLost
  try dsimp only
  all_goals repeat' first
    | (with_reducible rfl)
    | (simp only [outKept_next, kept_mk, kept_fold, ite_snd, ite_fst, kept_ite, outKept_ite, ite_self, foldl_kept, foldl_kept2, foldl_kept22, foldl_kept222, implies_true, State.loomDone_kept, State.endGroup_kept, State.endRemote_kept, State.bump_kept, State.remoteLeaseLost_kept]; done)
    | split
    | (refine (foldl_kept _ _ _ ?_).trans ?_ <;> intros)
    | (refine (foldl_kept2 _ _ _ ?_).trans ?_ <;> intros)
    | (refine (foldl_kept22 _ _ _ ?_).trans ?_ <;> intros)
    | (refine (foldl_kept222 _ _ _ ?_).trans ?_ <;> intros)
    | (simp only [outKept_next, kept_mk, kept_fold, ite_snd, ite_fst, kept_ite, outKept_ite, ite_self, foldl_kept, foldl_kept2, foldl_kept22, foldl_kept222, implies_true, State.loomDone_kept, State.endGroup_kept, State.endRemote_kept, State.bump_kept, State.remoteLeaseLost_kept])
    | (refine of_pair (by assumption) ?_)
    | (refine of_trip (by assumption) ?_)

@[simp] theorem State.viewIn_kept (s : State) (v : View) (groups : List Nat) : kept (State.viewIn s v groups) = kept s := by
  unfold State.viewIn
  try dsimp only
  all_goals repeat' first
    | (with_reducible rfl)
    | (simp only [outKept_next, kept_mk, kept_fold, ite_snd, ite_fst, kept_ite, outKept_ite, ite_self, foldl_kept, foldl_kept2, foldl_kept22, foldl_kept222, implies_true, State.voteViewChange_kept, State.modLoom_kept, State.memberLost_kept]; done)
    | split
    | (refine (foldl_kept _ _ _ ?_).trans ?_ <;> intros)
    | (refine (foldl_kept2 _ _ _ ?_).trans ?_ <;> intros)
    | (refine (foldl_kept22 _ _ _ ?_).trans ?_ <;> intros)
    | (refine (foldl_kept222 _ _ _ ?_).trans ?_ <;> intros)
    | (simp only [outKept_next, kept_mk, kept_fold, ite_snd, ite_fst, kept_ite, outKept_ite, ite_self, foldl_kept, foldl_kept2, foldl_kept22, foldl_kept222, implies_true, State.voteViewChange_kept, State.modLoom_kept, State.memberLost_kept])
    | (refine of_pair (by assumption) ?_)
    | (refine of_trip (by assumption) ?_)

@[simp] theorem State.issueView_kept (s : State) (members : List MemberRec) (links : List LinkRec) (groups : List Nat) : kept (State.issueView s members links groups) = kept s := by simp [State.issueView]

@[simp] theorem State.viewWithout_kept (s : State) (n : Nat) (groups : List Nat) : kept (State.viewWithout s n groups) = kept s := by simp [State.viewWithout]

@[simp] theorem State.loomOut_kept (s : State) (st : Status) : kept (State.loomOut s st) = kept s := by
  unfold State.loomOut
  try dsimp only
  all_goals repeat' first
    | (with_reducible rfl)
    | (simp only [outKept_next, kept_mk, kept_fold, ite_snd, ite_fst, kept_ite, outKept_ite, ite_self, foldl_kept, foldl_kept2, foldl_kept22, foldl_kept222, implies_true, State.loomDone_kept, State.voteViewChange_kept, State.endGroup_kept, State.modLoom_kept]; done)
    | split
    | (refine (foldl_kept _ _ _ ?_).trans ?_ <;> intros)
    | (refine (foldl_kept2 _ _ _ ?_).trans ?_ <;> intros)
    | (refine (foldl_kept22 _ _ _ ?_).trans ?_ <;> intros)
    | (refine (foldl_kept222 _ _ _ ?_).trans ?_ <;> intros)
    | (simp only [outKept_next, kept_mk, kept_fold, ite_snd, ite_fst, kept_ite, outKept_ite, ite_self, foldl_kept, foldl_kept2, foldl_kept22, foldl_kept222, implies_true, State.loomDone_kept, State.voteViewChange_kept, State.endGroup_kept, State.modLoom_kept])
    | (refine of_pair (by assumption) ?_)
    | (refine of_trip (by assumption) ?_)

@[simp] theorem State.coordLost_kept (s : State) : kept (State.coordLost s) = kept s := by
  unfold State.coordLost
  try dsimp only
  all_goals repeat' first
    | (with_reducible rfl)
    | (simp only [outKept_next, kept_mk, kept_fold, ite_snd, ite_fst, kept_ite, outKept_ite, ite_self, foldl_kept, foldl_kept2, foldl_kept22, foldl_kept222, implies_true, State.modLoom_kept, State.voteViewChange_kept, State.say_kept]; done)
    | split
    | (refine (foldl_kept _ _ _ ?_).trans ?_ <;> intros)
    | (refine (foldl_kept2 _ _ _ ?_).trans ?_ <;> intros)
    | (refine (foldl_kept22 _ _ _ ?_).trans ?_ <;> intros)
    | (refine (foldl_kept222 _ _ _ ?_).trans ?_ <;> intros)
    | (simp only [outKept_next, kept_mk, kept_fold, ite_snd, ite_fst, kept_ite, outKept_ite, ite_self, foldl_kept, foldl_kept2, foldl_kept22, foldl_kept222, implies_true, State.modLoom_kept, State.voteViewChange_kept, State.say_kept])
    | (refine of_pair (by assumption) ?_)
    | (refine of_trip (by assumption) ?_)

@[simp] theorem State.judgeJoin_kept (s : State) (j : JoinRec) : kept (State.judgeJoin s j) = kept s := by simp [State.judgeJoin]

@[simp] theorem State.judgeDelayed_kept (s : State) : kept (State.judgeDelayed s) = kept s := by
  unfold State.judgeDelayed
  try dsimp only
  all_goals repeat' first
    | (with_reducible rfl)
    | (simp only [outKept_next, kept_mk, kept_fold, ite_snd, ite_fst, kept_ite, outKept_ite, ite_self, foldl_kept, foldl_kept2, foldl_kept22, foldl_kept222, implies_true, State.judgeJoin_kept, State.modLoom_kept]; done)
    | split
    | (refine (foldl_kept _ _ _ ?_).trans ?_ <;> intros)
    | (refine (foldl_kept2 _ _ _ ?_).trans ?_ <;> intros)
    | (refine (foldl_kept22 _ _ _ ?_).trans ?_ <;> intros)
    | (refine (foldl_kept222 _ _ _ ?_).trans ?_ <;> intros)
    | (simp only [outKept_next, kept_mk, kept_fold, ite_snd, ite_fst, kept_ite, outKept_ite, ite_self, foldl_kept, foldl_kept2, foldl_kept22, foldl_kept222, implies_true, State.judgeJoin_kept, State.modLoom_kept])
    | (refine of_pair (by assumption) ?_)
    | (refine of_trip (by assumption) ?_)

@[simp] theorem State.joinEnds_kept (s : State) (st : Status) : kept (State.joinEnds s st) = kept s := by
  unfold State.joinEnds
  (repeat' split) <;> simp

@[simp] theorem State.leaveEnds_kept (s : State) : kept (State.leaveEnds s) = kept s := by
  unfold State.leaveEnds
  (repeat' split) <;> simp

@[simp] theorem execHello_kept (p : Nat) (loomId : Nat) (node : Nat) (tunnel : Bool) (s : State) : outKept (execHello p loomId node tunnel s) = kept s := by simp [execHello]

@[simp] theorem execJoin_kept (r : EntryRef) (s : State) : outKept (execJoin r s) = kept s := by
  unfold execJoin
  (repeat' split) <;> simp

@[simp] theorem execJoinReq_kept (j : JoinRec) (s : State) : outKept (execJoinReq j s) = kept s := by simp [execJoinReq]

@[simp] theorem execJoinRefusal_kept (loomIdDiffers : Bool) (s : State) : outKept (execJoinRefusal loomIdDiffers s) = kept s := by simp [execJoinRefusal]

@[simp] theorem execJoinTimeout_kept (s : State) : outKept (execJoinTimeout s) = kept s := by
  unfold execJoinTimeout
  (repeat' split) <;> simp

@[simp] theorem execView_kept (seq : Nat) (coord : Nat) (members : List MemberRec) (links : List LinkRec) (groups : List Nat) (s : State) : outKept (execView seq coord members links groups s) = kept s := by simp [execView]

@[simp] theorem execHeartbeatTimer_kept (s : State) : outKept (execHeartbeatTimer s) = kept s := by simp [execHeartbeatTimer]

@[simp] theorem execHeartbeat_kept (from_ : Nat) (s : State) : outKept (execHeartbeat from_ s) = kept s := by simp [execHeartbeat]

@[simp] theorem execHeartbeatLoss_kept (n : Nat) (groups : List Nat) (s : State) : outKept (execHeartbeatLoss n groups s) = kept s := by simp [execHeartbeatLoss]

@[simp] theorem execClaim_kept (n : Nat) (s : State) : outKept (execClaim n s) = kept s := by simp [execClaim]

@[simp] theorem execClaimWindowEnd_kept (s : State) : outKept (execClaimWindowEnd s) = kept s := by
  unfold execClaimWindowEnd
  (repeat' split) <;> simp

@[simp] theorem execClaimAck_kept (n : Nat) (groups : List Nat) (s : State) : outKept (execClaimAck n groups s) = kept s := by simp [execClaimAck]

@[simp] theorem execElectionTimeout_kept (s : State) : outKept (execElectionTimeout s) = kept s := by simp [execElectionTimeout]

@[simp] theorem execLeave_kept (r : EntryRef) (s : State) : outKept (execLeave r s) = kept s := by
  unfold execLeave
  (repeat' split) <;> simp

@[simp] theorem execLeaveMessage_kept (n : Nat) (groups : List Nat) (s : State) : outKept (execLeaveMessage n groups s) = kept s := by simp [execLeaveMessage]

@[simp] theorem execLeaveTimeout_kept (s : State) : outKept (execLeaveTimeout s) = kept s := by
  unfold execLeaveTimeout
  (repeat' split) <;> simp

@[simp] theorem execVotePropose_kept (r : EntryRef) (s : State) : outKept (execVotePropose r s) = kept s := by
  unfold execVotePropose
  (repeat' split) <;> simp

@[simp] theorem execVoteCast_kept (r : EntryRef) (s : State) : outKept (execVoteCast r s) = kept s := by
  unfold execVoteCast
  (repeat' split) <;> simp

@[simp] theorem execPropose_kept (coord : Nat) (id : Nat) (s : State) : outKept (execPropose coord id s) = kept s := by simp [execPropose]

@[simp] theorem execCastVoteReceived_kept (n : Nat) (id : Nat) (yes : Bool) (s : State) : outKept (execCastVoteReceived n id yes s) = kept s := by simp [execCastVoteReceived]

@[simp] theorem execVoteTimeout_kept (s : State) : outKept (execVoteTimeout s) = kept s := by simp [execVoteTimeout]

@[simp] theorem execLoomRresetWrite_kept (who : Requester) (v : Nat) (s : State) : outKept (execLoomRresetWrite who v s) = kept s := by simp [execLoomRresetWrite, State.regCmd_kept, State.inStates_kept]

@[simp] theorem execLoomCntClr_kept (who : Requester) (s : State) : outKept (execLoomCntClr who s) = kept s := by simp [execLoomCntClr, State.regCmd_kept, State.inStates_kept]

end Sys2Proof.Machine
end

