-- ==== Sys2Proof/Laws/KeptModes.lean ====
section
/-! SUPPORT. The operations on resets, faults, power, images, queues and modes keep the queue, the boot flash and the fuses. -/

set_option linter.unusedSimpArgs false

namespace Sys2Proof.Machine

open State

@[simp] theorem State.frameBegin_kept (s : State) (due : Nat) (payload : List Byte) (rom : Bool) : kept (State.frameBegin s due payload rom) = kept s := by
  unfold State.frameBegin
  try dsimp only
  all_goals repeat' first
    | (with_reducible rfl)
    | (simp only [outKept_next, kept_mk, kept_fold, ite_snd, ite_fst, kept_ite, outKept_ite, ite_self, foldl_kept, foldl_kept2, foldl_kept22, foldl_kept222, implies_true, State.outbound_kept]; done)
    | split
    | (refine (foldl_kept _ _ _ ?_).trans ?_ <;> intros)
    | (refine (foldl_kept2 _ _ _ ?_).trans ?_ <;> intros)
    | (refine (foldl_kept22 _ _ _ ?_).trans ?_ <;> intros)
    | (refine (foldl_kept222 _ _ _ ?_).trans ?_ <;> intros)
    | (simp only [outKept_next, kept_mk, kept_fold, ite_snd, ite_fst, kept_ite, outKept_ite, ite_self, foldl_kept, foldl_kept2, foldl_kept22, foldl_kept222, implies_true, State.outbound_kept])
    | (refine of_pair (by assumption) ?_)
    | (refine of_trip (by assumption) ?_)

@[simp] theorem State.frameDue_kept (s : State) (last : Bool) (busFree : Bool) : kept (State.frameDue s last busFree) = kept s := by simp [State.frameDue]

@[simp] theorem State.eventFrame_kept (s : State) : kept (State.eventFrame s) = kept s := by simp [State.eventFrame]

@[simp] theorem State.transit_kept (s : State) (st : DevState) (causes : Nat) : kept (State.transit s st causes) = kept s := by simp [State.transit]

@[simp] theorem State.activeFault_kept (s : State) (bit : Nat) : kept (State.activeFault s bit) = kept s := by simp [State.activeFault]

@[simp] theorem State.logged_kept (s : State) : kept (State.logged s) = kept s := by simp [State.logged]

@[simp] theorem State.stopEncl_kept (s : State) (e : Nat) (st : Status) : kept (State.stopEncl s e st) = kept s := by
  unfold State.stopEncl
  try dsimp only
  all_goals repeat' first
    | (with_reducible rfl)
    | (simp only [outKept_next, kept_mk, kept_fold, ite_snd, ite_fst, kept_ite, outKept_ite, ite_self, foldl_kept, foldl_kept2, foldl_kept22, foldl_kept222, implies_true, State.loadFail_kept, State.endAll_kept, State.stopJobs_kept, State.tileStop_kept, State.chAbort_kept]; done)
    | split
    | (refine (foldl_kept _ _ _ ?_).trans ?_ <;> intros)
    | (refine (foldl_kept2 _ _ _ ?_).trans ?_ <;> intros)
    | (refine (foldl_kept22 _ _ _ ?_).trans ?_ <;> intros)
    | (refine (foldl_kept222 _ _ _ ?_).trans ?_ <;> intros)
    | (simp only [outKept_next, kept_mk, kept_fold, ite_snd, ite_fst, kept_ite, outKept_ite, ite_self, foldl_kept, foldl_kept2, foldl_kept22, foldl_kept222, implies_true, State.loadFail_kept, State.endAll_kept, State.stopJobs_kept, State.tileStop_kept, State.chAbort_kept])
    | (refine of_pair (by assumption) ?_)
    | (refine of_trip (by assumption) ?_)

@[simp] theorem State.proofStopped_kept (s : State) : kept (State.proofStopped s) = kept s := by
  unfold State.proofStopped
  (repeat' split) <;> simp

@[simp] theorem State.capture_kept (s : State) (id : FaultId) (cls : Nat) (encl : Nat) (gsk : Nat) : kept (State.capture s id cls encl gsk) = kept s := by simp [State.capture]

@[simp] theorem State.latchFault_kept (s : State) : kept (State.latchFault s) = kept s := by simp [State.latchFault]

@[simp] theorem State.haltEntry_kept (s : State) (causes : Nat) : kept (State.haltEntry s causes) = kept s := by
  unfold State.haltEntry
  try dsimp only
  all_goals repeat' first
    | (with_reducible rfl)
    | (simp only [outKept_next, kept_mk, kept_fold, ite_snd, ite_fst, kept_ite, outKept_ite, ite_self, foldl_kept, foldl_kept2, foldl_kept22, foldl_kept222, implies_true, State.goto_kept, State.stopEncl_kept, State.gskDrainFor_kept, State.proofStopped_kept, State.seizeNow_kept, State.portOff_kept, State.eventFrame_kept, State.haltFrame_kept]; done)
    | split
    | (refine (foldl_kept _ _ _ ?_).trans ?_ <;> intros)
    | (refine (foldl_kept2 _ _ _ ?_).trans ?_ <;> intros)
    | (refine (foldl_kept22 _ _ _ ?_).trans ?_ <;> intros)
    | (refine (foldl_kept222 _ _ _ ?_).trans ?_ <;> intros)
    | (simp only [outKept_next, kept_mk, kept_fold, ite_snd, ite_fst, kept_ite, outKept_ite, ite_self, foldl_kept, foldl_kept2, foldl_kept22, foldl_kept222, implies_true, State.goto_kept, State.stopEncl_kept, State.gskDrainFor_kept, State.proofStopped_kept, State.seizeNow_kept, State.portOff_kept, State.eventFrame_kept, State.haltFrame_kept])
    | (refine of_pair (by assumption) ?_)
    | (refine of_trip (by assumption) ?_)

@[simp] theorem State.fatal_kept (s : State) (id : FaultId) (encl : Nat) (gsk : Nat) (causes : Nat) : kept (State.fatal s id encl gsk causes) = kept s := by simp [State.fatal]

@[simp] theorem State.fatalWarden_kept (s : State) (id : FaultId) (src : ResetSource) : kept (State.fatalWarden s id src) = kept s := by simp [State.fatalWarden]

@[simp] theorem State.enclAbort_kept (s : State) (e : Nat) : kept (State.enclAbort s e) = kept s := by
  unfold State.enclAbort
  try dsimp only
  all_goals repeat' first
    | (with_reducible rfl)
    | (simp only [outKept_next, kept_mk, kept_fold, ite_snd, ite_fst, kept_ite, outKept_ite, ite_self, foldl_kept, foldl_kept2, foldl_kept22, foldl_kept222, implies_true, State.bump_kept, State.stopEncl_kept, State.gskDrainFor_kept, State.abortsEnd_kept, State.setEncl_kept, State.seizeNow_kept]; done)
    | split
    | (refine (foldl_kept _ _ _ ?_).trans ?_ <;> intros)
    | (refine (foldl_kept2 _ _ _ ?_).trans ?_ <;> intros)
    | (refine (foldl_kept22 _ _ _ ?_).trans ?_ <;> intros)
    | (refine (foldl_kept222 _ _ _ ?_).trans ?_ <;> intros)
    | (simp only [outKept_next, kept_mk, kept_fold, ite_snd, ite_fst, kept_ite, outKept_ite, ite_self, foldl_kept, foldl_kept2, foldl_kept22, foldl_kept222, implies_true, State.bump_kept, State.stopEncl_kept, State.gskDrainFor_kept, State.abortsEnd_kept, State.setEncl_kept, State.seizeNow_kept])
    | (refine of_pair (by assumption) ?_)
    | (refine of_trip (by assumption) ?_)

@[simp] theorem State.computeRule_kept (s : State) (id : FaultId) (encl : Nat) (r : Report) : kept (State.computeRule s id encl r) = kept s := by simp [State.computeRule]

@[simp] theorem State.memUeDrive_kept (s : State) (r : Report) : kept (State.memUeDrive s r) = kept s := by simp [State.memUeDrive]

@[simp] theorem State.reactSafety_kept (s : State) (r : Report) (encl : Nat) : kept (State.reactSafety s r encl) = kept s := by
  unfold State.reactSafety
  (repeat' split) <;> simp

@[simp] theorem State.reactQm_kept (s : State) (r : Report) (es : List Nat) : kept (State.reactQm s r es) = kept s := by
  unfold State.reactQm
  try dsimp only
  all_goals repeat' first
    | (with_reducible rfl)
    | (simp only [outKept_next, kept_mk, kept_fold, ite_snd, ite_fst, kept_ite, outKept_ite, ite_self, foldl_kept, foldl_kept2, foldl_kept22, foldl_kept222, implies_true, State.enclAbort_kept, State.logged_kept, State.activeFault_kept]; done)
    | split
    | (refine (foldl_kept _ _ _ ?_).trans ?_ <;> intros)
    | (refine (foldl_kept2 _ _ _ ?_).trans ?_ <;> intros)
    | (refine (foldl_kept22 _ _ _ ?_).trans ?_ <;> intros)
    | (refine (foldl_kept222 _ _ _ ?_).trans ?_ <;> intros)
    | (simp only [outKept_next, kept_mk, kept_fold, ite_snd, ite_fst, kept_ite, outKept_ite, ite_self, foldl_kept, foldl_kept2, foldl_kept22, foldl_kept222, implies_true, State.enclAbort_kept, State.logged_kept, State.activeFault_kept])
    | (refine of_pair (by assumption) ?_)
    | (refine of_trip (by assumption) ?_)

@[simp] theorem State.react_kept (s : State) (r : Report) : kept (State.react s r) = kept s := by
  unfold State.react
  (repeat' split) <;> simp

@[simp] theorem State.wardenReset_kept (s : State) (g : Nat) : kept (State.wardenReset s g) = kept s := by simp [State.wardenReset]

@[simp] theorem execFaultReport_kept (tagged : Bool) (s : State) : outKept (execFaultReport tagged s) = kept s := by
  unfold execFaultReport
  (repeat' split) <;> simp

@[simp] theorem execSafetyFramePeriod_kept (busFree : Bool) (readBack : Bool) (s : State) : outKept (execSafetyFramePeriod busFree readBack s) = kept s := by simp [execSafetyFramePeriod]

@[simp] theorem execSafeFrameTxLate_kept (s : State) : outKept (execSafeFrameTxLate s) = kept s := by
  unfold execSafeFrameTxLate
  (repeat' split) <;> simp

@[simp] theorem execRomSafetyFrame_kept (s : State) : outKept (execRomSafetyFrame s) = kept s := by simp [execRomSafetyFrame]

@[simp] theorem execFaultPinMismatch_kept (s : State) : outKept (execFaultPinMismatch s) = kept s := by simp [execFaultPinMismatch]

@[simp] theorem execStewardHang_kept (k : Nat) (s : State) : outKept (execStewardHang k s) = kept s := by simp [execStewardHang]

@[simp] theorem execClockMonWindow_kept (d : Nat) (count : Nat) (s : State) : outKept (execClockMonWindow d count s) = kept s := by simp [execClockMonWindow]

@[simp] theorem execPllUnlock_kept (s : State) : outKept (execPllUnlock s) = kept s := by simp [execPllUnlock]

@[simp] theorem execVoltMon_kept (rail : Nat) (s : State) : outKept (execVoltMon rail s) = kept s := by simp [execVoltMon]

@[simp] theorem execLockstepMismatch_kept (s : State) : outKept (execLockstepMismatch s) = kept s := by simp [execLockstepMismatch]

@[simp] theorem execWardenWatchdogExpiry_kept (s : State) : outKept (execWardenWatchdogExpiry s) = kept s := by simp [execWardenWatchdogExpiry]

@[simp] theorem execAonXtalLoss_kept (s : State) : outKept (execAonXtalLoss s) = kept s := by simp [execAonXtalLoss]

@[simp] theorem execSafeCntClr_kept (who : Requester) (s : State) : outKept (execSafeCntClr who s) = kept s := by simp [execSafeCntClr, State.regCmd_kept, State.inStates_kept]

@[simp] theorem State.toInit_kept (s : State) : kept (State.toInit s) = kept s := by simp [State.toInit]

@[simp] theorem State.thermalEnds_kept (s : State) : kept (State.thermalEnds s) = kept s := by simp [State.thermalEnds]

@[simp] theorem execRailValidTimeout_kept (rail : Nat) (s : State) : outKept (execRailValidTimeout rail s) = kept s := by simp [execRailValidTimeout]

@[simp] theorem execRailRetry_kept (s : State) : outKept (execRailRetry s) = kept s := by simp [execRailRetry]

@[simp] theorem execVidStep_kept (up : Bool) (s : State) : outKept (execVidStep up s) = kept s := by simp [execVidStep]

@[simp] theorem execAonXtalSwitch_kept (s : State) : outKept (execAonXtalSwitch s) = kept s := by simp [execAonXtalSwitch]

@[simp] theorem execTempSample_kept (readings : List Int) (s : State) : outKept (execTempSample readings s) = kept s := by simp [execTempSample]

@[simp] theorem execPowerCapCheck_kept (watts : Nat) (s : State) : outKept (execPowerCapCheck watts s) = kept s := by simp [execPowerCapCheck]

@[simp] theorem State.imgError_kept (s : State) (f : ImgFail) (bs : List Byte) (bundle : Bool) : kept (State.imgError s f bs bundle) = kept s := by simp [State.imgError]

@[simp] theorem State.settleErr_kept (s : State) (f : ImgFail) : kept (State.settleErr s f) = kept s := by simp [State.settleErr]

@[simp] theorem State.imgDone_kept (s : State) (ok : Bool) (profile : Nat) : kept (State.imgDone s ok profile) = kept s := by simp [State.imgDone]

@[simp] theorem State.imgFails_kept (s : State) (f : ImgFail) (bs : List Byte) : kept (State.imgFails s f bs) = kept s := by simp [State.imgFails]

@[simp] theorem State.clearRegs_kept (s : State) (lo : Nat) (hi : Nat) : kept (State.clearRegs s lo hi) = kept s := by simp [State.clearRegs]

@[simp] theorem State.clearQueues_kept (s : State) : kept (State.clearQueues s) = kept s := by simp [State.clearQueues]

@[simp] theorem State.assignChannels_kept (s : State) : kept (State.assignChannels s) = kept s := by
  unfold State.assignChannels
  try dsimp only
  all_goals repeat' first
    | (with_reducible rfl)
    | (simp only [outKept_next, kept_mk, kept_fold, ite_snd, ite_fst, kept_ite, outKept_ite, ite_self, foldl_kept, foldl_kept2, foldl_kept22, foldl_kept222, implies_true, State.setMchan_kept, State.clearRegs_kept]; done)
    | split
    | (refine (foldl_kept _ _ _ ?_).trans ?_ <;> intros)
    | (refine (foldl_kept2 _ _ _ ?_).trans ?_ <;> intros)
    | (refine (foldl_kept22 _ _ _ ?_).trans ?_ <;> intros)
    | (refine (foldl_kept222 _ _ _ ?_).trans ?_ <;> intros)
    | (simp only [outKept_next, kept_mk, kept_fold, ite_snd, ite_fst, kept_ite, outKept_ite, ite_self, foldl_kept, foldl_kept2, foldl_kept22, foldl_kept222, implies_true, State.setMchan_kept, State.clearRegs_kept])
    | (refine of_pair (by assumption) ?_)
    | (refine of_trip (by assumption) ?_)

@[simp] theorem State.openUsed_kept (s : State) (keep : Nat → Bool) : kept (State.openUsed s keep) = kept s := by
  unfold State.openUsed
  try dsimp only
  all_goals repeat' first
    | (with_reducible rfl)
    | (simp only [outKept_next, kept_mk, kept_fold, ite_snd, ite_fst, kept_ite, outKept_ite, ite_self, foldl_kept, foldl_kept2, foldl_kept22, foldl_kept222, implies_true, State.gskOpen_kept, State.gskShut_kept]; done)
    | split
    | (refine (foldl_kept _ _ _ ?_).trans ?_ <;> intros)
    | (refine (foldl_kept2 _ _ _ ?_).trans ?_ <;> intros)
    | (refine (foldl_kept22 _ _ _ ?_).trans ?_ <;> intros)
    | (refine (foldl_kept222 _ _ _ ?_).trans ?_ <;> intros)
    | (simp only [outKept_next, kept_mk, kept_fold, ite_snd, ite_fst, kept_ite, outKept_ite, ite_self, foldl_kept, foldl_kept2, foldl_kept22, foldl_kept222, implies_true, State.gskOpen_kept, State.gskShut_kept])
    | (refine of_pair (by assumption) ?_)
    | (refine of_trip (by assumption) ?_)

@[simp] theorem State.powerTiles_kept (s : State) (quiet : Bool) : kept (State.powerTiles s quiet) = kept s := by
  unfold State.powerTiles
  try dsimp only
  all_goals repeat' first
    | (with_reducible rfl)
    | (simp only [outKept_next, kept_mk, kept_fold, ite_snd, ite_fst, kept_ite, outKept_ite, ite_self, foldl_kept, foldl_kept2, foldl_kept22, foldl_kept222, implies_true, State.powerDown_kept, State.powerUp_kept]; done)
    | split
    | (refine (foldl_kept _ _ _ ?_).trans ?_ <;> intros)
    | (refine (foldl_kept2 _ _ _ ?_).trans ?_ <;> intros)
    | (refine (foldl_kept22 _ _ _ ?_).trans ?_ <;> intros)
    | (refine (foldl_kept222 _ _ _ ?_).trans ?_ <;> intros)
    | (simp only [outKept_next, kept_mk, kept_fold, ite_snd, ite_fst, kept_ite, outKept_ite, ite_self, foldl_kept, foldl_kept2, foldl_kept22, foldl_kept222, implies_true, State.powerDown_kept, State.powerUp_kept])
    | (refine of_pair (by assumption) ?_)
    | (refine of_trip (by assumption) ?_)

@[simp] theorem State.showDrive_kept (s : State) (m : Image) : kept (State.showDrive s m) = kept s := by simp [State.showDrive]

@[simp] theorem State.rootOut_kept (s : State) : kept (State.rootOut s) = kept s := by
  unfold State.rootOut
  try dsimp only
  all_goals repeat' first
    | (with_reducible rfl)
    | (simp only [outKept_next, kept_mk, kept_fold, ite_snd, ite_fst, kept_ite, outKept_ite, ite_self, foldl_kept, foldl_kept2, foldl_kept22, foldl_kept222, implies_true, State.setReg_kept]; done)
    | split
    | (refine (foldl_kept _ _ _ ?_).trans ?_ <;> intros)
    | (refine (foldl_kept2 _ _ _ ?_).trans ?_ <;> intros)
    | (refine (foldl_kept22 _ _ _ ?_).trans ?_ <;> intros)
    | (refine (foldl_kept222 _ _ _ ?_).trans ?_ <;> intros)
    | (simp only [outKept_next, kept_mk, kept_fold, ite_snd, ite_fst, kept_ite, outKept_ite, ite_self, foldl_kept, foldl_kept2, foldl_kept22, foldl_kept222, implies_true, State.setReg_kept])
    | (refine of_pair (by assumption) ?_)
    | (refine of_trip (by assumption) ?_)

@[simp] theorem State.applyDrive_kept (s : State) (m : Image) (boot : Bool) : kept (State.applyDrive s m boot) = kept s := by simp [State.applyDrive]

@[simp] theorem State.emptyOwned_kept (s : State) (own : Nat → Bool) : kept (State.emptyOwned s own) = kept s := by
  unfold State.emptyOwned
  try dsimp only
  all_goals repeat' first
    | (with_reducible rfl)
    | (simp only [outKept_next, kept_mk, kept_fold, ite_snd, ite_fst, kept_ite, outKept_ite, ite_self, foldl_kept, foldl_kept2, foldl_kept22, foldl_kept222, implies_true, State.emptySlot_kept]; done)
    | split
    | (refine (foldl_kept _ _ _ ?_).trans ?_ <;> intros)
    | (refine (foldl_kept2 _ _ _ ?_).trans ?_ <;> intros)
    | (refine (foldl_kept22 _ _ _ ?_).trans ?_ <;> intros)
    | (refine (foldl_kept222 _ _ _ ?_).trans ?_ <;> intros)
    | (simp only [outKept_next, kept_mk, kept_fold, ite_snd, ite_fst, kept_ite, outKept_ite, ite_self, foldl_kept, foldl_kept2, foldl_kept22, foldl_kept222, implies_true, State.emptySlot_kept])
    | (refine of_pair (by assumption) ?_)
    | (refine of_trip (by assumption) ?_)

@[simp] theorem State.scrubTile_kept (s : State) (t : Nat) : kept (State.scrubTile s t) = kept s := by simp [State.scrubTile]

@[simp] theorem State.zeroRanges_kept (s : State) (l : List (Nat × Nat)) : kept (State.zeroRanges s l) = kept s := by
  unfold State.zeroRanges
  try dsimp only
  all_goals repeat' first
    | (with_reducible rfl)
    | (simp only [outKept_next, kept_mk, kept_fold, ite_snd, ite_fst, kept_ite, outKept_ite, ite_self, foldl_kept, foldl_kept2, foldl_kept22, foldl_kept222, implies_true, State.zeroRange_kept]; done)
    | split
    | (refine (foldl_kept _ _ _ ?_).trans ?_ <;> intros)
    | (refine (foldl_kept2 _ _ _ ?_).trans ?_ <;> intros)
    | (refine (foldl_kept22 _ _ _ ?_).trans ?_ <;> intros)
    | (refine (foldl_kept222 _ _ _ ?_).trans ?_ <;> intros)
    | (simp only [outKept_next, kept_mk, kept_fold, ite_snd, ite_fst, kept_ite, outKept_ite, ite_self, foldl_kept, foldl_kept2, foldl_kept22, foldl_kept222, implies_true, State.zeroRange_kept])
    | (refine of_pair (by assumption) ?_)
    | (refine of_trip (by assumption) ?_)

@[simp] theorem State.loadKey_kept (s : State) (k : Nat) : kept (State.loadKey s k) = kept s := by simp [State.loadKey]

@[simp] theorem State.loadKeys_kept (s : State) (ks : List Nat) : kept (State.loadKeys s ks) = kept s := by
  unfold State.loadKeys
  try dsimp only
  all_goals repeat' first
    | (with_reducible rfl)
    | (simp only [outKept_next, kept_mk, kept_fold, ite_snd, ite_fst, kept_ite, outKept_ite, ite_self, foldl_kept, foldl_kept2, foldl_kept22, foldl_kept222, implies_true, State.loadKey_kept]; done)
    | split
    | (refine (foldl_kept _ _ _ ?_).trans ?_ <;> intros)
    | (refine (foldl_kept2 _ _ _ ?_).trans ?_ <;> intros)
    | (refine (foldl_kept22 _ _ _ ?_).trans ?_ <;> intros)
    | (refine (foldl_kept222 _ _ _ ?_).trans ?_ <;> intros)
    | (simp only [outKept_next, kept_mk, kept_fold, ite_snd, ite_fst, kept_ite, outKept_ite, ite_self, foldl_kept, foldl_kept2, foldl_kept22, foldl_kept222, implies_true, State.loadKey_kept])
    | (refine of_pair (by assumption) ?_)
    | (refine of_trip (by assumption) ?_)

@[simp] theorem State.bootKeys_kept (s : State) : kept (State.bootKeys s) = kept s := by simp [State.bootKeys]

@[simp] theorem State.steepKeys_kept (s : State) : kept (State.steepKeys s) = kept s := by simp [State.steepKeys]

@[simp] theorem State.driveKeys_kept (s : State) : kept (State.driveKeys s) = kept s := by
  unfold State.driveKeys
  try dsimp only
  all_goals repeat' first
    | (with_reducible rfl)
    | (simp only [outKept_next, kept_mk, kept_fold, ite_snd, ite_fst, kept_ite, outKept_ite, ite_self, foldl_kept, foldl_kept2, foldl_kept22, foldl_kept222, implies_true]; done)
    | split
    | (refine (foldl_kept _ _ _ ?_).trans ?_ <;> intros)
    | (refine (foldl_kept2 _ _ _ ?_).trans ?_ <;> intros)
    | (refine (foldl_kept22 _ _ _ ?_).trans ?_ <;> intros)
    | (refine (foldl_kept222 _ _ _ ?_).trans ?_ <;> intros)
    | (simp only [outKept_next, kept_mk, kept_fold, ite_snd, ite_fst, kept_ite, outKept_ite, ite_self, foldl_kept, foldl_kept2, foldl_kept22, foldl_kept222, implies_true])
    | (refine of_pair (by assumption) ?_)
    | (refine of_trip (by assumption) ?_)

@[simp] theorem State.freshKey_kept (s : State) (e : Nat) : kept (State.freshKey s e) = kept s := by simp [State.freshKey]

@[simp] theorem State.declarePools_kept (s : State) (m : Image) (named : Nat → Bool) : kept (State.declarePools s m named) = kept s := by
  unfold State.declarePools
  try dsimp only
  all_goals repeat' first
    | (with_reducible rfl)
    | (simp only [outKept_next, kept_mk, kept_fold, ite_snd, ite_fst, kept_ite, outKept_ite, ite_self, foldl_kept, foldl_kept2, foldl_kept22, foldl_kept222, implies_true, State.setKvPool_kept]; done)
    | split
    | (refine (foldl_kept _ _ _ ?_).trans ?_ <;> intros)
    | (refine (foldl_kept2 _ _ _ ?_).trans ?_ <;> intros)
    | (refine (foldl_kept22 _ _ _ ?_).trans ?_ <;> intros)
    | (refine (foldl_kept222 _ _ _ ?_).trans ?_ <;> intros)
    | (simp only [outKept_next, kept_mk, kept_fold, ite_snd, ite_fst, kept_ite, outKept_ite, ite_self, foldl_kept, foldl_kept2, foldl_kept22, foldl_kept222, implies_true, State.setKvPool_kept])
    | (refine of_pair (by assumption) ?_)
    | (refine of_trip (by assumption) ?_)

@[simp] theorem State.freezeDrive_kept (s : State) : kept (State.freezeDrive s) = kept s := by
  unfold State.freezeDrive
  try dsimp only
  all_goals repeat' first
    | (with_reducible rfl)
    | (simp only [outKept_next, kept_mk, kept_fold, ite_snd, ite_fst, kept_ite, outKept_ite, ite_self, foldl_kept, foldl_kept2, foldl_kept22, foldl_kept222, implies_true, State.seizeNow_kept, State.gskShut_kept, State.scrubTile_kept]; done)
    | split
    | (refine (foldl_kept _ _ _ ?_).trans ?_ <;> intros)
    | (refine (foldl_kept2 _ _ _ ?_).trans ?_ <;> intros)
    | (refine (foldl_kept22 _ _ _ ?_).trans ?_ <;> intros)
    | (refine (foldl_kept222 _ _ _ ?_).trans ?_ <;> intros)
    | (simp only [outKept_next, kept_mk, kept_fold, ite_snd, ite_fst, kept_ite, outKept_ite, ite_self, foldl_kept, foldl_kept2, foldl_kept22, foldl_kept222, implies_true, State.seizeNow_kept, State.gskShut_kept, State.scrubTile_kept])
    | (refine of_pair (by assumption) ?_)
    | (refine of_trip (by assumption) ?_)

@[simp] theorem State.applySteep_kept (s3 : State) (m : Image) : kept (State.applySteep s3 m) = kept s3 := by
  unfold State.applySteep
  try dsimp only
  all_goals repeat' first
    | (with_reducible rfl)
    | (simp only [outKept_next, kept_mk, kept_fold, ite_snd, ite_fst, kept_ite, outKept_ite, ite_self, foldl_kept, foldl_kept2, foldl_kept22, foldl_kept222, implies_true, State.powerTiles_kept, State.setFld_kept, State.assignChannels_kept, State.clearQueues_kept, State.portUp_kept, State.declarePools_kept, State.steepKeys_kept, State.zeroRanges_kept, State.openUsed_kept, State.powerBlocks_kept]; done)
    | split
    | (refine (foldl_kept _ _ _ ?_).trans ?_ <;> intros)
    | (refine (foldl_kept2 _ _ _ ?_).trans ?_ <;> intros)
    | (refine (foldl_kept22 _ _ _ ?_).trans ?_ <;> intros)
    | (refine (foldl_kept222 _ _ _ ?_).trans ?_ <;> intros)
    | (simp only [outKept_next, kept_mk, kept_fold, ite_snd, ite_fst, kept_ite, outKept_ite, ite_self, foldl_kept, foldl_kept2, foldl_kept22, foldl_kept222, implies_true, State.powerTiles_kept, State.setFld_kept, State.assignChannels_kept, State.clearQueues_kept, State.portUp_kept, State.declarePools_kept, State.steepKeys_kept, State.zeroRanges_kept, State.openUsed_kept, State.powerBlocks_kept])
    | (refine of_pair (by assumption) ?_)
    | (refine of_trip (by assumption) ?_)

@[simp] theorem State.modQueue_kept (s : State) (e : Nat) (q : Nat) (f : Queue → Queue) : kept (State.modQueue s e q f) = kept s := by simp [State.modQueue]

@[simp] theorem State.qStop_kept (s : State) (e : Nat) (q : Nat) (st : Status) : kept (State.qStop s e q st) = kept s := by simp [State.qStop]

@[simp] theorem State.readEntry_kept (s : State) (e : Nat) (q : Nat) (ext : List ExtData) (ups : List Upset) : kept (State.readEntry s e q ext ups).2.2 = kept s := by simp [State.readEntry]

@[simp] theorem State.takeEntry_kept (s : State) (e : Nat) (q : Nat) (bytes : List Byte) : kept (State.takeEntry s e q bytes) = kept s := by simp [State.takeEntry]

@[simp] theorem State.tellWaits_kept (s : State) (r : EntryRef) (p : Past) : kept (State.tellWaits s r p) = kept s := by
  unfold State.tellWaits
  try dsimp only
  all_goals repeat' first
    | (with_reducible rfl)
    | (simp only [outKept_next, kept_mk, kept_fold, ite_snd, ite_fst, kept_ite, outKept_ite, ite_self, foldl_kept, foldl_kept2, foldl_kept22, foldl_kept222, implies_true, State.setQueue_kept]; done)
    | split
    | (refine (foldl_kept _ _ _ ?_).trans ?_ <;> intros)
    | (refine (foldl_kept2 _ _ _ ?_).trans ?_ <;> intros)
    | (refine (foldl_kept22 _ _ _ ?_).trans ?_ <;> intros)
    | (refine (foldl_kept222 _ _ _ ?_).trans ?_ <;> intros)
    | (simp only [outKept_next, kept_mk, kept_fold, ite_snd, ite_fst, kept_ite, outKept_ite, ite_self, foldl_kept, foldl_kept2, foldl_kept22, foldl_kept222, implies_true, State.setQueue_kept])
    | (refine of_pair (by assumption) ?_)
    | (refine of_trip (by assumption) ?_)

@[simp] theorem State.qRaise_kept (s : State) (e : Nat) (q : Nat) : kept (State.qRaise s e q) = kept s := by simp [State.qRaise]

@[simp] theorem State.qJudge_kept (s : State) (e : Nat) (q : Nat) : kept (State.qJudge s e q) = kept s := by simp [State.qJudge]

@[simp] theorem State.stopTiles_kept (s : State) (r : EntryRef) (st : Status) : kept (State.stopTiles s r st) = kept s := by
  unfold State.stopTiles
  try dsimp only
  all_goals repeat' first
    | (with_reducible rfl)
    | (simp only [outKept_next, kept_mk, kept_fold, ite_snd, ite_fst, kept_ite, outKept_ite, ite_self, foldl_kept, foldl_kept2, foldl_kept22, foldl_kept222, implies_true, State.tileStop_kept]; done)
    | split
    | (refine (foldl_kept _ _ _ ?_).trans ?_ <;> intros)
    | (refine (foldl_kept2 _ _ _ ?_).trans ?_ <;> intros)
    | (refine (foldl_kept22 _ _ _ ?_).trans ?_ <;> intros)
    | (refine (foldl_kept222 _ _ _ ?_).trans ?_ <;> intros)
    | (simp only [outKept_next, kept_mk, kept_fold, ite_snd, ite_fst, kept_ite, outKept_ite, ite_self, foldl_kept, foldl_kept2, foldl_kept22, foldl_kept222, implies_true, State.tileStop_kept])
    | (refine of_pair (by assumption) ?_)
    | (refine of_trip (by assumption) ?_)

@[simp] theorem State.dropWaits_kept (s : State) (r : EntryRef) : kept (State.dropWaits s r) = kept s := by
  unfold State.dropWaits
  try dsimp only
  all_goals repeat' first
    | (with_reducible rfl)
    | (simp only [outKept_next, kept_mk, kept_fold, ite_snd, ite_fst, kept_ite, outKept_ite, ite_self, foldl_kept, foldl_kept2, foldl_kept22, foldl_kept222, implies_true, State.dropWaiter_kept, State.setKvPool_kept]; done)
    | split
    | (refine (foldl_kept _ _ _ ?_).trans ?_ <;> intros)
    | (refine (foldl_kept2 _ _ _ ?_).trans ?_ <;> intros)
    | (refine (foldl_kept22 _ _ _ ?_).trans ?_ <;> intros)
    | (refine (foldl_kept222 _ _ _ ?_).trans ?_ <;> intros)
    | (simp only [outKept_next, kept_mk, kept_fold, ite_snd, ite_fst, kept_ite, outKept_ite, ite_self, foldl_kept, foldl_kept2, foldl_kept22, foldl_kept222, implies_true, State.dropWaiter_kept, State.setKvPool_kept])
    | (refine of_pair (by assumption) ?_)
    | (refine of_trip (by assumption) ?_)

@[simp] theorem State.dropInputs_kept (s : State) (r : EntryRef) : kept (State.dropInputs s r) = kept s := by simp [State.dropInputs]

@[simp] theorem State.dropDescs_kept (s : State) (r : EntryRef) (st : Status) : kept (State.dropDescs s r st) = kept s := by
  unfold State.dropDescs
  try dsimp only
  all_goals repeat' first
    | (with_reducible rfl)
    | (simp only [outKept_next, kept_mk, kept_fold, ite_snd, ite_fst, kept_ite, outKept_ite, ite_self, foldl_kept, foldl_kept2, foldl_kept22, foldl_kept222, implies_true, State.chAbort_kept]; done)
    | split
    | (refine (foldl_kept _ _ _ ?_).trans ?_ <;> intros)
    | (refine (foldl_kept2 _ _ _ ?_).trans ?_ <;> intros)
    | (refine (foldl_kept22 _ _ _ ?_).trans ?_ <;> intros)
    | (refine (foldl_kept222 _ _ _ ?_).trans ?_ <;> intros)
    | (simp only [outKept_next, kept_mk, kept_fold, ite_snd, ite_fst, kept_ite, outKept_ite, ite_self, foldl_kept, foldl_kept2, foldl_kept22, foldl_kept222, implies_true, State.chAbort_kept])
    | (refine of_pair (by assumption) ?_)
    | (refine of_trip (by assumption) ?_)

@[simp] theorem State.release_kept (s : State) (r : EntryRef) (y : Entry) (st : Status) : kept (State.release s r y st) = kept s := by simp [State.release]

@[simp] theorem State.writeRecord_kept (s : State) (r : EntryRef) (y : Entry) (d : Ending) (ext : List ExtData) (ups : List Upset) : kept (State.writeRecord s r y d ext ups).2 = kept s := by simp [State.writeRecord]

@[simp] theorem State.recorded_kept (r : EntryRef) (y : Entry) (d : Ending) (idx : Nat) (x : Status × State) : kept (State.recorded r y d idx x) = kept x.2 := by simp [State.recorded]

@[simp] theorem State.complete_kept (s : State) (r : EntryRef) (ext : List ExtData) (ups : List Upset) : kept (State.complete s r ext ups) = kept s := by
  unfold State.complete
  (repeat' split) <;> simp

@[simp] theorem State.abortRead_kept (s : State) (e q : Nat) : kept (State.abortRead s e q).2.2 = kept s := by
  have h := readEntry_kept s e q [] []
  rw [abortRead.eq_1]
  revert h
  generalize s.readEntry e q [] [] = x
  intro h
  rw [← h, apply_ite Prod.snd, apply_ite Prod.snd, kept_ite]
  have hd := drawBytes_kept x.2.2 64
  revert hd
  generalize x.2.2.drawBytes 64 = y
  intro hd
  split
  · exact hd
  · rfl

@[simp] theorem State.abortQueue_kept (s : State) (e : Nat) (q : Nat) : kept (State.abortQueue s e q) = kept s := by
  unfold abortQueue
  split
  · rfl
  · extract_lets s1 s2
    have h1 : kept s1 = kept s := by
      refine foldl_kept2 _ _ (true, s) fun t i => ?_
      split
      · rfl
      · have h := abortRead_kept t.2 e q
        revert h
        generalize t.2.abortRead e q = p
        obtain ⟨st, d, u⟩ := p
        intro h
        dsimp only
        split
        · exact (qStop_kept ..).trans h
        · exact (takeEntry_kept ..).trans h
    have h2 : kept s2 = kept s := (foldl_kept _ _ _ fun t y => finish_kept ..).trans h1
    refine (foldl_kept _ _ _ fun t y => ?_).trans h2
    split
    · exact complete_kept ..
    · rfl

@[simp] theorem execIrqTimeExpiry_kept (e : Nat) (q : Nat) (s : State) : outKept (execIrqTimeExpiry e q s) = kept s := by
  unfold execIrqTimeExpiry
  (repeat' split) <;> simp

@[simp] theorem State.wakePeers_kept (s : State) : kept (State.wakePeers s) = kept s := by
  unfold State.wakePeers
  try dsimp only
  all_goals repeat' first
    | (with_reducible rfl)
    | (simp only [outKept_next, kept_mk, kept_fold, ite_snd, ite_fst, kept_ite, outKept_ite, ite_self, foldl_kept, foldl_kept2, foldl_kept22, foldl_kept222, implies_true, State.bump_kept]; done)
    | split
    | (refine (foldl_kept _ _ _ ?_).trans ?_ <;> intros)
    | (refine (foldl_kept2 _ _ _ ?_).trans ?_ <;> intros)
    | (refine (foldl_kept22 _ _ _ ?_).trans ?_ <;> intros)
    | (refine (foldl_kept222 _ _ _ ?_).trans ?_ <;> intros)
    | (simp only [outKept_next, kept_mk, kept_fold, ite_snd, ite_fst, kept_ite, outKept_ite, ite_self, foldl_kept, foldl_kept2, foldl_kept22, foldl_kept222, implies_true, State.bump_kept])
    | (refine of_pair (by assumption) ?_)
    | (refine of_trip (by assumption) ?_)

@[simp] theorem State.lateAbort_kept (s : State) : kept (State.lateAbort s) = kept s := by simp [State.lateAbort]

@[simp] theorem State.voteLeaves_kept (s : State) : kept (State.voteLeaves s) = kept s := by simp [State.voteLeaves]

@[simp] theorem State.wakeRequest_kept (s : State) : kept (State.wakeRequest s) = kept s := by simp [State.wakeRequest]

@[simp] theorem State.leaveLoom_kept (s : State) (st : Status) : kept (State.leaveLoom s st) = kept s := by
  unfold State.leaveLoom
  try dsimp only
  all_goals repeat' first
    | (with_reducible rfl)
    | (simp only [outKept_next, kept_mk, kept_fold, ite_snd, ite_fst, kept_ite, outKept_ite, ite_self, foldl_kept, foldl_kept2, foldl_kept22, foldl_kept222, implies_true, State.voteLeaves_kept, State.sayAll_kept, State.say_kept, State.loomDone_kept]; done)
    | split
    | (refine (foldl_kept _ _ _ ?_).trans ?_ <;> intros)
    | (refine (foldl_kept2 _ _ _ ?_).trans ?_ <;> intros)
    | (refine (foldl_kept22 _ _ _ ?_).trans ?_ <;> intros)
    | (refine (foldl_kept222 _ _ _ ?_).trans ?_ <;> intros)
    | (simp only [outKept_next, kept_mk, kept_fold, ite_snd, ite_fst, kept_ite, outKept_ite, ite_self, foldl_kept, foldl_kept2, foldl_kept22, foldl_kept222, implies_true, State.voteLeaves_kept, State.sayAll_kept, State.say_kept, State.loomDone_kept])
    | (refine of_pair (by assumption) ?_)
    | (refine of_trip (by assumption) ?_)

@[simp] theorem State.abortTenants_kept (s : State) : kept (State.abortTenants s) = kept s := by
  unfold State.abortTenants
  try dsimp only
  all_goals repeat' first
    | (with_reducible rfl)
    | (simp only [outKept_next, kept_mk, kept_fold, ite_snd, ite_fst, kept_ite, outKept_ite, ite_self, foldl_kept, foldl_kept2, foldl_kept22, foldl_kept222, implies_true, State.endAll_kept, State.stopJobs_kept, State.proofStopped_kept, State.stopEncl_kept, State.abortQueue_kept]; done)
    | split
    | (refine (foldl_kept _ _ _ ?_).trans ?_ <;> intros)
    | (refine (foldl_kept2 _ _ _ ?_).trans ?_ <;> intros)
    | (refine (foldl_kept22 _ _ _ ?_).trans ?_ <;> intros)
    | (refine (foldl_kept222 _ _ _ ?_).trans ?_ <;> intros)
    | (simp only [outKept_next, kept_mk, kept_fold, ite_snd, ite_fst, kept_ite, outKept_ite, ite_self, foldl_kept, foldl_kept2, foldl_kept22, foldl_kept222, implies_true, State.endAll_kept, State.stopJobs_kept, State.proofStopped_kept, State.stopEncl_kept, State.abortQueue_kept])
    | (refine of_pair (by assumption) ?_)
    | (refine of_trip (by assumption) ?_)

@[simp] theorem State.shutSteep_kept (s : State) : kept (State.shutSteep s) = kept s := by
  unfold State.shutSteep
  try dsimp only
  all_goals repeat' first
    | (with_reducible rfl)
    | (simp only [outKept_next, kept_mk, kept_fold, ite_snd, ite_fst, kept_ite, outKept_ite, ite_self, foldl_kept, foldl_kept2, foldl_kept22, foldl_kept222, implies_true, State.gskShut_kept, State.seizeNow_kept]; done)
    | split
    | (refine (foldl_kept _ _ _ ?_).trans ?_ <;> intros)
    | (refine (foldl_kept2 _ _ _ ?_).trans ?_ <;> intros)
    | (refine (foldl_kept22 _ _ _ ?_).trans ?_ <;> intros)
    | (refine (foldl_kept222 _ _ _ ?_).trans ?_ <;> intros)
    | (simp only [outKept_next, kept_mk, kept_fold, ite_snd, ite_fst, kept_ite, outKept_ite, ite_self, foldl_kept, foldl_kept2, foldl_kept22, foldl_kept222, implies_true, State.gskShut_kept, State.seizeNow_kept])
    | (refine of_pair (by assumption) ?_)
    | (refine of_trip (by assumption) ?_)

@[simp] theorem State.scrubLent_kept (s : State) : kept (State.scrubLent s) = kept s := by
  unfold State.scrubLent
  try dsimp only
  all_goals repeat' first
    | (with_reducible rfl)
    | (simp only [outKept_next, kept_mk, kept_fold, ite_snd, ite_fst, kept_ite, outKept_ite, ite_self, foldl_kept, foldl_kept2, foldl_kept22, foldl_kept222, implies_true, State.scrubTile_kept]; done)
    | split
    | (refine (foldl_kept _ _ _ ?_).trans ?_ <;> intros)
    | (refine (foldl_kept2 _ _ _ ?_).trans ?_ <;> intros)
    | (refine (foldl_kept22 _ _ _ ?_).trans ?_ <;> intros)
    | (refine (foldl_kept222 _ _ _ ?_).trans ?_ <;> intros)
    | (simp only [outKept_next, kept_mk, kept_fold, ite_snd, ite_fst, kept_ite, outKept_ite, ite_self, foldl_kept, foldl_kept2, foldl_kept22, foldl_kept222, implies_true, State.scrubTile_kept])
    | (refine of_pair (by assumption) ?_)
    | (refine of_trip (by assumption) ?_)

@[simp] theorem State.restoreDrive_kept (s : State) : kept (State.restoreDrive s) = kept s := by
  unfold State.restoreDrive
  try dsimp only
  all_goals repeat' first
    | (with_reducible rfl)
    | (simp only [outKept_next, kept_mk, kept_fold, ite_snd, ite_fst, kept_ite, outKept_ite, ite_self, foldl_kept, foldl_kept2, foldl_kept22, foldl_kept222, implies_true, State.driveKeys_kept, State.emptyOwned_kept, State.assignChannels_kept, State.clearQueues_kept, State.setReg_kept, State.portOff_kept, State.setFld_kept, State.powerDown_kept, State.powerUp_kept]; done)
    | split
    | (refine (foldl_kept _ _ _ ?_).trans ?_ <;> intros)
    | (refine (foldl_kept2 _ _ _ ?_).trans ?_ <;> intros)
    | (refine (foldl_kept22 _ _ _ ?_).trans ?_ <;> intros)
    | (refine (foldl_kept222 _ _ _ ?_).trans ?_ <;> intros)
    | (simp only [outKept_next, kept_mk, kept_fold, ite_snd, ite_fst, kept_ite, outKept_ite, ite_self, foldl_kept, foldl_kept2, foldl_kept22, foldl_kept222, implies_true, State.driveKeys_kept, State.emptyOwned_kept, State.assignChannels_kept, State.clearQueues_kept, State.setReg_kept, State.portOff_kept, State.setFld_kept, State.powerDown_kept, State.powerUp_kept])
    | (refine of_pair (by assumption) ?_)
    | (refine of_trip (by assumption) ?_)

@[simp] theorem State.rouseProof_kept (s : State) : kept (State.rouseProof s) = kept s := by
  unfold State.rouseProof
  (repeat' split) <;> simp

@[simp] theorem State.rouseEnter_kept (s : State) (causes : Nat) (since : Nat) : kept (State.rouseEnter s causes since) = kept s := by simp [State.rouseEnter]

@[simp] theorem State.rouseTrigger_kept (s : State) (causes : Nat) : kept (State.rouseTrigger s causes) = kept s := by simp [State.rouseTrigger]

@[simp] theorem State.rouseExpire_kept (s : State) : kept (State.rouseExpire s) = kept s := by simp [State.rouseExpire]

@[simp] theorem State.parkOff_kept (s : State) : kept (State.parkOff s) = kept s := by
  unfold State.parkOff
  (repeat' split) <;> simp

@[simp] theorem State.discFault_kept (s : State) : kept (State.discFault s) = kept s := by
  simp only [State.discFault]
  (repeat' split) <;> simp

@[simp] theorem State.parkJudge_kept (s : State) (a : Bool) (b : Bool) : kept (State.parkJudge s a b) = kept s := by simp [State.parkJudge]

@[simp] theorem State.parkSample_kept (s : State) (a : Bool) (b : Bool) : kept (State.parkSample s a b) = kept s := by simp [State.parkSample]

@[simp] theorem State.clearDisc_kept (s : State) : kept (State.clearDisc s) = kept s := by simp [State.clearDisc]

@[simp] theorem State.wakeJudge_kept (s : State) (high : Bool) : kept (State.wakeJudge s high) = kept s := by simp [State.wakeJudge]

@[simp] theorem State.wakeSample_kept (s : State) (high : Bool) : kept (State.wakeSample s high) = kept s := by simp [State.wakeSample]

@[simp] theorem State.parkSamples_kept (s : State) (a : Bool) (b : Bool) (a3 : Nat) : kept (State.parkSamples s a b a3) = kept s := by
  induction a3 generalizing s with
  | zero => rfl
  | succ k ih => exact (ih _).trans (parkSample_kept ..)

@[simp] theorem State.wakeSamples_kept (s : State) (a1 : Nat) : kept (State.wakeSamples s a1) = kept s := by
  induction a1 generalizing s with
  | zero => rfl
  | succ k ih => exact (ih _).trans (wakeSample_kept ..)

@[simp] theorem execParkSample_kept (a : Bool) (b : Bool) (s : State) : outKept (execParkSample a b s) = kept s := by simp [execParkSample]

@[simp] theorem execParkDiscFault_kept (level : Bool) (s : State) : outKept (execParkDiscFault level s) = kept s := by simp [execParkDiscFault]

@[simp] theorem execParkClearReady_kept (parked : Bool) (s : State) : outKept (execParkClearReady parked s) = kept s := by simp [execParkClearReady]

@[simp] theorem execWakeInSample_kept (high : Bool) (s : State) : outKept (execWakeInSample high s) = kept s := by simp [execWakeInSample]

@[simp] theorem execWakeDriveIntent_kept (s : State) : outKept (execWakeDriveIntent s) = kept s := by simp [execWakeDriveIntent]

@[simp] theorem execRouseTimeout_kept (s : State) : outKept (execRouseTimeout s) = kept s := by simp [execRouseTimeout]

@[simp] theorem execBlockResetRelease_kept (g : Nat) (s : State) : outKept (execBlockResetRelease g s) = kept s := by simp [execBlockResetRelease]

@[simp] theorem execBlockResetNotReleased_kept (g : Nat) (s : State) : outKept (execBlockResetNotReleased g s) = kept s := by simp [execBlockResetNotReleased]

@[simp] theorem State.sbDone_kept (s : State) (st : Status) (guard : Nat) : kept (State.sbDone s st guard) = kept s := by
  unfold State.sbDone
  (repeat' split) <;> simp

@[simp] theorem State.modeOk_kept (s : State) (a1 : ModeSource) : kept (State.modeOk s a1) = kept s := by
  unfold State.modeOk
  (repeat' split) <;> simp

@[simp] theorem State.modeRefuse_kept (s : State) (g : Guard) (a2 : ModeSource) : kept (State.modeRefuse s g a2) = kept s := by
  unfold State.modeRefuse
  (repeat' split) <;> simp

@[simp] theorem State.modePreempted_kept (s : State) (cause : Nat) (src : ModeSource) : kept (State.modePreempted s cause src) = kept s := by simp [State.modePreempted]

@[simp] theorem State.endBusy_kept (s : State) (e : Nat) : kept (State.endBusy s e) = kept s := by
  unfold State.endBusy
  try dsimp only
  all_goals repeat' first
    | (with_reducible rfl)
    | (simp only [outKept_next, kept_mk, kept_fold, ite_snd, ite_fst, kept_ite, outKept_ite, ite_self, foldl_kept, foldl_kept2, foldl_kept22, foldl_kept222, implies_true, State.finish_kept, State.stopEncl_kept]; done)
    | split
    | (refine (foldl_kept _ _ _ ?_).trans ?_ <;> intros)
    | (refine (foldl_kept2 _ _ _ ?_).trans ?_ <;> intros)
    | (refine (foldl_kept22 _ _ _ ?_).trans ?_ <;> intros)
    | (refine (foldl_kept222 _ _ _ ?_).trans ?_ <;> intros)
    | (simp only [outKept_next, kept_mk, kept_fold, ite_snd, ite_fst, kept_ite, outKept_ite, ite_self, foldl_kept, foldl_kept2, foldl_kept22, foldl_kept222, implies_true, State.finish_kept, State.stopEncl_kept])
    | (refine of_pair (by assumption) ?_)
    | (refine of_trip (by assumption) ?_)

@[simp] theorem State.dropBinds_kept (s : State) : kept (State.dropBinds s) = kept s := by simp [State.dropBinds]

@[simp] theorem State.declareDrive_kept (s : State) : kept (State.declareDrive s) = kept s := by
  unfold State.declareDrive
  (repeat' split) <;> simp

@[simp] theorem State.boundaryPhase_kept (s : State) : kept (State.boundaryPhase s) = kept s := by
  unfold State.boundaryPhase
  (repeat' split) <;> simp

@[simp] theorem State.rebindGraphs_kept (s : State) : kept (State.rebindGraphs s) = kept s := by
  unfold State.rebindGraphs
  try dsimp only
  all_goals repeat' first
    | (with_reducible rfl)
    | (simp only [outKept_next, kept_mk, kept_fold, ite_snd, ite_fst, kept_ite, outKept_ite, ite_self, foldl_kept, foldl_kept2, foldl_kept22, foldl_kept222, implies_true, State.modEntry_kept, State.unbind_kept, State.bindModels_kept, State.finish_kept]; done)
    | split
    | (refine (foldl_kept _ _ _ ?_).trans ?_ <;> intros)
    | (refine (foldl_kept2 _ _ _ ?_).trans ?_ <;> intros)
    | (refine (foldl_kept22 _ _ _ ?_).trans ?_ <;> intros)
    | (refine (foldl_kept222 _ _ _ ?_).trans ?_ <;> intros)
    | (simp only [outKept_next, kept_mk, kept_fold, ite_snd, ite_fst, kept_ite, outKept_ite, ite_self, foldl_kept, foldl_kept2, foldl_kept22, foldl_kept222, implies_true, State.modEntry_kept, State.unbind_kept, State.bindModels_kept, State.finish_kept])
    | (refine of_pair (by assumption) ?_)
    | (refine of_trip (by assumption) ?_)

@[simp] theorem State.boundaryWork_kept (s : State) (n : Nat) (ext : List ExtData) (ups : List Upset) : kept (State.boundaryWork s n ext ups) = kept s := by simp [State.boundaryWork]

@[simp] theorem State.boundary_kept (s : State) (ext : List ExtData) (ups : List Upset) : kept (State.boundary s ext ups) = kept s := by simp [State.boundary]

@[simp] theorem State.finishEpoch_kept (s : State) (ext : List ExtData) (ups : List Upset) : kept (State.finishEpoch s ext ups) = kept s := by
  simp only [State.finishEpoch]
  (repeat' split) <;> simp

@[simp] theorem State.caddyFinds_kept (s : State) (present : Bool) (nvme : Bool) (speed : Nat) (width : Nat) : kept (State.caddyFinds s present nvme speed width) = kept s := by simp [State.caddyFinds]

@[simp] theorem State.settleSteps_kept (s : State) (present : Bool) (nvme : Bool) (speed : Nat) (width : Nat) : kept (State.settleSteps s present nvme speed width) = kept s := by
  rw [settleSteps.eq_1]
  have h1 : kept ((s.endBusy 1).dropBinds.freezeDrive) = kept s := (freezeDrive_kept ..).trans ((dropBinds_kept ..).trans (endBusy_kept ..))
  revert h1
  generalize (s.endBusy 1).dropBinds.freezeDrive = s1
  intro h1
  split
  · exact (rouseEnter_kept ..).trans h1
  · split
    · exact (rouseEnter_kept ..).trans ((settleErr_kept ..).trans h1)
    · split
      · exact (rouseEnter_kept ..).trans h1
      · exact (transit_kept ..).trans ((setFld_kept ..).trans ((caddyFinds_kept ..).trans ((applySteep_kept ..).trans h1)))

@[simp] theorem State.enterService_kept (s : State) (src : ModeSource) (perms : Nat) : kept (State.enterService s src perms) = kept s := by
  unfold State.enterService
  try dsimp only
  all_goals repeat' first
    | (with_reducible rfl)
    | (simp only [outKept_next, kept_mk, kept_fold, ite_snd, ite_fst, kept_ite, outKept_ite, ite_self, foldl_kept, foldl_kept2, foldl_kept22, foldl_kept222, implies_true, State.endBusy_kept, State.modeOk_kept, State.gskShut_kept, State.dropBinds_kept, State.transit_kept]; done)
    | split
    | (refine (foldl_kept _ _ _ ?_).trans ?_ <;> intros)
    | (refine (foldl_kept2 _ _ _ ?_).trans ?_ <;> intros)
    | (refine (foldl_kept22 _ _ _ ?_).trans ?_ <;> intros)
    | (refine (foldl_kept222 _ _ _ ?_).trans ?_ <;> intros)
    | (simp only [outKept_next, kept_mk, kept_fold, ite_snd, ite_fst, kept_ite, outKept_ite, ite_self, foldl_kept, foldl_kept2, foldl_kept22, foldl_kept222, implies_true, State.endBusy_kept, State.modeOk_kept, State.gskShut_kept, State.dropBinds_kept, State.transit_kept])
    | (refine of_pair (by assumption) ?_)
    | (refine of_trip (by assumption) ?_)

@[simp] theorem State.authorise_kept (s : State) (src : ModeSource) (b : List Byte) (len : Nat) : kept (State.authorise s src b len) = kept s := by simp [State.authorise]

@[simp] theorem State.enterStandby_kept (s : State) (src : ModeSource) (ext : List ExtData) (ups : List Upset) : kept (State.enterStandby s src ext ups) = kept s := by
  unfold State.enterStandby
  try dsimp only
  all_goals repeat' first
    | (with_reducible rfl)
    | (simp only [outKept_next, kept_mk, kept_fold, ite_snd, ite_fst, kept_ite, outKept_ite, ite_self, foldl_kept, foldl_kept2, foldl_kept22, foldl_kept222, implies_true, State.frameDue_kept, State.complete_kept, State.modeOk_kept, State.setReg_kept, State.setFld_kept, State.cleared_kept]; done)
    | split
    | (refine (foldl_kept _ _ _ ?_).trans ?_ <;> intros)
    | (refine (foldl_kept2 _ _ _ ?_).trans ?_ <;> intros)
    | (refine (foldl_kept22 _ _ _ ?_).trans ?_ <;> intros)
    | (refine (foldl_kept222 _ _ _ ?_).trans ?_ <;> intros)
    | (simp only [outKept_next, kept_mk, kept_fold, ite_snd, ite_fst, kept_ite, outKept_ite, ite_self, foldl_kept, foldl_kept2, foldl_kept22, foldl_kept222, implies_true, State.frameDue_kept, State.complete_kept, State.modeOk_kept, State.setReg_kept, State.setFld_kept, State.cleared_kept])
    | (refine of_pair (by assumption) ?_)
    | (refine of_trip (by assumption) ?_)

@[simp] theorem State.proofStat_kept (s : State) (p : ProofRun) (result : Nat) : kept (State.proofStat s p result) = kept s := by simp [State.proofStat]

@[simp] theorem State.rouseOpen_kept (s : State) : kept (State.rouseOpen s) = kept s := by simp [State.rouseOpen]

@[simp] theorem State.stateProofEnds_kept (s : State) (pass : Bool) : kept (State.stateProofEnds s pass) = kept s := by simp [State.stateProofEnds]

@[simp] theorem State.proofEnds_kept (s : State) : kept (State.proofEnds s) = kept s := by
  unfold State.proofEnds
  (repeat' split) <;> simp

@[simp] theorem State.faultClear_kept (s : State) (id : Nat) : kept (State.faultClear s id).2 = kept s := by
  unfold State.faultClear
  (repeat' split) <;> simp

@[simp] theorem execSettle_kept (src : ModeSource) (pre : Bool) (s : State) : outKept (execSettle src pre s) = kept s := by
  unfold execSettle
  (repeat' split) <;> simp

@[simp] theorem execRouse_kept (src : ModeSource) (pre : Bool) (s : State) : outKept (execRouse src pre s) = kept s := by simp [execRouse]

@[simp] theorem execServiceEnter_kept (src : ModeSource) (pre : Bool) (ext : List ExtData) (upsets : List Upset) (s : State) : outKept (execServiceEnter src pre ext upsets s) = kept s := by
  simp only [execServiceEnter]
  (repeat' split) <;> simp

@[simp] theorem execStandby_kept (src : ModeSource) (pre : Bool) (ext : List ExtData) (upsets : List Upset) (s : State) : outKept (execStandby src pre ext upsets s) = kept s := by
  unfold execStandby
  (repeat' split) <;> simp

@[simp] theorem execEpochBoundary_kept (ext : List ExtData) (upsets : List Upset) (s : State) : outKept (execEpochBoundary ext upsets s) = kept s := by simp [execEpochBoundary]

@[simp] theorem execSteepDeclared_kept (present : Bool) (nvme : Bool) (speed : Nat) (width : Nat) (ext : List ExtData) (upsets : List Upset) (s : State) : outKept (execSteepDeclared present nvme speed width ext upsets s) = kept s := by simp [execSteepDeclared]

@[simp] theorem execSettleTimeout_kept (s : State) : outKept (execSettleTimeout s) = kept s := by simp [execSettleTimeout]

@[simp] theorem execProofComplete_kept (us : Nat) (s : State) : outKept (execProofComplete us s) = kept s := by
  unfold execProofComplete
  try dsimp only
  all_goals repeat' first
    | (with_reducible rfl)
    | (simp only [outKept_next, kept_mk, kept_fold, ite_snd, ite_fst, kept_ite, outKept_ite, ite_self, foldl_kept, foldl_kept2, foldl_kept22, foldl_kept222, implies_true, State.elapseTo_kept, State.rouseExpire_kept, State.proofEnds_kept]; done)
    | split
    | (refine (foldl_kept _ _ _ ?_).trans ?_ <;> intros)
    | (refine (foldl_kept2 _ _ _ ?_).trans ?_ <;> intros)
    | (refine (foldl_kept22 _ _ _ ?_).trans ?_ <;> intros)
    | (refine (foldl_kept222 _ _ _ ?_).trans ?_ <;> intros)
    | (simp only [outKept_next, kept_mk, kept_fold, ite_snd, ite_fst, kept_ite, outKept_ite, ite_self, foldl_kept, foldl_kept2, foldl_kept22, foldl_kept222, implies_true, State.elapseTo_kept, State.rouseExpire_kept, State.proofEnds_kept])
    | (refine of_pair (by assumption) ?_)
    | (refine of_trip (by assumption) ?_)

@[simp] theorem execProofCheckerTimeout_kept (step : Nat) (s : State) : outKept (execProofCheckerTimeout step s) = kept s := by
  unfold execProofCheckerTimeout
  (repeat' split) <;> simp

@[simp] theorem execProofRun_kept (r : EntryRef) (s : State) : outKept (execProofRun r s) = kept s := by
  unfold execProofRun
  (repeat' split) <;> simp

@[simp] theorem execFaultClear_kept (r : EntryRef) (s : State) : outKept (execFaultClear r s) = kept s := by
  simp only [execFaultClear]
  (repeat' split) <;> simp

@[simp] theorem execInject_kept (r : EntryRef) (s : State) : outKept (execInject r s) = kept s := by
  unfold execInject
  (repeat' split) <;> simp

@[simp] theorem execDiscClear_kept (who : Requester) (s : State) : outKept (execDiscClear who s) = kept s := by simp [execDiscClear, State.regCmd_kept]

@[simp] theorem execWardRefuseClr_kept (who : Requester) (mask : Nat) (s : State) : outKept (execWardRefuseClr who mask s) = kept s := by
  unfold execWardRefuseClr
  try dsimp only
  all_goals repeat' first
    | (with_reducible rfl)
    | (simp only [outKept_next, kept_mk, kept_fold, ite_snd, ite_fst, kept_ite, outKept_ite, ite_self, foldl_kept, foldl_kept2, foldl_kept22, foldl_kept222, implies_true, State.regCmd_kept, State.inStates_kept, State.setReg_kept]; done)
    | split
    | (refine (foldl_kept _ _ _ ?_).trans ?_ <;> intros)
    | (refine (foldl_kept2 _ _ _ ?_).trans ?_ <;> intros)
    | (refine (foldl_kept22 _ _ _ ?_).trans ?_ <;> intros)
    | (refine (foldl_kept222 _ _ _ ?_).trans ?_ <;> intros)
    | (refine (State.regCmd_kept _ _ _ _ _ ?_).trans ?_ <;> intros)
    | (refine (State.inStates_kept _ _ _ _ _ _ ?_).trans ?_ <;> intros)
    | (simp only [outKept_next, kept_mk, kept_fold, ite_snd, ite_fst, kept_ite, outKept_ite, ite_self, foldl_kept, foldl_kept2, foldl_kept22, foldl_kept222, implies_true, State.regCmd_kept, State.inStates_kept, State.setReg_kept])
    | (refine of_pair (by assumption) ?_)
    | (refine of_trip (by assumption) ?_)

@[simp] theorem execZeroFillComplete_kept (s : State) : outKept (execZeroFillComplete s) = kept s := by
  unfold execZeroFillComplete
  try dsimp only
  all_goals repeat' first
    | (with_reducible rfl)
    | (simp only [outKept_next, kept_mk, kept_fold, ite_snd, ite_fst, kept_ite, outKept_ite, ite_self, foldl_kept, foldl_kept2, foldl_kept22, foldl_kept222, implies_true, State.zeroRanges_kept, State.powerUp_kept, State.gskOpen_kept]; done)
    | split
    | (refine (foldl_kept _ _ _ ?_).trans ?_ <;> intros)
    | (refine (foldl_kept2 _ _ _ ?_).trans ?_ <;> intros)
    | (refine (foldl_kept22 _ _ _ ?_).trans ?_ <;> intros)
    | (refine (foldl_kept222 _ _ _ ?_).trans ?_ <;> intros)
    | (simp only [outKept_next, kept_mk, kept_fold, ite_snd, ite_fst, kept_ite, outKept_ite, ite_self, foldl_kept, foldl_kept2, foldl_kept22, foldl_kept222, implies_true, State.zeroRanges_kept, State.powerUp_kept, State.gskOpen_kept])
    | (refine of_pair (by assumption) ?_)
    | (refine of_trip (by assumption) ?_)

@[simp] theorem State.bootExhausted_kept (s : State) : kept (State.bootExhausted s) = kept s := by simp [State.bootExhausted]

@[simp] theorem State.startFw_kept (s : State) (b : List Byte) : kept (State.startFw s b) = kept s := by simp [State.startFw]

@[simp] theorem State.tryBundle_kept (s : State) (b : List Byte) : kept (State.tryBundle s b).2 = kept s := by
  unfold State.tryBundle
  (repeat' split) <;> simp

@[simp] theorem State.bundleFrom_kept (s : State) (a1 : List (List Byte)) : kept (State.bundleFrom s a1).2 = kept s := by
  induction a1 generalizing s with
  | nil => rfl
  | cons b bs ih =>
    have h := tryBundle_kept s b
    unfold bundleFrom
    revert h
    generalize s.tryBundle b = p
    intro h
    split
    split
    · exact h
    · exact (ih _).trans h

@[simp] theorem State.toTraining_kept (s : State) : kept (State.toTraining s) = kept s := by simp [State.toTraining]

@[simp] theorem State.bootWarden_kept (s : State) : kept (State.bootWarden s) = kept s := by simp [State.bootWarden]

@[simp] theorem State.leaveReset_kept (s : State) (strap : Nat) : kept (State.leaveReset s strap) = kept s := by simp [State.leaveReset]

@[simp] theorem State.tryDrive_kept (s : State) (b : List Byte) : kept (State.tryDrive s b).2 = kept s := by
  unfold State.tryDrive
  (repeat' split) <;> simp

@[simp] theorem State.driveFrom_kept (s : State) (a1 : List (List Byte)) : kept (State.driveFrom s a1).2 = kept s := by
  induction a1 generalizing s with
  | nil => rfl
  | cons b bs ih =>
    have h := tryDrive_kept s b
    unfold driveFrom
    revert h
    generalize s.tryDrive b = p
    intro h
    split
    split
    · exact h
    · exact (ih _).trans h

@[simp] theorem State.storeSteep_kept (s : State) (b : List Byte) : kept (State.storeSteep s b).2 = kept s := by
  unfold State.storeSteep
  (repeat' split) <;> simp

@[simp] theorem State.trySteep_kept (s : State) (b : List Byte) : kept (State.trySteep s b).2 = kept s := by
  simp only [State.trySteep]
  (repeat' split) <;> simp

@[simp] theorem State.bootEnds_kept (s : State) : kept (State.bootEnds s) = kept s := by simp [State.bootEnds]

@[simp] theorem State.bootNor_kept (s : State) : kept (State.bootNor s) = kept s := by simp [State.bootNor]

@[simp] theorem State.loadRefused_kept (s : State) (r : EntryRef) (g : Guard) : kept (State.loadRefused s r g) = kept s := by simp [State.loadRefused]

@[simp] theorem State.reimage_kept (s : State) (mask : Nat) (m : Image) : kept (State.reimage s mask m) = kept s := by
  unfold State.reimage
  try dsimp only
  all_goals repeat' first
    | (with_reducible rfl)
    | (simp only [outKept_next, kept_mk, kept_fold, ite_snd, ite_fst, kept_ite, outKept_ite, ite_self, foldl_kept, foldl_kept2, foldl_kept22, foldl_kept222, implies_true, State.gskShut_kept, State.scrubTile_kept, State.setKvPool_kept, State.portOff_kept, State.freshKey_kept, State.setEncl_kept, State.powerTiles_kept, State.setFld_kept, State.assignChannels_kept, State.declarePools_kept, State.portUp_kept, State.gskOpen_kept]; done)
    | split
    | (refine (foldl_kept _ _ _ ?_).trans ?_ <;> intros)
    | (refine (foldl_kept2 _ _ _ ?_).trans ?_ <;> intros)
    | (refine (foldl_kept22 _ _ _ ?_).trans ?_ <;> intros)
    | (refine (foldl_kept222 _ _ _ ?_).trans ?_ <;> intros)
    | (simp only [outKept_next, kept_mk, kept_fold, ite_snd, ite_fst, kept_ite, outKept_ite, ite_self, foldl_kept, foldl_kept2, foldl_kept22, foldl_kept222, implies_true, State.gskShut_kept, State.scrubTile_kept, State.setKvPool_kept, State.portOff_kept, State.freshKey_kept, State.setEncl_kept, State.powerTiles_kept, State.setFld_kept, State.assignChannels_kept, State.declarePools_kept, State.portUp_kept, State.gskOpen_kept])
    | (refine of_pair (by assumption) ?_)
    | (refine of_trip (by assumption) ?_)

@[simp] theorem State.loadSteep_kept (s : State) (r : EntryRef) (mask : Nat) (b : List Byte) : kept (State.loadSteep s r mask b) = kept s := by
  simp only [State.loadSteep]
  (repeat' split) <;> simp

@[simp] theorem State.recheckSteep_kept (s : State) : kept (State.recheckSteep s) = kept s := by
  rw [recheckSteep.eq_1]
  split
  · rfl
  · rename_i f _
    have hs := settleErr_kept s f
    revert hs
    generalize s.settleErr f = u
    intro hs
    rw [← hs]
    simp only [kept_mk, kept_fold]

@[simp] theorem State.loadDrive_kept (s : State) (r : EntryRef) (b : List Byte) : kept (State.loadDrive s r b) = kept s := by
  rw [loadDrive.eq_1]
  generalize readImage b = m
  split
  · simp
  · rw [finish_kept, recheckSteep_kept]
    simp

@[simp] theorem State.imageLoad_kept (s : State) (r : EntryRef) (mask : Nat) (b : List Byte) : kept (State.imageLoad s r mask b) = kept s := by
  simp only [State.imageLoad]
  (repeat' split) <;> simp

@[simp] theorem State.enclRestart_kept (s : State) (e : Nat) : kept (State.enclRestart s e) = kept s := by
  unfold State.enclRestart
  try dsimp only
  all_goals repeat' first
    | (with_reducible rfl)
    | (simp only [outKept_next, kept_mk, kept_fold, ite_snd, ite_fst, kept_ite, outKept_ite, ite_self, foldl_kept, foldl_kept2, foldl_kept22, foldl_kept222, implies_true, State.scrubTile_kept, State.declarePools_kept, State.setEncl_kept, State.freshKey_kept, State.emptyOwned_kept, State.gskOpen_kept]; done)
    | split
    | (refine (foldl_kept _ _ _ ?_).trans ?_ <;> intros)
    | (refine (foldl_kept2 _ _ _ ?_).trans ?_ <;> intros)
    | (refine (foldl_kept22 _ _ _ ?_).trans ?_ <;> intros)
    | (refine (foldl_kept222 _ _ _ ?_).trans ?_ <;> intros)
    | (simp only [outKept_next, kept_mk, kept_fold, ite_snd, ite_fst, kept_ite, outKept_ite, ite_self, foldl_kept, foldl_kept2, foldl_kept22, foldl_kept222, implies_true, State.scrubTile_kept, State.declarePools_kept, State.setEncl_kept, State.freshKey_kept, State.emptyOwned_kept, State.gskOpen_kept])
    | (refine of_pair (by assumption) ?_)
    | (refine of_trip (by assumption) ?_)

@[simp] theorem State.restartCmd_kept (s : State) (e : Nat) : kept (State.restartCmd s e).2 = kept s := by simp [State.restartCmd]

@[simp] theorem execResetRelease_kept (strap : Nat) (s : State) : outKept (execResetRelease strap s) = kept s := by simp [execResetRelease]

@[simp] theorem execDramTrainingDone_kept (densities : List Nat) (fails : List Nat) (s : State) : outKept (execDramTrainingDone densities fails s) = kept s := by
  unfold execDramTrainingDone
  try dsimp only
  all_goals repeat' first
    | (with_reducible rfl)
    | (simp only [outKept_next, kept_mk, kept_fold, ite_snd, ite_fst, kept_ite, outKept_ite, ite_self, foldl_kept, foldl_kept2, foldl_kept22, foldl_kept222, implies_true, State.modChan_kept, State.fatal_kept, State.toInit_kept]; done)
    | split
    | (refine (foldl_kept _ _ _ ?_).trans ?_ <;> intros)
    | (refine (foldl_kept2 _ _ _ ?_).trans ?_ <;> intros)
    | (refine (foldl_kept22 _ _ _ ?_).trans ?_ <;> intros)
    | (refine (foldl_kept222 _ _ _ ?_).trans ?_ <;> intros)
    | (simp only [outKept_next, kept_mk, kept_fold, ite_snd, ite_fst, kept_ite, outKept_ite, ite_self, foldl_kept, foldl_kept2, foldl_kept22, foldl_kept222, implies_true, State.modChan_kept, State.fatal_kept, State.toInit_kept])
    | (refine of_pair (by assumption) ?_)
    | (refine of_trip (by assumption) ?_)

@[simp] theorem execDramInitDone_kept (s : State) : outKept (execDramInitDone s) = kept s := by simp [execDramInitDone]

@[simp] theorem execBootImageLoaded_kept (s : State) : outKept (execBootImageLoaded s) = kept s := by simp [execBootImageLoaded]

@[simp] theorem execImageLoad_kept (r : EntryRef) (ext : List ExtData) (upsets : List Upset) (s : State) : outKept (execImageLoad r ext upsets s) = kept s := by
  simp only [execImageLoad]
  (repeat' split) <;> simp

@[simp] theorem execEnclRestart_kept (r : EntryRef) (s : State) : outKept (execEnclRestart r s) = kept s := by
  simp only [execEnclRestart]
  (repeat' split) <;> simp

@[simp] theorem State.cozyEnter_kept (s : State) : kept (State.cozyEnter s) = kept s := by
  unfold State.cozyEnter
  try dsimp only
  all_goals repeat' first
    | (with_reducible rfl)
    | (simp only [outKept_next, kept_mk, kept_fold, ite_snd, ite_fst, kept_ite, outKept_ite, ite_self, foldl_kept, foldl_kept2, foldl_kept22, foldl_kept222, implies_true, State.frameDue_kept, State.portCozy_kept, State.modVote_kept]; done)
    | split
    | (refine (foldl_kept _ _ _ ?_).trans ?_ <;> intros)
    | (refine (foldl_kept2 _ _ _ ?_).trans ?_ <;> intros)
    | (refine (foldl_kept22 _ _ _ ?_).trans ?_ <;> intros)
    | (refine (foldl_kept222 _ _ _ ?_).trans ?_ <;> intros)
    | (simp only [outKept_next, kept_mk, kept_fold, ite_snd, ite_fst, kept_ite, outKept_ite, ite_self, foldl_kept, foldl_kept2, foldl_kept22, foldl_kept222, implies_true, State.frameDue_kept, State.portCozy_kept, State.modVote_kept])
    | (refine of_pair (by assumption) ?_)
    | (refine of_trip (by assumption) ?_)

@[simp] theorem State.cozyArrays_kept (s : State) : kept (State.cozyArrays s) = kept s := by
  unfold State.cozyArrays
  try dsimp only
  all_goals repeat' first
    | (with_reducible rfl)
    | (simp only [outKept_next, kept_mk, kept_fold, ite_snd, ite_fst, kept_ite, outKept_ite, ite_self, foldl_kept, foldl_kept2, foldl_kept22, foldl_kept222, implies_true, State.setListOf_kept, State.zeroRange_kept]; done)
    | split
    | (refine (foldl_kept _ _ _ ?_).trans ?_ <;> intros)
    | (refine (foldl_kept2 _ _ _ ?_).trans ?_ <;> intros)
    | (refine (foldl_kept22 _ _ _ ?_).trans ?_ <;> intros)
    | (refine (foldl_kept222 _ _ _ ?_).trans ?_ <;> intros)
    | (simp only [outKept_next, kept_mk, kept_fold, ite_snd, ite_fst, kept_ite, outKept_ite, ite_self, foldl_kept, foldl_kept2, foldl_kept22, foldl_kept222, implies_true, State.setListOf_kept, State.zeroRange_kept])
    | (refine of_pair (by assumption) ?_)
    | (refine of_trip (by assumption) ?_)

@[simp] theorem State.cozyTsu_kept (s : State) (cycles : Nat) : kept (State.cozyTsu s cycles) = kept s := by simp [State.cozyTsu]

@[simp] theorem State.cozyScrub_kept (s : State) : kept (State.cozyScrub s) = kept s := by
  unfold State.cozyScrub
  try dsimp only
  all_goals repeat' first
    | (with_reducible rfl)
    | (simp only [outKept_next, kept_mk, kept_fold, ite_snd, ite_fst, kept_ite, outKept_ite, ite_self, foldl_kept, foldl_kept2, foldl_kept22, foldl_kept222, implies_true, State.setTram_kept, State.setCram_kept]; done)
    | split
    | (refine (foldl_kept _ _ _ ?_).trans ?_ <;> intros)
    | (refine (foldl_kept2 _ _ _ ?_).trans ?_ <;> intros)
    | (refine (foldl_kept22 _ _ _ ?_).trans ?_ <;> intros)
    | (refine (foldl_kept222 _ _ _ ?_).trans ?_ <;> intros)
    | (simp only [outKept_next, kept_mk, kept_fold, ite_snd, ite_fst, kept_ite, outKept_ite, ite_self, foldl_kept, foldl_kept2, foldl_kept22, foldl_kept222, implies_true, State.setTram_kept, State.setCram_kept])
    | (refine of_pair (by assumption) ?_)
    | (refine of_trip (by assumption) ?_)

@[simp] theorem State.cozyExit_kept (s : State) (cycles : Nat) : kept (State.cozyExit s cycles) = kept s := by
  unfold State.cozyExit
  try dsimp only
  all_goals repeat' first
    | (with_reducible rfl)
    | (simp only [outKept_next, kept_mk, kept_fold, ite_snd, ite_fst, kept_ite, outKept_ite, ite_self, foldl_kept, foldl_kept2, foldl_kept22, foldl_kept222, implies_true, State.cozyScrub_kept, State.cozyTsu_kept, State.cozyArrays_kept, State.wakePeers_kept, State.portUp_kept, State.rouseEnter_kept]; done)
    | split
    | (refine (foldl_kept _ _ _ ?_).trans ?_ <;> intros)
    | (refine (foldl_kept2 _ _ _ ?_).trans ?_ <;> intros)
    | (refine (foldl_kept22 _ _ _ ?_).trans ?_ <;> intros)
    | (refine (foldl_kept222 _ _ _ ?_).trans ?_ <;> intros)
    | (simp only [outKept_next, kept_mk, kept_fold, ite_snd, ite_fst, kept_ite, outKept_ite, ite_self, foldl_kept, foldl_kept2, foldl_kept22, foldl_kept222, implies_true, State.cozyScrub_kept, State.cozyTsu_kept, State.cozyArrays_kept, State.wakePeers_kept, State.portUp_kept, State.rouseEnter_kept])
    | (refine of_pair (by assumption) ?_)
    | (refine of_trip (by assumption) ?_)

@[simp] theorem State.cozyAsleep_kept (s : State) : kept (State.cozyAsleep s) = kept s := by
  unfold State.cozyAsleep
  try dsimp only
  all_goals repeat' first
    | (with_reducible rfl)
    | (simp only [outKept_next, kept_mk, kept_fold, ite_snd, ite_fst, kept_ite, outKept_ite, ite_self, foldl_kept, foldl_kept2, foldl_kept22, foldl_kept222, implies_true, State.portSleep_kept]; done)
    | split
    | (refine (foldl_kept _ _ _ ?_).trans ?_ <;> intros)
    | (refine (foldl_kept2 _ _ _ ?_).trans ?_ <;> intros)
    | (refine (foldl_kept22 _ _ _ ?_).trans ?_ <;> intros)
    | (refine (foldl_kept222 _ _ _ ?_).trans ?_ <;> intros)
    | (simp only [outKept_next, kept_mk, kept_fold, ite_snd, ite_fst, kept_ite, outKept_ite, ite_self, foldl_kept, foldl_kept2, foldl_kept22, foldl_kept222, implies_true, State.portSleep_kept])
    | (refine of_pair (by assumption) ?_)
    | (refine of_trip (by assumption) ?_)

@[simp] theorem execCommit_kept (id : Nat) (s : State) : outKept (execCommit id s) = kept s := by simp [execCommit]

@[simp] theorem execCommitHoldExpiry_kept (s : State) : outKept (execCommitHoldExpiry s) = kept s := by simp [execCommitHoldExpiry]

@[simp] theorem execWithdraw_kept (n : Nat) (id : Nat) (s : State) : outKept (execWithdraw n id s) = kept s := by simp [execWithdraw]

@[simp] theorem execVoteAbort_kept (id : Nat) (s : State) : outKept (execVoteAbort id s) = kept s := by simp [execVoteAbort]

@[simp] theorem execCozyEntryComplete_kept (cycles : Nat) (s : State) : outKept (execCozyEntryComplete cycles s) = kept s := by simp [execCozyEntryComplete]

@[simp] theorem execCozyExitComplete_kept (cycles : Nat) (s : State) : outKept (execCozyExitComplete cycles s) = kept s := by simp [execCozyExitComplete]

@[simp] theorem execBrikelWake_kept (p : Nat) (s : State) : outKept (execBrikelWake p s) = kept s := by simp [execBrikelWake]

@[simp] theorem execRemoteReset_kept (from_ : Nat) (loomId : Nat) (s : State) : outKept (execRemoteReset from_ loomId s) = kept s := by
  unfold execRemoteReset
  (repeat' split) <;> simp

@[simp] theorem State.scrubUnit_kept (s : State) (p : Place) (u : Nat) (linkUe : Bool) : kept (State.scrubUnit s p u linkUe) = kept s := by
  unfold State.scrubUnit
  (repeat' split) <;> simp

@[simp] theorem State.scrubAt_kept (s : State) (p : Place) (ups : List Upset) (u : Nat) : kept (State.scrubAt s p ups u) = kept s := by
  unfold State.scrubAt
  try dsimp only
  all_goals repeat' first
    | (with_reducible rfl)
    | (simp only [outKept_next, kept_mk, kept_fold, ite_snd, ite_fst, kept_ite, outKept_ite, ite_self, foldl_kept, foldl_kept2, foldl_kept22, foldl_kept222, implies_true, State.found_kept, State.scrubUnit_kept]; done)
    | split
    | (refine (foldl_kept _ _ _ ?_).trans ?_ <;> intros)
    | (refine (foldl_kept2 _ _ _ ?_).trans ?_ <;> intros)
    | (refine (foldl_kept22 _ _ _ ?_).trans ?_ <;> intros)
    | (refine (foldl_kept222 _ _ _ ?_).trans ?_ <;> intros)
    | (simp only [outKept_next, kept_mk, kept_fold, ite_snd, ite_fst, kept_ite, outKept_ite, ite_self, foldl_kept, foldl_kept2, foldl_kept22, foldl_kept222, implies_true, State.found_kept, State.scrubUnit_kept])
    | (refine of_pair (by assumption) ?_)
    | (refine of_trip (by assumption) ?_)

@[simp] theorem State.scrubUnits_kept (s : State) (p : Place) (us : List Nat) (ups : List Upset) : kept (State.scrubUnits s p us ups) = kept s := by
  unfold State.scrubUnits
  try dsimp only
  all_goals repeat' first
    | (with_reducible rfl)
    | (simp only [outKept_next, kept_mk, kept_fold, ite_snd, ite_fst, kept_ite, outKept_ite, ite_self, foldl_kept, foldl_kept2, foldl_kept22, foldl_kept222, implies_true, State.scrubAt_kept, State.applyUpsets_kept]; done)
    | split
    | (refine (foldl_kept _ _ _ ?_).trans ?_ <;> intros)
    | (refine (foldl_kept2 _ _ _ ?_).trans ?_ <;> intros)
    | (refine (foldl_kept22 _ _ _ ?_).trans ?_ <;> intros)
    | (refine (foldl_kept222 _ _ _ ?_).trans ?_ <;> intros)
    | (simp only [outKept_next, kept_mk, kept_fold, ite_snd, ite_fst, kept_ite, outKept_ite, ite_self, foldl_kept, foldl_kept2, foldl_kept22, foldl_kept222, implies_true, State.scrubAt_kept, State.applyUpsets_kept])
    | (refine of_pair (by assumption) ?_)
    | (refine of_trip (by assumption) ?_)

@[simp] theorem State.scrubVisit_kept (s : State) (ups : List Upset) (a2 : ArrayRef) : kept (State.scrubVisit s ups a2) = kept s := by
  unfold State.scrubVisit
  (repeat' split) <;> simp

@[simp] theorem State.ceRate_kept (s : State) (m : Nat) : kept (State.ceRate s m) = kept s := by simp [State.ceRate]

@[simp] theorem execScrubVisit_kept (array : ArrayRef) (upsets : List Upset) (s : State) : outKept (execScrubVisit array upsets s) = kept s := by simp [execScrubVisit]

@[simp] theorem execCeRate_kept (m : Nat) (s : State) : outKept (execCeRate m s) = kept s := by simp [execCeRate]

@[simp] theorem execMcCntClr_kept (who : Requester) (m : Nat) (s : State) : outKept (execMcCntClr who m s) = kept s := by simp [execMcCntClr, State.regCmd_kept, State.inStates_kept]

@[simp] theorem execRefreshRatePoll_kept (m : Nat) (rate : Nat) (hot : Bool) (s : State) : outKept (execRefreshRatePoll m rate hot s) = kept s := by simp [execRefreshRatePoll]

@[simp] theorem execZqCalibration_kept (m : Nat) (s : State) : outKept (execZqCalibration m s) = kept s := by simp [execZqCalibration]

end Sys2Proof.Machine
end

