-- ==== Sys2Proof/Laws/KeptHost.lean ====
section
/-! SUPPORT. The operations on the security block, the buses, registers, remote requests and entries keep the queue, the boot flash and the fuses. -/

set_option linter.unusedSimpArgs false

namespace Sys2Proof.Machine

open State

@[simp] theorem State.secEnd_kept (s : State) (st : Status) : kept (State.secEnd s st) = kept s := by simp [State.secEnd]

@[simp] theorem State.secGo_kept (s : State) : kept (State.secGo s) = kept s := by simp [State.secGo]

theorem State.secRun_kept (s : State) (op : Nat) (n : Nat) (ext : List ExtData) (ups : List Upset) (f : State → Nat → List Byte → State) (h_f : ∀ y0 y1 y2, kept (f y0 y1 y2) = kept y0) : kept (State.secRun s op n ext ups f) = kept s := by
  simp only [State.secRun]
  (repeat' split) <;> simp [h_f]

@[simp] theorem State.secWrite_kept (s : State) (addr : Nat) (bs : List Byte) (ext : List ExtData) (ups : List Upset) : kept (State.secWrite s addr bs ext ups) = kept s := by simp [State.secWrite]

@[simp] theorem State.drawNonce_kept (s : State) : kept (State.drawNonce s).2 = kept s := by simp [State.drawNonce]

@[simp] theorem State.newHandle_kept (s : State) (e : Nat) (keyId : Nat) (key : Nat) : kept (State.newHandle s e keyId key).2 = kept s := by simp [State.newHandle]

@[simp] theorem State.svcRefused_kept (s : State) (r : EntryRef) : kept (State.svcRefused s r) = kept s := by simp [State.svcRefused]

theorem State.svcRun_kept {s : State} {r : EntryRef} {op action : Nat} {f : Entry → State} (h : ∀ y, kept (f y) = kept s) :
    kept (s.svcRun r op action f) = kept s := by
  unfold svcRun
  split
  · rfl
  · split
    · rfl
    · split
      · exact svcRefused_kept ..
      · exact h _

@[simp] theorem State.debugOpens_kept (s : State) : kept (State.debugOpens s) = kept s := by simp [State.debugOpens]

@[simp] theorem State.keySlotLoad_kept (s : State) (k : Nat) : kept (State.keySlotLoad s k) = kept s := by simp [State.keySlotLoad]

@[simp] theorem execQuote_kept (ext : List ExtData) (upsets : List Upset) (s : State) : outKept (execQuote ext upsets s) = kept s := by simp [execQuote, State.secRun_kept]

@[simp] theorem execKeyUnwrap_kept (ext : List ExtData) (upsets : List Upset) (s : State) : outKept (execKeyUnwrap ext upsets s) = kept s := by simp [execKeyUnwrap, State.secRun_kept]

@[simp] theorem execKeyDestroy_kept (ext : List ExtData) (upsets : List Upset) (s : State) : outKept (execKeyDestroy ext upsets s) = kept s := by simp [execKeyDestroy, State.secRun_kept]

@[simp] theorem execNonce_kept (ext : List ExtData) (upsets : List Upset) (s : State) : outKept (execNonce ext upsets s) = kept s := by simp [execNonce, State.secRun_kept]

@[simp] theorem execIdPubkey_kept (ext : List ExtData) (upsets : List Upset) (s : State) : outKept (execIdPubkey ext upsets s) = kept s := by simp [execIdPubkey, State.secRun_kept]

@[simp] theorem execKeySlotLoad_kept (k : Nat) (s : State) : outKept (execKeySlotLoad k s) = kept s := by simp [execKeySlotLoad]

@[simp] theorem execRandomHealthFail_kept (s : State) : outKept (execRandomHealthFail s) = kept s := by simp [execRandomHealthFail]

theorem execDebugOpen_kept (r : EntryRef) (s : State) : outKept (execDebugOpen r s) = kept s := by
  refine svcRun_kept fun _ => ?_
  split
  · exact finish_kept ..
  · split
    · exact finish_kept ..
    · exact (finish_kept ..).trans (debugOpens_kept ..)

@[simp] theorem execFuseDump_kept (r : EntryRef) (ext : List ExtData) (upsets : List Upset) (s : State) : outKept (execFuseDump r ext upsets s) = kept s := by
  refine svcRun_kept fun y => ?_
  have h := writeRun_kept s (s.stewardOf r.encl) (y.arg 8 8) s.fuseDump ext upsets
  revert h
  generalize s.writeRun (s.stewardOf r.encl) (y.arg 8 8) s.fuseDump ext upsets = p
  intro h
  split
  exact (finish_kept ..).trans h

@[simp] theorem State.keepOpen_kept (wasOpen : Bool) (life : Nat) (t : State) : kept (State.keepOpen wasOpen life t) = kept t := by simp [State.keepOpen]

@[simp] theorem State.setPush_kept (s : State) (p : PushSt) : kept (State.setPush s p) = kept s := by simp [State.setPush]

@[simp] theorem State.pushDone_kept (s : State) : kept (State.pushDone s) = kept s := by simp [State.pushDone]

@[simp] theorem State.pushFail_kept (s : State) (result : Nat) : kept (State.pushFail s result) = kept s := by simp [State.pushFail]

theorem State.pushTried_kept (ok : Bool) (t : State) (f : State → State) (h_f : ∀ y0, kept (f y0) = kept y0) : kept (State.pushTried ok t f) = kept t := by simp [State.pushTried, h_f]

@[simp] theorem State.bootPost_kept (s : State) (ext : List ExtData) : kept (State.bootPost s ext) = kept s := by
  simp only [State.bootPost]
  (repeat' split) <;> simp [State.pushTried_kept]

@[simp] theorem State.pcieAnswer_kept (s : State) (id : Nat) (st : Status) (d : List Byte) : kept (State.pcieAnswer s id st d) = kept s := by simp [State.pcieAnswer]

@[simp] theorem State.pcieTimeouts_kept (s : State) (ids : List Nat) : kept (State.pcieTimeouts s ids) = kept s := by
  unfold State.pcieTimeouts
  try dsimp only
  all_goals repeat' first
    | (with_reducible rfl)
    | (simp only [outKept_next, kept_mk, kept_fold, ite_snd, ite_fst, kept_ite, outKept_ite, ite_self, foldl_kept, foldl_kept2, foldl_kept22, foldl_kept222, implies_true, State.bumpBy_kept, State.pcieAnswer_kept]; done)
    | split
    | (refine (foldl_kept _ _ _ ?_).trans ?_ <;> intros)
    | (refine (foldl_kept2 _ _ _ ?_).trans ?_ <;> intros)
    | (refine (foldl_kept22 _ _ _ ?_).trans ?_ <;> intros)
    | (refine (foldl_kept222 _ _ _ ?_).trans ?_ <;> intros)
    | (simp only [outKept_next, kept_mk, kept_fold, ite_snd, ite_fst, kept_ite, outKept_ite, ite_self, foldl_kept, foldl_kept2, foldl_kept22, foldl_kept222, implies_true, State.bumpBy_kept, State.pcieAnswer_kept])
    | (refine of_pair (by assumption) ?_)
    | (refine of_trip (by assumption) ?_)

@[simp] theorem execPcieLinkUp_kept (speed : Nat) (width : Nat) (s : State) : outKept (execPcieLinkUp speed width s) = kept s := by simp [execPcieLinkUp]

@[simp] theorem execPcieLinkDown_kept (s : State) : outKept (execPcieLinkDown s) = kept s := by simp [execPcieLinkDown]

@[simp] theorem execPcieBootGo_kept (obj : Nat) (ext : List ExtData) (s : State) : outKept (execPcieBootGo obj ext s) = kept s := by simp [execPcieBootGo]

@[simp] theorem execBootPushTimeout_kept (s : State) : outKept (execBootPushTimeout s) = kept s := by simp [execBootPushTimeout]

@[simp] theorem execWaitSteepTimeout_kept (s : State) : outKept (execWaitSteepTimeout s) = kept s := by simp [execWaitSteepTimeout]

@[simp] theorem execPcieCntClr_kept (who : Requester) (s : State) : outKept (execPcieCntClr who s) = kept s := by simp [execPcieCntClr, State.regCmd_kept, State.inStates_kept]

@[simp] theorem State.uartFlush_kept (s : State) : kept (State.uartFlush s) = kept s := by simp [State.uartFlush]

@[simp] theorem State.uartStore_kept (s : State) (e : UartEntry) : kept (State.uartStore s e) = kept s := by simp [State.uartStore]

@[simp] theorem execUartCharacterRx_kept (samples : List Bool) (s : State) : outKept (execUartCharacterRx samples s) = kept s := by
  simp only [execUartCharacterRx]
  (repeat' split) <;> simp

@[simp] theorem execUartCharacterTx_kept (s : State) : outKept (execUartCharacterTx s) = kept s := by
  unfold execUartCharacterTx
  (repeat' split) <;> simp

@[simp] theorem execUartDataWrite_kept (who : Requester) (v : Nat) (s : State) : outKept (execUartDataWrite who v s) = kept s := by simp [execUartDataWrite, State.regCmd_kept]

@[simp] theorem execUartDataRead_kept (who : Requester) (s : State) : outKept (execUartDataRead who s) = kept s := by
  unfold execUartDataRead
  try dsimp only
  all_goals repeat' first
    | (with_reducible rfl)
    | (simp only [outKept_next, kept_mk, kept_fold, ite_snd, ite_fst, kept_ite, outKept_ite, ite_self, foldl_kept, foldl_kept2, foldl_kept22, foldl_kept222, implies_true, State.regCmd_kept]; done)
    | split
    | (refine (foldl_kept _ _ _ ?_).trans ?_ <;> intros)
    | (refine (foldl_kept2 _ _ _ ?_).trans ?_ <;> intros)
    | (refine (foldl_kept22 _ _ _ ?_).trans ?_ <;> intros)
    | (refine (foldl_kept222 _ _ _ ?_).trans ?_ <;> intros)
    | (refine (State.regCmd_kept _ _ _ _ _ ?_).trans ?_ <;> intros)
    | (simp only [outKept_next, kept_mk, kept_fold, ite_snd, ite_fst, kept_ite, outKept_ite, ite_self, foldl_kept, foldl_kept2, foldl_kept22, foldl_kept222, implies_true, State.regCmd_kept])
    | (refine of_pair (by assumption) ?_)
    | (refine of_trip (by assumption) ?_)

@[simp] theorem execUartCfgWrite_kept (who : Requester) (v : Nat) (s : State) : outKept (execUartCfgWrite who v s) = kept s := by simp [execUartCfgWrite, State.regCmd_kept]

@[simp] theorem execUartBaudWrite_kept (who : Requester) (v : Nat) (s : State) : outKept (execUartBaudWrite who v s) = kept s := by simp [execUartBaudWrite, State.regCmd_kept]

theorem answered_kept (s : State) (o : Out) (h : outKept o = kept s) : kept (answered s o).2.2 = kept s := by
  cases o <;> first | exact h | rfl

theorem after_kept (s : State) (o : Out) (h : outKept o = kept s) : kept (after s o) = kept s := by
  cases o <;> first | exact h | rfl

@[simp] theorem State.qEnable_kept (s : State) (e : Nat) (q : Nat) : kept (State.qEnable s e q) = kept s := by simp [State.qEnable]

@[simp] theorem State.writeQCfg_kept (s : State) (who : Requester) (e : Nat) (q : Nat) (v : Nat) : kept (State.writeQCfg s who e q v).2.2 = kept s := by simp [State.writeQCfg]

@[simp] theorem State.writeChead_kept (s : State) (e : Nat) (q : Nat) (v : Nat) : kept (State.writeChead s e q v) = kept s := by simp [State.writeChead]

@[simp] theorem State.qResume_kept (s : State) (e : Nat) (q : Nat) : kept (State.qResume s e q) = kept s := by simp [State.qResume]

@[simp] theorem State.writeQPage_kept (s : State) (who : Requester) (e : Nat) (q : Nat) (o : Nat) (v : Nat) : kept (State.writeQPage s who e q o v).2.2 = kept s := by simp [State.writeQPage]

@[simp] theorem State.writeQblk_kept (s : State) (who : Requester) (e : Nat) (off : Nat) (v : Nat) (up : Bool) (ext : List ExtData) (ups : List Upset) : kept (State.writeQblk s who e off v up ext ups).2.2 = kept s := by
  have hp : ∀ k x tag fr, kept (s.regStore k x tag fr).1 = kept s := fun _ _ _ _ => regStore_kept ..
  have hi : ∀ (c : Prop) [Decidable c] (x y : Status × Nat × State), kept x.2.2 = kept s → kept y.2.2 = kept s → kept (if c then x else y).2.2 = kept s := by
    intro c _ x y hx hy
    split
    · exact hx
    · exact hy
  have hs : ∀ (c : Prop) [Decidable c] (x y : State), kept x = kept s → kept y = kept s → kept (if c then x else y) = kept s := by
    intro c _ x y hx hy
    split
    · exact hx
    · exact hy
  rw [writeQblk.eq_1]
  refine hi _ _ _ (hi _ _ _ rfl (hp ..)) (hi _ _ _ ?_ (hi _ _ _ ?_ (hi _ _ _ ?_ (hp ..))))
  · exact hs _ _ _ rfl (hp ..)
  · refine hi _ _ _ ?_ ?_
    · exact hs _ _ _ rfl (setFld_kept ..)
    · exact hs _ _ _ ((setReg_kept ..).trans (hp ..)) (hp ..)
  · refine hi _ _ _ rfl (hi _ _ _ (answered_kept _ _ (execNetTxDoorbell_kept ..)) (hi _ _ _ rfl (hi _ _ _ ?_ (hp ..))))
    exact hs _ _ _ ((setReg_kept ..).trans (hp ..)) (hp ..)

@[simp] theorem State.writeMover_kept (s : State) (who : Requester) (m : Nat) (c : Nat) (o : Nat) (v : Nat) : kept (State.writeMover s who m c o v).2.2 = kept s := by
  rw [writeMover.eq_1]
  try extract_lets
  split
  · split
    · exact answered_kept _ _ (execMoverLeaseAcquire_kept ..)
    · exact answered_kept _ _ (execMoverLeaseRenew_kept ..)
    · exact answered_kept _ _ (execMoverLeaseRelease_kept ..)
    · exact byHolder_kept _ _ _ _ _ fun w => inStates_kept _ _ _ _ _ _ fun u => rfl
  · split
    · exact answered_kept _ _ (execMoverDoorbell_kept ..)
    · split
      · split
        · exact answered_kept _ _ (execMoverResume_kept ..)
        · exact byHolder_kept _ _ _ _ _ fun w => rfl
      · refine byHolder_kept _ _ _ _ _ fun w => ?_
        split
        · rfl
        · exact regStore_kept ..

@[simp] theorem State.mboxOutAck_kept (s : State) : kept (State.mboxOutAck s) = kept s := by simp [State.mboxOutAck]

@[simp] theorem State.mboxInPost_kept (s : State) : kept (State.mboxInPost s) = kept s := by simp [State.mboxInPost]

@[simp] theorem State.mboxInWord_kept (s : State) (w : Nat) (v : Nat) : kept (State.mboxInWord s w v) = kept s := by simp [State.mboxInWord]

@[simp] theorem State.denyClear_kept (s : State) (mask : Nat) : kept (State.denyClear s mask) = kept s := by
  unfold State.denyClear
  try dsimp only
  all_goals repeat' first
    | (with_reducible rfl)
    | (simp only [outKept_next, kept_mk, kept_fold, ite_snd, ite_fst, kept_ite, outKept_ite, ite_self, foldl_kept, foldl_kept2, foldl_kept22, foldl_kept222, implies_true, State.setReg_kept]; done)
    | split
    | (refine (foldl_kept _ _ _ ?_).trans ?_ <;> intros)
    | (refine (foldl_kept2 _ _ _ ?_).trans ?_ <;> intros)
    | (refine (foldl_kept22 _ _ _ ?_).trans ?_ <;> intros)
    | (refine (foldl_kept222 _ _ _ ?_).trans ?_ <;> intros)
    | (simp only [outKept_next, kept_mk, kept_fold, ite_snd, ite_fst, kept_ite, outKept_ite, ite_self, foldl_kept, foldl_kept2, foldl_kept22, foldl_kept222, implies_true, State.setReg_kept])
    | (refine of_pair (by assumption) ?_)
    | (refine of_trip (by assumption) ?_)

@[simp] theorem State.peakClear_kept (s : State) : kept (State.peakClear s) = kept s := by simp [State.peakClear]

@[simp] theorem State.sealWrite_kept (s : State) : kept (State.sealWrite s) = kept s := by simp [State.sealWrite]

@[simp] theorem State.tsuCfgActs_kept (s : State) : kept (State.tsuCfgActs s) = kept s := by simp [State.tsuCfgActs]

@[simp] theorem State.regActs_kept (t : State) (who : Requester) (b : Nat) (off : Nat) (act : Nat) (v : Nat) (ext : List ExtData) : kept (State.regActs t who b off act v ext) = kept t := by
  have hrun : ∀ (c : Bool) (f : State → Out) (x : State), (∀ y, outKept (f y) = kept y) → kept (if c = true then after x (f x) else x) = kept x := by
    intro c f x h
    split
    · exact after_kept _ _ (h x)
    · rfl
  have hi : ∀ (c : Prop) [Decidable c] (x y : State), kept x = kept t → kept y = kept t → kept (if c then x else y) = kept t := by
    intro c _ x y hx hy
    split
    · exact hx
    · exact hy
  rw [regActs.eq_1]
  refine hi _ _ _ (hi _ _ _ (sealWrite_kept ..) rfl) ?_
  refine hi _ _ _ (hrun _ _ _ fun _ => execWardRefuseClr_kept ..) ?_
  refine hi _ _ _ (hrun _ _ _ fun _ => execSoftwareFullReset_kept ..) ?_
  refine hi _ _ _ (denyClear_kept ..) ?_
  refine hi _ _ _ (hi _ _ _ (secGo_kept ..) rfl) ?_
  refine hi _ _ _ (hrun _ _ _ fun _ => execSafeCntClr_kept ..) ?_
  refine hi _ _ _ (hi _ _ _ (peakClear_kept ..) rfl) ?_
  refine hi _ _ _ (hrun _ _ _ fun _ => execKvCntClr_kept ..) ?_
  refine hi _ _ _ (hrun _ _ _ fun _ => execLoomRresetWrite_kept ..) ?_
  refine hi _ _ _ (hrun _ _ _ fun _ => execLoomCntClr_kept ..) ?_
  refine hi _ _ _ (tsuCfgActs_kept ..) ?_
  refine hi _ _ _ ((hrun _ _ _ fun _ => execStrCntClrStreams_kept ..).trans (hrun _ _ _ fun _ => execStrCntClrPorts_kept ..)) ?_
  refine hi _ _ _ (hrun _ _ _ fun _ => execFuCntClr_kept ..) ?_
  refine hi _ _ _ (hrun _ _ _ fun _ => execLseCntClr_kept ..) ?_
  refine hi _ _ _ (by
    show kept (if _ then _ else _) = _
    split
    · split
      · exact (mboxInPost_kept ..).trans (mboxOutAck_kept ..)
      · exact mboxInPost_kept ..
    · split
      · exact mboxOutAck_kept ..
      · rfl) ?_
  refine hi _ _ _ (hi _ _ _ (setReg_kept ..) rfl) ?_
  refine hi _ _ _ (hrun _ _ _ fun _ => execPcieCntClr_kept ..) ?_
  refine hi _ _ _ (hi _ _ _ (bootPost_kept ..) rfl) ?_
  refine hi _ _ _ (hrun _ _ _ fun _ => execMcCntClr_kept ..) ?_
  refine hi _ _ _ ((hrun _ _ _ fun _ => execLinkDownCmd_kept ..).trans (hrun _ _ _ fun _ => execRetrainCmd_kept ..)) ?_
  refine hi _ _ _ (hrun _ _ _ fun _ => execWakePatternSend_kept ..) ?_
  refine hi _ _ _ (hrun _ _ _ fun _ => execBlkCntClr_kept ..) ?_
  refine hi _ _ _ ((hrun _ _ _ fun _ => execTileCntClrBank_kept ..).trans ((hrun _ _ _ fun _ => execTileCntClrPf_kept ..).trans ((hrun _ _ _ fun _ => execTileCntClrVu_kept ..).trans (hrun _ _ _ fun _ => execTileCntClrProof_kept ..)))) ?_
  rfl

@[simp] theorem State.writeReg_kept (s : State) (who : Requester) (k : Nat) (v : Nat) (up : Bool) (ext : List ExtData) (ups : List Upset) : kept (State.writeReg s who k v up ext ups).2.2 = kept s := by
  have hi : ∀ (c : Prop) [Decidable c] (x y : Status × Nat × State), kept x.2.2 = kept s → kept y.2.2 = kept s → kept (if c then x else y).2.2 = kept s := by
    intro c _ x y hx hy
    split
    · exact hx
    · exact hy
  have hst : ∀ (c : BitVec 32) (tag b off : Nat) (fr : Bool), kept (match s.regStore k c tag fr with | (t, act) => ((.ok, 0, t.regActs who b off act v ext) : Status × Nat × State)).2.2 = kept s := fun c tag b off fr => by
    have := regStore_kept s k c tag fr
    revert this
    generalize s.regStore k c tag fr = p
    obtain ⟨t, act⟩ := p
    exact fun this => (regActs_kept ..).trans this
  rw [writeReg.eq_1]
  refine hi _ _ _ ?_ (hi _ _ _ (writeMover_kept ..) (hi _ _ _ (gskCtlWrite_kept ..) (hi _ _ _ ?_ (hi _ _ _ (answered_kept _ _ (execUartBaudWrite_kept ..))
    (hi _ _ _ (answered_kept _ _ (execUartCfgWrite_kept ..)) (hi _ _ _ (answered_kept _ _ (execUartDataWrite_kept ..)) (hi _ _ _ ?_ (hi _ _ _ rfl (hst ..)))))))))
  · exact hi _ _ _ (writeQPage_kept ..) (writeQblk_kept ..)
  · exact hi _ _ _ (answered_kept _ _ (execDiscClear_kept ..)) rfl
  · exact inStates_kept _ _ _ _ _ _ fun u => mboxInWord_kept ..

@[simp] theorem State.regWrite_kept (s : State) (who : Requester) (k : Nat) (v : Nat) (aligned : Bool) (up : Bool) (ext : List ExtData) (ups : List Upset) : kept (State.regWrite s who k v aligned up ext ups) = kept s := by
  unfold regWrite
  split
  · rename_i heq; exact (respond_kept ..).trans (regGate_kept heq)
  · have h := writeReg_kept s who (k / 4 * 4) v up ext ups
    split
    rename_i heq; rw [heq] at h
    exact (respond_kept ..).trans h

@[simp] theorem State.regReadBy_kept (s : State) (who : Requester) (k : Nat) (aligned : Bool) : kept (State.regReadBy s who k aligned) = kept s := by
  unfold regReadBy
  split
  · rename_i heq; exact (respond_kept ..).trans (regGate_kept heq)
  · have h := regRead_kept s k
    split
    rename_i heq; rw [heq] at h
    exact (respond_kept ..).trans h

@[simp] theorem State.regsLand_kept (s : State) : kept (State.regsLand s) = kept s := by
  unfold State.regsLand
  try dsimp only
  all_goals repeat' first
    | (with_reducible rfl)
    | (simp only [outKept_next, kept_mk, kept_fold, ite_snd, ite_fst, kept_ite, outKept_ite, ite_self, foldl_kept, foldl_kept2, foldl_kept22, foldl_kept222, implies_true, State.draw_kept, State.regWrite_kept]; done)
    | split
    | (refine (foldl_kept _ _ _ ?_).trans ?_ <;> intros)
    | (refine (foldl_kept2 _ _ _ ?_).trans ?_ <;> intros)
    | (refine (foldl_kept22 _ _ _ ?_).trans ?_ <;> intros)
    | (refine (foldl_kept222 _ _ _ ?_).trans ?_ <;> intros)
    | (simp only [outKept_next, kept_mk, kept_fold, ite_snd, ite_fst, kept_ite, outKept_ite, ite_self, foldl_kept, foldl_kept2, foldl_kept22, foldl_kept222, implies_true, State.draw_kept, State.regWrite_kept])
    | (refine of_pair (by assumption) ?_)
    | (refine of_trip (by assumption) ?_)

@[simp] theorem State.regCmdW_kept (s : State) (who : Requester) (k : Nat) (v : Nat) : kept (State.regCmdW s who k v) = kept s := by simp [State.regCmdW]

@[simp] theorem execRegisterWrite_kept (who : Requester) (key : Nat) (v : Nat) (aligned : Bool) (macUp : Bool) (ext : List ExtData) (upsets : List Upset) (s : State) : outKept (execRegisterWrite who key v aligned macUp ext upsets s) = kept s := by simp [execRegisterWrite]

@[simp] theorem execSysSeal_kept (who : Requester) (s : State) : outKept (execSysSeal who s) = kept s := by simp [execSysSeal]

@[simp] theorem execQueueDoorbell_kept (who : Requester) (e : Nat) (q : Nat) (tail : Nat) (s : State) : outKept (execQueueDoorbell who e q tail s) = kept s := by simp [execQueueDoorbell]

@[simp] theorem execQueueResume_kept (who : Requester) (e : Nat) (q : Nat) (s : State) : outKept (execQueueResume who e q s) = kept s := by simp [execQueueResume]

@[simp] theorem execQueueEnable_kept (who : Requester) (e : Nat) (q : Nat) (cfg : Nat) (s : State) : outKept (execQueueEnable who e q cfg s) = kept s := by simp [execQueueEnable]

@[simp] theorem execQueueDisable_kept (who : Requester) (e : Nat) (q : Nat) (cfg : Nat) (s : State) : outKept (execQueueDisable who e q cfg s) = kept s := by simp [execQueueDisable]

@[simp] theorem execCompletionAck_kept (who : Requester) (e : Nat) (q : Nat) (chead : Nat) (s : State) : outKept (execCompletionAck who e q chead s) = kept s := by simp [execCompletionAck]

@[simp] theorem execWeavePeakClr_kept (who : Requester) (s : State) : outKept (execWeavePeakClr who s) = kept s := by simp [execWeavePeakClr]

@[simp] theorem execGskDenyClr_kept (who : Requester) (mask : Nat) (s : State) : outKept (execGskDenyClr who mask s) = kept s := by simp [execGskDenyClr]

@[simp] theorem execSbMboxOutAck_kept (who : Requester) (s : State) : outKept (execSbMboxOutAck who s) = kept s := by simp [execSbMboxOutAck]

@[simp] theorem execSbMboxInPost_kept (who : Requester) (s : State) : outKept (execSbMboxInPost who s) = kept s := by simp [execSbMboxInPost]

@[simp] theorem execSbCntClr_kept (who : Requester) (s : State) : outKept (execSbCntClr who s) = kept s := by simp [execSbCntClr]

@[simp] theorem State.sbFlag_kept (s : State) (i : Nat) : kept (State.sbFlag s i) = kept s := by simp [State.sbFlag]

@[simp] theorem State.sbDiscard_kept (s : State) (c : Bool) : kept (State.sbDiscard s c) = kept s := by simp [State.sbDiscard]

@[simp] theorem State.sbReadByte_kept (s : State) (a : Nat) (first : Bool) : kept (State.sbReadByte s a first).2 = kept s := by
  unfold State.sbReadByte
  (repeat' split) <;> simp

@[simp] theorem State.sbRead_kept (s : State) (large : Bool) (first : Bool) (a3 : Nat) : kept (State.sbRead s large first a3).2 = kept s := by
  induction a3 generalizing s first with
  | zero => rfl
  | succ n ih =>
    have h := sbReadByte_kept s (if large = true then 0x10000 + s.sb.lPtr else s.sb.sPtr) first
    rw [sbRead.eq_2]
    exact (ih _ false).trans h

@[simp] theorem State.sbAnswer_kept (s : State) (c : Nat) (st : Status) (guard : Nat) : kept (State.sbAnswer s c st guard) = kept s := by simp [State.sbAnswer]

@[simp] theorem State.sbTake_kept (s : State) (c : Nat) (arg : Nat) : kept (State.sbTake s c arg) = kept s := by simp [State.sbTake]

@[simp] theorem State.sbInAck_kept (s : State) : kept (State.sbInAck s) = kept s := by simp [State.sbInAck]

@[simp] theorem State.sbSetMode_kept (s : State) (v : Nat) : kept (State.sbSetMode s v) = kept s := by simp [State.sbSetMode]

@[simp] theorem State.sbPutS_kept (s : State) (a : Nat) (v : Nat) : kept (State.sbPutS s a v) = kept s := by
  unfold State.sbPutS
  (repeat' split) <;> simp

@[simp] theorem State.sbWriteS_kept (s : State) (ptr : Nat) (data : List Byte) : kept (State.sbWriteS s ptr data) = kept s := by
  unfold State.sbWriteS
  try dsimp only
  all_goals repeat' first
    | (with_reducible rfl)
    | (simp only [outKept_next, kept_mk, kept_fold, ite_snd, ite_fst, kept_ite, outKept_ite, ite_self, foldl_kept, foldl_kept2, foldl_kept22, foldl_kept222, implies_true, State.sbPutS_kept, State.sbTake_kept, State.sbFlag_kept]; done)
    | split
    | (refine (foldl_kept _ _ _ ?_).trans ?_ <;> intros)
    | (refine (foldl_kept2 _ _ _ ?_).trans ?_ <;> intros)
    | (refine (foldl_kept22 _ _ _ ?_).trans ?_ <;> intros)
    | (refine (foldl_kept222 _ _ _ ?_).trans ?_ <;> intros)
    | (simp only [outKept_next, kept_mk, kept_fold, ite_snd, ite_fst, kept_ite, outKept_ite, ite_self, foldl_kept, foldl_kept2, foldl_kept22, foldl_kept222, implies_true, State.sbPutS_kept, State.sbTake_kept, State.sbFlag_kept])
    | (refine of_pair (by assumption) ?_)
    | (refine of_trip (by assumption) ?_)

@[simp] theorem State.sbPutL_kept (s : State) (a : Nat) (v : Byte) : kept (State.sbPutL s a v).1 = kept s := by simp [State.sbPutL]

@[simp] theorem State.sbLDone_kept (page : Nat) (none_ : Bool) (x : State × Bool) : kept (State.sbLDone page none_ x) = kept x.1 := by simp [State.sbLDone]

@[simp] theorem State.sbWriteL_kept (s : State) (ptr : Nat) (data : List Byte) : kept (State.sbWriteL s ptr data) = kept s := by
  rw [sbWriteL.eq_1]
  exact (sbLDone_kept ..).trans (foldl_kept_of (fun x : State × Bool => x.1) _ _ _ fun t a => sbPutL_kept ..)

@[simp] theorem State.sbWrite_kept (s : State) (large : Bool) (bytes : List Byte) (stop : Bool) : kept (State.sbWrite s large bytes stop) = kept s := by
  unfold State.sbWrite
  (repeat' split) <;> simp

@[simp] theorem State.notifyFails_kept (s : State) : kept (State.notifyFails s) = kept s := by simp [State.notifyFails]

@[simp] theorem execSbAddressMatch_kept (busy : Bool) (s : State) : outKept (execSbAddressMatch busy s) = kept s := by simp [execSbAddressMatch]

@[simp] theorem execSbWriteTransfer_kept (large : Bool) (bytes : List Byte) (stop : Bool) (s : State) : outKept (execSbWriteTransfer large bytes stop s) = kept s := by simp [execSbWriteTransfer]

@[simp] theorem execSbReadTransfer_kept (large : Bool) (n : Nat) (s : State) : outKept (execSbReadTransfer large n s) = kept s := by simp [execSbReadTransfer]

@[simp] theorem execSbWake_kept (s : State) : outKept (execSbWake s) = kept s := by simp [execSbWake]

@[simp] theorem execSbNonce_kept (s : State) : outKept (execSbNonce s) = kept s := by simp [execSbNonce]

@[simp] theorem execSbReset_kept (s : State) : outKept (execSbReset s) = kept s := by simp [execSbReset]

@[simp] theorem execSbMboxInAck_kept (s : State) : outKept (execSbMboxInAck s) = kept s := by simp [execSbMboxInAck]

@[simp] theorem execSbMode_kept (v : Nat) (s : State) : outKept (execSbMode v s) = kept s := by simp [execSbMode]

@[simp] theorem execNotifyAttempt_kept (ok : Bool) (s : State) : outKept (execNotifyAttempt ok s) = kept s := by simp [execNotifyAttempt]

@[simp] theorem execSclLowTimeout_kept (attempt : Bool) (s : State) : outKept (execSclLowTimeout attempt s) = kept s := by simp [execSclLowTimeout]

@[simp] theorem State.track_kept (s : State) (who : Requester) (dst : Nat) (st : Status) (d : List Byte) (read : Bool) : kept (State.track s who dst st d read) = kept s := by simp [State.track]

@[simp] theorem State.pcieIssue_kept (s : State) (who : Requester) (a : Nat) (write : Bool) : kept (State.pcieIssue s who a write) = kept s := by
  unfold State.pcieIssue
  (repeat' split) <;> simp

@[simp] theorem State.loomIssue_kept (s : State) (who : Requester) (addr : Nat) (opc : Nat) (size : Nat) (top : Nat) (d : List Byte) : kept (State.loomIssue s who addr opc size top d) = kept s := by simp [State.loomIssue]

theorem State.request_kept (s : State) (who : Requester) (op : WOp) (addr : Nat) (len : Nat) (ups : List Upset) (loom : State → State) (f : State → Status × List Byte × State) (h_loom : ∀ y0, kept (loom y0) = kept y0) (h_f : ∀ y0, kept (f y0).2.2 = kept y0) : kept (State.request s who op addr len ups loom f) = kept s := by
  simp only [State.request]
  (repeat' split) <;> simp [h_loom, h_f]

@[simp] theorem State.readAt_kept (s : State) (who : Requester) (addr : Nat) (len : Nat) (ext : List ExtData) (ups : List Upset) : kept (State.readAt s who addr len ext ups).2.2 = kept s := by simp [State.readAt]

@[simp] theorem State.writeAt_kept (s : State) (who : Requester) (addr : Nat) (d : List Byte) (poison : Bool) (up : Bool) (ext : List ExtData) (ups : List Upset) : kept (State.writeAt s who addr d poison up ext ups).2 = kept s := by simp [State.writeAt]

@[simp] theorem State.atomicAt_kept (s : State) (who : Requester) (a : Nat) (size : Nat) (op : AtomicOp) (x : Nat) (y : Nat) (ups : List Upset) : kept (State.atomicAt s who a size op x y ups).2.2 = kept s := by
  simp only [State.atomicAt]
  (repeat' split) <;> simp

@[simp] theorem State.leaseAt_kept (s : State) (who : Requester) (op : State.LeaseOp) (a : Nat) (gen : Nat) (ups : List Upset) : kept (State.leaseAt s who op a gen ups).2.2 = kept s := by
  simp only [State.leaseAt]
  (repeat' split) <;> simp

@[simp] theorem State.leaseReq_kept (s : State) (who : Requester) (op : State.LeaseOp) (addr : Nat) (gen : Nat) (ups : List Upset) : kept (State.leaseReq s who op addr gen ups) = kept s := by simp [State.leaseReq, State.request_kept]

@[simp] theorem execWeaveRead_kept (who : Requester) (addr : Nat) (len : Nat) (ext : List ExtData) (upsets : List Upset) (s : State) : outKept (execWeaveRead who addr len ext upsets s) = kept s := by simp [execWeaveRead, State.request_kept]

@[simp] theorem execWeaveWrite_kept (who : Requester) (addr : Nat) (data : List Byte) (poison : Bool) (macUp : Bool) (ext : List ExtData) (upsets : List Upset) (s : State) : outKept (execWeaveWrite who addr data poison macUp ext upsets s) = kept s := by simp [execWeaveWrite, State.request_kept]

@[simp] theorem execWeaveAtomic_kept (who : Requester) (addr : Nat) (size : Nat) (op : AtomicOp) (x : Nat) (y : Nat) (upsets : List Upset) (s : State) : outKept (execWeaveAtomic who addr size op x y upsets s) = kept s := by simp [execWeaveAtomic, State.request_kept]

@[simp] theorem execWeaveResponse_kept (id : Nat) (parity : Option Nat) (s : State) : outKept (execWeaveResponse id parity s) = kept s := by
  unfold execWeaveResponse
  (repeat' split) <;> simp

@[simp] theorem execLeaseAcquire_kept (who : Requester) (addr : Nat) (upsets : List Upset) (s : State) : outKept (execLeaseAcquire who addr upsets s) = kept s := by simp [execLeaseAcquire]

@[simp] theorem execLeaseRenew_kept (who : Requester) (addr : Nat) (gen : Nat) (upsets : List Upset) (s : State) : outKept (execLeaseRenew who addr gen upsets s) = kept s := by simp [execLeaseRenew]

@[simp] theorem execLeaseRelease_kept (who : Requester) (addr : Nat) (gen : Nat) (upsets : List Upset) (s : State) : outKept (execLeaseRelease who addr gen upsets s) = kept s := by simp [execLeaseRelease]

@[simp] theorem execWheelSlot_kept (s : State) : outKept (execWheelSlot s) = kept s := by simp [execWheelSlot]

@[simp] theorem execSeizureAckTimeout_kept (k : Keeper) (s : State) : outKept (execSeizureAckTimeout k s) = kept s := by
  simp only [execSeizureAckTimeout]
  (repeat' split) <;> simp

theorem State.denyIn_kept (s : State) (h : LHdr) : kept (State.denyIn s h) = kept s := by
  unfold State.denyIn
  try dsimp only
  all_goals repeat' first
    | (with_reducible rfl)
    | (simp only [outKept_next, kept_mk, kept_fold, ite_snd, ite_fst, kept_ite, outKept_ite, ite_self, foldl_kept, foldl_kept2, foldl_kept22, foldl_kept222, implies_true, State.answer_kept, State.bump_kept]; done)
    | split
    | (refine (foldl_kept _ _ _ ?_).trans ?_ <;> intros)
    | (refine (foldl_kept2 _ _ _ ?_).trans ?_ <;> intros)
    | (refine (foldl_kept22 _ _ _ ?_).trans ?_ <;> intros)
    | (refine (foldl_kept222 _ _ _ ?_).trans ?_ <;> intros)
    | (simp only [outKept_next, kept_mk, kept_fold, ite_snd, ite_fst, kept_ite, outKept_ite, ite_self, foldl_kept, foldl_kept2, foldl_kept22, foldl_kept222, implies_true, State.answer_kept, State.bump_kept])
    | (refine of_pair (by assumption) ?_)
    | (refine of_trip (by assumption) ?_)

theorem State.passing_kept (s : State) (via : Nat) (h : LHdr) (len : Nat) (bit : Nat) (f : State → Requester → Nat → Status × List Byte × State) (h_f : ∀ y0 y1 y2, kept (f y0 y1 y2).2.2 = kept y0) : kept (State.passing s via h len bit f) = kept s := by
  unfold State.passing
  try dsimp only
  all_goals repeat' first
    | (with_reducible rfl)
    | (simp only [outKept_next, kept_mk, kept_fold, ite_snd, ite_fst, kept_ite, outKept_ite, ite_self, foldl_kept, foldl_kept2, foldl_kept22, foldl_kept222, implies_true, h_f, State.answer_kept, State.denyIn_kept, State.commonsTick_kept]; done)
    | split
    | (refine (foldl_kept _ _ _ ?_).trans ?_ <;> intros)
    | (refine (foldl_kept2 _ _ _ ?_).trans ?_ <;> intros)
    | (refine (foldl_kept22 _ _ _ ?_).trans ?_ <;> intros)
    | (refine (foldl_kept222 _ _ _ ?_).trans ?_ <;> intros)
    | (simp only [outKept_next, kept_mk, kept_fold, ite_snd, ite_fst, kept_ite, outKept_ite, ite_self, foldl_kept, foldl_kept2, foldl_kept22, foldl_kept222, implies_true, h_f, State.answer_kept, State.denyIn_kept, State.commonsTick_kept])
    | (refine of_pair (by assumption) ?_)
    | (refine of_trip (by assumption) ?_)

theorem State.mboxTake_kept (s : State) (via : Nat) (h : LHdr) (msg : List Byte) (ups : List Upset) : kept (State.mboxTake s via h msg ups) = kept s := by
  rw [mboxTake.eq_1]
  try extract_lets
  split
  · exact answer_kept ..
  · split
    · exact answer_kept ..
    · try extract_lets
      split
      rename_i heq
      have h1 := of_pair heq (writeRun_kept ..)
      split
      · exact (answer_kept ..).trans h1
      · split
        rename_i heq
        have h2 := (of_pair heq (writeRun_kept ..)).trans h1
        split
        · exact (answer_kept ..).trans h2
        · exact (answer_kept ..).trans ((setReg_kept ..).trans h2)

@[simp] theorem State.putRlease_kept (s : State) (l : RLease) : kept (State.putRlease s l) = kept s := by simp [State.putRlease]

theorem State.rleaseAcquire_kept (s : State) (h : LHdr) (base : Nat) (size : Nat) (ms : Nat) : kept (State.rleaseAcquire s h base size ms) = kept s := by
  unfold State.rleaseAcquire
  try dsimp only
  all_goals repeat' first
    | (with_reducible rfl)
    | (simp only [outKept_next, kept_mk, kept_fold, ite_snd, ite_fst, kept_ite, outKept_ite, ite_self, foldl_kept, foldl_kept2, foldl_kept22, foldl_kept222, implies_true, State.denyIn_kept, State.answer_kept, State.putRlease_kept]; done)
    | split
    | (refine (foldl_kept _ _ _ ?_).trans ?_ <;> intros)
    | (refine (foldl_kept2 _ _ _ ?_).trans ?_ <;> intros)
    | (refine (foldl_kept22 _ _ _ ?_).trans ?_ <;> intros)
    | (refine (foldl_kept222 _ _ _ ?_).trans ?_ <;> intros)
    | (simp only [outKept_next, kept_mk, kept_fold, ite_snd, ite_fst, kept_ite, outKept_ite, ite_self, foldl_kept, foldl_kept2, foldl_kept22, foldl_kept222, implies_true, State.denyIn_kept, State.answer_kept, State.putRlease_kept])
    | (refine of_pair (by assumption) ?_)
    | (refine of_trip (by assumption) ?_)

theorem State.rleaseMatch_kept (s : State) (h : LHdr) (base : Nat) (size : Nat) (gen : Nat) (ms : Nat) (release : Bool) : kept (State.rleaseMatch s h base size gen ms release) = kept s := by
  unfold State.rleaseMatch
  try dsimp only
  all_goals repeat' first
    | (with_reducible rfl)
    | (simp only [outKept_next, kept_mk, kept_fold, ite_snd, ite_fst, kept_ite, outKept_ite, ite_self, foldl_kept, foldl_kept2, foldl_kept22, foldl_kept222, implies_true, State.answer_kept, State.putRlease_kept]; done)
    | split
    | (refine (foldl_kept _ _ _ ?_).trans ?_ <;> intros)
    | (refine (foldl_kept2 _ _ _ ?_).trans ?_ <;> intros)
    | (refine (foldl_kept22 _ _ _ ?_).trans ?_ <;> intros)
    | (refine (foldl_kept222 _ _ _ ?_).trans ?_ <;> intros)
    | (simp only [outKept_next, kept_mk, kept_fold, ite_snd, ite_fst, kept_ite, outKept_ite, ite_self, foldl_kept, foldl_kept2, foldl_kept22, foldl_kept222, implies_true, State.answer_kept, State.putRlease_kept])
    | (refine of_pair (by assumption) ?_)
    | (refine of_trip (by assumption) ?_)

@[simp] theorem execLoomRead_kept (via : Nat) (ext : List ExtData) (upsets : List Upset) (s : State) : outKept (execLoomRead via ext upsets s) = kept s := by simp [execLoomRead, State.inbound_kept, State.passing_kept]

@[simp] theorem execLoomWrite_kept (via : Nat) (macUp : Bool) (ext : List ExtData) (upsets : List Upset) (s : State) : outKept (execLoomWrite via macUp ext upsets s) = kept s := by simp [execLoomWrite, State.inbound_kept, State.passing_kept]

@[simp] theorem execLoomAtomic_kept (via : Nat) (upsets : List Upset) (s : State) : outKept (execLoomAtomic via upsets s) = kept s := by
  unfold execLoomAtomic
  try dsimp only
  all_goals repeat' first
    | (with_reducible rfl)
    | (simp only [outKept_next, kept_mk, kept_fold, ite_snd, ite_fst, kept_ite, outKept_ite, ite_self, foldl_kept, foldl_kept2, foldl_kept22, foldl_kept222, implies_true, State.inbound_kept, State.passing_kept, State.atomicAt_kept]; done)
    | split
    | (refine (foldl_kept _ _ _ ?_).trans ?_ <;> intros)
    | (refine (foldl_kept2 _ _ _ ?_).trans ?_ <;> intros)
    | (refine (foldl_kept22 _ _ _ ?_).trans ?_ <;> intros)
    | (refine (foldl_kept222 _ _ _ ?_).trans ?_ <;> intros)
    | (refine (State.inbound_kept _ _ _ _ _ ?_).trans ?_ <;> intros)
    | (refine (State.passing_kept _ _ _ _ _ _ ?_).trans ?_ <;> intros)
    | (simp only [outKept_next, kept_mk, kept_fold, ite_snd, ite_fst, kept_ite, outKept_ite, ite_self, foldl_kept, foldl_kept2, foldl_kept22, foldl_kept222, implies_true, State.inbound_kept, State.passing_kept, State.atomicAt_kept])
    | (refine of_pair (by assumption) ?_)
    | (refine of_trip (by assumption) ?_)

@[simp] theorem execLoomMsg_kept (via : Nat) (upsets : List Upset) (s : State) : outKept (execLoomMsg via upsets s) = kept s := by
  unfold execLoomMsg
  try dsimp only
  all_goals repeat' first
    | (with_reducible rfl)
    | (simp only [outKept_next, kept_mk, kept_fold, ite_snd, ite_fst, kept_ite, outKept_ite, ite_self, foldl_kept, foldl_kept2, foldl_kept22, foldl_kept222, implies_true, State.inbound_kept, State.mboxTake_kept]; done)
    | split
    | (refine (foldl_kept _ _ _ ?_).trans ?_ <;> intros)
    | (refine (foldl_kept2 _ _ _ ?_).trans ?_ <;> intros)
    | (refine (foldl_kept22 _ _ _ ?_).trans ?_ <;> intros)
    | (refine (foldl_kept222 _ _ _ ?_).trans ?_ <;> intros)
    | (refine (State.inbound_kept _ _ _ _ _ ?_).trans ?_ <;> intros)
    | (simp only [outKept_next, kept_mk, kept_fold, ite_snd, ite_fst, kept_ite, outKept_ite, ite_self, foldl_kept, foldl_kept2, foldl_kept22, foldl_kept222, implies_true, State.inbound_kept, State.mboxTake_kept])
    | (refine of_pair (by assumption) ?_)
    | (refine of_trip (by assumption) ?_)

@[simp] theorem execLoomRlease_kept (via : Nat) (s : State) : outKept (execLoomRlease via s) = kept s := by
  unfold execLoomRlease
  try dsimp only
  all_goals repeat' first
    | (with_reducible rfl)
    | (simp only [outKept_next, kept_mk, kept_fold, ite_snd, ite_fst, kept_ite, outKept_ite, ite_self, foldl_kept, foldl_kept2, foldl_kept22, foldl_kept222, implies_true, State.inbound_kept, State.endRemote_kept, State.rleaseAcquire_kept, State.rleaseMatch_kept, State.answer_kept]; done)
    | split
    | (refine (foldl_kept _ _ _ ?_).trans ?_ <;> intros)
    | (refine (foldl_kept2 _ _ _ ?_).trans ?_ <;> intros)
    | (refine (foldl_kept22 _ _ _ ?_).trans ?_ <;> intros)
    | (refine (foldl_kept222 _ _ _ ?_).trans ?_ <;> intros)
    | (refine (State.inbound_kept _ _ _ _ _ ?_).trans ?_ <;> intros)
    | (simp only [outKept_next, kept_mk, kept_fold, ite_snd, ite_fst, kept_ite, outKept_ite, ite_self, foldl_kept, foldl_kept2, foldl_kept22, foldl_kept222, implies_true, State.inbound_kept, State.endRemote_kept, State.rleaseAcquire_kept, State.rleaseMatch_kept, State.answer_kept])
    | (refine of_pair (by assumption) ?_)
    | (refine of_trip (by assumption) ?_)

@[simp] theorem State.cplIs_kept (s : State) (c : Option PcieCpl) (d : List Byte) : kept (State.cplIs s c d) = kept s := by simp [State.cplIs]

@[simp] theorem State.inUr_kept (s : State) : kept (State.inUr s) = kept s := by simp [State.inUr]

@[simp] theorem State.inEnds_kept (s : State) (posted : Bool) (st : Status) (d : List Byte) : kept (State.inEnds s posted st d) = kept s := by
  simp only [State.inEnds]
  (repeat' split) <;> simp

@[simp] theorem State.bar4Write_kept (s : State) (off : Nat) (d : List Byte) : kept (State.bar4Write s off d) = kept s := by
  unfold State.bar4Write
  try dsimp only
  all_goals repeat' first
    | (with_reducible rfl)
    | (simp only [outKept_next, kept_mk, kept_fold, ite_snd, ite_fst, kept_ite, outKept_ite, ite_self, foldl_kept, foldl_kept2, foldl_kept22, foldl_kept222, implies_true]; done)
    | split
    | (refine (foldl_kept _ _ _ ?_).trans ?_ <;> intros)
    | (refine (foldl_kept2 _ _ _ ?_).trans ?_ <;> intros)
    | (refine (foldl_kept22 _ _ _ ?_).trans ?_ <;> intros)
    | (refine (foldl_kept222 _ _ _ ?_).trans ?_ <;> intros)
    | (simp only [outKept_next, kept_mk, kept_fold, ite_snd, ite_fst, kept_ite, outKept_ite, ite_self, foldl_kept, foldl_kept2, foldl_kept22, foldl_kept222, implies_true])
    | (refine of_pair (by assumption) ?_)
    | (refine of_trip (by assumption) ?_)

@[simp] theorem State.bootPage_kept (s : State) (k : Nat) (w : Option Nat) (ext : List ExtData) : kept (State.bootPage s k w ext) = kept s := by
  simp only [State.bootPage]
  (repeat' split) <;> simp

@[simp] theorem State.inRead_kept (x : Status × List Byte × State) : kept (State.inRead x) = kept x.2.2 := by simp [State.inRead]

@[simp] theorem State.inWrite_kept (x : Status × State) : kept (State.inWrite x) = kept x.2 := by simp [State.inWrite]

@[simp] theorem State.inForward_kept (s : State) (e : Nat) (a : Nat) (len : Nat) (w : Option (List Byte × Bool)) (up : Bool) (ext : List ExtData) (ups : List Upset) : kept (State.inForward s e a len w up ext ups) = kept s := by
  unfold State.inForward
  (repeat' split) <;> simp

@[simp] theorem State.inMem_kept (s : State) (bar : Nat) (off : Nat) (len : Nat) (w : Option (List Byte × Bool)) (up : Bool) (ext : List ExtData) (ups : List Upset) : kept (State.inMem s bar off len w up ext ups) = kept s := by
  unfold State.inMem
  (repeat' split) <;> simp

@[simp] theorem State.configDword_kept (s : State) (dw : Nat) : kept (State.configDword s dw).2 = kept s := by simp [State.configDword]

@[simp] theorem State.configRead_kept (s : State) (dw : Nat) : kept (State.configRead s dw) = kept s := by simp [State.configRead]

@[simp] theorem State.sendPending_kept (s : State) (v : Nat) : kept (State.sendPending s v) = kept s := by simp [State.sendPending]

@[simp] theorem State.nvmeDrop_kept (s : State) (id : Nat) : kept (State.nvmeDrop s id) = kept s := by simp [State.nvmeDrop]

@[simp] theorem State.nvmeOrphan_kept (s : State) (id : Nat) : kept (State.nvmeOrphan s id) = kept s := by simp [State.nvmeOrphan]

@[simp] theorem State.nvmeData_kept (s : State) (q : NvmeReq) (d : List Byte) (ext : List ExtData) (ups : List Upset) : kept (State.nvmeData s q d ext ups) = kept s := by
  unfold State.nvmeData
  try dsimp only
  all_goals repeat' first
    | (with_reducible rfl)
    | (simp only [outKept_next, kept_mk, kept_fold, ite_snd, ite_fst, kept_ite, outKept_ite, ite_self, foldl_kept, foldl_kept2, foldl_kept22, foldl_kept222, implies_true, State.loadHeader_kept, State.loadPart_kept, State.nvmeIssue_kept]; done)
    | split
    | (refine (foldl_kept _ _ _ ?_).trans ?_ <;> intros)
    | (refine (foldl_kept2 _ _ _ ?_).trans ?_ <;> intros)
    | (refine (foldl_kept22 _ _ _ ?_).trans ?_ <;> intros)
    | (refine (foldl_kept222 _ _ _ ?_).trans ?_ <;> intros)
    | (simp only [outKept_next, kept_mk, kept_fold, ite_snd, ite_fst, kept_ite, outKept_ite, ite_self, foldl_kept, foldl_kept2, foldl_kept22, foldl_kept222, implies_true, State.loadHeader_kept, State.loadPart_kept, State.nvmeIssue_kept])
    | (refine of_pair (by assumption) ?_)
    | (refine of_trip (by assumption) ?_)

@[simp] theorem execPcieInboundRequest_kept (t : PcieTlp) (macUp : Bool) (ext : List ExtData) (upsets : List Upset) (s : State) : outKept (execPcieInboundRequest t macUp ext upsets s) = kept s := by
  unfold execPcieInboundRequest
  (repeat' split) <;> simp

@[simp] theorem execPcieCompletion_kept (id : Nat) (c : PcieCpl) (data : List Byte) (s : State) : outKept (execPcieCompletion id c data s) = kept s := by
  unfold execPcieCompletion
  (repeat' split) <;> simp

@[simp] theorem execPcieOutboundTimeout_kept (id : Nat) (s : State) : outKept (execPcieOutboundTimeout id s) = kept s := by
  unfold execPcieOutboundTimeout
  (repeat' split) <;> simp

@[simp] theorem execMsixUnmask_kept (v : Nat) (s : State) : outKept (execMsixUnmask v s) = kept s := by simp [execMsixUnmask]

@[simp] theorem execNvmeCompletion_kept (id : Nat) (media : Bool) (data : List Byte) (ext : List ExtData) (upsets : List Upset) (s : State) : outKept (execNvmeCompletion id media data ext upsets s) = kept s := by
  unfold execNvmeCompletion
  (repeat' split) <;> simp

@[simp] theorem execNvmeTimeout_kept (id : Nat) (s : State) : outKept (execNvmeTimeout id s) = kept s := by
  unfold execNvmeTimeout
  (repeat' split) <;> simp

@[simp] theorem execNvmeFatal_kept (s : State) : outKept (execNvmeFatal s) = kept s := by
  unfold execNvmeFatal
  try dsimp only
  all_goals repeat' first
    | (with_reducible rfl)
    | (simp only [outKept_next, kept_mk, kept_fold, ite_snd, ite_fst, kept_ite, outKept_ite, ite_self, foldl_kept, foldl_kept2, foldl_kept22, foldl_kept222, implies_true, State.loadFail_kept, State.nvmeDrop_kept]; done)
    | split
    | (refine (foldl_kept _ _ _ ?_).trans ?_ <;> intros)
    | (refine (foldl_kept2 _ _ _ ?_).trans ?_ <;> intros)
    | (refine (foldl_kept22 _ _ _ ?_).trans ?_ <;> intros)
    | (refine (foldl_kept222 _ _ _ ?_).trans ?_ <;> intros)
    | (simp only [outKept_next, kept_mk, kept_fold, ite_snd, ite_fst, kept_ite, outKept_ite, ite_self, foldl_kept, foldl_kept2, foldl_kept22, foldl_kept222, implies_true, State.loadFail_kept, State.nvmeDrop_kept])
    | (refine of_pair (by assumption) ?_)
    | (refine of_trip (by assumption) ?_)

@[simp] theorem State.dbgWrite_kept (x : Status × State) : kept (State.dbgWrite x) = kept x.2 := by simp [State.dbgWrite]

@[simp] theorem State.dbgRead_kept (x : Status × List Byte × State) : kept (State.dbgRead x) = kept x.2.2 := by simp [State.dbgRead]

@[simp] theorem execDebugPortAccess_kept (addr : Nat) (len : Nat) (data : Option (List Byte)) (macUp : Bool) (ext : List ExtData) (upsets : List Upset) (s : State) : outKept (execDebugPortAccess addr len data macUp ext upsets s) = kept s := by
  unfold execDebugPortAccess
  (repeat' split) <;> simp

@[simp] theorem State.admitFail_kept (s : State) (r : EntryRef) (st : Status) : kept (State.admitFail s r st) = kept s := by
  unfold State.admitFail
  try dsimp only
  all_goals repeat' first
    | (with_reducible rfl)
    | (simp only [outKept_next, kept_mk, kept_fold, ite_snd, ite_fst, kept_ite, outKept_ite, ite_self, foldl_kept, foldl_kept2, foldl_kept22, foldl_kept222, implies_true, State.endEntry_kept]; done)
    | split
    | (refine (foldl_kept _ _ _ ?_).trans ?_ <;> intros)
    | (refine (foldl_kept2 _ _ _ ?_).trans ?_ <;> intros)
    | (refine (foldl_kept22 _ _ _ ?_).trans ?_ <;> intros)
    | (refine (foldl_kept222 _ _ _ ?_).trans ?_ <;> intros)
    | (simp only [outKept_next, kept_mk, kept_fold, ite_snd, ite_fst, kept_ite, outKept_ite, ite_self, foldl_kept, foldl_kept2, foldl_kept22, foldl_kept222, implies_true, State.endEntry_kept])
    | (refine of_pair (by assumption) ?_)
    | (refine of_trip (by assumption) ?_)

@[simp] theorem State.checkEntry_kept (s : State) (r : EntryRef) : kept (State.checkEntry s r) = kept s := by
  unfold State.checkEntry
  try dsimp only
  all_goals repeat' first
    | (with_reducible rfl)
    | (simp only [outKept_next, kept_mk, kept_fold, ite_snd, ite_fst, kept_ite, outKept_ite, ite_self, foldl_kept, foldl_kept2, foldl_kept22, foldl_kept222, implies_true, State.admitFail_kept, State.refuse_kept]; done)
    | split
    | (refine (foldl_kept _ _ _ ?_).trans ?_ <;> intros)
    | (refine (foldl_kept2 _ _ _ ?_).trans ?_ <;> intros)
    | (refine (foldl_kept22 _ _ _ ?_).trans ?_ <;> intros)
    | (refine (foldl_kept222 _ _ _ ?_).trans ?_ <;> intros)
    | (simp only [outKept_next, kept_mk, kept_fold, ite_snd, ite_fst, kept_ite, outKept_ite, ite_self, foldl_kept, foldl_kept2, foldl_kept22, foldl_kept222, implies_true, State.admitFail_kept, State.refuse_kept])
    | (refine of_pair (by assumption) ?_)
    | (refine of_trip (by assumption) ?_)

@[simp] theorem State.turnTaken_kept (s : State) (e : Nat) (q : Nat) : kept (State.turnTaken s e q) = kept s := by
  unfold State.turnTaken
  try dsimp only
  all_goals repeat' first
    | (with_reducible rfl)
    | (simp only [outKept_next, kept_mk, kept_fold, ite_snd, ite_fst, kept_ite, outKept_ite, ite_self, foldl_kept, foldl_kept2, foldl_kept22, foldl_kept222, implies_true]; done)
    | split
    | (refine (foldl_kept _ _ _ ?_).trans ?_ <;> intros)
    | (refine (foldl_kept2 _ _ _ ?_).trans ?_ <;> intros)
    | (refine (foldl_kept22 _ _ _ ?_).trans ?_ <;> intros)
    | (refine (foldl_kept222 _ _ _ ?_).trans ?_ <;> intros)
    | (simp only [outKept_next, kept_mk, kept_fold, ite_snd, ite_fst, kept_ite, outKept_ite, ite_self, foldl_kept, foldl_kept2, foldl_kept22, foldl_kept222, implies_true])
    | (refine of_pair (by assumption) ?_)
    | (refine of_trip (by assumption) ?_)

@[simp] theorem State.entryRead_kept (e : Nat) (q : Nat) (x : Status × List Byte × State) : kept (State.entryRead e q x) = kept x.2.2 := by
  unfold State.entryRead
  try dsimp only
  all_goals repeat' first
    | (with_reducible rfl)
    | (simp only [outKept_next, kept_mk, kept_fold, ite_snd, ite_fst, kept_ite, outKept_ite, ite_self, foldl_kept, foldl_kept2, foldl_kept22, foldl_kept222, implies_true, State.qStop_kept, State.checkEntry_kept, State.takeEntry_kept]; done)
    | split
    | (refine (foldl_kept _ _ _ ?_).trans ?_ <;> intros)
    | (refine (foldl_kept2 _ _ _ ?_).trans ?_ <;> intros)
    | (refine (foldl_kept22 _ _ _ ?_).trans ?_ <;> intros)
    | (refine (foldl_kept222 _ _ _ ?_).trans ?_ <;> intros)
    | (simp only [outKept_next, kept_mk, kept_fold, ite_snd, ite_fst, kept_ite, outKept_ite, ite_self, foldl_kept, foldl_kept2, foldl_kept22, foldl_kept222, implies_true, State.qStop_kept, State.checkEntry_kept, State.takeEntry_kept])
    | (refine of_pair (by assumption) ?_)
    | (refine of_trip (by assumption) ?_)

@[simp] theorem State.entryTake_kept (s : State) (e : Nat) (q : Nat) (ext : List ExtData) (ups : List Upset) : kept (State.entryTake s e q ext ups) = kept s := by
  unfold State.entryTake
  try dsimp only
  all_goals repeat' first
    | (with_reducible rfl)
    | (simp only [outKept_next, kept_mk, kept_fold, ite_snd, ite_fst, kept_ite, outKept_ite, ite_self, foldl_kept, foldl_kept2, foldl_kept22, foldl_kept222, implies_true, State.entryRead_kept, State.readEntry_kept, State.turnTaken_kept]; done)
    | split
    | (refine (foldl_kept _ _ _ ?_).trans ?_ <;> intros)
    | (refine (foldl_kept2 _ _ _ ?_).trans ?_ <;> intros)
    | (refine (foldl_kept22 _ _ _ ?_).trans ?_ <;> intros)
    | (refine (foldl_kept222 _ _ _ ?_).trans ?_ <;> intros)
    | (simp only [outKept_next, kept_mk, kept_fold, ite_snd, ite_fst, kept_ite, outKept_ite, ite_self, foldl_kept, foldl_kept2, foldl_kept22, foldl_kept222, implies_true, State.entryRead_kept, State.readEntry_kept, State.turnTaken_kept])
    | (refine of_pair (by assumption) ?_)
    | (refine of_trip (by assumption) ?_)

@[simp] theorem State.admission_kept (s : State) (y : Entry) (e : Nat) (ext : List ExtData) (ups : List Upset) : kept (State.admission s y e ext ups).2 = kept s := by
  unfold State.admission
  try dsimp only
  all_goals repeat' first
    | (with_reducible rfl)
    | (simp only [outKept_next, kept_mk, kept_fold, ite_snd, ite_fst, kept_ite, outKept_ite, ite_self, foldl_kept, foldl_kept2, foldl_kept22, foldl_kept222, implies_true, State.admitAttn_kept, State.admitIngest_kept, State.admitFusion_kept, State.admitLse_kept, State.admitWgt_kept, State.admitKv_kept]; done)
    | split
    | (refine (foldl_kept _ _ _ ?_).trans ?_ <;> intros)
    | (refine (foldl_kept2 _ _ _ ?_).trans ?_ <;> intros)
    | (refine (foldl_kept22 _ _ _ ?_).trans ?_ <;> intros)
    | (refine (foldl_kept222 _ _ _ ?_).trans ?_ <;> intros)
    | (simp only [outKept_next, kept_mk, kept_fold, ite_snd, ite_fst, kept_ite, outKept_ite, ite_self, foldl_kept, foldl_kept2, foldl_kept22, foldl_kept222, implies_true, State.admitAttn_kept, State.admitIngest_kept, State.admitFusion_kept, State.admitLse_kept, State.admitWgt_kept, State.admitKv_kept])
    | (refine of_pair (by assumption) ?_)
    | (refine of_trip (by assumption) ?_)

@[simp] theorem State.entryStart_kept (s : State) (r : EntryRef) (ext : List ExtData) (ups : List Upset) : kept (State.entryStart s r ext ups) = kept s := by
  unfold State.entryStart
  (repeat' split) <;> simp

@[simp] theorem State.budgetEnd_kept (s : State) (r : EntryRef) (y : Entry) (iters : Nat) (ext : List ExtData) (ups : List Upset) : kept (State.budgetEnd s r y iters ext ups) = kept s := by
  unfold State.budgetEnd
  try dsimp only
  all_goals repeat' first
    | (with_reducible rfl)
    | (simp only [outKept_next, kept_mk, kept_fold, ite_snd, ite_fst, kept_ite, outKept_ite, ite_self, foldl_kept, foldl_kept2, foldl_kept22, foldl_kept222, implies_true, State.solverBudget_kept, State.finish_kept, State.release_kept]; done)
    | split
    | (refine (foldl_kept _ _ _ ?_).trans ?_ <;> intros)
    | (refine (foldl_kept2 _ _ _ ?_).trans ?_ <;> intros)
    | (refine (foldl_kept22 _ _ _ ?_).trans ?_ <;> intros)
    | (refine (foldl_kept222 _ _ _ ?_).trans ?_ <;> intros)
    | (simp only [outKept_next, kept_mk, kept_fold, ite_snd, ite_fst, kept_ite, outKept_ite, ite_self, foldl_kept, foldl_kept2, foldl_kept22, foldl_kept222, implies_true, State.solverBudget_kept, State.finish_kept, State.release_kept])
    | (refine of_pair (by assumption) ?_)
    | (refine of_trip (by assumption) ?_)

@[simp] theorem State.place_kept (s : State) (r : EntryRef) (ts : List Nat) (models : List Nat) (need : Nat) : kept (State.place s r ts models need) = kept s := by
  unfold State.place
  try dsimp only
  all_goals repeat' first
    | (with_reducible rfl)
    | (simp only [outKept_next, kept_mk, kept_fold, ite_snd, ite_fst, kept_ite, outKept_ite, ite_self, foldl_kept, foldl_kept2, foldl_kept22, foldl_kept222, implies_true, State.admitFail_kept, State.modEntry_kept, State.bindModels_kept]; done)
    | split
    | (refine (foldl_kept _ _ _ ?_).trans ?_ <;> intros)
    | (refine (foldl_kept2 _ _ _ ?_).trans ?_ <;> intros)
    | (refine (foldl_kept22 _ _ _ ?_).trans ?_ <;> intros)
    | (refine (foldl_kept222 _ _ _ ?_).trans ?_ <;> intros)
    | (simp only [outKept_next, kept_mk, kept_fold, ite_snd, ite_fst, kept_ite, outKept_ite, ite_self, foldl_kept, foldl_kept2, foldl_kept22, foldl_kept222, implies_true, State.admitFail_kept, State.modEntry_kept, State.bindModels_kept])
    | (refine of_pair (by assumption) ?_)
    | (refine of_trip (by assumption) ?_)

@[simp] theorem State.opPlace_kept (s : State) (r : EntryRef) (op : Nat) (models : List Nat) (need : Nat) : kept (State.opPlace s r op models need) = kept s := by
  unfold State.opPlace
  try dsimp only
  all_goals repeat' first
    | (with_reducible rfl)
    | (simp only [outKept_next, kept_mk, kept_fold, ite_snd, ite_fst, kept_ite, outKept_ite, ite_self, foldl_kept, foldl_kept2, foldl_kept22, foldl_kept222, implies_true, State.place_kept]; done)
    | split
    | (refine (foldl_kept _ _ _ ?_).trans ?_ <;> intros)
    | (refine (foldl_kept2 _ _ _ ?_).trans ?_ <;> intros)
    | (refine (foldl_kept22 _ _ _ ?_).trans ?_ <;> intros)
    | (refine (foldl_kept222 _ _ _ ?_).trans ?_ <;> intros)
    | (simp only [outKept_next, kept_mk, kept_fold, ite_snd, ite_fst, kept_ite, outKept_ite, ite_self, foldl_kept, foldl_kept2, foldl_kept22, foldl_kept222, implies_true, State.place_kept])
    | (refine of_pair (by assumption) ?_)
    | (refine of_trip (by assumption) ?_)

@[simp] theorem State.kFlip_kept (s : State) (k : KSum) (l : List Nat) (f : Nat × Nat) : kept (State.kFlip s k l f).2 = kept s := by simp [State.kFlip]

@[simp] theorem State.kSum_kept (s : State) (r : EntryRef) (y : Entry) (k : KSum) : kept (State.kSum s r y k) = kept s := by
  unfold State.kSum
  try dsimp only
  all_goals repeat' first
    | (with_reducible rfl)
    | (simp only [outKept_next, kept_mk, kept_fold, ite_snd, ite_fst, kept_ite, outKept_ite, ite_self, foldl_kept, foldl_kept2, foldl_kept22, foldl_kept222, implies_true, State.tsramRead_kept, State.kFlip_kept, State.fpFlags_kept, State.tsramWrite_kept, State.contribute_kept]; done)
    | split
    | (refine (foldl_kept _ _ _ ?_).trans ?_ <;> intros)
    | (refine (foldl_kept2 _ _ _ ?_).trans ?_ <;> intros)
    | (refine (foldl_kept22 _ _ _ ?_).trans ?_ <;> intros)
    | (refine (foldl_kept222 _ _ _ ?_).trans ?_ <;> intros)
    | (simp only [outKept_next, kept_mk, kept_fold, ite_snd, ite_fst, kept_ite, outKept_ite, ite_self, foldl_kept, foldl_kept2, foldl_kept22, foldl_kept222, implies_true, State.tsramRead_kept, State.kFlip_kept, State.fpFlags_kept, State.tsramWrite_kept, State.contribute_kept])
    | (refine of_pair (by assumption) ?_)
    | (refine of_trip (by assumption) ?_)

@[simp] theorem State.matrixOp_kept (s : State) (r : EntryRef) (op : Nat) (models : List Nat) (need : Nat) (split : Nat) (sums : List KSum) : kept (State.matrixOp s r op models need split sums) = kept s := by
  unfold State.matrixOp
  try dsimp only
  all_goals repeat' first
    | (with_reducible rfl)
    | (simp only [outKept_next, kept_mk, kept_fold, ite_snd, ite_fst, kept_ite, outKept_ite, ite_self, foldl_kept, foldl_kept2, foldl_kept22, foldl_kept222, implies_true, State.kSum_kept, State.opPlace_kept, State.modEntry_kept]; done)
    | split
    | (refine (foldl_kept _ _ _ ?_).trans ?_ <;> intros)
    | (refine (foldl_kept2 _ _ _ ?_).trans ?_ <;> intros)
    | (refine (foldl_kept22 _ _ _ ?_).trans ?_ <;> intros)
    | (refine (foldl_kept222 _ _ _ ?_).trans ?_ <;> intros)
    | (simp only [outKept_next, kept_mk, kept_fold, ite_snd, ite_fst, kept_ite, outKept_ite, ite_self, foldl_kept, foldl_kept2, foldl_kept22, foldl_kept222, implies_true, State.kSum_kept, State.opPlace_kept, State.modEntry_kept])
    | (refine of_pair (by assumption) ?_)
    | (refine of_trip (by assumption) ?_)

@[simp] theorem State.graphOp_kept (s : State) (r : EntryRef) (op : Nat) (models : List Nat) (need : Nat) (serial : Nat) (named : Nat) : kept (State.graphOp s r op models need serial named) = kept s := by
  unfold State.graphOp
  (repeat' split) <;> simp

@[simp] theorem State.writeHdrs_kept (s : State) (r : EntryRef) (y : Entry) (st0 : Status) (records : List Nat) (ext : List ExtData) (ups : List Upset) : kept (State.writeHdrs s r y st0 records ext ups).2 = kept s := by
  unfold State.writeHdrs
  try dsimp only
  all_goals repeat' first
    | (with_reducible rfl)
    | (simp only [outKept_next, kept_mk, kept_fold, ite_snd, ite_fst, kept_ite, outKept_ite, ite_self, foldl_kept, foldl_kept2, foldl_kept22, foldl_kept222, implies_true, State.writeRun_kept]; done)
    | split
    | (refine (foldl_kept _ _ _ ?_).trans ?_ <;> intros)
    | (refine (foldl_kept2 _ _ _ ?_).trans ?_ <;> intros)
    | (refine (foldl_kept22 _ _ _ ?_).trans ?_ <;> intros)
    | (refine (foldl_kept222 _ _ _ ?_).trans ?_ <;> intros)
    | (simp only [outKept_next, kept_mk, kept_fold, ite_snd, ite_fst, kept_ite, outKept_ite, ite_self, foldl_kept, foldl_kept2, foldl_kept22, foldl_kept222, implies_true, State.writeRun_kept])
    | (refine of_pair (by assumption) ?_)
    | (refine of_trip (by assumption) ?_)

@[simp] theorem State.opEnds_kept (s : State) (r : EntryRef) (records : List Nat) (ext : List ExtData) (ups : List Upset) : kept (State.opEnds s r records ext ups) = kept s := by
  unfold State.opEnds
  try dsimp only
  all_goals repeat' first
    | (with_reducible rfl)
    | (simp only [outKept_next, kept_mk, kept_fold, ite_snd, ite_fst, kept_ite, outKept_ite, ite_self, foldl_kept, foldl_kept2, foldl_kept22, foldl_kept222, implies_true, State.finish_kept, State.writeRun_kept, State.contribute_kept]; done)
    | split
    | (refine (foldl_kept _ _ _ ?_).trans ?_ <;> intros)
    | (refine (foldl_kept2 _ _ _ ?_).trans ?_ <;> intros)
    | (refine (foldl_kept22 _ _ _ ?_).trans ?_ <;> intros)
    | (refine (foldl_kept222 _ _ _ ?_).trans ?_ <;> intros)
    | (simp only [outKept_next, kept_mk, kept_fold, ite_snd, ite_fst, kept_ite, outKept_ite, ite_self, foldl_kept, foldl_kept2, foldl_kept22, foldl_kept222, implies_true, State.finish_kept, State.writeRun_kept, State.contribute_kept])
    | (refine of_pair (by assumption) ?_)
    | (refine of_trip (by assumption) ?_)

@[simp] theorem execEntryTake_kept (e : Nat) (q : Nat) (ext : List ExtData) (upsets : List Upset) (s : State) : outKept (execEntryTake e q ext upsets s) = kept s := by simp [execEntryTake]

@[simp] theorem execEntryStart_kept (r : EntryRef) (ext : List ExtData) (upsets : List Upset) (s : State) : outKept (execEntryStart r ext upsets s) = kept s := by simp [execEntryStart]

@[simp] theorem execEntryComplete_kept (r : EntryRef) (records : List Nat) (ext : List ExtData) (upsets : List Upset) (s : State) : outKept (execEntryComplete r records ext upsets s) = kept s := by simp [execEntryComplete]

@[simp] theorem execEntryBudgetExpiry_kept (r : EntryRef) (iters : Nat) (ext : List ExtData) (upsets : List Upset) (s : State) : outKept (execEntryBudgetExpiry r iters ext upsets s) = kept s := by
  unfold execEntryBudgetExpiry
  (repeat' split) <;> simp

@[simp] theorem execGemm_kept (r : EntryRef) (models : List Nat) (need : Nat) (split : Nat) (sums : List KSum) (s : State) : outKept (execGemm r models need split sums s) = kept s := by simp [execGemm]

@[simp] theorem execGemmBiasAct_kept (r : EntryRef) (models : List Nat) (need : Nat) (split : Nat) (sums : List KSum) (s : State) : outKept (execGemmBiasAct r models need split sums s) = kept s := by simp [execGemmBiasAct]

@[simp] theorem execBatchedGemm_kept (r : EntryRef) (models : List Nat) (need : Nat) (split : Nat) (sums : List KSum) (s : State) : outKept (execBatchedGemm r models need split sums s) = kept s := by simp [execBatchedGemm]

@[simp] theorem execConv2d_kept (r : EntryRef) (models : List Nat) (need : Nat) (split : Nat) (sums : List KSum) (s : State) : outKept (execConv2d r models need split sums s) = kept s := by simp [execConv2d]

@[simp] theorem execGroupedConv_kept (r : EntryRef) (models : List Nat) (need : Nat) (split : Nat) (sums : List KSum) (s : State) : outKept (execGroupedConv r models need split sums s) = kept s := by simp [execGroupedConv]

@[simp] theorem execActivation_kept (r : EntryRef) (models : List Nat) (need : Nat) (s : State) : outKept (execActivation r models need s) = kept s := by simp [execActivation]

@[simp] theorem execLayerNorm_kept (r : EntryRef) (models : List Nat) (need : Nat) (s : State) : outKept (execLayerNorm r models need s) = kept s := by simp [execLayerNorm]

@[simp] theorem execRmsNorm_kept (r : EntryRef) (models : List Nat) (need : Nat) (s : State) : outKept (execRmsNorm r models need s) = kept s := by simp [execRmsNorm]

@[simp] theorem execSoftmax_kept (r : EntryRef) (models : List Nat) (need : Nat) (s : State) : outKept (execSoftmax r models need s) = kept s := by simp [execSoftmax]

@[simp] theorem execConvert_kept (r : EntryRef) (models : List Nat) (need : Nat) (s : State) : outKept (execConvert r models need s) = kept s := by simp [execConvert]

@[simp] theorem execQuantize_kept (r : EntryRef) (models : List Nat) (need : Nat) (s : State) : outKept (execQuantize r models need s) = kept s := by simp [execQuantize]

@[simp] theorem execReduce_kept (r : EntryRef) (models : List Nat) (need : Nat) (s : State) : outKept (execReduce r models need s) = kept s := by simp [execReduce]

@[simp] theorem execElementwise_kept (r : EntryRef) (models : List Nat) (need : Nat) (s : State) : outKept (execElementwise r models need s) = kept s := by simp [execElementwise]

@[simp] theorem execCopy_kept (r : EntryRef) (models : List Nat) (need : Nat) (s : State) : outKept (execCopy r models need s) = kept s := by simp [execCopy]

@[simp] theorem execTranspose_kept (r : EntryRef) (models : List Nat) (need : Nat) (s : State) : outKept (execTranspose r models need s) = kept s := by simp [execTranspose]

@[simp] theorem execGather_kept (r : EntryRef) (models : List Nat) (need : Nat) (s : State) : outKept (execGather r models need s) = kept s := by simp [execGather]

@[simp] theorem execScatter_kept (r : EntryRef) (models : List Nat) (need : Nat) (s : State) : outKept (execScatter r models need s) = kept s := by simp [execScatter]

@[simp] theorem execFill_kept (r : EntryRef) (models : List Nat) (need : Nat) (s : State) : outKept (execFill r models need s) = kept s := by simp [execFill]

@[simp] theorem execRunGraph_kept (r : EntryRef) (models : List Nat) (need : Nat) (serial : Nat) (named : Nat) (s : State) : outKept (execRunGraph r models need serial named s) = kept s := by simp [execRunGraph]

@[simp] theorem execRunGraphCont_kept (r : EntryRef) (models : List Nat) (need : Nat) (serial : Nat) (named : Nat) (s : State) : outKept (execRunGraphCont r models need serial named s) = kept s := by simp [execRunGraphCont]

end Sys2Proof.Machine
end

