-- ==== Sys2Proof/Laws/PerInstr.lean ====
section
/-! SUPPORT. Statements about every command as syntax, made per constructor. -/

namespace Sys2Proof.Laws.EntryOk

/-- A well-formed command that runs for a queue entry names one that can exist (R294, R295). -/
def Statement (i : Instr) : Prop := i.wf = true → ∀ r, i.entry? = some r → r.ok = true

/-- A command without an entry. -/
theorem of_none {i : Instr} (h : i.entry? = none) : Statement i := by
  intro _ r hr
  rw [h] at hr
  cases hr

/-- A command whose well-formedness is its entry's, with more. -/
theorem of_some {i : Instr} {r : EntryRef} (h : i.entry? = some r) (hw : i.wf = true → r.ok = true) : Statement i := by
  intro w r' hr
  rw [h] at hr
  cases hr
  exact hw w

/-- A mode request, from either source. -/
theorem of_source {i : Instr} {m : ModeSource} (h : i.entry? = m.entry?) (hw : i.wf = m.ok) : Statement i := by
  intro w r hr
  cases m with
  | sideband => rw [h] at hr; cases hr
  | entry x => rw [h] at hr; cases hr; rw [hw] at w; exact w

theorem powerOnReset : Statement (.powerOnReset) := of_none rfl
theorem lossOfVddAon : Statement (.lossOfVddAon) := of_none rfl
theorem coreBor : Statement (.coreBor) := of_none rfl
theorem ioBor : Statement (.ioBor) := of_none rfl
theorem resetNAssert (x0 : Nat) : Statement (.resetNAssert x0) := of_none rfl
theorem thermalTrip : Statement (.thermalTrip) := of_none rfl
theorem resetRelease (x0 : Nat) : Statement (.resetRelease x0) := of_none rfl
theorem dramTrainingDone (x0 : List Nat) (x1 : List Nat) : Statement (.dramTrainingDone x0 x1) := of_none rfl
theorem dramInitDone : Statement (.dramInitDone) := of_none rfl
theorem bootImageLoaded : Statement (.bootImageLoaded) := of_none rfl
theorem proofComplete (x0 : Nat) : Statement (.proofComplete x0) := of_none rfl
theorem proofCheckerTimeout (x0 : Nat) : Statement (.proofCheckerTimeout x0) := of_none rfl
theorem railValidTimeout (x0 : Nat) : Statement (.railValidTimeout x0) := of_none rfl
theorem railRetry : Statement (.railRetry) := of_none rfl
theorem vidStep (x0 : Bool) : Statement (.vidStep x0) := of_none rfl
theorem aonXtalSwitch : Statement (.aonXtalSwitch) := of_none rfl
theorem wardenWatchdogExpiry : Statement (.wardenWatchdogExpiry) := of_none rfl
theorem softwareFullReset (x0 : Requester) (x1 : Nat) : Statement (.softwareFullReset x0 x1) := of_none rfl
theorem tempSample (x0 : List Int) : Statement (.tempSample x0) := of_none rfl
theorem powerCapCheck (x0 : Nat) : Statement (.powerCapCheck x0) := of_none rfl
theorem gasketDrain (x0 : Requester) (x1 : Nat) : Statement (.gasketDrain x0 x1) := of_none rfl
theorem gasketOpen (x0 : Requester) (x1 : Nat) : Statement (.gasketOpen x0 x1) := of_none rfl
theorem blockReset (x0 : Requester) (x1 : Nat) : Statement (.blockReset x0 x1) := of_none rfl
theorem blockResetRelease (x0 : Nat) : Statement (.blockResetRelease x0) := of_none rfl
theorem gasketDrainComplete (x0 : Nat) : Statement (.gasketDrainComplete x0) := of_none rfl
theorem drainTimeout (x0 : Nat) : Statement (.drainTimeout x0) := of_none rfl
theorem parkSample (x0 : Bool) (x1 : Bool) : Statement (.parkSample x0 x1) := of_none rfl
theorem parkDiscFault (x0 : Bool) : Statement (.parkDiscFault x0) := of_none rfl
theorem parkClearReady (x0 : Bool) : Statement (.parkClearReady x0) := of_none rfl
theorem wakeInSample (x0 : Bool) : Statement (.wakeInSample x0) := of_none rfl
theorem wakeDriveIntent : Statement (.wakeDriveIntent) := of_none rfl
theorem settle (x0 : ModeSource) (x1 : Bool) : Statement (.settle x0 x1) := of_source (m := x0) rfl rfl
theorem steepDeclared (x0 : Bool) (x1 : Bool) (x2 : Nat) (x3 : Nat) (x4 : List ExtData) (x5 : List Upset) : Statement (.steepDeclared x0 x1 x2 x3 x4 x5) := of_none rfl
theorem settleTimeout : Statement (.settleTimeout) := of_none rfl
theorem rouse (x0 : ModeSource) (x1 : Bool) : Statement (.rouse x0 x1) := of_source (m := x0) rfl rfl
theorem rouseTimeout : Statement (.rouseTimeout) := of_none rfl
theorem serviceEnter (x0 : ModeSource) (x1 : Bool) (x2 : List ExtData) (x3 : List Upset) : Statement (.serviceEnter x0 x1 x2 x3) := of_source (m := x0) rfl rfl
theorem standby (x0 : ModeSource) (x1 : Bool) (x2 : List ExtData) (x3 : List Upset) : Statement (.standby x0 x1 x2 x3) := of_source (m := x0) rfl rfl
theorem epochBoundary (x0 : List ExtData) (x1 : List Upset) : Statement (.epochBoundary x0 x1) := of_none rfl
theorem imageLoad (x0 : EntryRef) (x1 : List ExtData) (x2 : List Upset) : Statement (.imageLoad x0 x1 x2) := of_some (r := x0) rfl id
theorem enclRestart (x0 : EntryRef) : Statement (.enclRestart x0) := of_some (r := x0) rfl id
theorem leafLoad (x0 : EntryRef) (x1 : List ExtData) (x2 : List Upset) : Statement (.leafLoad x0 x1 x2) := of_some (r := x0) rfl id
theorem leafLoadEnd (x0 : Nat) (x1 : List ExtData) (x2 : List Upset) : Statement (.leafLoadEnd x0 x1 x2) := of_none rfl
theorem stagingComplete (x0 : Nat) (x1 : Nat) (x2 : EntryRef) (x3 : List (Nat × FillSpec)) (x4 : List ExtData) (x5 : List Upset) : Statement (.stagingComplete x0 x1 x2 x3 x4 x5) := of_some (r := x2) rfl (fun h => by simp only [Instr.wf, Bool.and_eq_true] at h; simp only [h])
theorem pour (x0 : EntryRef) : Statement (.pour x0) := of_some (r := x0) rfl id
theorem evict (x0 : EntryRef) : Statement (.evict x0) := of_some (r := x0) rfl id
theorem evictRelease (x0 : Nat) : Statement (.evictRelease x0) := of_none rfl
theorem poolReset (x0 : EntryRef) (x1 : List ExtData) (x2 : List Upset) : Statement (.poolReset x0 x1 x2) := of_some (r := x0) rfl id
theorem seqOpen (x0 : EntryRef) (x1 : List ExtData) (x2 : List Upset) : Statement (.seqOpen x0 x1 x2) := of_some (r := x0) rfl id
theorem seqFork (x0 : EntryRef) (x1 : List ExtData) (x2 : List Upset) : Statement (.seqFork x0 x1 x2) := of_some (r := x0) rfl id
theorem seqAppend (x0 : EntryRef) (x1 : List ExtData) (x2 : List Upset) : Statement (.seqAppend x0 x1 x2) := of_some (r := x0) rfl id
theorem appendPagesGranted (x0 : Nat) (x1 : List ExtData) (x2 : List Upset) : Statement (.appendPagesGranted x0 x1 x2) := of_none rfl
theorem appendWaitExpiry (x0 : Nat) : Statement (.appendWaitExpiry x0) := of_none rfl
theorem seqTrim (x0 : EntryRef) (x1 : List ExtData) (x2 : List Upset) : Statement (.seqTrim x0 x1 x2) := of_some (r := x0) rfl id
theorem seqClose (x0 : EntryRef) (x1 : List ExtData) (x2 : List Upset) : Statement (.seqClose x0 x1 x2) := of_some (r := x0) rfl id
theorem prefixQuery (x0 : EntryRef) (x1 : List ExtData) (x2 : List Upset) : Statement (.prefixQuery x0 x1 x2) := of_some (r := x0) rfl id
theorem join (x0 : EntryRef) : Statement (.join x0) := of_some (r := x0) rfl id
theorem leave (x0 : EntryRef) : Statement (.leave x0) := of_some (r := x0) rfl id
theorem votePropose (x0 : EntryRef) : Statement (.votePropose x0) := of_some (r := x0) rfl id
theorem voteCast (x0 : EntryRef) : Statement (.voteCast x0) := of_some (r := x0) rfl id
theorem proofRun (x0 : EntryRef) : Statement (.proofRun x0) := of_some (r := x0) rfl id
theorem faultClear (x0 : EntryRef) : Statement (.faultClear x0) := of_some (r := x0) rfl id
theorem inject (x0 : EntryRef) : Statement (.inject x0) := of_some (r := x0) rfl id
theorem update (x0 : EntryRef) (x1 : Bool) (x2 : List ExtData) (x3 : List Upset) : Statement (.update x0 x1 x2 x3) := of_some (r := x0) rfl id
theorem debugOpen (x0 : EntryRef) : Statement (.debugOpen x0) := of_some (r := x0) rfl id
theorem fuseDump (x0 : EntryRef) (x1 : List ExtData) (x2 : List Upset) : Statement (.fuseDump x0 x1 x2) := of_some (r := x0) rfl id
theorem advanceRollback (x0 : EntryRef) (x1 : Bool) : Statement (.advanceRollback x0 x1) := of_some (r := x0) rfl id
theorem revokeSlot (x0 : EntryRef) (x1 : Bool) : Statement (.revokeSlot x0 x1) := of_some (r := x0) rfl id
theorem provisionSlot (x0 : EntryRef) (x1 : Bool) (x2 : List ExtData) (x3 : List Upset) : Statement (.provisionSlot x0 x1 x2 x3) := of_some (r := x0) rfl id
theorem serviceSlot (x0 : EntryRef) (x1 : Bool) : Statement (.serviceSlot x0 x1) := of_some (r := x0) rfl id
theorem sealDebug (x0 : EntryRef) (x1 : Bool) : Statement (.sealDebug x0 x1) := of_some (r := x0) rfl id
theorem lifecycle (x0 : EntryRef) (x1 : Bool) : Statement (.lifecycle x0 x1) := of_some (r := x0) rfl id
theorem gemm (x0 : EntryRef) (x1 : List Nat) (x2 : Nat) (x3 : Nat) (x4 : List KSum) : Statement (.gemm x0 x1 x2 x3 x4) := of_some (r := x0) rfl id
theorem gemmBiasAct (x0 : EntryRef) (x1 : List Nat) (x2 : Nat) (x3 : Nat) (x4 : List KSum) : Statement (.gemmBiasAct x0 x1 x2 x3 x4) := of_some (r := x0) rfl id
theorem batchedGemm (x0 : EntryRef) (x1 : List Nat) (x2 : Nat) (x3 : Nat) (x4 : List KSum) : Statement (.batchedGemm x0 x1 x2 x3 x4) := of_some (r := x0) rfl id
theorem conv2d (x0 : EntryRef) (x1 : List Nat) (x2 : Nat) (x3 : Nat) (x4 : List KSum) : Statement (.conv2d x0 x1 x2 x3 x4) := of_some (r := x0) rfl id
theorem groupedConv (x0 : EntryRef) (x1 : List Nat) (x2 : Nat) (x3 : Nat) (x4 : List KSum) : Statement (.groupedConv x0 x1 x2 x3 x4) := of_some (r := x0) rfl id
theorem activation (x0 : EntryRef) (x1 : List Nat) (x2 : Nat) : Statement (.activation x0 x1 x2) := of_some (r := x0) rfl id
theorem layerNorm (x0 : EntryRef) (x1 : List Nat) (x2 : Nat) : Statement (.layerNorm x0 x1 x2) := of_some (r := x0) rfl id
theorem rmsNorm (x0 : EntryRef) (x1 : List Nat) (x2 : Nat) : Statement (.rmsNorm x0 x1 x2) := of_some (r := x0) rfl id
theorem softmax (x0 : EntryRef) (x1 : List Nat) (x2 : Nat) : Statement (.softmax x0 x1 x2) := of_some (r := x0) rfl id
theorem convert (x0 : EntryRef) (x1 : List Nat) (x2 : Nat) : Statement (.convert x0 x1 x2) := of_some (r := x0) rfl id
theorem quantize (x0 : EntryRef) (x1 : List Nat) (x2 : Nat) : Statement (.quantize x0 x1 x2) := of_some (r := x0) rfl id
theorem reduce (x0 : EntryRef) (x1 : List Nat) (x2 : Nat) : Statement (.reduce x0 x1 x2) := of_some (r := x0) rfl id
theorem elementwise (x0 : EntryRef) (x1 : List Nat) (x2 : Nat) : Statement (.elementwise x0 x1 x2) := of_some (r := x0) rfl id
theorem prefillAttn (x0 : EntryRef) (x1 : List ExtData) (x2 : List Upset) (x3 : List (Nat × Nat × Nat)) : Statement (.prefillAttn x0 x1 x2 x3) := of_some (r := x0) rfl id
theorem decodeAttn (x0 : EntryRef) (x1 : List ExtData) (x2 : List Upset) (x3 : List (Nat × Nat × Nat)) : Statement (.decodeAttn x0 x1 x2 x3) := of_some (r := x0) rfl id
theorem retrievalAttn (x0 : EntryRef) (x1 : List ExtData) (x2 : List Upset) (x3 : List (Nat × Nat × Nat)) : Statement (.retrievalAttn x0 x1 x2 x3) := of_some (r := x0) rfl id
theorem partialMerge (x0 : EntryRef) (x1 : Nat) (x2 : List ExtData) (x3 : List Upset) : Statement (.partialMerge x0 x1 x2 x3) := of_some (r := x0) rfl id
theorem copy (x0 : EntryRef) (x1 : List Nat) (x2 : Nat) : Statement (.copy x0 x1 x2) := of_some (r := x0) rfl id
theorem transpose (x0 : EntryRef) (x1 : List Nat) (x2 : Nat) : Statement (.transpose x0 x1 x2) := of_some (r := x0) rfl id
theorem gather (x0 : EntryRef) (x1 : List Nat) (x2 : Nat) : Statement (.gather x0 x1 x2) := of_some (r := x0) rfl id
theorem scatter (x0 : EntryRef) (x1 : List Nat) (x2 : Nat) : Statement (.scatter x0 x1 x2) := of_some (r := x0) rfl id
theorem fill (x0 : EntryRef) (x1 : List Nat) (x2 : Nat) : Statement (.fill x0 x1 x2) := of_some (r := x0) rfl id
theorem allReduce (x0 : EntryRef) (x1 : CollDesc) (x2 : List ExtData) (x3 : List Upset) : Statement (.allReduce x0 x1 x2 x3) := of_some (r := x0) rfl (fun h => by simp only [Instr.wf, Bool.and_eq_true] at h; simp only [h])
theorem allGather (x0 : EntryRef) (x1 : CollDesc) (x2 : List ExtData) (x3 : List Upset) : Statement (.allGather x0 x1 x2 x3) := of_some (r := x0) rfl (fun h => by simp only [Instr.wf, Bool.and_eq_true] at h; simp only [h])
theorem reduceScatter (x0 : EntryRef) (x1 : CollDesc) (x2 : List ExtData) (x3 : List Upset) : Statement (.reduceScatter x0 x1 x2 x3) := of_some (r := x0) rfl (fun h => by simp only [Instr.wf, Bool.and_eq_true] at h; simp only [h])
theorem broadcast (x0 : EntryRef) (x1 : CollDesc) (x2 : List ExtData) (x3 : List Upset) : Statement (.broadcast x0 x1 x2 x3) := of_some (r := x0) rfl (fun h => by simp only [Instr.wf, Bool.and_eq_true] at h; simp only [h])
theorem barrier (x0 : EntryRef) : Statement (.barrier x0) := of_some (r := x0) rfl id
theorem ingestBind (x0 : EntryRef) (x1 : List ExtData) (x2 : List Upset) : Statement (.ingestBind x0 x1 x2) := of_some (r := x0) rfl id
theorem fuseEpoch (x0 : EntryRef) (x1 : List ExtData) (x2 : List Upset) : Statement (.fuseEpoch x0 x1 x2) := of_some (r := x0) rfl id
theorem gridExport (x0 : EntryRef) (x1 : List ExtData) (x2 : List Upset) : Statement (.gridExport x0 x1 x2) := of_some (r := x0) rfl id
theorem lseSolve (x0 : EntryRef) (x1 : List ExtData) (x2 : List Upset) : Statement (.lseSolve x0 x1 x2) := of_some (r := x0) rfl id
theorem lseBundle (x0 : EntryRef) (x1 : List ExtData) (x2 : List Upset) : Statement (.lseBundle x0 x1 x2) := of_some (r := x0) rfl id
theorem assign (x0 : EntryRef) (x1 : List ExtData) (x2 : List Upset) : Statement (.assign x0 x1 x2) := of_some (r := x0) rfl id
theorem runGraph (x0 : EntryRef) (x1 : List Nat) (x2 : Nat) (x3 : Nat) (x4 : Nat) : Statement (.runGraph x0 x1 x2 x3 x4) := of_some (r := x0) rfl id
theorem runGraphCont (x0 : EntryRef) (x1 : List Nat) (x2 : Nat) (x3 : Nat) (x4 : Nat) : Statement (.runGraphCont x0 x1 x2 x3 x4) := of_some (r := x0) rfl id
theorem queueDoorbell (x0 : Requester) (x1 : Nat) (x2 : Nat) (x3 : Nat) : Statement (.queueDoorbell x0 x1 x2 x3) := of_none rfl
theorem entryTake (x0 : Nat) (x1 : Nat) (x2 : List ExtData) (x3 : List Upset) : Statement (.entryTake x0 x1 x2 x3) := of_none rfl
theorem entryStart (x0 : EntryRef) (x1 : List ExtData) (x2 : List Upset) : Statement (.entryStart x0 x1 x2) := of_some (r := x0) rfl id
theorem entryComplete (x0 : EntryRef) (x1 : List Nat) (x2 : List ExtData) (x3 : List Upset) : Statement (.entryComplete x0 x1 x2 x3) := of_some (r := x0) rfl id
theorem irqTimeExpiry (x0 : Nat) (x1 : Nat) : Statement (.irqTimeExpiry x0 x1) := of_none rfl
theorem entryBudgetExpiry (x0 : EntryRef) (x1 : Nat) (x2 : List ExtData) (x3 : List Upset) : Statement (.entryBudgetExpiry x0 x1 x2 x3) := of_some (r := x0) rfl id
theorem queueResume (x0 : Requester) (x1 : Nat) (x2 : Nat) : Statement (.queueResume x0 x1 x2) := of_none rfl
theorem queueEnable (x0 : Requester) (x1 : Nat) (x2 : Nat) (x3 : Nat) : Statement (.queueEnable x0 x1 x2 x3) := of_none rfl
theorem queueDisable (x0 : Requester) (x1 : Nat) (x2 : Nat) (x3 : Nat) : Statement (.queueDisable x0 x1 x2 x3) := of_none rfl
theorem completionAck (x0 : Requester) (x1 : Nat) (x2 : Nat) (x3 : Nat) : Statement (.completionAck x0 x1 x2 x3) := of_none rfl
theorem kernelLaunch (x0 : Nat) (x1 : Nat) (x2 : EntryRef) (x3 : Nat) (x4 : Nat) (x5 : Nat) (x6 : Nat) (x7 : Nat) (x8 : Nat) (x9 : Nat) (x10 : List FillSpec) : Statement (.kernelLaunch x0 x1 x2 x3 x4 x5 x6 x7 x8 x9 x10) := of_some (r := x2) rfl (fun h => by simp only [Instr.wf, Bool.and_eq_true] at h; simp only [h])
theorem teOperation (x0 : Nat) (x1 : TeOp) (x2 : List Upset) (x3 : List (Nat × Nat)) : Statement (.teOperation x0 x1 x2 x3) := of_none rfl
theorem vuInstruction (x0 : Nat) (x1 : VuOp) (x2 : List Upset) (x3 : List (Nat × Nat × Nat)) (x4 : List (Nat × Nat)) : Statement (.vuInstruction x0 x1 x2 x3 x4) := of_none rfl
theorem fence (x0 : Nat) : Statement (.fence x0) := of_none rfl
theorem fencePf (x0 : Nat) : Statement (.fencePf x0) := of_none rfl
theorem bufferSwitch (x0 : Nat) (x1 : List FillSpec) : Statement (.bufferSwitch x0 x1) := of_none rfl
theorem fillComplete (x0 : Nat) (x1 : List ExtData) (x2 : List Upset) : Statement (.fillComplete x0 x1 x2) := of_none rfl
theorem kernelComplete (x0 : Nat) : Statement (.kernelComplete x0) := of_none rfl
theorem kernelBudgetExpiry (x0 : Nat) : Statement (.kernelBudgetExpiry x0) := of_none rfl
theorem kernelAbort (x0 : Nat) : Statement (.kernelAbort x0) := of_none rfl
theorem abortDrained (x0 : Nat) : Statement (.abortDrained x0) := of_none rfl
theorem tileCntClrProof (x0 : Nat) : Statement (.tileCntClrProof x0) := of_none rfl
theorem tileCntClrVu (x0 : Nat) : Statement (.tileCntClrVu x0) := of_none rfl
theorem tileCntClrPf (x0 : Nat) : Statement (.tileCntClrPf x0) := of_none rfl
theorem tileCntClrBank (x0 : Nat) : Statement (.tileCntClrBank x0) := of_none rfl
theorem weaveRead (x0 : Requester) (x1 : Nat) (x2 : Nat) (x3 : List ExtData) (x4 : List Upset) : Statement (.weaveRead x0 x1 x2 x3 x4) := of_none rfl
theorem weaveWrite (x0 : Requester) (x1 : Nat) (x2 : List Byte) (x3 : Bool) (x4 : Bool) (x5 : List ExtData) (x6 : List Upset) : Statement (.weaveWrite x0 x1 x2 x3 x4 x5 x6) := of_none rfl
theorem weaveAtomic (x0 : Requester) (x1 : Nat) (x2 : Nat) (x3 : AtomicOp) (x4 : Nat) (x5 : Nat) (x6 : List Upset) : Statement (.weaveAtomic x0 x1 x2 x3 x4 x5 x6) := of_none rfl
theorem weaveResponse (x0 : Nat) (x1 : Option Nat) : Statement (.weaveResponse x0 x1) := of_none rfl
theorem leaseAcquire (x0 : Requester) (x1 : Nat) (x2 : List Upset) : Statement (.leaseAcquire x0 x1 x2) := of_none rfl
theorem leaseRenew (x0 : Requester) (x1 : Nat) (x2 : Nat) (x3 : List Upset) : Statement (.leaseRenew x0 x1 x2 x3) := of_none rfl
theorem leaseRelease (x0 : Requester) (x1 : Nat) (x2 : Nat) (x3 : List Upset) : Statement (.leaseRelease x0 x1 x2 x3) := of_none rfl
theorem leaseExpiry (x0 : LeaseRef) : Statement (.leaseExpiry x0) := of_none rfl
theorem seizureOrder (x0 : Keeper) : Statement (.seizureOrder x0) := of_none rfl
theorem seizureAckTimeout (x0 : Keeper) : Statement (.seizureAckTimeout x0) := of_none rfl
theorem wheelSlot : Statement (.wheelSlot) := of_none rfl
theorem weavePeakClr (x0 : Requester) : Statement (.weavePeakClr x0) := of_none rfl
theorem gskDenyClr (x0 : Requester) (x1 : Nat) : Statement (.gskDenyClr x0 x1) := of_none rfl
theorem wardRefuseClr (x0 : Requester) (x1 : Nat) : Statement (.wardRefuseClr x0 x1) := of_none rfl
theorem discClear (x0 : Requester) : Statement (.discClear x0) := of_none rfl
theorem scrubVisit (x0 : ArrayRef) (x1 : List Upset) : Statement (.scrubVisit x0 x1) := of_none rfl
theorem ceRate (x0 : Nat) : Statement (.ceRate x0) := of_none rfl
theorem mcCntClr (x0 : Requester) (x1 : Nat) : Statement (.mcCntClr x0 x1) := of_none rfl
theorem refreshRatePoll (x0 : Nat) (x1 : Nat) (x2 : Bool) : Statement (.refreshRatePoll x0 x1 x2) := of_none rfl
theorem zqCalibration (x0 : Nat) : Statement (.zqCalibration x0) := of_none rfl
theorem keySlotLoad (x0 : Nat) : Statement (.keySlotLoad x0) := of_none rfl
theorem moverLeaseAcquire (x0 : Requester) (x1 : Nat) (x2 : Nat) : Statement (.moverLeaseAcquire x0 x1 x2) := of_none rfl
theorem moverLeaseRenew (x0 : Requester) (x1 : Nat) (x2 : Nat) (x3 : Nat) : Statement (.moverLeaseRenew x0 x1 x2 x3) := of_none rfl
theorem moverLeaseRelease (x0 : Requester) (x1 : Nat) (x2 : Nat) (x3 : Nat) : Statement (.moverLeaseRelease x0 x1 x2 x3) := of_none rfl
theorem moverDoorbell (x0 : Requester) (x1 : Nat) (x2 : Nat) (x3 : Nat) : Statement (.moverDoorbell x0 x1 x2 x3) := of_none rfl
theorem descriptorStart (x0 : Nat) (x1 : Nat) (x2 : Option EntryRef) (x3 : List ExtData) (x4 : List Upset) : Statement (.descriptorStart x0 x1 x2 x3 x4) := of_none rfl
theorem descriptorComplete (x0 : Nat) (x1 : Nat) : Statement (.descriptorComplete x0 x1) := of_none rfl
theorem moverResume (x0 : Requester) (x1 : Nat) (x2 : Nat) : Statement (.moverResume x0 x1 x2) := of_none rfl
theorem lseJobStart (x0 : Bool) : Statement (.lseJobStart x0) := of_none rfl
theorem lseJobSuspend : Statement (.lseJobSuspend) := of_none rfl
theorem lseJobComplete (x0 : Bool) (x1 : List (Nat × Nat × Nat × Nat)) (x2 : Bool) (x3 : List ExtData) (x4 : List Upset) : Statement (.lseJobComplete x0 x1 x2 x3 x4) := of_none rfl
theorem egoMeasPoll (x0 : List ExtData) (x1 : List Upset) : Statement (.egoMeasPoll x0 x1) := of_none rfl
theorem egoDeadline (x0 : List ExtData) (x1 : List Upset) : Statement (.egoDeadline x0 x1) := of_none rfl
theorem lseCntClr (x0 : Requester) : Statement (.lseCntClr x0) := of_none rfl
theorem csi2FrameStart (x0 : Nat) (x1 : Nat) (x2 : Nat) (x3 : Nat) : Statement (.csi2FrameStart x0 x1 x2 x3) := of_none rfl
theorem csi2LongPacket (x0 : Nat) (x1 : Nat) (x2 : Nat) (x3 : List (BitVec 8)) (x4 : Bool) (x5 : Bool) : Statement (.csi2LongPacket x0 x1 x2 x3 x4 x5) := of_none rfl
theorem csi2FrameEnd (x0 : Nat) (x1 : Nat) (x2 : List ExtData) (x3 : List Upset) : Statement (.csi2FrameEnd x0 x1 x2 x3) := of_none rfl
theorem ethernetFrameRx (x0 : Nat) (x1 : List (BitVec 8)) (x2 : Bool) (x3 : Nat) (x4 : Nat) (x5 : List ExtData) (x6 : List Upset) : Statement (.ethernetFrameRx x0 x1 x2 x3 x4 x5 x6) := of_none rfl
theorem imuDrdy (x0 : Nat) (x1 : Nat) : Statement (.imuDrdy x0 x1) := of_none rfl
theorem imuTransferDone (x0 : Nat) (x1 : List (BitVec 8)) (x2 : Nat) (x3 : List ExtData) (x4 : List Upset) : Statement (.imuTransferDone x0 x1 x2 x3 x4) := of_none rfl
theorem canFrameRx (x0 : Nat) (x1 : Nat) (x2 : Bool) (x3 : Bool) (x4 : Bool) (x5 : List (BitVec 8)) (x6 : Nat) (x7 : Nat) (x8 : List ExtData) (x9 : List Upset) : Statement (.canFrameRx x0 x1 x2 x3 x4 x5 x6 x7 x8 x9) := of_none rfl
theorem streamSilent (x0 : Nat) : Statement (.streamSilent x0) := of_none rfl
theorem ppsInEdge (x0 : Nat) : Statement (.ppsInEdge x0) := of_none rfl
theorem gptpSyncTimer : Statement (.gptpSyncTimer) := of_none rfl
theorem pdelayTimer : Statement (.pdelayTimer) := of_none rfl
theorem tsuSourceLost : Statement (.tsuSourceLost) := of_none rfl
theorem tsuHoldoverExpiry : Statement (.tsuHoldoverExpiry) := of_none rfl
theorem ppsOutPulse : Statement (.ppsOutPulse) := of_none rfl
theorem tsuTimeLoRead (x0 : Requester) : Statement (.tsuTimeLoRead x0) := of_none rfl
theorem strCntClrPorts (x0 : Requester) : Statement (.strCntClrPorts x0) := of_none rfl
theorem strCntClrStreams (x0 : Requester) : Statement (.strCntClrStreams x0) := of_none rfl
theorem fusionFrameCommit (x0 : FusionIn) (x1 : List ExtData) (x2 : List Upset) : Statement (.fusionFrameCommit x0 x1 x2) := of_none rfl
theorem frameDeadline (x0 : FusionIn) (x1 : List ExtData) (x2 : List Upset) : Statement (.frameDeadline x0 x1 x2) := of_none rfl
theorem fuCntClr (x0 : Requester) : Statement (.fuCntClr x0) := of_none rfl
theorem faultReport (x0 : Bool) : Statement (.faultReport x0) := of_none rfl
theorem safetyFramePeriod (x0 : Bool) (x1 : Bool) : Statement (.safetyFramePeriod x0 x1) := of_none rfl
theorem safeFrameTxLate : Statement (.safeFrameTxLate) := of_none rfl
theorem romSafetyFrame : Statement (.romSafetyFrame) := of_none rfl
theorem faultPinMismatch : Statement (.faultPinMismatch) := of_none rfl
theorem stewardHang (x0 : Nat) : Statement (.stewardHang x0) := of_none rfl
theorem clockMonWindow (x0 : Nat) (x1 : Nat) : Statement (.clockMonWindow x0 x1) := of_none rfl
theorem pllUnlock : Statement (.pllUnlock) := of_none rfl
theorem voltMon (x0 : Nat) : Statement (.voltMon x0) := of_none rfl
theorem safeCntClr (x0 : Requester) : Statement (.safeCntClr x0) := of_none rfl
theorem randomHealthFail : Statement (.randomHealthFail) := of_none rfl
theorem commitHoldExpiry : Statement (.commitHoldExpiry) := of_none rfl
theorem cozyEntryComplete (x0 : Nat) : Statement (.cozyEntryComplete x0) := of_none rfl
theorem cozyExitComplete (x0 : Nat) : Statement (.cozyExitComplete x0) := of_none rfl
theorem loomRead (x0 : Nat) (x1 : List ExtData) (x2 : List Upset) : Statement (.loomRead x0 x1 x2) := of_none rfl
theorem loomWrite (x0 : Nat) (x1 : Bool) (x2 : List ExtData) (x3 : List Upset) : Statement (.loomWrite x0 x1 x2 x3) := of_none rfl
theorem loomAtomic (x0 : Nat) (x1 : List Upset) : Statement (.loomAtomic x0 x1) := of_none rfl
theorem loomMsg (x0 : Nat) (x1 : List Upset) : Statement (.loomMsg x0 x1) := of_none rfl
theorem loomRlease (x0 : Nat) : Statement (.loomRlease x0) := of_none rfl
theorem loomColl (x0 : EntryRef) (x1 : Nat) (x2 : Nat) (x3 : Nat) (x4 : Bool) (x5 : Nat) (x6 : List (BitVec 8)) (x7 : Bool) (x8 : Option Bool) (x9 : List ExtData) (x10 : List Upset) : Statement (.loomColl x0 x1 x2 x3 x4 x5 x6 x7 x8 x9 x10) := of_some (r := x0) rfl id
theorem loomRdata (x0 : Nat) : Statement (.loomRdata x0) := of_none rfl
theorem loomRstat (x0 : Nat) : Statement (.loomRstat x0) := of_none rfl
theorem loomRequestTimeout (x0 : Nat) : Statement (.loomRequestTimeout x0) := of_none rfl
theorem routeSwitch (x0 : Nat) : Statement (.routeSwitch x0) := of_none rfl
theorem hello (x0 : Nat) (x1 : Nat) (x2 : Nat) (x3 : Bool) : Statement (.hello x0 x1 x2 x3) := of_none rfl
theorem joinReq (x0 : JoinRec) : Statement (.joinReq x0) := of_none rfl
theorem joinTimeout : Statement (.joinTimeout) := of_none rfl
theorem view (x0 : Nat) (x1 : Nat) (x2 : List MemberRec) (x3 : List LinkRec) (x4 : List Nat) : Statement (.view x0 x1 x2 x3 x4) := of_none rfl
theorem heartbeatTimer : Statement (.heartbeatTimer) := of_none rfl
theorem heartbeat (x0 : Nat) : Statement (.heartbeat x0) := of_none rfl
theorem heartbeatLoss (x0 : Nat) (x1 : List Nat) : Statement (.heartbeatLoss x0 x1) := of_none rfl
theorem claim (x0 : Nat) : Statement (.claim x0) := of_none rfl
theorem claimWindowEnd : Statement (.claimWindowEnd) := of_none rfl
theorem electionTimeout : Statement (.electionTimeout) := of_none rfl
theorem leaveMessage (x0 : Nat) (x1 : List Nat) : Statement (.leaveMessage x0 x1) := of_none rfl
theorem leaveTimeout : Statement (.leaveTimeout) := of_none rfl
theorem propose (x0 : Nat) (x1 : Nat) : Statement (.propose x0 x1) := of_none rfl
theorem voteTimeout : Statement (.voteTimeout) := of_none rfl
theorem withdraw (x0 : Nat) (x1 : Nat) : Statement (.withdraw x0 x1) := of_none rfl
theorem commit (x0 : Nat) : Statement (.commit x0) := of_none rfl
theorem voteAbort (x0 : Nat) : Statement (.voteAbort x0) := of_none rfl
theorem remoteReset (x0 : Nat) (x1 : Nat) : Statement (.remoteReset x0 x1) := of_none rfl
theorem loomRresetWrite (x0 : Requester) (x1 : Nat) : Statement (.loomRresetWrite x0 x1) := of_none rfl
theorem abortGroup (x0 : Nat) (x1 : Nat) : Statement (.abortGroup x0 x1) := of_none rfl
theorem loomCntClr (x0 : Requester) : Statement (.loomCntClr x0) := of_none rfl
theorem tunnelFrameRx (x0 : List (BitVec 8)) (x1 : Bool) (x2 : Bool) : Statement (.tunnelFrameRx x0 x1 x2) := of_none rfl
theorem tunnelFrameSend (x0 : Nat) : Statement (.tunnelFrameSend x0) := of_none rfl
theorem tunnelNullFlit (x0 : Nat) : Statement (.tunnelNullFlit x0) := of_none rfl
theorem tunnelSessionIdle (x0 : Nat) : Statement (.tunnelSessionIdle x0) := of_none rfl
theorem tunnelSessionDead (x0 : Nat) : Statement (.tunnelSessionDead x0) := of_none rfl
theorem detectBurst (x0 : Nat) : Statement (.detectBurst x0) := of_none rfl
theorem partnerDetected (x0 : Nat) : Statement (.partnerDetected x0) := of_none rfl
theorem trainingTimeout (x0 : Nat) : Statement (.trainingTimeout x0) := of_none rfl
theorem flitTx (x0 : Nat) : Statement (.flitTx x0) := of_none rfl
theorem flitRx (x0 : Nat) (x1 : List (List LaneBlock)) : Statement (.flitRx x0 x1) := of_none rfl
theorem replayTimeout (x0 : Nat) : Statement (.replayTimeout x0) := of_none rfl
theorem blockLockLoss (x0 : Nat) (x1 : Nat) : Statement (.blockLockLoss x0 x1) := of_none rfl
theorem laneErrorThreshold (x0 : Nat) (x1 : Nat) (x2 : Nat) : Statement (.laneErrorThreshold x0 x1 x2) := of_none rfl
theorem flitSilence (x0 : Nat) : Statement (.flitSilence x0) := of_none rfl
theorem retrainCmd (x0 : Nat) : Statement (.retrainCmd x0) := of_none rfl
theorem retrainTimeout (x0 : Nat) : Statement (.retrainTimeout x0) := of_none rfl
theorem linkDownCmd (x0 : Nat) : Statement (.linkDownCmd x0) := of_none rfl
theorem downRetry (x0 : Nat) : Statement (.downRetry x0) := of_none rfl
theorem l1Idle (x0 : Nat) : Statement (.l1Idle x0) := of_none rfl
theorem l1ReqTimeout (x0 : Nat) : Statement (.l1ReqTimeout x0) := of_none rfl
theorem l1Exit (x0 : Nat) (x1 : Bool) : Statement (.l1Exit x0 x1) := of_none rfl
theorem sleepDrainTimeout (x0 : Nat) : Statement (.sleepDrainTimeout x0) := of_none rfl
theorem sleepAckTimeout (x0 : Nat) : Statement (.sleepAckTimeout x0) := of_none rfl
theorem wakePatternSend (x0 : Nat) : Statement (.wakePatternSend x0) := of_none rfl
theorem brikelWake (x0 : Nat) : Statement (.brikelWake x0) := of_none rfl
theorem blkCntClr (x0 : Nat) : Statement (.blkCntClr x0) := of_none rfl
theorem sbAddressMatch (x0 : Bool) : Statement (.sbAddressMatch x0) := of_none rfl
theorem sbWriteTransfer (x0 : Bool) (x1 : List Byte) (x2 : Bool) : Statement (.sbWriteTransfer x0 x1 x2) := of_none rfl
theorem sbReadTransfer (x0 : Bool) (x1 : Nat) : Statement (.sbReadTransfer x0 x1) := of_none rfl
theorem sbWake : Statement (.sbWake) := of_none rfl
theorem sbNonce : Statement (.sbNonce) := of_none rfl
theorem sbReset : Statement (.sbReset) := of_none rfl
theorem sbMboxInAck : Statement (.sbMboxInAck) := of_none rfl
theorem sbMode (x0 : Nat) : Statement (.sbMode x0) := of_none rfl
theorem notifyAttempt (x0 : Bool) : Statement (.notifyAttempt x0) := of_none rfl
theorem sclLowTimeout (x0 : Bool) : Statement (.sclLowTimeout x0) := of_none rfl
theorem sbMboxOutAck (x0 : Requester) : Statement (.sbMboxOutAck x0) := of_none rfl
theorem sbMboxInPost (x0 : Requester) : Statement (.sbMboxInPost x0) := of_none rfl
theorem sbCntClr (x0 : Requester) : Statement (.sbCntClr x0) := of_none rfl
theorem pcieInboundRequest (x0 : PcieTlp) (x1 : Bool) (x2 : List ExtData) (x3 : List Upset) : Statement (.pcieInboundRequest x0 x1 x2 x3) := of_none rfl
theorem pcieCompletion (x0 : Nat) (x1 : PcieCpl) (x2 : List Byte) : Statement (.pcieCompletion x0 x1 x2) := of_none rfl
theorem pcieOutboundTimeout (x0 : Nat) : Statement (.pcieOutboundTimeout x0) := of_none rfl
theorem pcieLinkDown : Statement (.pcieLinkDown) := of_none rfl
theorem pcieHotReset : Statement (.pcieHotReset) := of_none rfl
theorem msixUnmask (x0 : Nat) : Statement (.msixUnmask x0) := of_none rfl
theorem pcieBootGo (x0 : Nat) (x1 : List ExtData) : Statement (.pcieBootGo x0 x1) := of_none rfl
theorem bootPushTimeout : Statement (.bootPushTimeout) := of_none rfl
theorem waitSteepTimeout : Statement (.waitSteepTimeout) := of_none rfl
theorem pcieCntClr (x0 : Requester) : Statement (.pcieCntClr x0) := of_none rfl
theorem nvmeCompletion (x0 : Nat) (x1 : Bool) (x2 : List Byte) (x3 : List ExtData) (x4 : List Upset) : Statement (.nvmeCompletion x0 x1 x2 x3 x4) := of_none rfl
theorem nvmeTimeout (x0 : Nat) : Statement (.nvmeTimeout x0) := of_none rfl
theorem nvmeFatal : Statement (.nvmeFatal) := of_none rfl
theorem netTxDoorbell (x0 : Requester) (x1 : Nat) (x2 : Nat) (x3 : Nat) (x4 : Bool) (x5 : List ExtData) (x6 : List Upset) : Statement (.netTxDoorbell x0 x1 x2 x3 x4 x5 x6) := of_none rfl
theorem uartCharacterRx (x0 : List Bool) : Statement (.uartCharacterRx x0) := of_none rfl
theorem uartCharacterTx : Statement (.uartCharacterTx) := of_none rfl
theorem uartDataWrite (x0 : Requester) (x1 : Nat) : Statement (.uartDataWrite x0 x1) := of_none rfl
theorem uartDataRead (x0 : Requester) : Statement (.uartDataRead x0) := of_none rfl
theorem uartCfgWrite (x0 : Requester) (x1 : Nat) : Statement (.uartCfgWrite x0 x1) := of_none rfl
theorem uartBaudWrite (x0 : Requester) (x1 : Nat) : Statement (.uartBaudWrite x0 x1) := of_none rfl
theorem quote (x0 : List ExtData) (x1 : List Upset) : Statement (.quote x0 x1) := of_none rfl
theorem keyUnwrap (x0 : List ExtData) (x1 : List Upset) : Statement (.keyUnwrap x0 x1) := of_none rfl
theorem keyDestroy (x0 : List ExtData) (x1 : List Upset) : Statement (.keyDestroy x0 x1) := of_none rfl
theorem nonce (x0 : List ExtData) (x1 : List Upset) : Statement (.nonce x0 x1) := of_none rfl
theorem idPubkey (x0 : List ExtData) (x1 : List Upset) : Statement (.idPubkey x0 x1) := of_none rfl
theorem debugPortAccess (x0 : Nat) (x1 : Nat) (x2 : Option (List Byte)) (x3 : Bool) (x4 : List ExtData) (x5 : List Upset) : Statement (.debugPortAccess x0 x1 x2 x3 x4 x5) := of_none rfl
theorem sysSeal (x0 : Requester) : Statement (.sysSeal x0) := of_none rfl
theorem kvCntClr (x0 : Nat) : Statement (.kvCntClr x0) := of_none rfl
theorem registerWrite (x0 : Requester) (x1 : Nat) (x2 : Nat) (x3 : Bool) (x4 : Bool) (x5 : List ExtData) (x6 : List Upset) : Statement (.registerWrite x0 x1 x2 x3 x4 x5 x6) := of_none rfl
theorem lockstepMismatch : Statement (.lockstepMismatch) := of_none rfl
theorem aonXtalLoss : Statement (.aonXtalLoss) := of_none rfl
theorem pcieLinkUp (x0 : Nat) (x1 : Nat) : Statement (.pcieLinkUp x0 x1) := of_none rfl
theorem trainingSetReceived (x0 : Nat) (x1 : Nat) (x2 : List (BitVec 8)) (x3 : Bool) (x4 : Nat) : Statement (.trainingSetReceived x0 x1 x2 x3 x4) := of_none rfl
theorem claimAck (x0 : Nat) (x1 : List Nat) : Statement (.claimAck x0 x1) := of_none rfl
theorem castVoteReceived (x0 : Nat) (x1 : Nat) (x2 : Bool) : Statement (.castVoteReceived x0 x1 x2) := of_none rfl
theorem joinRefusal (x0 : Bool) : Statement (.joinRefusal x0) := of_none rfl
theorem blockResetNotReleased (x0 : Nat) : Statement (.blockResetNotReleased x0) := of_none rfl
theorem zeroFillComplete : Statement (.zeroFillComplete) := of_none rfl

end Sys2Proof.Laws.EntryOk
end

