-- ==== Sys2Proof/Tests/Slice0.lean ====
section
/-! SUPPORT. Tests of the model: a witness for every statement with hypotheses, an ill-formed term for each check of
WellFormed, and small tests of single commands against values written in the specification. -/

namespace Sys2Proof.Tests

open Sys2Proof Machine Machine.State

/-! ### Ill-formed commands -/

/-- Every check on a named unit refuses the first value beyond its range (Tables 3.11, 4.1, 4.5, 9.1 and the unit counts). -/
theorem test_wf_units : ∀ c ∈ ([.gasketDrain .warden 119, .gasketOpen .warden 119, .blockReset .warden 119, .blockResetRelease 119,
    .gasketDrainComplete 119, .drainTimeout 119, .blockResetNotReleased 119, .proofCheckerTimeout 32, .railValidTimeout 7,
    .steepDeclared true true 16 0 [] [], .leafLoadEnd 64 [] [], .evictRelease 64, .appendPagesGranted 16 [] [], .appendWaitExpiry 16,
    .fence 64, .kernelComplete 64, .tileCntClrVu 64, .ceRate 8, .zqCalibration 8, .keySlotLoad 9, .descriptorStart 16 0 none [] [],
    .descriptorComplete 0 32, .imuDrdy 2 0, .streamSilent 32, .stewardHang 4, .clockMonWindow 9 0, .voltMon 9, .loomRlease 9,
    .loomRequestTimeout 65536, .routeSwitch 1024, .claim 1024, .downRetry 8, .blockLockLoss 0 4, .sbMode 256, .msixUnmask 256,
    .pcieBootGo 4 [], .kvCntClr 65536, .entryTake 8 0 [] [], .irqTimeExpiry 0 16, .scrubVisit (.dram 8) [], .scrubVisit (.tile 64) [],
    .scrubVisit (.commons 8) [], .leaseExpiry (.commons (2 ^ 54)), .leaseExpiry (.channel 16 0), .leaseExpiry (.page 16 0),
    .leaseExpiry (.remote 65536), .leaseExpiry (.barrier 0 1024), .seizureOrder (.commons 8), .seizureAckTimeout (.mover 16)] : List Instr),
    c.wf = false := by decide

/-- Every check on a requester, an entry, an address or a register value refuses the first value beyond its range. -/
theorem test_wf_operands : ∀ c ∈ ([.discClear (.tile 64), .discClear (.mover 16 0), .discClear (.mover 0 32), .discClear (.steward 4 0),
    .discClear (.steward 0 8), .discClear (.lse 8), .discClear (.fusion 8), .discClear (.pcie 8), .discClear (.mac 3 0), .discClear (.loom 9 0),
    .pour ⟨8, 0, 0⟩, .pour ⟨0, 16, 0⟩, .flitRx 0 [[], [], [], [], []], .settle (.entry ⟨8, 0, 0⟩) true, .leaseAcquire .warden (2 ^ 64) [],
    .leaseRenew .warden 0 65536 [], .gskDenyClr .warden 65536, .wardRefuseClr .warden (2 ^ 32), .softwareFullReset .warden (2 ^ 32),
    .registerWrite .warden (2 ^ 24) 0 true true [] [], .registerWrite .warden 0 (2 ^ 32) true true [] [],
    .queueDoorbell .warden 0 0 (2 ^ 32), .queueEnable .warden 0 16 0, .moverDoorbell .warden 16 0 0, .netTxDoorbell .warden 0 3 0 true [] [],
    .uartDataWrite .warden (2 ^ 32), .debugPortAccess (2 ^ 64) 0 none true [] [],
    .broadcast ⟨0, 0, 0⟩ { etype := 4 } [] [], .broadcast ⟨0, 0, 0⟩ { op := 3 } [] []] : List Instr), c.wf = false := by decide

/-- A well-formed command of the same shapes. -/
theorem test_wf_admits : ∀ c ∈ ([.gasketDrain .warden 118, .pour ⟨7, 15, 5⟩, .fence 63, .leaseExpiry (.page 15 4095),
    .registerWrite (.steward 3 7) 0xFFFFFF 0xFFFFFFFF true true [] [], .broadcast ⟨2, 0, 1⟩ { etype := 3, op := 2 } [] []] : List Instr),
    c.wf = true := by decide

/-! ### Worked examples of the specification -/

/-- §5.2: address 0x0123_4567 lies in MC4; a 16 GiB device offers 15 GiB. -/
theorem test_dram_channel : dramChannel 0x1234567 = 4 ∧ usableOf 4 = 15 * 2 ^ 30 := by decide

/-- §7.2: element (40, 130) of a 100 × 200 BF16 plane lies at 0x6404 BLOCKED and at 0x9404 PANEL (offsets in half bytes). -/
theorem test_layouts : elemOffset .blocked 100 200 16 0 40 130 = 2 * 0x6404 ∧ elemOffset .panel 100 200 16 0 40 130 = 2 * 0x9404 ∧
    paddedBytes .blocked 100 200 16 = 0x10000 := by decide

/-- §8.4: 1 / M in RNE and RUP, UF and NX both times. -/
theorem test_lse_divide : (lseDiv .rne 0x3FF0000000000000 0x7FEFFFFFFFFFFFFF).pat = 0x0004000000000000 ∧
    (lseDiv .rup 0x3FF0000000000000 0x7FEFFFFFFFFFFFFF).pat = 0x0004000000000001 ∧
    (lseDiv .rup 0x3FF0000000000000 0x7FEFFFFFFFFFFFFF).flags = flUF + flNX := by decide +kernel

/-- §8.5: an accumulator of 2^-125 less 1.5 × 2^-126 is flushed to +0; less 0.5 × 2^-126 it is normal, with no flag. -/
theorem test_te_flush : teStep 0x01000000 (fp32.read 0x3FC00000) (fp32.read 0x80800000) = (0, smFLUSH) ∧
    teStep 0x01000000 (fp32.read 0x3F000000) (fp32.read 0x80800000) = (0x00C00000, 0) := by decide +kernel

/-- §8.6: 460 and 464 convert to 448 in E4M3; 470 saturates or overflows. -/
theorem test_e4m3 : vuToFloat e4m3 true (vuFromInt 460) = (0x7E, 0) ∧ vuToFloat e4m3 false (vuFromInt 464) = (0x7E, 0) ∧
    vuToFloat e4m3 true (vuFromInt 470) = (0x7E, smSATURATED) ∧ vuToFloat e4m3 false (vuFromInt 470) = (0x7F, smOVERFLOW) := by
  decide +kernel

/-- §11.5: amax 3.1 under HEADROOM_LOG2 1 gives e = -4; 3.1 is stored as 50, 9.0 clamps to 127 with SATURATED. -/
theorem test_kv_scale : KvM.scaleFor 1 127 [0x40466666] = -4 ∧ KvM.storeElem 1 (-4) 0x40466666 = (50, 0) ∧
    KvM.storeElem 1 (-4) 0x41100000 = (127, smSATURATED) := by decide +kernel

/-- §13.7: with MAX_GAP 3, counter 103 after 101 is a GAP of one lost; 110 after 103 is OUT_OF_SEQ; the third in order is RESYNC. -/
theorem test_continuity : (continuity { initial := false, last := 101 } 3 103).1 = .gap ∧
    (continuity { initial := false, last := 101 } 3 103).2.1 = 1 ∧ (continuity { initial := false, last := 103 } 3 110).1 = .outOfSeq ∧
    (continuity { initial := false, last := 103, resync := 2, prevBad := 111 } 3 112).1 = .resync := by decide

/-- §3.6: the middle of the strap window of code 10 reads 422 mV. -/
theorem test_strap : strapCode 4220 = some 10 := by decide

/-- Witness of IdleStepPassesTime: the reset state has no command waiting. -/
theorem test_idle_witness : State.reset.pending = [] := by decide

/-- Witness of QueueOnlyShrinksByStep: one waiting command, and a step that answers next. -/
theorem test_queue_witness :
    (∃ t, step { State.reset with pending := [.ioBor] } = .next t) ∧
      ({ State.reset with pending := [.ioBor] } : State).pending = .ioBor :: [] := by
  exact ⟨⟨_, rfl⟩, rfl⟩

/-- Witness of FusesOnlyAdvance: a step from reset answers next. -/
theorem test_step_next_witness : ∃ t, step State.reset = .next t := ⟨_, rfl⟩

/-- Witness of OnlyFuseCommandsBlowFuses and OnlyUpdateWritesBootFlash: a command that is none of those named completes. -/
theorem test_not_fuse_witness : (∃ t, exec .ioBor State.reset = .next t) ∧ (∀ r b, Instr.ioBor ≠ .advanceRollback r b)
    ∧ (∀ r b e u, Instr.ioBor ≠ .update r b e u) := ⟨⟨_, rfl⟩, by intros; simp, by intros; simp⟩

/-- Witness of EveryStepKeepsSound: the reset state is Sound and steps. -/
theorem test_sound_witness : Sound State.reset ∧ ∃ t, step State.reset = .next t :=
  ⟨⟨⟨by decide, by decide, by decide, by decide, by decide⟩, by decide⟩, ⟨_, rfl⟩⟩

/-- Witness of SysErrorKeepsFirst: kinds 1 and 3, an empty log, and a log that holds an event. -/
theorem test_syserr_witness : (1 ≤ 1 ∧ 3 ≤ 3) ∧ State.reset.fld Reg.sysErrLog 31 31 = 0 ∧
    (State.reset.sysErr 3 0x40020 5).fld Reg.sysErrLog 31 31 = 1 := by decide

/-- Witness of RefusalIsCountedAndRecorded: the lowest and the highest enclosure. -/
theorem test_refuse_witness : (0 : Nat) < 8 ∧ (7 : Nat) < 8 := by decide

/-- Witness of DenialIsCountedAndCaptured: the log free and taken, at the highest tag, gasket, operation and reason. -/
theorem test_deny_witness : (7 < 8 ∧ 127 < 128 ∧ 3 < 4 ∧ 15 < 16) ∧ State.reset.fld Reg.denyLog2 31 31 = 0 ∧
    (State.reset.deny 7 127 3 15 0x3FFFFFFFFFFFFF false).fld Reg.denyLog2 31 31 = 1 := by decide

/-- Witness of CodeOfSeveralConditions: two conditions of equal precedence, and two of different. -/
theorem test_worse_witness : Status.busy.rank = (Status.op 63).rank ∧
    Status.busy.code < (Status.op 63).code ∧ Status.blockReset.rank < Status.timeout.rank := by decide

/-- A state with one started entry of a class and operation, its bytes from 0x20 given. -/
def withEntry (s : State) (r : EntryRef) (cls op : Nat) (args : List Byte) : State :=
  s.setQueue r.encl r.queue { s.queue r.encl r.queue with flight :=
    [{ seq := r.seq, started := true, bytes := leBytes 1 cls ++ leBytes 1 op ++ leBytes 30 0 ++ args }] }

/-- Witness of EntryEndsOnce: an entry that runs. -/
theorem test_entry_witness : ((withEntry State.reset ⟨2, 1, 7⟩ 0 0x10 []).entry ⟨2, 1, 7⟩).map (·.ending) = some none := by decide

/-- DRIVE with the clocks running, the rails up and no image in force. -/
def inDrive : State :=
  { State.reset with ward := { st := .drive }, power := { phase := .done, railsUp := true } }

/-- Witness of ResetSourcesHoldTheDevice: a running device with its rails up and the PCIe reset let through; rails down. -/
theorem test_reset_witness : inDrive.ward.st ≠ .off ∧ inDrive.power.railsUp = true ∧ inDrive.wardenRuns = true ∧
    inDrive.pcieResets = true ∧ State.reset.power.railsUp = false := by decide

/-- Witness of SoftwareResetNeedsItsKey: the warden's write reaches RST_SW in DRIVE, and none does in OFF. -/
theorem test_softreset_witness : inDrive.regGate .warden .write Reg.rstSw true = none ∧
    ({ State.reset with ward := { st := .off } } : State).ward.st = .off := by decide

/-- Witness of BootReleasesInOrder: the reset state may be released; 2.0 V (code 6) boots from flash, 0.8059 V steps to 15; the
phases of training and initialisation. -/
theorem test_release_witness : State.reset.inReset = true ∧ State.reset.railsLost = false ∧ State.reset.power.railMain = true ∧
    State.reset.power.strapDue = true ∧ strapCode 1910 = some 5 ∧ strapCode 2548 = some 7 ∧ strapCode 2943 = some 8 ∧
    strapCode 9306 = some 15 ∧ strapCode 9307 = none ∧ State.reset.sec.fuses.life ≠ 2 := by decide

/-- Witness of the training and initialisation clauses, at the lowest and the highest density of R179. -/
theorem test_training_witness : (∀ m < 8, trainFails (List.replicate 8 1) [] m = false) ∧
    (∀ m < 8, trainFails (List.replicate 8 16) [] m = false) ∧ trainFails (List.replicate 8 17) [] 0 = true ∧
    usableOf 16 = 64424509440 := by decide

/-- A device in STEEP with a DRIVE image and a STEEP image of one QM enclosure 2 in force. -/
def inSteep : State :=
  { State.reset with
    ward := { st := .steep, prev := .settle, resident := true }
    power := { phase := .done, railsUp := true }
    img := { force := .both
             drive := some { profile := 1, records := [{ cls := 1, queues := 2, stewards := 1 }, { cls := 1, queues := 2, stewards := 1 }],
                             owners := [0, 1], lend := 4, epochMs := 50, leaseMs := 100 }
             steep := some { profile := 2, records := [{}, {}, { cls := 2, queues := 2, stewards := 2 }], owners := [0xF, 0xF, 2],
                             epochMs := 50, leaseMs := 100 } }
    enclS := [(2, { st := .running })] }

/-- Witness of the ENCL_RESTART clauses: an aborted QM enclosure 2, a SAFETY one 0, an absent one 3. -/
theorem test_restart_witness :
    let s := { withEntry inSteep ⟨0, 0, 1⟩ 0 0x11 [2] with enclS := [(2, { st := .aborted })] }
    (s.running ⟨0, 0, 1⟩ 0 0x11).map (·.arg 0 1) = some 2 ∧ s.present 2 = true ∧ s.isSafety 2 = false ∧ (s.enclSt 2).st = .aborted ∧
      s.isSafety 0 = true ∧ s.present 3 = false ∧ s.sec.rngFail = false := by decide

/-- DRIVE, parked for 2 s, with a STEEP image stored and a mode command of the sideband open. -/
def parkedDrive (op : Nat) : State :=
  { inSteep with ward := { st := .drive }, park := { agreed := true, hold := 2000 }, img := { inSteep.img with force := .drive }
                 sb := { inSteep.sb with cmdOpen := some op } }

/-- Witness of ModeRequestsAreJudged: SETTLE, SERVICE_ENTER and STANDBY at a hold of exactly 2000, ROUSE awake and in Cozy sleep. -/
theorem test_mode_enters :
    (parkedDrive 1).park.hold = 2000 ∧ (parkedDrive 1).anyActive = false ∧ (parkedDrive 1).queuesIdle = true ∧
    (match exec (.settle .sideband false) (parkedDrive 1) with | .next t => t.ward.st | _ => .off) = .settle ∧
    (match exec (.standby .sideband false [] []) (parkedDrive 4) with | .next t => t.ward.st | _ => .off) = .standby ∧
    (inSteep.ward.cozy = false ∧ inSteep.img.force = .both) ∧
    (match exec (.rouse (.entry ⟨0, 0, 1⟩) false) (withEntry { inSteep with ward := { inSteep.ward with cozy := true } } ⟨0, 0, 1⟩ 0 2 [])
      with | .next t => t.ward.wake | _ => false) = true := by decide +kernel

/-- Witness of ModeRequestsAreJudged: every request open, its guard passed at a hold of exactly 2000, and failed at 1999. -/
theorem test_mode_witness : (parkedDrive 1).modeOpen 1 .sideband = true ∧ (parkedDrive 1).settleGuard = none ∧
    ({ parkedDrive 1 with park := { hold := 1999 } } : State).settleGuard = some .parkHold ∧
    (parkedDrive 3).modeOpen 3 .sideband = true ∧ (parkedDrive 3).parkGuard = none ∧ (parkedDrive 3).sec.fuses.life = 0 ∧
    (parkedDrive 4).modeOpen 4 .sideband = true ∧ (parkedDrive 4).parkGuard = none ∧
    ({ inSteep with sb := { inSteep.sb with cmdOpen := some 2 } } : State).modeOpen 2 .sideband = true ∧
    ({ parkedDrive 3 with sec := { (parkedDrive 3).sec with fuses := { (parkedDrive 3).sec.fuses with life := 1 } } } : State).authValid
      [] 160 = false := by decide +kernel

/-- A fold whose steps all leave the start leaves it. -/
theorem foldl_still {α β : Type} (f : α → β → α) (s : α) (l : List β) (h : ∀ x ∈ l, f s x = s) : l.foldl f s = s := by
  induction l with
  | nil => rfl
  | cons x xs ih =>
    rw [List.foldl_cons, h x (by simp)]
    exact ih fun y hy => h y (by simp [hy])

/-- SETTLE past its epoch boundary, with a STEEP image stored and nothing to end. -/
def settling : State :=
  { State.reset with ward := { st := .settle, phase := .settling }, img := { force := .drive, drive := some {}, steep := some { profile := 2 } } }

theorem settling_endBusy : settling.endBusy 1 = settling := by
  unfold endBusy
  rw [foldl_still _ settling queueIds (by decide +kernel)]
  simp only [stopEncl]
  rw [foldl_still _ settling (List.range 64) (by intro i _; rfl)]
  have h1 : settling.stopJobs (fun j => j.r.encl = 1) .busy = settling := by decide +kernel
  have h2 : settling.endAll 1 .busy = settling := by
    unfold endAll
    exact foldl_still _ settling queueIds (by decide +kernel)
  rw [h1, h2, foldl_still _ settling (List.range 64) (by decide +kernel)]
  exact foldl_still _ settling _ (by intro i _; rfl)

theorem settling_freeze :
    settling.freezeDrive = { settling.countSeizure (.encl 1) with ward := { settling.ward with resident := true } } := by
  have h : settling.seizeNow (.encl 1) = settling.countSeizure (.encl 1) := foldl_still _ _ keepers (by decide +kernel)
  simp only [freezeDrive]
  rw [foldl_still _ settling (List.range 64) (by decide +kernel), h]
  exact foldl_still _ _ (List.range 64) (by intro i _; simp [settling, bitOf])

/-- Witness of the STEEP_DECLARED clauses: within the bound, the stored image passes step 5. -/
theorem test_settle_witness :
    let e := ((settling.endBusy 1).dropBinds).freezeDrive
    (e.img.steep.map e.settleCheck) = some none ∧ e.sec.rngFail = false ∧ settling.lse.ego = none ∧ settling.fusion.due = none ∧
      settling.upNs ≤ settling.settleBound := by
  rw [settling_endBusy, show settling.dropBinds = settling from rfl, settling_freeze]
  decide +kernel

/-- Witness of EpochBoundaryAdvancesModes: the TSU runs in DRIVE and stands in reset, a bound lies ahead and behind. -/
theorem test_boundary_witness : inDrive.tsuRuns = true ∧ State.reset.tsuRuns = false ∧
    ({ inSteep with ward := { st := .rouse } } : State).rouseBound < 300000001 ∧
    ({ inSteep with ward := { st := .settle, phase := .settling } } : State).ward.phase = .settling := by decide

/-- Witness of ProofAndSafeCommands: PROOF_RUN of both scopes in SERVICE, FAULT_CLEAR of STEWARD_HANG, an unknown identifier,
INJECT admitted at its last tile target, DISC_CLEAR reached, a fill due. -/
theorem test_safe_witness :
    let v := { inDrive with ward := { st := .service } }
    let w := withEntry v ⟨0, 0, 1⟩ 5 2 [0x06, 0]
    (withEntry v ⟨0, 0, 1⟩ 5 1 [1]).proofAdmit 1 = true ∧ v.proofAdmit 0 = true ∧ v.proofAdmit 2 = false ∧
    (w.running ⟨0, 0, 1⟩ 5 2).map (fun y => activeBit (y.arg 0 2)) = some (some 4) ∧ activeBit 0x40 = none ∧
    v.injectAdmit 4 63 = true ∧ v.injectAdmit 4 64 = false ∧ v.regGate .warden .write Reg.parkCtl true = none ∧
    v.regGate .warden .write Reg.refuseClr true = none ∧ accepts .drive .safe = true ∧ accepts .halt .safe = false ∧
    v.safe.proof = none ∧ v.safe.inject = none := by decide

/-- Witness of PowerEventsStep: a held reset with its enables up, one failure, VID at both ends, a warden awake, readings. -/
theorem test_power_witness : State.reset.inReset = true ∧ State.reset.power.railsUp = false ∧ State.reset.power.railMain = true ∧
    State.reset.railsLost = false ∧ ({ State.reset with power := { railTries := 1, railMain := false } } : State).power.railTries = 1 ∧
    inDrive.wardenAwake = true ∧ inDrive.power.vid < 20 ∧ 0 < inDrive.power.vid ∧
    ((124 : Int) ∈ [25, 124] ∧ ∀ x ∈ [(25 : Int), 124], x ≤ 124) ∧ inSteep.ward.st = .steep ∧ inSteep.ward.asleep = false := by decide

/-- Witness of FatalFaultEntersHalt: a running device with nothing captured, with something captured, and one in HALT. -/
theorem test_fatal_witness : inDrive.ward.st ≠ .halt ∧ inDrive.wardenRuns = true ∧ inDrive.captured = false ∧
    (inDrive.setReg Reg.safeFatalId 0x80000005#32).captured = true ∧ staysOpen 0 = false ∧ staysOpen 118 = true ∧
    ({ inDrive with ward := { st := .halt } } : State).ward.st = .halt := by decide

/-- Witness of FaultEventsReact: the warden runs; the reference's window at its expected 250 and at both sides of its
tolerance; the register of SAFE_CNT_CLR reached in DRIVE; a report waiting. -/
theorem test_faultevents_witness : inDrive.wardenRuns = true ∧ inDrive.ward.asleep = false ∧ expectedCount inDrive 8 = 250 ∧
    100 * (287 - 250) ≤ 15 * 250 ∧ 15 * 250 < 100 * (250 - 212) ∧ inDrive.regGate .warden .write 0x0700F0 true = none ∧
    WSet.dss.has inDrive.ward.st = true ∧ (inDrive.post { fault := .overTemp }).safe.reports = [{ fault := .overTemp }] ∧
    ({ inDrive with power := { inDrive.power with pllLock := true, aonXtal := true } } : State).power.pllLock = true := by decide

/-- Witness of SafetyFramesGoOut: frames running with none waiting, one waiting that is not late, and ROM frames. -/
theorem test_frames_witness :
    let s := { inDrive with safe := { running := true } }
    s.framesOn = true ∧ s.safe.waiting = none ∧ inDrive.framesOn = false ∧
    ({ inDrive with safe := { waiting := some (5, []) } } : State).safe.late = false ∧
    ({ inDrive with ward := { st := .boot }, power := { phase := .training }, safe := { rom := true } } : State).inReset = false := by decide

/-- A gasket of a powered block in a given state, with DRAIN_TO 1. -/
def withGasket (s : State) (g : Nat) (x : Gasket) : State := (s.setGasket g x).setFld (Reg.gskCtl g) 15 8 1

/-- Witness of GasketsDrainSealAndReset: tile 0 and the last gasket in SERVICE and DRIVE, open, draining, sealed and in reset; DRAM 72
may not be reset in DRIVE. -/
theorem test_gasket_witness :
    let s := withGasket inDrive 0 { st := .opened, powered := true }
    s.regGate .warden .write (Reg.gskCtl 0) true = none ∧ WSet.dss.has s.ward.st = true ∧ 1 ≤ s.fld (Reg.gskCtl 0) 15 8 ∧
    s.mayDrain 0 = true ∧ s.mayReset 0 = true ∧ s.mayReset 72 = false ∧ (s.gasket 0).st = .opened ∧ s.gskOutst 0 = false ∧
    (withGasket inDrive 118 { st := .draining }).gskOutst 118 = false ∧ ((withGasket inDrive 1 {}).gasket 1).st = .sealed := by decide

/-- Witness of ParkWakeAndRouse: DRIVE is sampled, T_disc at 20 leaves room below it and is exceeded at 21; reset is not sampled. -/
theorem test_park_witness :
    let s := inDrive.setFld Reg.parkCtl 24 16 20
    s.samples = true ∧ s.ward.st = .drive ∧ s.tDisc = 20 ∧ s.park.disc < s.tDisc ∧ State.reset.samples = false ∧
    ({ inSteep with ward := { st := .rouse, phase := .trapped } } : State).ward.phase = .trapped ∧ s.park.run < 50 := by decide

/-- Witness of the wake clauses: drive intent in STEEP, in Cozy sleep, where it latches, and in STANDBY, which it ends; a shorter run boots STANDBY. -/
theorem test_wake_witness :
    let c : State := { inSteep with ward := { inSteep.ward with cozy := true } }
    let b : State := { State.reset with ward := { st := .standby } }
    inSteep.samples = true ∧ inSteep.park.wakeRun ≤ 4 ∧ inSteep.img.force = .both ∧ c.samples = true ∧ b.samples = true ∧
    (match exec .wakeDriveIntent c with | .next t => t.ward.wake | _ => false) = true ∧
    (match exec .wakeDriveIntent b with | .next t => t.ward.st | _ => .off) = .boot ∧
    (match exec (.wakeInSample false) { b with park := { b.park with wakeRun := 1 } } with | .next t => t.ward.st | _ => .off) = .boot := by
  decide +kernel

/-- DRIVE with a DRIVE image, the steward 0 running, and queue 0 of enclosure 0 enabled with one entry rung for. -/
def queueReady : State :=
  (({ inSteep with ward := { st := .drive }, img := { inSteep.img with force := .drive } } : State).setGasket 96
    { st := .opened, powered := true }).setReg (qCfg 0 0) 0x80000004#32 |>.setReg (qTailKey 0 0) 1#32

/-- Witness of EntriesAreTakenStartedAndRecorded: a takeable queue, and one that is not; an entry that may start; an ended entry; a
pending interrupt. -/
theorem test_queue_ready : queueReady.takeable 0 0 = true ∧ queueReady.takeable 0 1 = false ∧ queueReady.queuesServed = true ∧
    queueReady.stewardRuns 0 = true ∧ queueReady.qUnacked 0 0 < queueReady.qSize 0 0 ∧ queueReady.qSize 0 0 = 16 := by decide

theorem test_start_witness :
    let s := queueReady.setQueue 0 0 { flight := [{ seq := 5, bytes := leBytes 64 0 }], taken := 6, notify := [(0, 9)], armed := true }
    (s.entry ⟨0, 0, 5⟩).map (fun y => (y.started, y.ending.isNone, y.fence)) = some (false, true, false) ∧ s.earlier ⟨0, 0, 5⟩ = [] ∧
    (s.entry ⟨0, 0, 5⟩).bind predecessors = some [] ∧ (s.queue 0 0).notify = [(0, 9)] := by decide

/-- Witness of OperatorsArePlacedOnTiles: a GEMM of enclosure 2 in STEEP on tile 2, which is idle; a graph of serial 0. -/
theorem test_place_witness :
    let s := withEntry inSteep ⟨2, 0, 1⟩ 1 0 (leBytes 8 0 ++ leBytes 8 4)
    (s.running ⟨2, 0, 1⟩ 1 0).map (fun y => (y.tiles, s.tilesFor 2 (y.arg 8 8))) = some (0, [2]) ∧ s.bindable [] = true ∧
    s.bindable [0] = false ∧ (s.imgOf 2).map (·.serial) = some 0 ∧ s.ward.st ≠ .drive := by decide

/-- Witness of the waiting and ending clauses of OperatorsArePlacedOnTiles: a tile held by another entry, a placed entry with no kernel
left and its ring full; two orders of one set of partial sums. -/
theorem test_placed_witness :
    let y : Entry := { seq := 1, started := true, tiles := 4, bytes := leBytes 1 1 ++ leBytes 63 0 }
    let s := inSteep.setQueue 2 0 { flight := [y] }
    s.tileTaken 2 = true ∧ s.tileTaken 3 = false ∧ y.byKernels = true ∧ y.op ≠ 0x71 ∧ y.resultHdr = false ∧ s.noKernel ⟨2, 0, 1⟩ = true ∧
    ((s.setQueue 2 0 { flight := [y], completed := 16 }).setReg (qCfg 2 0) 0x80000004#32).qUnacked 2 0 = 16 ∧
    kOrder [(64, 8), (0, 4)] = kOrder [(0, 4), (64, 8)] := by decide +kernel

/-- Witness of WeightSlotsLoadPourAndEvict: a POUR of slot 5 to model 2, owned and READY; an EVICT of slot 4, READY and unbound; the
last slot and model. -/
theorem test_weights_witness :
    let s0 := (inSteep.setModel 2 { owner := inSteep.ownerTag 2 }).setSlot 5 { st := .ready } |>.setSlot 4 { st := .ready }
    let s := withEntry s0 ⟨2, 0, 1⟩ 2 2 (leBytes 4 2 ++ leBytes 4 5)
    let z := withEntry s0 ⟨2, 0, 1⟩ 2 3 (leBytes 4 4)
    (s.running ⟨2, 0, 1⟩ 2 2).map (s.pourCheck · 2) = some .ok ∧ (s.slot 5).st = .ready ∧ (s.model 2).ptr ≠ 6 ∧
    (z.running ⟨2, 0, 1⟩ 2 3).map (z.evictCheck · 2) = some .ok ∧ (z.slot 4).bindings = 0 ∧ z.evicts = [] ∧
    (z.slot 4).load = none ∧ z.runningLoads = 0 := by decide

/-- Witness of the LEAF_LOAD_END clauses: a Caddy load with its one segment written, and one that failed. -/
theorem test_leafend_witness :
    let l : Load := { encl := 2, queue := 0, seq := 1, kind := 1, placed := true, done := [0] }
    let s := (withEntry inSteep ⟨2, 0, 1⟩ 2 1 []).setSlot 4 { st := .loading, segs := [{}], load := some l }
    (s.entry (loadRef l)).map (·.ending) = some none ∧ l.done.length = (s.slot 4).segs.length ∧
    s.slots.all (fun e => !((e.2.load.map (·.waits)).getD false)) = true ∧ ({ l with fail := some .timeout } : Load).fail = some .timeout := by
  decide

/-- STEEP with an UNFORMATTED pool 0 of enclosure 2: 16 pages of 16 tokens, one layer, one head, 16 elements of BF16, in a window. -/
def withPool : State :=
  (({ inSteep with
      img := { inSteep.img with steep := inSteep.img.steep.map fun m =>
        { m with windows := [{ encl := 2, index := 1, target := 0, perm := 7, base := 0, size := 0x200000 }]
                 pools := [{ id := 0, owner := 2, pageSize := 0, storeFmt := 0, window := 1, pages := 16, pageBytes := 1024,
                             poolBytes := 0x100000 }] } }
      usable := 0x40000000 } : State).setKvPool 0 { st := .unformatted }).setGasket 72 { st := .opened, powered := true }

/-- Witness of the environment and waiter clauses: the pool is enclosure 2's and not enclosure 3's, a waiter's need is met. -/
theorem test_kv_witness : (withPool.kvEnv 0 2 [] []).isSome = true ∧ (withPool.kvEnv 0 3 [] []).isSome = false ∧
    withPool.answers = true ∧ WSet.ss.has withPool.ward.st = true ∧
    (let p : Pool := { st := .ready, nFree := 3, waits := [{ r := ⟨2, 0, 1⟩, need := 3 }] }
     p.waits.map (·.attn) = [false] ∧ ∀ w ∈ p.waits, w.need ≤ p.nFree + p.nCached) := by decide

/-- Witness of AttentionRunsAndMerges: a DECODE_ATTN entry that runs on idle tile 2, and an operator with head 1 of 2 to merge. -/
theorem test_attn_witness :
    let s := withEntry inSteep ⟨2, 0, 1⟩ 1 0x21 (leBytes 8 0 ++ leBytes 8 4)
    let z := { s with attns := [{ r := ⟨2, 0, 1⟩, heads := 2, merged := [0] }] }
    (s.running ⟨2, 0, 1⟩ 1 0x21).isSome = true ∧ s.attnOf ⟨2, 0, 1⟩ = none ∧
    (s.tilesFor 2 4).any (fun t => (s.tile t).st ≠ .idle) = false ∧ (z.attnOf ⟨2, 0, 1⟩).map (·.merged.contains 1) = some false := by decide

/-- Witness of CollectivesMoveChunks: a barrier of group 9, rank 0 of 2 and rank 1 of 2, free; its top rank in progress. -/
theorem test_coll_witness :
    let args (rank : Nat) := leBytes 16 0 ++ leBytes 2 2 ++ leBytes 2 rank ++ leBytes 4 9
    let s := withEntry inSteep ⟨2, 0, 1⟩ 1 0x44 (args 0)
    let z := withEntry inSteep ⟨2, 0, 1⟩ 1 0x40 (args 1)
    let b := { s with loom := { s.loom with colls := [{ r := ⟨2, 0, 1⟩, op := 0x44, rank := 1, size := 2, group := 9 }] } }
    (s.running ⟨2, 0, 1⟩ 1 0x44).map (fun y => (y.arg 16 2, y.arg 18 2, y.arg 20 4)) = some (2, 0, 9) ∧ s.loom.colls = [] ∧
    (z.running ⟨2, 0, 1⟩ 1 0x40).map (·.arg 18 2) = some 1 ∧ (b.coll ⟨2, 0, 1⟩).map (fun c => (c.rank, c.size, c.up)) = some (1, 2, 0) ∧
    s.groupEntries 9 = [⟨2, 0, 1⟩] := by decide +kernel

/-- Witness of the waiting clauses: rank 0 of 2, the middle and the top rank of 3; an answer that disagrees ends rank 0 with 0x58. -/
theorem test_coll_waits :
    let c (rank size : Nat) : Coll := { r := ⟨2, 0, 1⟩, op := 0x44, rank := rank, size := size, group := 9 }
    let s (b : Coll) := { withEntry inSteep ⟨2, 0, 1⟩ 1 0x44 [] with loom := { inSteep.loom with colls := [b] } }
    ((s (c 0 2)).coll ⟨2, 0, 1⟩).map (fun b => (b.go, b.up, b.down)) = some (false, 0, 0) ∧ ((s (c 1 3)).coll ⟨2, 0, 1⟩).isSome = true ∧
    ((s { c 2 3 with go := true }).coll ⟨2, 0, 1⟩).map (·.go) = some true ∧
    (match exec (.loomColl ⟨2, 0, 1⟩ 0 0 0 true 0 [] false (some false) [] []) (s (c 0 2)) with
      | .next t => (t.entry ⟨2, 0, 1⟩).bind (fun y => y.ending.map (·.status.code)) | _ => none) = some 0x58 := by decide +kernel

/-- Witness of SolverJobsRunAndEnd: a QM and a SAFETY job ready, the QM one running; an EGO that polls, solves and idles. -/
theorem test_lse_witness :
    let q : Job := { r := ⟨2, 0, 1⟩, kind := .dense }
    let g : Job := { r := ⟨1, 0, 2⟩, kind := .dense }
    let s := { inSteep with lse := { ready := [q, g] } }
    let z := { inSteep with lse := { solver := some q, ready := [g] } }
    s.jobOrder false = [g, q] ∧ s.jobSafety g = true ∧ z.jobSafety q = false ∧ (z.jobOrder false).any z.jobSafety = true ∧
    (withGasket inDrive 100 { st := .opened, powered := true }).regGate .warden .write Reg.lseCntClr true = none ∧
    EgoPhase.polling ≠ EgoPhase.idle := by decide

/-- Witness of the result clauses: an assignment of one row, a dense job of no unknown and one that is singular, an EGO solve that
converges and one that its limit stops. -/
theorem test_solver_results :
    bestAssign (fun _ _ => 7) 1 100 1 0 [] = some (7, [0]) ∧
    (match (denseRun (leBytes 128 0) (jobEnv (leBytes 128 0) 0 []) []).1 with | .ok (d, c) => (d, c) | .error _ => ([1], 1)) = ([], 0) ∧
    (let d : List Byte := leBytes 4 0 ++ leBytes 2 1 ++ leBytes 122 0
     (match (denseRun d (jobEnv d 0 []) []).1 with | .error .singular => true | _ => false) = true) ∧
    (inSteep.egoRun { desc := leBytes 6 0 ++ leBytes 1 4 ++ leBytes 121 0 } []).1.2.2 = .converged ∧
    (inSteep.egoRun {} []).1.2.2 = .limit := by decide +kernel

/-- Witness of FusionBindsCommitsAndExports: an epoch due in a warm and a warmed-up unit, in DRIVE and in HALT; its register. -/
theorem test_fusion_witness :
    let s := { inDrive with fusion := { due := some 4, profile := some [], warm := false } }
    s.fusion.due = some 4 ∧ s.fusion.profile = some [] ∧ s.ward.st ≠ .halt ∧ s.fusion.bind = none ∧
    (withGasket inDrive 101 { st := .opened, powered := true }).regGate .warden .write Reg.fuCntClr true = none ∧
    (withEntry inDrive ⟨1, 0, 3⟩ 1 0x52 []).entry ⟨1, 0, 3⟩ ≠ none := by decide

/-- Witness of QueueRegistersTakeTheirWrites: enclosure 0's queue 0, enabled, and its queue 1, disabled; an acknowledgement at
COMPLETED, and one beyond it. -/
theorem test_queueregs_witness :
    queueReady.regGate .warden .write (qTailKey 0 1) true = none ∧ queueReady.regGate .warden .write (Reg.qpage 0 1 + 0x2C) true = none ∧
    queueReady.regGate .warden .write (qCfg 0 1) true = none ∧ queueReady.qOn 0 1 = false ∧
    queueReady.regGate .warden .write (qCfg 0 0) true = none ∧ queueReady.qOn 0 0 = true ∧
    queueReady.regGate .warden .write (qCheadKey 0 0) true = none ∧
    (0 + 2 ^ 32 - (queueReady.queue 0 0).completed) % 2 ^ 32 = 0 ∧ (1 + 2 ^ 32 - (queueReady.queue 0 0).completed) % 2 ^ 32 = 1 := by
  decide +kernel

/-- QUEUE_DOORBELL stores TAIL (Table 9.10: bits 11 to 0). -/
theorem test_doorbell : (match exec (.queueDoorbell .warden 0 1 0x1234) queueReady with
    | .next t => t.reg (qTailKey 0 1) | _ => 0) = 0x234#32 := by decide +kernel

/-- Witness of RegisterWritesAndClears: the gate open for each register in DRIVE, a misaligned write stopped, the ends of the
range of PWR_TEMP_THR and a value past it, an offset of SYS with no description, the states that seal. -/
theorem test_registers_witness :
    (inDrive.regGate .warden .write 0x030008 false).isSome = true ∧ inDrive.regGate .warden .write 0x030008 true = none ∧
    WSet.dss.has inDrive.ward.st = true ∧ (85 ≤ 85 % 256 ∧ 124 % 256 ≤ 124 ∧ ¬ 125 % 256 ≤ 124) ∧
    inDrive.regGate .warden .write Reg.sysErr true = none ∧ regRow 0xFFFC = none ∧ inDrive.regGate .warden .write 0xFFFC true = none ∧
    (let b := { inDrive with ward := { inDrive.ward with st := .boot } }
     WSet.bootProof.has b.ward.st = true ∧ WSet.dss.has b.ward.st = false ∧ b.regGate .warden .write Reg.sysSeal true = none ∧
     b.regGate .warden .write 0x030008 true = none) ∧
    inDrive.regGate .warden .write Reg.weaveOutst true = none ∧ inDrive.regGate .warden .write Reg.denyClr true = none ∧
    inDrive.regGate .warden .write 0x0F0014 true = none ∧ inDrive.regGate .warden .write 0x0F00F0 true = none := by decide +kernel

/-- A write of 124 to PWR_TEMP_THR is stored, one of 125 is not (Table 3.19). -/
theorem test_temp_thr : (match exec (.registerWrite .warden 0x030008 124 true false [] []) inDrive with
    | .next t => t.fld 0x030008 7 0 | _ => 0) = 124 ∧
    (match exec (.registerWrite .warden 0x030008 125 true false [] []) inDrive with
    | .next t => t.fld 0x030008 7 0 | _ => 0) = 0x73 := by decide +kernel

/-- SERVICE with mover channel (15, 31) of enclosure 0 open, leased to the warden, running at HEAD 3 of a ring of 16. -/
def withChannel (cur : Option Running) : State :=
  (({ inDrive with ward := { st := .service } } : State).setMchan 15 31 { encl := 1, head := 3, st := .running, cur := cur, lease := { held := true, encl := 0, gsk := 118, gen := 7, until_ := 1000000 } }).setGasket 95 { st := .opened, powered := true, inReset := false }
    |>.setReg (Reg.moverPage 15 31 + 0x18) 4#32

/-- Witness of MoverChannelsAreLeasedAndRun: the last channel, reached, held by the warden, running with TAIL elsewhere; a free
one; a doorbell register and a resume register reached. -/
theorem test_mover_witness :
    let s := withChannel none
    WSet.dss.has s.ward.st = true ∧ s.regGate .warden .write (Reg.moverPage 15 31) true = none ∧
    s.regGate .warden .write (Reg.moverPage 15 31 + 0x1C) true = none ∧ s.regGate .warden .write (Reg.moverPage 15 31 + 0x20) true = none ∧
    (s.chLeaseTick 15 31).holds .warden ((s.chLeaseTick 15 31).mchan 15 31).lease = true ∧
    (s.chLeaseTick 15 31).holds .security ((s.chLeaseTick 15 31).mchan 15 31).lease = false ∧
    ((s.setMchan 15 31 { encl := 1 }).chLeaseTick 15 31).mchan 15 31 = { encl := 1 } ∧
    (s.mchan 15 31).cur = none ∧ (s.mchan 15 31).head ≠ s.chTail 15 31 ∧ s.moverOutst 15 = 0 ∧ (s.gasket 95).inReset = false ∧
    (withChannel (some {})).chSize 15 31 = 16 ∧ ((withChannel (some {})).mchan 15 31).cur = some {} := by decide +kernel

/-- Witness of the lease and gasket clauses: the lease stands at 999999 ns and is past at 1000000; a mover that drains. -/
theorem test_mover_lease_witness :
    let s := withChannel none
    ((s.mchan 15 31).lease.held = true → s.upNs < (s.mchan 15 31).lease.until_) ∧ (s.gasket 95).st = .opened ∧ s.chanOutst 15 31 = 0 ∧
    ({ s with upNs := 999999 } : State).upNs < (s.mchan 15 31).lease.until_ ∧ (s.mchan 15 31).lease.until_ ≤ ({ s with upNs := 1000000 } : State).upNs ∧
    (match exec (.descriptorStart 15 31 none [] []) { s with upNs := 1000000 } with | .next t => (t.mchan 15 31).st | _ => .idle) = .stopped ∧
    ((s.setGasket 95 { st := .draining, powered := true }).gasket 95).st ≠ .opened := by decide +kernel

/-- DRIVE with the gaskets of commons slice 0 and of DRAM channel 0 open and 1 GiB of DRAM. -/
def withArrays : State :=
  (({ inDrive with usable := 0x40000000 } : State).setGasket 64 { st := .opened, powered := true }).setGasket 72
    { st := .opened, powered := true }

/-- Witness of WeaveRequestsAndResponses: the warden's requests of 256 and 8 bytes pass, one to an unmapped place is denied, a full
block that crosses is no request; a mover whose gasket is SEALED stalls; a leased commons word; responses to find. -/
theorem test_weave_witness :
    oneRequest 0x1000000000 256 = true ∧ oneRequest 0x1000000001 256 = false ∧ withArrays.stalls .warden = false ∧
    withArrays.stalls (.mover 0 0) = true ∧ withArrays.windowCheck .warden .read 0x1000000000 256 = none ∧
    withArrays.windowCheck .warden .atomic 0x1000000000 8 = none ∧ withArrays.windowCheck .warden .write 0x40000000 8 = some 2 ∧
    withArrays.loomBound 0x1000000000 = false ∧ withArrays.trackerFull .warden 64 = false ∧
    placeOf withArrays.usable 0x1000000000 = .commons 0 ∧ withArrays.gasketAnswer 64 = none ∧
    ({ withArrays with weave := { withArrays.weave with live := [0x1000000000] } } : State).leased 0x1000000000 8 = true ∧
    (withArrays.gasket 64).st ≠ .sealed ∧ (withArrays.gasket 0).st = .sealed ∧
    (withArrays.track .warden 64 .ok []).weave.outst.map (·.id) = [withArrays.weave.nextId] := by decide +kernel

/-- Witness of the INTEGRITY clauses: a flit lost of a read, a response with a parity error at an open gasket. -/
theorem test_lost_witness :
    let s := withArrays.track (.steward 0 0) 64 .ok [1]
    flitOf [{ unit := 0x1000000000, flit := some (118, false) }] 0x1000000000 = some (118, false) ∧
    (s.weave.outst.map (·.id)) = [withArrays.weave.nextId] ∧
    (match exec (.weaveResponse withArrays.weave.nextId (some 64)) (s.setGasket 96 { st := .opened, powered := true }) with
      | .next t => t.weave.done.map (·.status) | _ => []) = [.integrity] := by decide +kernel

/-- Witness of LeasesBySpecWordExpireAndAreSeized: a free word, a word held by gasket 5 of enclosure 2 with generation 3, a lease on
the last word of slice 0 with its expiry due, a remote lease, an append and a barrier that wait, an order to slice 0. -/
theorem test_lease_witness :
    let s := { withArrays with weave := { withArrays.weave with live := [0x10003FFFF8], seizures := [(0, 130, 0), (24, 130, 0)] }, loom := { withArrays.loom with leases := [{ held := true, expiry := 1000 }], colls := [{ group := 1, rank := 0, leaseHeld := true, r := ⟨2, 0, 1⟩ }] } }
    let w := 1 + 2 * 8 + 5 * 0x40 + 3 * 0x10000
    bitOf 0 0 = false ∧ bitOf w 0 = true ∧ wordHeldBy w 5 2 = true ∧ bitsOf w 31 16 = 3 ∧
    (s.weave.live.filter (fun b => sliceOf b = 0)).length < 256 ∧ oneRequest 0x1000000008 8 = true ∧
    s.weave.live.contains 0x10003FFFF8 = true ∧ (∀ b ∈ s.weave.live, b % 8 = 0) ∧ sliceOf 0x10003FFFF8 = 0 ∧
    s.loom.leases.map (·.held) = [true] ∧ s.loom.colls.map (·.leaseHeld) = [true] ∧
    s.weave.seizures.find? (fun z => z.1 = keeperIdx (.commons 0)) = some (0, 130, 0) ∧
    s.weave.seizures.find? (fun z => z.1 = keeperIdx .loom) = none ∧ s.wardenRuns = true ∧ s.ward.st ≠ .halt ∧
    isParty 130 5 2 = true ∧ isParty 5 5 2 = true ∧ isParty 130 5 3 = false := by decide +kernel

theorem test_append_expiry_witness :
    let s := (withEntry inSteep ⟨2, 0, 1⟩ 3 4 []).setKvPool 15 { waits := [{ r := ⟨2, 0, 1⟩, idx := 7, since := 0, need := 2 }] }
    ((s.kvPool 15).waits.find? (fun z => z.idx = 7)).map (·.attn) = some false ∧ (s.kvEnv 15 2 [] []).isNone = true ∧
    (s.entry ⟨2, 0, 1⟩).map (·.ending) = some none := by decide

/-- STEEP, member of a loom of nodes 0 (this device) and 5 with the coordinator named. -/
def inLoom (coord : Nat) (st : MState) : State :=
  { inSteep with loom := { st := st, view := { seq := 8, coord := coord, members := [{ node := 0, role := 2 }, { node := 5, role := 2 }] } } }

/-- Witness of MembershipFollowsTheView: a coordinator, a member and a claimant of a loom of two; one alone; a joiner of group 16
and a full count of heartbeats missed. -/
theorem test_member_witness :
    (inLoom 0 .coordinator).isCoord = true ∧ (inLoom 0 .coordinator).isMember = true ∧ (inLoom 5 .member).isCoord = false ∧
    (inLoom 5 .member).isMember = true ∧ inSteep.isMember = false ∧ inSteep.nodeId = 0 ∧ (inLoom 5 .member).inView 5 = true ∧
    (inLoom 0 .coordinator).inView 6 = false ∧ (inLoom 0 .coordinator).loom.vote.st ≠ .opened ∧
    ({ loomId := 0, group := 16, who := { node := 6 } } : JoinRec).group ≤ 16 ∧ (inLoom 5 .member).others = [5] ∧ (inLoom 5 .electing).loom.st = .electing ∧
    lowest [5, 0] = some 0 ∧ (inLoom 0 .coordinator).lostHb ≤ 255 ∧ (inLoom 0 .coordinator).loom.view.members.length < 2 * 2 ∧
    ((withEntry inSteep ⟨0, 0, 1⟩ 4 1 (List.replicate 16 0 ++ leBytes 2 0xFFFF)).running ⟨0, 0, 1⟩ 4 1).map (·.arg 16 2) = some 0xFFFF ∧
    ((withEntry (inLoom 5 .member) ⟨0, 0, 1⟩ 4 2 []).running ⟨0, 0, 1⟩ 4 2).isSome = true ∧
    ({ inSteep with img := { inSteep.img with steep := inSteep.img.steep.map fun m => { m with loomRole := 2 } } } : State).ownRec.role = 2 ∧
    ((inSteep.setBport 7 { st := .active }).bport 7).st = .active := by decide +kernel

/-- Witness of VotesCommitSleepAndWake: a coordinator with a vote open for an entry, all but one yes in; a member with a vote; a
device asleep with a wake latched; a port in SLEEP; the reset's registers reached. -/
theorem test_vote_witness :
    let s := withEntry (inLoom 0 .coordinator) ⟨0, 0, 1⟩ 4 3 []
    let o := { s with loom := { s.loom with vote := { st := .opened, id := 3, entry := some ⟨0, 0, 1⟩, yes := [0] } } }
    let m := { inLoom 5 .member with loom := { (inLoom 5 .member).loom with vote := { st := .opened, id := 3 } } }
    (s.running ⟨0, 0, 1⟩ 4 3).isSome = true ∧ s.loom.vote.st ≠ .opened ∧ s.ward.wake = false ∧ o.isCoord = true ∧
    (o.entry ⟨0, 0, 1⟩).map (·.ending) = some none ∧ o.inView 5 = true ∧ o.loom.delayed = [] ∧
    (o.loom.view.members.map (·.node)).all ([0] ++ [5]).contains = true ∧ (o.loom.view.members.map (·.node)).all ([0] ++ [0]).contains = false ∧
    ((withEntry m ⟨2, 0, 1⟩ 4 4 (leBytes 2 3 ++ [1])).running ⟨2, 0, 1⟩ 4 4).map (fun y => (y.arg 0 2, y.arg 2 1)) = some (3, 1) ∧
    m.isMember = true ∧ m.isCoord = false ∧ m.ward.cozy = false ∧ s.regGate .warden .write Reg.loomRreset true = none ∧
    s.regGate .warden .write Reg.loomCntClr true = none ∧ WSet.ss.has s.ward.st = true ∧
    ((s.setBport 7 { st := .sleep }).bport 7).st = .sleep ∧ (s.steepImg.map (·.loomId)) = some 0 := by decide +kernel

/-- Witness of ArraysScrubCountAndRefresh: tile 63 powered, at its last word, clean; a word with one bit flipped and one with two; the
last channel trained; nine correctable events within a second. -/
theorem test_arrays_witness :
    let s := ((inDrive.setGasket 63 { powered := true }).setTram 63 { scrubAt := 0x3FFFF }).setChan 7
      { trained := true, rawCh := 8, ceTimes := List.replicate 65 0 }
    s.sramScrubs 63 = true ∧ s.sramScrubs 62 = false ∧ s.unitState (.tsram 63) (tileBase 63 + 8 * 0x3FFFF) false = .clean ∧
    (s.setSynd 0x1100000000 (sramColumns.getD 3 0)).unitState (.tsram 0) 0x1100000000 false = .correctable 3 ∧
    (s.setSynd 0x1100000000 (sramColumns.getD 3 0 ^^^ sramColumns.getD 4 0)).unitState (.tsram 0) 0x1100000000 false = .uncorrectable ∧
    (s.chan 7).trained = true ∧ (s.chan 7).selfRefresh = false ∧ (s.chan 6).trained = false ∧
    s.fld (Reg.mcEccCtl 7) 23 16 < ((s.chan 7).ceTimes.filter fun x => s.upNs < x + second).length ∧
    (inDrive.setGasket 79 { st := .opened, powered := true }).regGate .warden .write (Reg.mcEccCtl 7) true = none := by decide +kernel

/-- DRIVE with the TSU running, PPS its source, MAC 0 a gPTP port. -/
def withTsu : State :=
  { inSteep.setReg Reg.tsuCfg 0x00010C02#32 with
    img := { inSteep.img with drive := inSteep.img.drive.map fun m => { m with ports := [{ id := 0x10, role := 1, options := 1 }] } } }

/-- Witness of TimeStampUnitIsDisciplined: a first edge, one 1 s later and one 2 ms late; a grandmaster; a source lost; a holdover; the
register reached. -/
theorem test_tsu_witness :
    let s := withTsu
    (s.elapse 0).tsuRuns = true ∧ s.srcSel = 2 ∧ s.grandmaster = false ∧ s.tsu.lastEdge = 0 ∧ s.stepOk = true ∧
    ({ s with ward := { s.ward with st := .drive } } : State).stepOk = false ∧ s.gptpOn 0 = true ∧ s.gptpOn 1 = false ∧
    (s.setFld Reg.tsuCfg 2 2 1).grandmaster = true ∧ s.fld Reg.tsuCfg 16 16 = 1 ∧ s.tsu.st = 0 ∧
    (((1000000001 + 1002000000 : Nat) : Int) + 1 - ((1000000001 + 1 : Nat) : Int) - 1000000000).natAbs = 2000000 ∧
    (s.setGasket 102 { st := .opened, powered := true }).regGate .warden .read Reg.tsuTimeLo true = none := by decide +kernel

/-- Witness of the clauses of a source taken away: none selected, the TSU locked and not. -/
theorem test_tsu_none_witness :
    let s (st : Nat) : State := { inSteep with tsu := { inSteep.tsu with st := st } }
    (s 1).tsu.src = 0 ∧ (s 1).tsuRuns = true ∧ (match exec .tsuSourceLost (s 1) with | .next t => t.tsu.st | _ => 9) = 2 ∧
    (match exec .tsuSourceLost (s 0) with | .next t => t.tsu.st | _ => 9) = 0 := by decide +kernel

/-- STEEP with tile 2 of enclosure 2 open, in a given tile state. -/
def withTile (x : Tile) : State := (inSteep.setGasket 2 { st := .opened, powered := true }).setTile 2 x

/-- Witness of TileKernelsRunAndEnd: an idle tile and an entry of its enclosure that runs; an executing kernel with a launch, one with
a fill of the next layer, one that waits; one aborting. -/
theorem test_tile_witness :
    let l : Launch := { encl := 2, queue := 0, seq := 1 }
    let i := withEntry (withTile {}) ⟨2, 0, 1⟩ 1 0 []
    let e := withTile { st := .running, launch := some l, fills := [{ src := 0, len := 64, buf := 1, layer := 1, off := 0 }] }
    (i.entry ⟨2, 0, 1⟩).map (fun y => (y.started, y.ending.isNone)) = some (true, true) ∧ (i.tile 2).st = .idle ∧
    i.gasketAnswer 2 = none ∧ i.tileOwner 2 = 2 ∧ e.executing 2 = true ∧ (e.tile 2).fillFail = [] ∧
    fillsOf (addFills (e.tile 2) []) 1 ≠ [] ∧ fillsOf (addFills {} []) 1 = [] ∧ (withTile { fencePf := 1 }).executing 2 = false ∧
    e.tileOutst 2 = [] ∧ (withTile { st := .aborting }).tileOutst 2 = [] ∧ Status.timeout.permits = false ∧
    inSteep.answers = true ∧ WSet.dss.has inSteep.ward.st = true := by decide

/-- Witness of the fill clauses: a failed fill of the next layer ends the kernel at its switch; a fill two layers ahead waits. -/
theorem test_fill_witness :
    let l : Launch := { encl := 2, queue := 0, seq := 1 }
    let e := withTile { st := .running, launch := some l, fillFail := [(1, .blockReset)] }
    let w := withTile { st := .running, launch := some l, fills := [{ src := 0, len := 64, buf := 1, layer := 2, off := 0 }] }
    (e.tile 2).fillFail.find? (fun p => p.1 = (e.tile 2).layer + 1) = some (1, .blockReset) ∧
    (match exec (.bufferSwitch 2 []) e with | .next t => (t.tile 2).posted | _ => none) = some .blockReset ∧
    (match exec (.fillComplete 2 [] []) w with | .next t => (t.tile 2).fills.length | _ => 0) = 1 := by decide +kernel

/-- Witness of TileEnginesComputeAndProve: tile 2 executes; the pair codes 0, 2 and the reserved 0xB; a fresh operation of one block;
lanes that wrap. -/
theorem test_engines_witness :
    (withTile { st := .running }).executing 2 = true ∧ (withTile {}).executing 2 = false ∧ tePair 0 = 0 ∧ tePair 2 ≤ 2 ∧
    tePair 0xB = 0 ∧ ({} : TeOp).mode % 2 = 0 ∧ ({} : TeOp).kblk % 4096 = 1 ∧ ({} : TeOp).drain % 2 = 0 := by decide

/-- SUB wraps modulo 2^32 (Table 6.2); SAR keeps the sign. -/
theorem test_vu_lane : vuLane .subI 0 1 0 0 = (0xFFFFFFFF, 0) ∧ vuLane .sar 0x80000000 31 0 0 = (0xFFFFFFFF, 0) ∧
    vuLane .addI 0xFFFFFFFF 2 0 0 = (1, 0) := by decide

/-- DRIVE with camera port 0 and a stream bound to its virtual channel 3, and CAN 0. -/
def withCamera : State :=
  let i := { inSteep.img with drive := inSteep.img.drive.map fun m => { m with ports := [{ id := 0x20 }, { id := 0x28 }, { id := 0x30 }, { id := 0x10, role := 1 }] } }
  ({ inSteep with ward := { st := .drive }, img := i } : State).setStream 31
    { bound := some { stream := 31, port := 0x20, kind := 1, sel := 3, mtch := 0x2A, maxLen := 64, slots := 2, slotBytes := 128 } }

/-- Witness of StrainerJudgesAndWritesData: data delivered in DRIVE; the camera's stream found, a frame open; ports listed; the counter
check at d = 1, at MAX_GAP + 1 and past it; the last stream bound. -/
theorem test_strainer_witness :
    let s := withCamera
    let o := { s with str := { s.str with cameras := SMap.set {} s.str.cameras 3 { opened := true, lines := [(0x2A, [])] } } }
    s.delivers = true ∧ (s.camStreams 0x20 3).map (fun e => (e.1, e.2.mtch % 64)) = [(31, 0x2A)] ∧ s.camStreams 0x20 2 = [] ∧
    (SMap.get ({} : Camera) o.str.cameras 3).opened = true ∧ (s.portOf 0x28).isSome = true ∧ (s.portOf 0x30).isSome = true ∧
    (s.portOf 0x10).map (·.role) = some 1 ∧ (continuity { initial := false, last := 5 } 3 9).1 = .gap ∧
    (continuity { initial := false, last := 5 } 3 10).1 = .outOfSeq ∧ (continuity { initial := false, last := 0xFFFFFFFF } 3 0).1 = .accepted ∧
    earlyChecks {} 0 0 false true [] [] = some .format ∧ Judged.overrun.code = 12 ∧ (s.stream 31).bound.isSome = true ∧
    (s.setGasket 102 { st := .opened, powered := true }).regGate .warden .write Reg.strCntClr true = none := by decide +kernel

/-- A member of a loom with a READ of node 5 for 8 bytes at the front of port 0's buffer. -/
def withRead (st : DevState) : State :=
  let l := inLoom 5 .member
  let p := lpkt 0 { dst := 0, src := 5, opc := opcRead, encl := 2, tid := 9, size := 7, addr := 0x1000 } []
  ({ l with ward := { l.ward with st := st } } : State).setBport 0 { link := (LinkLayer.fresh 4 4 4).setRx 0 { buf := [p] } }

/-- Witness of InboundLoomRequestsAreChecked: a read for this device at the front, in STEEP and in ROUSE, from a member; no window exports
its address; a full block that crosses is no request; the fields of a header at their largest. -/
theorem test_inbound_witness :
    let s := withRead .steep
    let h := LHdr.read ((((s.linkOf 0).map (fun x => ((x.rxOf 0).buf.getD 0 {}).body)).getD []))
    (h.opc, h.src, h.dst, h.size, h.addr % 2 ^ 54) = (opcRead, 5, 0, 7, 0x1000) ∧ s.ward.st ≠ .rouse ∧
    (withRead .rouse).ward.st = .rouse ∧ s.isMember = true ∧ s.inView 5 = true ∧ s.inView 6 = false ∧ s.nodeId = 0 ∧
    oneRequest 0x1000 8 = true ∧ oneRequest 0x10FC 8 = false ∧ s.exported 2 0x1000 8 0 = none ∧ s.mboxOpen 2 = false ∧
    s.loom.leases = [] ∧ (7 : Nat) < 8 ∧ (1023 : Nat) < 1024 := by decide +kernel

/-- A member with a session 63 to node 5 and a request of TID 9 to it outstanding. -/
def withSession (x : Session) : State :=
  let l := inLoom 5 .member
  { l with loom := { l.loom with sessions := [(63, x)], outst := [{ tid := 9, node := 5, via := 79, encl := 2 }] } }

/-- Witness of LoomResponsesAndTunnels: a live request, a held one with no route, a session that is idle, one with unacknowledged flits, one
that owes an answer; a tunnel end point. -/
theorem test_tunnel_witness :
    let s := withSession { peer := 5, gen := 1, link := .fresh 64 64 8, answerDue := true }
    (s.liveReqs.find? (fun l => l.tid = 9)).isSome = true ∧ (s.liveReqs.find? (fun l => l.tid = 8)).isSome = false ∧
    (s.session 63).map (fun z => (z.link.unacked, z.link.waiting, flitsDue z.link, z.answerDue)) = some ([], false, false, true) ∧
    s.sessionWith 5 = some 63 ∧ s.isMember = true ∧ s.routeTo 5 = .none ∧ inSteep.isMember = false ∧
    (takeFlits 0 (s.frameLimit 5) (LinkLayer.fresh 64 64 8)).1 = [] ∧
    ({ s with img := { s.img with steep := s.img.steep.map fun m => { m with tunnel := 1 } } } : State).ownTunnel = true ∧
    fieldAt (leBytes 8 0) 0 1 ≠ 0x4B := by decide +kernel

/-- STEEP with Brikel port 7 in a given state. -/
def withPort (b : Brikel) : State := inSteep.setBport 7 b

/-- Witness of LinkStatesFollowTraining: the last port in each state, its four lanes trained and confirmed, one lane left out, idle with L1
enabled, draining. -/
theorem test_port_witness :
    let four := [(0, 1), (1, 2), (2, 3), (3, 4)]
    let b : Brikel := { st := .train, lanes := four, peerUsable := 15, tsb := [(0, 16), (1, 16), (2, 16)] }
    let c := { b with tsb := SMap.set 0 b.tsb 3 16 }
    c.active.1 = 4 ∧ c.confirmed = true ∧ b.confirmed = false ∧ ({ c with leftOut := 1 } : Brikel).active.1 = 2 ∧
    ({} : Brikel).active.1 = 0 ∧ bitOf c.physical 3 = true ∧ bitOf ({} : Brikel).physical 3 = false ∧
    ((withPort b).bport 7).st = .train ∧ fieldAt [0xC5#8] 0 1 = 0xC5 ∧ fieldAt [0xC3#8] 0 1 = 0xC3 ∧
    (withPort {}).answers = true ∧ ((withPort { st := .active }).setFld (Reg.blk 7 0) 3 3 1).fld (Reg.blk 7 0) 3 3 = 1 ∧
    0 < (withPort {}).fld (Reg.blk 7 0) 31 24 ∧ (withPort {}).fld (Reg.blk 7 0) 31 24 ≤ 255 ∧ ({} : Brikel).link.unacked = [] ∧
    ({} : Brikel).link.waiting = false ∧ ((withPort {}).setFld (Reg.blk 7 0) 15 8 5).fld (Reg.blk 7 0) 15 8 = 5 := by decide +kernel

/-- Witness of FlitsAreCheckedAndReplayed: an active port with nothing to send, one with a packet and credit, one with a flit
unacknowledged; an empty flit is damaged. -/
theorem test_flit_witness :
    let x := LinkLayer.fresh 64 64 8
    x.resend = 0 ∧ x.cur = [] ∧ x.pick = none ∧ x.ctrl = [] ∧ (x.push (lpkt 0 {} [])).pick.isSome = true ∧ x.unacked.length < 256 ∧
    x.replays < 3 ∧ ({ x with unacked := [(0, [])] } : LinkLayer).unacked ≠ [] ∧ ([] : List Byte).length ≠ 256 ∧
    ((withSession { link := { x with unacked := [(0, [])] } }).session 63).map (fun z => z.link.unacked.length) = some 1 := by
  decide +kernel

/-- Witness of the lane clause: a port of four trained lanes stripes over all of them, one of two left out over two. -/
theorem test_lanes_witness :
    let four := [(0, 1), (1, 2), (2, 3), (3, 4)]
    let b : Brikel := { st := .active, lanes := four, peerUsable := 15 }
    b.active.1 = 4 ∧ b.activeLanes.length = 4 ∧ ({ b with leftOut := 1 } : Brikel).active.1 = 2 ∧
    ({ b with leftOut := 1 } : Brikel).activeLanes.length = 2 := by decide +kernel

/-- Witness of SidebandTransfersAndCommands: DRIVE answers and has nothing open; busy, notifying, and each command open; STANDBY and Cozy. -/
theorem test_sideband_witness :
    let o (c : Nat) : State := { inDrive with sb := { cmdOpen := some c } }
    inDrive.sbAnswers = true ∧ inDrive.ward.cozy = false ∧ inDrive.sb.cmdOpen = none ∧ accepts inDrive.ward.st .cfg = true ∧
    accepts .boot .cfg = false ∧ ({ inDrive with ward := { st := .boot } } : State).sbAnswers = true ∧ inDrive.sb.outBox.length = 32 ∧
    inDrive.sb.outFull = false ∧ (o 5).sb.cmdOpen = some 5 ∧ (o 6).sec.rngFail = false ∧ (o 7).ward.st ≠ .off ∧
    (inDrive.sbBusy 5).upNs < (inDrive.sbBusy 5).sb.busyUntil ∧ inDrive.fld Reg.rstStrap 12 12 = 0 ∧
    ({ inDrive with ward := { st := .standby } } : State).sbAnswers = false ∧ inSteep.sbAnswers = true := by decide +kernel

/-- The identity bytes of Map-S (Table 21.2: PART is 0x64, STEPPING 0xB1). -/
theorem test_sb_id : inDrive.mapByte 0 = 0x64#8 ∧ inDrive.mapByte 1 = 0xB1#8 := by decide +kernel

/-- RESET needs its argument 0xA5C3 (Table 21.3): without it the command is answered BAD_ARG. -/
theorem test_sb_reset_arg : (match exec (.sbWriteTransfer false [0x10, 7, 0xF8] true) inDrive with
    | .next t => t.sb.cmdOpen | _ => some 0) = none := by decide +kernel

/-- STEEP with the PCIe link up and enclosure 2's aperture open at the commons. -/
def withPcie : State :=
  let s := { inSteep with pcie := { linkUp := true, busMaster := true, msixOn := true } }
  ((s.setReg 0x110060 0#32).setReg 0x110064 0x80000010#32).setGasket 111 { st := .opened, powered := true }

/-- Witness of InboundPcieRequestsAreJudged: the link up as an endpoint, one aperture open and one closed, a forwarded read; the debug
port of a blank device is open, and of a fielded one closed. -/
theorem test_pcie_in_witness :
    withPcie.pcie.linkUp = true ∧ withPcie.answers = true ∧ withPcie.pcieRoot = false ∧ withPcie.aperture 0x100000000 = none ∧
    withPcie.aperture 0x200000010 = some (2, 0x1000000010) ∧ withPcie.stalls (.pcie 2) = false ∧ withPcie.stalls (.pcie 0) = false ∧ withPcie.imageApplied = true ∧
    oneRequest 0x1200000000 4 = true ∧ withPcie.isRegs 0x1000000000 = false ∧ withPcie.debugState = 1 ∧
    inDrive.pcie.linkUp = false ∧ oneRequest 0x1000000000 64 = true ∧ placeOf withPcie.usable 0x1000000000 ≠ .unmapped ∧
    ({ withPcie with sec := { fuses := { life := 1 } } } : State).debugState ≠ 1 := by decide +kernel

/-- Witness of the configuration clauses: 100 ms after the link came up an endpoint gives its identifiers; a root port refuses. -/
theorem test_config_witness :
    let s : State := { withPcie with upNs := 100000000 }
    let r : State := { s with img := { s.img with drive := s.img.drive.map fun m => { m with ports := [{ id := 0, role := 2 }] } } }
    s.pcie.upSince + 100000000 ≤ s.upNs ∧ s.pcieRoot = false ∧ r.pcieRoot = true ∧ r.pcie.linkUp = true ∧ r.answers = true ∧
    (match exec (.pcieInboundRequest (.configRead 0) true [] []) s with | .next t => t.pcie.cpl | _ => none) = some .success := by decide +kernel

/-- Witness of the orphan and next-read clauses: a read whose load is gone is discarded and counted; one of 63 others lets the next go. -/
theorem test_orphan_witness :
    let s : State := { inSteep with caddy := { ready := true, orphans := [4] } }
    s.nvmeReq 4 = none ∧ 4 ∈ s.caddy.orphans ∧
    (match exec (.nvmeCompletion 4 false [] [] []) s with | .next t => (t.caddy.orphans, t.fld (Reg.gskStat 112) 31 16) | _ => ([4], 0)) = ([], 1) ∧
    (let z : State := { s with caddy := { ready := true, outst := (List.range 64).map fun i => { id := i, slot := 1, seg := 1 } } }
     (z.nvmeDrop 0).nvmeHeld 1 = 63 ∧ ({ tier := 0, units := 9 } : Segment).tier ≠ 2) := by decide +kernel

/-- Witness of PcieAndNvmeRequestsEnd: an outbound request, a pending vector with its entry unmasked, and an NVMe read outstanding. -/
theorem test_pcie_end_witness :
    let s : State := { withPcie with pcie := { withPcie.pcie with outst := [{ id := 7 }], pend := [3], table := [(60, 0)] }
                                     caddy := { ready := true, outst := [{ id := 2, slot := 1, seg := 1 }] } }
    s.pcie.outst.find? (fun x => x.id = 7) = some { id := 7 } ∧ s.pcie.outst.find? (fun x => x.id = 8) = none ∧ 3 ∈ s.pcie.pend ∧
    s.msixMasked 3 = false ∧ s.pcie.msixOn = true ∧ s.pcieRoot = false ∧ s.msixMasked 4 = true ∧
    s.nvmeReq 2 = some { id := 2, slot := 1, seg := 1 } ∧ s.nvmeReq 3 = none ∧ s.caddy.ready = true ∧ inDrive.caddy.ready = false ∧
    (s.setSlot 1 { load := some {}, segs := [{}] }).slot 1 = { load := some {}, segs := [{}] } ∧ ({} : Segment).tier = 0 := by
  decide +kernel

/-- BOOT under host push (strap code 8 and up sets bit 4) in a given wait. -/
def inPush (w : PushSt) : State :=
  let s := { State.reset with power := { phase := .training, railsUp := true }, pcie := { linkUp := true, push := w } }
  (s.setFld Reg.rstStrap 4 4 1).setGasket 111 { st := .opened, powered := true }

/-- Witness of HostPushBootsInOrder: each wait under host push, the port running and not, PCIE_CNT_CLR through the gate; an empty bundle fails. -/
theorem test_push_witness :
    (inPush .idle).hostPush = true ∧ (inPush .idle).ward.st = .boot ∧ (inPush .idle).answers = true ∧ (inPush .idle).sec.fwDigest = [] ∧
    ((inPush .idle).gasket 111).powered = true ∧ (State.reset.gasket 111).powered = false ∧ (inPush .waitDrive).pcie.tried = false ∧
    (inPush .waitDrive).wardenRuns = true ∧ (inPush .waitSteep).sec.rngFail = false ∧
    ((inPush .waitBundle).tryBundle ((inPush .waitBundle).posted [])).1 = false ∧
    withPcie.regGate .warden .write 0x1100F0 true = none ∧ WSet.dss.has withPcie.ward.st = true := by decide +kernel

/-- Witness of the lost-link and fifth-post clauses: a link lost in PROOF resets as PCIE; the fifth post in WAIT_STEEP ends the boot. -/
theorem test_link_lost_witness :
    let s : State := { inDrive with pcie := { linkUp := true, sticky := 5 } }
    let p := { inPush .waitSteep with pcie := { (inPush .waitSteep).pcie with attempts := 4 } }
    s.wardenRuns = true ∧ s.pcieResets = true ∧ (match exec .pcieLinkDown s with | .next t => (t.ward.st, t.pcie.sticky) | _ => (.off, 0)) = (.boot, 5) ∧
    p.ward.st = .boot ∧ p.answers = true ∧ p.sec.rngFail = false ∧
    (match exec (.pcieBootGo 0 []) p with | .next t => t.ward.st | _ => .off) = .proof := by decide +kernel

/-- Witness of UartCharactersAndNetworkFrames: the UART of a device before its image is on and armed; one with its port unlisted is
off; the gate lets the writes through. -/
theorem test_uart_witness :
    let s := (inPush .idle).setGasket 116 { st := .opened, powered := true }
    s.uartOn = true ∧ s.uart.needHigh = 0 ∧ s.fld Reg.uartCfg 1 0 = 0 ∧ s.uart.rx = [] ∧ inSteep.uartOn = false ∧
    s.regGate .warden .write Reg.uartData true = none ∧ s.regGate .warden .read Reg.uartData true = none ∧
    s.regGate .warden .write Reg.uartCfg true = none ∧ s.regGate .warden .write Reg.uartBaud true = none := by decide +kernel

/-- Witness of the network clause: MAC 0 owned by enclosure 0, its ring enabled, its header read from opened DRAM. -/
theorem test_net_witness :
    let i := { inSteep.img with drive := some { records := [{ cls := 1 }], ports := [{ id := 0x10, owner := 0 }],
                                                           windows := [{ encl := 0, perm := 7, size := 0x200000 }] }, force := .drive }
    let s := (({ withArrays with img := i } : State).setFld (Reg.net 0 0 8) 31 31 1)
    s.macOwner 0 = some 0 ∧ s.netOn 0 0 = true ∧ s.regGate .warden .write (Reg.net 0 0 0x1C) true = none ∧
    WSet.dss.has s.ward.st = true ∧ ({ s with img := {} } : State).macOwner 0 = none ∧
    (let x := (s.setReg (Reg.net 0 0 0x1C) 1#32).readRun (.mac 0 0) 0 16 [] []
     x.1 = .ok ∧ (x.2.2.readRun (.mac 0 0) 16 (min (leNat (x.2.1.take 2)) 16368) [] []).1 = .ok) := by decide +kernel

/-- SERVICE in STEEP's images with an SVC command under way, its permissions and fuses given. -/
def inService (op : Nat) (args : List Byte) (p : Nat) (f : Fuses) : State :=
  withEntry { inSteep with ward := { st := .service }, sec := { perms := p, fuses := f } } ⟨0, 0, 1⟩ 6 op args

/-- Witness of the fuse clauses at their bounds: LIFECYCLE to 1 and 3, ROLLBACK, an unprovisioned slot and slot 4, debug open. -/
theorem test_fuse_witness :
    let f : Fuses := {}
    let l (n : Byte) := (inService 3 [6, 0, 0, 0, n] 4 f).running ⟨0, 0, 1⟩ 6 3
    (l 1).map (fun y => (y.arg 0 1, y.arg 4 4)) = some (6, 1) ∧ (l 3).map (fun y => y.arg 4 4) = some 3 ∧ f.life ≠ 2 ∧
    (inService 3 [6, 0, 0, 0, 1] 4 f).svcAllowed 3 6 = true ∧ (inService 3 [6] 3 f).svcAllowed 3 6 = false ∧
    (inService 3 [5] 4 f).debugState = 1 ∧ (inService 3 [5] 4 { life := 1 }).debugState = 0 ∧
    ((inService 3 [4, 4] 4 f).running ⟨0, 0, 1⟩ 6 3).map (fun y => y.arg 1 1) = some 4 ∧ f.keys.getD 0 0 = 0 ∧
    ({ f with keys := [5, 0, 0, 0] } : Fuses).keys.getD 0 0 = 5 ∧ (inService 3 [2, 1] 4 f).sec.fwSigner = 0 ∧
    (inService 3 [2, 1] 4 f).liveSlots ≠ [1] ∧ (inService 3 [1] 4 f).running ⟨0, 0, 2⟩ 6 3 = none := by decide +kernel

/-- Witness of the key slot clauses: a load of slot 8 that is due and one that is not; the slot has a key after it. -/
theorem test_keyslot_witness :
    let s : State := { inSteep with sec := { inSteep.sec with loads := [8] } }
    8 ∈ s.sec.loads ∧ 7 ∉ s.sec.loads ∧ (match exec (.keySlotLoad 8) s with | .next t => t.sec.slots.getD 8 0 | _ => 0) ≠ 0 := by
  decide +kernel

/-- Witness of the UPDATE, DIAG and request clauses: permissions, targets 3 and 4, an OPEN port that is not sealed, a request that runs. -/
theorem test_request_witness :
    let s := { inSteep with sec := { running := some { op := 4, buf := 0x1000000000 } } }
    let w := inService 2 [1] 15 { life := 1, debugSealed := true }
    (inService 1 (List.replicate 12 0 ++ [3]) 1 {}).svcAllowed 1 0 = true ∧ (inService 1 [] 0 {}).svcAllowed 1 0 = false ∧
    ((inService 1 (List.replicate 12 0 ++ [3]) 1 {}).running ⟨0, 0, 1⟩ 6 1).map (fun y => y.arg 12 1) = some 3 ∧
    w.debugState = 2 ∧ w.svcAllowed 2 1 = true ∧ (inService 2 [1] 10 {}).debugState ≠ 2 ∧ (inService 2 [2] 2 {}).svcAllowed 2 2 = true ∧
    s.sec.running = some { op := 4, buf := 0x1000000000 } ∧ (s.readRun .security 0x1000000000 0 [] []).1 = .ok ∧
    s.sec.rngFail = false ∧ s.keysOpen = false ∧ ({ s with sec := { fuses := { life := 1 } } } : State).keysOpen = true ∧
    s.wardenRuns = true ∧ State.reset.wardenRuns = false ∧ s.handle 5 = none ∧ s.handleUsed 5 = false ∧ s.hostPush = false := by decide +kernel

end Sys2Proof.Tests
end

/-! PROOFS. The statements of the scope: completion of every command, the code of several conditions, stores and loads. -/

namespace Sys2Proof.Machine

/-! ### The code of several conditions (R10, Table 0.6) -/

namespace Status

/-- `a` stands at least as high as `b` among the conditions that end one operation: by its row of Table 0.6, and by its
code among equals (R10). -/
def Before (a b : Status) : Prop := a.rank < b.rank ∨ (a.rank = b.rank ∧ a.code ≤ b.code)

theorem before_refl (a : Status) : a.Before a := .inr ⟨rfl, Nat.le_refl _⟩

theorem before_trans {a b c : Status} (hab : a.Before b) (hbc : b.Before c) : a.Before c := by
  unfold Before at *
  omega

theorem before_total (a b : Status) : a.Before b ∨ b.Before a := by
  unfold Before
  omega

/-- The code that a value spells, every value from 0x40 an operation's own (Table 0.5, Table 9.9). -/
def ofValue (n : Nat) : Status := if 0x40 ≤ n then .op (n - 0x40) else .ofCode n

theorem ofValue_code (a : Status) : ofValue a.code = a := by
  cases a with
  | op k =>
    have hk : 0x40 ≤ 0x40 + k := Nat.le_add_right _ _
    simp only [code, ofValue, if_pos hk, Nat.add_sub_cancel_left]
  | _ => rfl

/-- No two codes have one value. -/
theorem code_inj {a b : Status} (h : a.code = b.code) : a = b := by
  rw [← ofValue_code a, h, ofValue_code]

theorem before_antisymm {a b : Status} (hab : a.Before b) (hba : b.Before a) : a = b := by
  unfold Before at *
  exact code_inj (by omega)

theorem rank_lt_rank_ok {a : Status} (h : a ≠ .ok) : a.rank < Status.ok.rank := by
  cases a with
  | ok => exact absurd rfl h
  | _ => exact Nat.le_of_ble_eq_true rfl

theorem before_ok (a : Status) : a.Before .ok := by
  by_cases h : a = .ok
  · rw [h]; exact before_refl _
  · exact .inl (rank_lt_rank_ok h)

/-- The higher of two codes is the one carried, on whichever side it stands. -/
theorem worse_of_before {a b : Status} (h : a.Before b) : a.worse b = a ∧ b.worse a = a := by
  by_cases ha : a = .ok
  · have hb : b = .ok := before_antisymm (before_ok b) (ha ▸ h)
    rw [ha, hb]
    exact ⟨rfl, rfl⟩
  by_cases hb : b = .ok
  · rw [hb, worse, worse, if_neg ha, if_pos rfl, if_pos rfl]
    exact ⟨rfl, rfl⟩
  rw [worse, worse, if_neg ha, if_neg hb, if_neg hb, if_neg ha]
  obtain hr | ⟨hr, hc⟩ := h
  · rw [if_pos hr, if_neg (by omega), if_pos hr]
    exact ⟨rfl, rfl⟩
  · rw [if_neg (by omega), if_neg (by omega), if_pos hc, if_neg (by omega), if_neg (by omega)]
    refine ⟨rfl, ?_⟩
    split
    case isTrue hba => exact code_inj (Nat.le_antisymm hba hc)
    case isFalse => rfl

/-- The code carried is the highest that stands below neither: the meet of the two in the order of Table 0.6. -/
theorem before_worse (a b c : Status) : c.Before (a.worse b) ↔ c.Before a ∧ c.Before b := by
  obtain h | h := before_total a b
  · rw [(worse_of_before h).1]
    exact ⟨fun hc => ⟨hc, before_trans hc h⟩, And.left⟩
  · rw [(worse_of_before h).2]
    exact ⟨fun hc => ⟨before_trans hc h, hc⟩, And.right⟩

theorem eq_of_before_iff {a b : Status} (h : ∀ c : Status, c.Before a ↔ c.Before b) : a = b :=
  before_antisymm ((h a).mp (before_refl a)) ((h b).mpr (before_refl b))

theorem worse_comm (a b : Status) : a.worse b = b.worse a :=
  eq_of_before_iff fun c => by rw [before_worse, before_worse, And.comm]

theorem worse_assoc (a b c : Status) : (a.worse b).worse c = a.worse (b.worse c) :=
  eq_of_before_iff fun d => by rw [before_worse, before_worse, before_worse, before_worse, and_assoc]

theorem worse_eq_or (a b : Status) : a.worse b = a ∨ a.worse b = b :=
  (before_total a b).imp (fun h => (worse_of_before h).1) (fun h => (worse_of_before h).2)

end Status

/-- Settles O13: combining two codes takes their meet in the order of Table 0.6 and the code, in which no two codes have
one place. -/
theorem codeOfSeveralConditions : Obligations.CodeOfSeveralConditions := by
  intro a b c
  refine ⟨a.worse_comm b, a.worse_assoc b c, a.worse_eq_or b, fun _ => ?_, fun _ _ hr => ?_, fun _ _ hr hc => ?_⟩
  · exact (Status.worse_of_before a.before_ok).1
  · exact (Status.worse_of_before (.inl hr)).1
  · exact (Status.worse_of_before (.inr ⟨hr, Nat.le_of_lt hc⟩)).1

/-! ### Bytes and numbers (R1) -/

@[simp] theorem length_leBytes (n v : Nat) : (leBytes n v).length = n := by
  induction n generalizing v with
  | zero => rfl
  | succ n ih => rw [leBytes, List.length_cons, ih]

/-- The low `n` bytes of a number, read back, are the number modulo 256^n. -/
theorem leNat_leBytes (n v : Nat) : leNat (leBytes n v) = v % 256 ^ n := by
  induction n generalizing v with
  | zero => rw [leBytes, leNat, Nat.pow_zero, Nat.mod_one]
  | succ n ih =>
    have hb : (BitVec.ofNat 8 v).toNat = v % 256 := BitVec.toNat_ofNat v 8
    calc leNat (leBytes (n + 1) v) = v % 256 + 256 * (v / 256 % 256 ^ n) := by
          rw [leBytes, leNat, ih, hb]
      _ = v % 256 ^ (n + 1) := by rw [Nat.pow_succ', Nat.mod_mul]

/-! ### Memory -/

/-- Dropping the entries whose keys a test refuses makes those keys read as the default and no others. -/
theorem SMap.get_filter_key {α : Type} (d : α) (m : List (Nat × α)) (p : Nat → Bool) (i : Nat) :
    SMap.get d (m.filter fun e => p e.1) i = if p i then SMap.get d m i else d := by
  induction m with
  | nil => simp only [List.filter_nil, SMap.get, ite_self]
  | cons e m ih =>
    obtain ⟨k, v⟩ := e
    rw [List.filter_cons]
    by_cases hk : k = i
    · subst hk
      by_cases hp : p k = true
      · simp only [hp, if_true, SMap.get]
      · rw [if_neg hp, ih, if_neg hp, if_neg hp]
    · by_cases hp : p k = true
      · simp only [hp, if_true, SMap.get, if_neg hk, ih]
      · simp only [hp, SMap.get, if_neg hk, ih, Bool.false_eq_true, if_false]

namespace State

/-- A cleared range reads as zero; every byte outside it is as before. -/
theorem rd_zeroRange (s : State) (lo hi b : Nat) :
    (s.zeroRange lo hi).rd b = if lo ≤ b ∧ b < hi then 0 else s.rd b := by
  have h : (s.zeroRange lo hi).rd b = if decide (b < lo ∨ hi ≤ b) then s.rd b else memDefault :=
    SMap.get_filter_key memDefault s.mem (fun k => decide (k < lo ∨ hi ≤ k)) b
  rw [h]
  by_cases hb : lo ≤ b ∧ b < hi
  · rw [if_pos hb, if_neg (by rw [decide_eq_true_eq]; omega), memDefault]
  · rw [if_neg hb, if_pos (by rw [decide_eq_true_eq]; omega)]

/-- A stored number reads back as its low bytes. -/
theorem rdNat_wrNat (s : State) (a n v : Nat) : (s.wrNat a n v).rdNat a n = v % 256 ^ n := by
  have h := rdBytes_wrBytes s a (leBytes n v)
  rw [length_leBytes] at h
  rw [rdNat, wrNat, h, leNat_leBytes]

/-- A store changes memory alone. -/
theorem wrBytes_frame (s : State) (a : Nat) (bs : List Byte) :
    s.wrBytes a bs = { s with mem := (s.wrBytes a bs).mem } := by
  induction bs generalizing s a with
  | nil => rfl
  | cons b bs ih => exact ih (s.wr a b) (a + 1)

end State

/-- Settles O14: from the byte-wise rules of stores, the little-endian round trip and the clearing of a range. -/
theorem memoryReadsWhatWasWritten : Obligations.MemoryReadsWhatWasWritten := by
  intro s a n v lo hi bs
  exact ⟨s.rdBytes_wrBytes a bs, s.rd_wrBytes_outside a bs, s.rdNat_wrNat a n v,
    fun h => ⟨s.wf_wrBytes a bs h, s.wf_zeroRange lo hi h⟩, s.rd_zeroRange lo hi, s.wrBytes_frame a bs⟩

/-! ### Every command completes

A command whose meaning is one next state completes by its definition. The others choose among next states by what the
state holds; each has a lemma that follows its choices. -/

/-- The outcome is a next state: neither a fault nor a refusal. -/
def Completes (o : Out) : Prop := ∃ t, o = .next t

theorem Completes.next {t : State} : Completes (.next t) := ⟨t, rfl⟩

theorem Completes.ite {c : Prop} [Decidable c] {a b : Out} (ha : Completes a) (hb : Completes b) :
    Completes (if c then a else b) := by
  split
  · exact ha
  · exact hb

section Commands

open State

variable {s : State} {r : EntryRef} {ext : List ExtData} {upsets : List Upset}

/-! #### Reset, supply and time -/

theorem execResetNAssert_completes {lowNs : Nat} : Completes (execResetNAssert lowNs s) :=
  .ite .next (.ite .next .next)

theorem execSafeFrameTxLate_completes : Completes (execSafeFrameTxLate s) := by
  unfold execSafeFrameTxLate
  cases s.safe.waiting with
  | none => exact .next
  | some w => exact .next

theorem execPpsInEdge_completes {dt : Nat} : Completes (execPpsInEdge dt s) :=
  .ite .next (.ite .next .next)

theorem execGptpSyncTimer_completes : Completes (execGptpSyncTimer s) :=
  .ite .next (.ite .next .next)

theorem execPdelayTimer_completes : Completes (execPdelayTimer s) :=
  .ite .next .next

theorem execTsuSourceLost_completes : Completes (execTsuSourceLost s) :=
  .ite .next (.ite .next (.ite .next .next))

theorem execTsuHoldoverExpiry_completes : Completes (execTsuHoldoverExpiry s) :=
  .ite .next .next

theorem execPpsOutPulse_completes : Completes (execPpsOutPulse s) :=
  .ite .next .next

/-! #### Weights -/

theorem execLeafLoad_completes : Completes (execLeafLoad r ext upsets s) := by
  unfold execLeafLoad
  cases s.running r 2 1 with
  | none => exact .next
  | some y =>
    refine .ite .next ?_
    split
    · exact .next
    · exact .next

theorem execLeafLoadEnd_completes {k : Nat} : Completes (execLeafLoadEnd k ext upsets s) := by
  unfold execLeafLoadEnd
  cases (s.slot k).load with
  | none => exact .next
  | some l0 =>
    refine .ite .next (.ite .next ?_)
    dsimp only
    cases (State.slot _ k).load with
    | none => exact .next
    | some l =>
      dsimp only
      cases l.fail with
      | some st => exact .next
      | none => exact .ite .next .next

theorem execStagingComplete_completes {k layer : Nat} {fills : List (Nat × FillSpec)} :
    Completes (execStagingComplete k layer r fills ext upsets s) := by
  unfold execStagingComplete
  cases s.entry r with
  | none => exact .next
  | some y => exact .ite .next (.ite .next .next)

theorem execPour_completes : Completes (execPour r s) := by
  unfold execPour
  cases s.running r 2 2 with
  | none => exact .next
  | some y => exact .ite .next (.ite .next .next)

theorem execEvict_completes : Completes (execEvict r s) := by
  unfold execEvict
  cases s.running r 2 3 with
  | none => exact .next
  | some y => exact .ite .next (.ite .next (.ite .next (.ite .next .next)))

theorem execEvictRelease_completes {k : Nat} : Completes (execEvictRelease k s) := by
  unfold execEvictRelease
  split
  · exact .next
  · exact .ite .next (.ite .next .next)

/-! #### KV pools and attention -/

theorem execSeqAppend_completes : Completes (execSeqAppend r ext upsets s) := by
  unfold execSeqAppend
  cases s.running r 3 4 with
  | none => exact .next
  | some y =>
    refine .ite .next ?_
    cases s.kvEnv (kvPoolId y) r.encl ext upsets with
    | none => exact .next
    | some v =>
      dsimp only
      obtain ⟨⟨st, res⟩, fl, _, t⟩ := s.kvRun v (KvM.seqAppend v y r.encl)
      match res with
      | some (.waits i n) => exact .next
      | some (.done k) => exact .next
      | none => exact .next

theorem execAppendPagesGranted_completes {pid : Nat} : Completes (execAppendPagesGranted pid ext upsets s) := by
  unfold execAppendPagesGranted
  dsimp only
  cases (s.kvPool pid).waits with
  | nil => exact .next
  | cons w rest =>
    refine .ite .next (.ite .next ?_)
    split
    · exact .ite .next .next
    · exact .next
    · exact .next

theorem execAppendWaitExpiry_completes {pid : Nat} : Completes (execAppendWaitExpiry pid s) := by
  unfold execAppendWaitExpiry
  dsimp only
  split
  · exact .next
  · split
    · exact .next
    · exact .next

theorem execPrefixQuery_completes : Completes (execPrefixQuery r ext upsets s) := by
  unfold execPrefixQuery
  cases s.running r 3 7 with
  | none => exact .next
  | some y =>
    dsimp only
    cases s.kvEnv (kvPoolId y) r.encl ext upsets with
    | none => exact .next
    | some v =>
      dsimp only
      obtain ⟨⟨st, res⟩, _, _, t⟩ := s.kvRun v (KvM.prefixQuery v y)
      cases res with
      | none => exact .next
      | some k => exact .next

theorem execPartialMerge_completes {head : Nat} : Completes (execPartialMerge r head ext upsets s) := by
  unfold execPartialMerge
  split
  · exact .ite .next .next
  · exact .next

/-! #### Ingest and fusion -/

theorem execIngestBind_completes (r : EntryRef) (ext : List ExtData) (upsets : List Upset) (s : State) :
    Completes (execIngestBind r ext upsets s) := by
  unfold execIngestBind
  cases s.running r 1 0x50 with
  | none => exact .next
  | some y => exact .ite .next (.ite .next .next)

theorem execCsi2FrameStart_completes {port vc dt backlog : Nat} : Completes (execCsi2FrameStart port vc dt backlog s) :=
  .ite .next .next

theorem execCsi2LongPacket_completes {port vc dataType : Nat} {data : List Byte} {headerOk crcOk : Bool} :
    Completes (execCsi2LongPacket port vc dataType data headerOk crcOk s) :=
  .ite .next (.ite .next (.ite .next (.ite .next .next)))

theorem execCsi2FrameEnd_completes {port vc : Nat} : Completes (execCsi2FrameEnd port vc ext upsets s) := by
  refine .ite .next ?_
  split
  · exact .next
  · exact .next

theorem execEthernetFrameRx_completes {m dt backlog : Nat} {frame : List Byte} {fcsOk : Bool} :
    Completes (execEthernetFrameRx m frame fcsOk dt backlog ext upsets s) := by
  unfold execEthernetFrameRx
  dsimp only
  split
  · exact .next
  · exact .ite .next (.ite .next .next)

theorem execImuDrdy_completes {n dt : Nat} : Completes (execImuDrdy n dt s) := by
  refine .ite .next (.ite .next ?_)
  split
  · exact .next
  · exact .next

theorem execImuTransferDone_completes {n backlog : Nat} {data : List Byte} :
    Completes (execImuTransferDone n data backlog ext upsets s) := by
  refine .ite .next ?_
  split
  · exact .next
  · exact .next

theorem execCanFrameRx_completes {n ident dt backlog : Nat} {fd crcOk own : Bool} {data : List Byte} :
    Completes (execCanFrameRx n ident fd crcOk own data dt backlog ext upsets s) := by
  refine .ite .next ?_
  split
  · exact .next
  · exact .next

theorem execStreamSilent_completes {k : Nat} : Completes (execStreamSilent k s) := by
  unfold execStreamSilent
  dsimp only
  split
  · exact .next
  · exact .next

theorem execFuseEpoch_completes (r : EntryRef) (ext : List ExtData) (upsets : List Upset) (s : State) :
    Completes (execFuseEpoch r ext upsets s) := by
  unfold execFuseEpoch
  cases s.running r 1 0x51 with
  | none => exact .next
  | some y => exact .ite .next (.ite .next .next)

theorem execGridExport_completes (r : EntryRef) (ext : List ExtData) (upsets : List Upset) (s : State) :
    Completes (execGridExport r ext upsets s) := by
  unfold execGridExport
  cases s.running r 1 0x52 with
  | none => exact .next
  | some y =>
    dsimp only
    obtain ⟨st, d, s1⟩ := s.readRun (s.stewardOf r.encl) (y.arg 0 8) 20 ext upsets
    dsimp only
    exact .ite .next .next

theorem execFusionFrameCommit_completes {inp : FusionIn} : Completes (execFusionFrameCommit inp ext upsets s) :=
  .ite .next .next

theorem execFrameDeadline_completes {inp : FusionIn} : Completes (execFrameDeadline inp ext upsets s) := by
  unfold execFrameDeadline
  split
  · exact .next
  · exact .next

/-! #### Tiles, movers and leases -/

theorem execKernelLaunch_completes {t k entry w0 w0Len w1 w1Len model budgetUs : Nat} {fills : List FillSpec} :
    Completes (execKernelLaunch t k r entry w0 w0Len w1 w1Len model budgetUs fills s) := by
  unfold execKernelLaunch
  cases s.entry r with
  | none => exact .next
  | some y => exact .ite .next .next

theorem execFillComplete_completes {t : Nat} : Completes (execFillComplete t ext upsets s) := by
  unfold execFillComplete
  dsimp only
  split
  · exact .ite .next .next
  · exact .next

theorem execDescriptorStart_completes {m c : Nat} {op : Option EntryRef} :
    Completes (execDescriptorStart m c op ext upsets s) :=
  .ite .next .next

theorem execDescriptorComplete_completes {m c : Nat} : Completes (execDescriptorComplete m c s) := by
  unfold execDescriptorComplete
  dsimp only
  split
  · exact .next
  · exact .next

theorem execLeaseExpiry_completes {l : LeaseRef} : Completes (execLeaseExpiry l s) := by
  cases l with
  | commons a => exact .next
  | channel m c => exact .next
  | page pid idx =>
    unfold execLeaseExpiry
    dsimp only
    split
    · exact .next
    · exact .next
  | remote i =>
    unfold execLeaseExpiry
    dsimp only
    split
    · exact .next
    · exact .next
  | barrier g r =>
    unfold execLeaseExpiry
    dsimp only
    split
    · exact .next
    · exact .next

/-! #### The LSE -/

theorem execLseJobStart_completes {assigner : Bool} : Completes (execLseJobStart assigner s) := by
  refine .ite ?_ ?_
  · split
    · exact .next
    · exact .next
  · split
    · exact .next
    · exact .ite .next .next
    · exact .next
    · exact .next
    · exact .next

theorem execLseJobSuspend_completes : Completes (execLseJobSuspend s) := by
  unfold execLseJobSuspend
  cases s.lse.solver with
  | some j => exact .ite .next .next
  | none => exact .next

theorem execLseJobComplete_completes {assigner differ : Bool} {flips : List (Nat × Nat × Nat × Nat)} :
    Completes (execLseJobComplete assigner flips differ ext upsets s) := by
  refine .ite .next (.ite ?_ ?_)
  · cases s.lse.assigner with
    | none => exact .next
    | some j => exact .next
  · cases s.lse.solver with
    | none => exact .next
    | some j =>
      dsimp only
      cases j.kind with
      | dense => exact .next
      | bundle => exact .next
      | ego => exact .next
      | assign => exact .next

theorem execEgoMeasPoll_completes : Completes (execEgoMeasPoll ext upsets s) := by
  unfold execEgoMeasPoll
  cases s.lse.ego with
  | none => exact .next
  | some x => exact .ite .next (.ite .next (.ite .next (.ite .next .next)))

theorem execEgoDeadline_completes : Completes (execEgoDeadline ext upsets s) := by
  unfold execEgoDeadline
  cases s.lse.ego with
  | none => exact .next
  | some x => exact .ite .next .next

/-! #### The loom, its tunnels and the UART -/

theorem execLoomRequestTimeout_completes {tid : Nat} : Completes (execLoomRequestTimeout tid s) := by
  unfold execLoomRequestTimeout
  split
  · exact .next
  · exact .next

theorem execJoinTimeout_completes : Completes (execJoinTimeout s) := by
  unfold execJoinTimeout
  cases s.loom.joining with
  | none => exact .next
  | some j => exact .next

theorem execLeaveTimeout_completes : Completes (execLeaveTimeout s) := by
  unfold execLeaveTimeout
  cases s.loom.leaving with
  | none => exact .next
  | some j => exact .next

theorem execTunnelFrameSend_completes {k : Nat} : Completes (execTunnelFrameSend k s) := by
  unfold execTunnelFrameSend
  cases s.session k with
  | none => exact .next
  | some x => exact .ite .next .next

theorem execTunnelNullFlit_completes {k : Nat} : Completes (execTunnelNullFlit k s) := by
  unfold execTunnelNullFlit
  cases s.session k with
  | none => exact .next
  | some x => exact .ite .next .next

theorem execTunnelSessionIdle_completes {k : Nat} : Completes (execTunnelSessionIdle k s) := by
  unfold execTunnelSessionIdle
  cases s.session k with
  | none => exact .next
  | some x => exact .ite .next .next

theorem execTunnelSessionDead_completes {k : Nat} : Completes (execTunnelSessionDead k s) := by
  unfold execTunnelSessionDead
  cases s.session k with
  | none => exact .next
  | some x => exact .ite .next .next

theorem execReplayTimeout_completes {p : Nat} : Completes (execReplayTimeout p s) := by
  refine .ite ?_ .next
  cases s.session (p - 16) with
  | none => exact .next
  | some x => exact .ite .next .next

theorem execUartCharacterRx_completes {samples : List Bool} : Completes (execUartCharacterRx samples s) := by
  refine .ite .next ?_
  dsimp only
  split
  · exact .next
  · exact .ite .next (.ite .next (.ite .next .next))

theorem execUartCharacterTx_completes : Completes (execUartCharacterTx s) := by
  unfold execUartCharacterTx
  cases s.uart.tx with
  | nil => exact .next
  | cons c rest => exact .ite .next .next

end Commands

/-- Settles O3: a command that chooses among outcomes completes by its lemma, every other by its definition. -/
theorem noCommandStops : Obligations.NoCommandStops := by
  intro c s
  change Completes (exec c s)
  cases c with
  | resetNAssert => exact execResetNAssert_completes
  | leafLoad => exact execLeafLoad_completes
  | leafLoadEnd => exact execLeafLoadEnd_completes
  | stagingComplete => exact execStagingComplete_completes
  | pour => exact execPour_completes
  | evict => exact execEvict_completes
  | evictRelease => exact execEvictRelease_completes
  | seqAppend => exact execSeqAppend_completes
  | appendPagesGranted => exact execAppendPagesGranted_completes
  | appendWaitExpiry => exact execAppendWaitExpiry_completes
  | prefixQuery => exact execPrefixQuery_completes
  | partialMerge => exact execPartialMerge_completes
  | ingestBind r ext upsets => exact execIngestBind_completes r ext upsets s
  | fuseEpoch r ext upsets => exact execFuseEpoch_completes r ext upsets s
  | gridExport r ext upsets => exact execGridExport_completes r ext upsets s
  | kernelLaunch => exact execKernelLaunch_completes
  | fillComplete => exact execFillComplete_completes
  | leaseExpiry => exact execLeaseExpiry_completes
  | descriptorStart => exact execDescriptorStart_completes
  | descriptorComplete => exact execDescriptorComplete_completes
  | lseJobStart => exact execLseJobStart_completes
  | lseJobSuspend => exact execLseJobSuspend_completes
  | lseJobComplete => exact execLseJobComplete_completes
  | egoMeasPoll => exact execEgoMeasPoll_completes
  | egoDeadline => exact execEgoDeadline_completes
  | csi2FrameStart => exact execCsi2FrameStart_completes
  | csi2LongPacket => exact execCsi2LongPacket_completes
  | csi2FrameEnd => exact execCsi2FrameEnd_completes
  | ethernetFrameRx => exact execEthernetFrameRx_completes
  | imuDrdy => exact execImuDrdy_completes
  | imuTransferDone => exact execImuTransferDone_completes
  | canFrameRx => exact execCanFrameRx_completes
  | streamSilent => exact execStreamSilent_completes
  | ppsInEdge => exact execPpsInEdge_completes
  | gptpSyncTimer => exact execGptpSyncTimer_completes
  | pdelayTimer => exact execPdelayTimer_completes
  | tsuSourceLost => exact execTsuSourceLost_completes
  | tsuHoldoverExpiry => exact execTsuHoldoverExpiry_completes
  | ppsOutPulse => exact execPpsOutPulse_completes
  | fusionFrameCommit => exact execFusionFrameCommit_completes
  | frameDeadline => exact execFrameDeadline_completes
  | safeFrameTxLate => exact execSafeFrameTxLate_completes
  | loomRequestTimeout => exact execLoomRequestTimeout_completes
  | joinTimeout => exact execJoinTimeout_completes
  | leaveTimeout => exact execLeaveTimeout_completes
  | tunnelFrameSend => exact execTunnelFrameSend_completes
  | tunnelNullFlit => exact execTunnelNullFlit_completes
  | tunnelSessionIdle => exact execTunnelSessionIdle_completes
  | tunnelSessionDead => exact execTunnelSessionDead_completes
  | replayTimeout => exact execReplayTimeout_completes
  | uartCharacterRx => exact execUartCharacterRx_completes
  | uartCharacterTx => exact execUartCharacterTx_completes
  | _ => exact .next

end Sys2Proof.Machine

/-! ### What the arrays do by themselves (§5.5 to §5.8) -/

namespace Sys2Proof.Machine

namespace State

variable {s : State}

/-! #### The scrubber at one unit (R192, Table 5.3) -/

theorem scrubUnit_of_clean {p : Place} {u : Nat} {linkUe : Bool} (h : s.unitState p u linkUe = .clean) :
    s.scrubUnit p u linkUe = s := by
  rw [scrubUnit, h]

theorem scrubUnit_of_correctable {p : Place} {u b : Nat} {linkUe : Bool} (h : s.unitState p u linkUe = .correctable b) :
    s.scrubUnit p u linkUe = (s.logEvent p u 0xF .ce).correctUnit p u b := by
  rw [scrubUnit, h]

theorem scrubUnit_of_uncorrectable {p : Place} {u : Nat} {linkUe : Bool} (h : s.unitState p u linkUe = .uncorrectable) :
    s.scrubUnit p u linkUe = (s.logEvent p u 0xF (ueEvent linkUe p)).poisonUnit p u := by
  rw [scrubUnit, h]

theorem scrubUnit_of_poisoned {p : Place} {u : Nat} {linkUe : Bool} (h : s.unitState p u linkUe = .poisoned) :
    s.scrubUnit p u linkUe = s := by
  rw [scrubUnit, h]

/-- An SRAM unit has no link in front of it and no fold of its address: the scrubber reaches the unit itself and meets its
stored state (R183, R191 speak of DRAM). -/
theorem scrubAt_tsram (k u : Nat) (ups : List Upset) :
    s.scrubAt (.tsram k) ups u = s.scrubUnit (.tsram k) u false := by
  have hlink (b : Bool) : s.scrubUnit (.tsram k) u b = s.scrubUnit (.tsram k) u false := by
    simp only [scrubUnit, unitState, ueEvent, Place.isDram, Bool.false_eq_true, and_false, if_false]
  have hfound : s.found (.tsram k) ups u = s := rfl
  unfold scrubAt
  rw [hfound]
  dsimp only
  split
  case isTrue hclean => rw [← hlink, scrubUnit_of_clean hclean]
  case isFalse => exact hlink _

theorem syndOf_setSynd_same (u x : Nat) : (s.setSynd u x).syndOf u = x := by
  unfold syndOf setSynd
  exact SMap.get_set_same ..

/-- A correction ends with good code in the unit. -/
theorem syndOf_correctUnit_tsram (k u b : Nat) : (s.correctUnit (.tsram k) u b).syndOf u = 0 := by
  unfold correctUnit touchCode
  exact syndOf_setSynd_same u 0

/-! #### One visit of an array -/

theorem scrubVisit_tile {k : Nat} (ups : List Upset) (hk : k < 64) (h : s.sramScrubs k = true) :
    s.scrubVisit ups (.tile k) =
      ((s.setTram k { s.tram k with scrubAt := ((s.tram k).scrubAt + 1) % 0x40000 }).applyUpsets (.tsram k)
        [tileBase k + 8 * (s.tram k).scrubAt] ups).scrubUnit (.tsram k) (tileBase k + 8 * (s.tram k).scrubAt) false := by
  simp only [scrubVisit, Nat.mod_eq_of_lt hk, h, Bool.not_true, Bool.false_eq_true, if_false, scrubUnits, List.foldl_cons,
    List.foldl_nil, scrubAt_tsram]

theorem scrubVisit_tile_idle {k : Nat} (ups : List Upset) (hk : k < 64) (h : s.sramScrubs k = false) :
    s.scrubVisit ups (.tile k) = s := by
  simp only [scrubVisit, Nat.mod_eq_of_lt hk, h, Bool.not_false, if_true]

theorem scrubVisit_commons_idle {k : Nat} (ups : List Upset) (hk : k < 8) (h : s.sramScrubs (64 + k) = false) :
    s.scrubVisit ups (.commons k) = s := by
  simp only [scrubVisit, Nat.mod_eq_of_lt hk, h, Bool.not_false, if_true]

theorem scrubVisit_warden_undisturbed : s.scrubVisit [] .warden = s := by
  simp only [scrubVisit, List.any_nil, Bool.false_eq_true, false_and, if_false]

theorem scrubVisit_dram_untrained {m : Nat} (ups : List Upset) (hm : m < 8) (h : (s.chan m).trained = false) :
    s.scrubVisit ups (.dram m) = s := by
  simp only [scrubVisit, Nat.mod_eq_of_lt hm, h, Bool.not_false, true_or, if_true]

/-! #### What the scrubber does to DRAM units leaves its own position and the clock alone -/

/-- Where the patrol of channel `m` stands, and the time. -/
def patrol (s : State) (m : Nat) : Nat × Nat := ((s.chan m).scrubAt, s.upNs)

variable {m d u : Nat}

theorem patrol_of_eq {t : State} (hc : t.chans = s.chans) (hu : t.upNs = s.upNs) : t.patrol m = s.patrol m := by
  unfold patrol chan
  rw [hc, hu]

theorem patrol_setChan {x : Chan} (h : x.scrubAt = (s.chan d).scrubAt) : (s.setChan d x).patrol m = s.patrol m := by
  unfold patrol
  rw [chan_setChan, setChan_upNs]
  split
  case isTrue hmd => rw [hmd, h]
  case isFalse => rfl

theorem patrol_modChan {f : Chan → Chan} (h : ∀ c, (f c).scrubAt = c.scrubAt) : (s.modChan d f).patrol m = s.patrol m :=
  patrol_setChan (h _)

@[simp] theorem patrol_setReg (k : Nat) (w : Word) : (s.setReg k w).patrol m = s.patrol m := patrol_of_eq rfl rfl
@[simp] theorem patrol_bump (k hi lo : Nat) : (s.bump k hi lo).patrol m = s.patrol m := patrol_of_eq rfl rfl
@[simp] theorem patrol_setSynd (x : Nat) : (s.setSynd u x).patrol m = s.patrol m := patrol_of_eq rfl rfl
@[simp] theorem patrol_setKeyed (key : Nat) : (s.setKeyed u key).patrol m = s.patrol m := patrol_of_eq rfl rfl
@[simp] theorem patrol_post (r : Report) : (s.post r).patrol m = s.patrol m := patrol_of_eq rfl rfl
@[simp] theorem patrol_flipBit (i : Nat) : (s.flipBit u i).patrol m = s.patrol m := patrol_of_eq rfl rfl
@[simp] theorem patrol_wrBytes (bs : List Byte) : (s.wrBytes u bs).patrol m = s.patrol m := by
  rw [wrBytes_frame]
  exact patrol_of_eq rfl rfl

@[simp] theorem patrol_ite {c : Prop} [Decidable c] (s t : State) :
    (if c then s else t).patrol m = if c then s.patrol m else t.patrol m :=
  apply_ite (patrol · m) c s t

theorem patrol_foldl {α : Type} {f : State → α → State} (l : List α) (s : State)
    (h : ∀ t a, (f t a).patrol m = t.patrol m) : (l.foldl f s).patrol m = s.patrol m := by
  induction l generalizing s with
  | nil => rfl
  | cons a l ih => rw [List.foldl_cons, ih, h]

@[simp] theorem patrol_touchCode : (s.touchCode (.dram d) u).patrol m = s.patrol m :=
  patrol_modChan fun _ => rfl

@[simp] theorem patrol_ceEvent : (s.ceEvent d).patrol m = s.patrol m := by
  unfold ceEvent
  exact patrol_setChan rfl

@[simp] theorem patrol_rekey (key : Nat) : (s.rekey (.dram d) u key).patrol m = s.patrol m := by
  simp only [rekey, patrol_ite, patrol_setKeyed, patrol_wrBytes, ite_self]

@[simp] theorem patrol_poisonUnit : (s.poisonUnit (.dram d) u).patrol m = s.patrol m :=
  patrol_touchCode

@[simp] theorem patrol_correctUnit (b : Nat) : (s.correctUnit (.dram d) u b).patrol m = s.patrol m := by
  simp only [correctUnit, patrol_touchCode, patrol_setSynd, patrol_ite, patrol_flipBit, patrol_rekey, ite_self]

@[simp] theorem patrol_logEvent (tag : Nat) (e : EccEvent) : (s.logEvent (.dram d) u tag e).patrol m = s.patrol m := by
  simp only [logEvent, patrol_ite, patrol_post, patrol_setReg, patrol_ceEvent, patrol_bump, ite_self]

@[simp] theorem patrol_scrubUnit (linkUe : Bool) : (s.scrubUnit (.dram d) u linkUe).patrol m = s.patrol m := by
  cases h : s.unitState (.dram d) u linkUe with
  | clean => rw [scrubUnit_of_clean h]
  | correctable b => rw [scrubUnit_of_correctable h, patrol_correctUnit, patrol_logEvent]
  | uncorrectable => rw [scrubUnit_of_uncorrectable h, patrol_poisonUnit, patrol_logEvent]
  | poisoned => rw [scrubUnit_of_poisoned h]

@[simp] theorem patrol_reached (v : Nat) : (s.reached u v).patrol m = s.patrol m := by
  rw [reached, patrol_setSynd, patrol_setKeyed, patrol_wrBytes]

@[simp] theorem patrol_found (ups : List Upset) : (s.found (.dram d) ups u).patrol m = s.patrol m := by
  unfold found
  cases reachAt (.dram d) ups u with
  | none => rfl
  | some v => exact patrol_reached _

@[simp] theorem patrol_scrubAt (ups : List Upset) : (s.scrubAt (.dram d) ups u).patrol m = s.patrol m := by
  simp only [scrubAt, patrol_ite, patrol_scrubUnit, patrol_found, ite_self]

@[simp] theorem patrol_settleLost (us : List Nat) : (s.settleLost (.dram d) us).patrol m = s.patrol m := by
  unfold settleLost
  dsimp only
  split
  case isTrue => rfl
  case isFalse =>
    refine patrol_foldl us s fun t u => ?_
    split
    case isTrue => rfl
    case isFalse =>
      have hfresh (c : Chan) : ({ c with fresh := u :: c.fresh } : Chan).scrubAt = c.scrubAt := rfl
      rw [patrol_modChan hfresh, patrol_setSynd, patrol_setKeyed, patrol_wrBytes]
      rfl

@[simp] theorem patrol_applyUpset (x : Upset) : (s.applyUpset (.dram d) x).patrol m = s.patrol m := by
  have hdata (t : State) (i : Nat) : (if i < 8 * (Place.dram d).code.bytes then (t.flipBit x.unit i).setSynd x.unit
      (t.syndOf x.unit ^^^ (Place.dram d).code.columns.getD i 0) else t).patrol m = t.patrol m := by
    simp only [patrol_ite, patrol_setSynd, patrol_flipBit, ite_self]
  have hcheck (t : State) (j : Nat) : (if j < (Place.dram d).code.checks then
      t.setSynd x.unit (t.syndOf x.unit ^^^ (1 <<< j)) else t).patrol m = t.patrol m := by
    simp only [patrol_ite, patrol_setSynd, ite_self]
  simp only [applyUpset, patrol_ite, patrol_bump, ite_self, patrol_foldl _ _ hcheck, patrol_foldl _ _ hdata, patrol_rekey]

@[simp] theorem patrol_applyUpsets (us : List Nat) (ups : List Upset) :
    (s.applyUpsets (.dram d) us ups).patrol m = s.patrol m := by
  unfold applyUpsets
  rw [patrol_foldl ups _ fun t x => by simp only [patrol_ite, patrol_applyUpset, ite_self], patrol_settleLost]

@[simp] theorem patrol_scrubUnits (us : List Nat) (ups : List Upset) :
    (s.scrubUnits (.dram d) us ups).patrol m = s.patrol m := by
  unfold scrubUnits
  rw [patrol_foldl us _ fun _ _ => patrol_scrubAt ups, patrol_applyUpsets]

theorem patrol_scrubVisit_dram {m : Nat} (ups : List Upset) (hm : m < 8) (ht : (s.chan m).trained = true)
    (hr : (s.chan m).selfRefresh = false) (hu : s.usable ≠ 0) :
    (s.scrubVisit ups (.dram m)).patrol m =
      (((s.chan m).scrubAt + 1) % ((s.chan m).rawCh * 0x100000), s.upNs) := by
  simp only [scrubVisit, Nat.mod_eq_of_lt hm, ht, hr, hu, Bool.not_true, Bool.false_eq_true, or_self, if_false,
    patrol_scrubUnits]
  rw [patrol, chan_setChan, if_pos rfl, setChan_upNs]

/-! #### The rate of correctable events (R195) -/

theorem ceRate_exceeded {m : Nat}
    (h : s.fld (Reg.mcEccCtl m) 23 16 < ((s.chan m).ceTimes.filter fun x => s.upNs < x + second).length)
    (hr : (s.chan m).ceReported = false) :
    s.ceRate m = (s.setChan m { s.chan m with ceReported := true }).post
      { fault := .ceRate, attr := .block (72 + m), gsk := 72 + m } := by
  unfold ceRate
  exact if_pos ⟨h, by rw [hr]; rfl⟩

theorem ceRate_quiet {m : Nat}
    (h : ((s.chan m).ceTimes.filter fun x => s.upNs < x + second).length ≤ s.fld (Reg.mcEccCtl m) 23 16 ∨
      (s.chan m).ceReported = true) : s.ceRate m = s := by
  unfold ceRate
  refine if_neg fun ⟨hlt, hnot⟩ => ?_
  obtain hle | hrep := h
  · exact Nat.not_lt.mpr hle hlt
  · rw [hrep] at hnot
    cases hnot

end State

open State

variable {s : State} {m : Nat}

/-! #### Refresh polls, calibration and the clear of the counters (R203, R204, R208) -/

/-- What a refresh poll makes of a channel: the highest rate when a device is hot, else the multiplier reported (R203). -/
def Chan.polled (c : Chan) (rate : Nat) (hot : Bool) : Chan :=
  { c with hot := hot, refreshRate := if hot then highestRate else rate }

/-- A poll of a channel that runs stores what it found, and reports a channel becoming hot. -/
theorem execRefreshRatePoll_trained (rate : Nat) (hot : Bool) (hm : m < 8) (ht : (s.chan m).trained = true)
    (hr : (s.chan m).selfRefresh = false) :
    execRefreshRatePoll m rate hot s = .next (
      if hot = true ∧ (!(s.chan m).hot) = true then
        (s.setChan m ((s.chan m).polled rate hot)).post { fault := .dramHot, gsk := 72 + m }
      else s.setChan m ((s.chan m).polled rate hot)) := by
  simp only [execRefreshRatePoll, Nat.mod_eq_of_lt hm, ht, hr, Bool.not_true, Bool.false_eq_true, or_self, if_false]
  rfl

theorem execRefreshRatePoll_untrained (rate : Nat) (hot : Bool) (hm : m < 8) (ht : (s.chan m).trained = false) :
    execRefreshRatePoll m rate hot s = .next s := by
  simp only [execRefreshRatePoll, Nat.mod_eq_of_lt hm, ht, Bool.not_false, true_or, if_true]

theorem execZqCalibration_trained (hm : m < 8) (ht : (s.chan m).trained = true) (hr : (s.chan m).selfRefresh = false) :
    execZqCalibration m s = .next (s.elapse 1000) := by
  simp only [execZqCalibration, Nat.mod_eq_of_lt hm, ht, hr, Bool.not_false, and_self, if_true]

theorem execZqCalibration_untrained (hm : m < 8) (ht : (s.chan m).trained = false) :
    execZqCalibration m s = .next s := by
  simp only [execZqCalibration, Nat.mod_eq_of_lt hm, ht, Bool.false_eq_true, false_and, if_false]

theorem execMcCntClr_admitted {who : Requester} (hm : m < 8) (hg : s.regGate who .write (Reg.mcEccCtl m) true = none)
    (hw : WSet.dss.has s.ward.st = true) :
    execMcCntClr who m s = .next ((s.setReg (Reg.mcEccCnt m) 0).respond .ok 0) := by
  rw [execMcCntClr, Nat.mod_eq_of_lt hm, regCmd_admitted hg, inStates_admitted hw]

/-! #### The commands -/

theorem does_scrubVisit {a : ArrayRef} {ups : List Upset} {P : State → Prop} (h : P (s.scrubVisit ups a)) :
    Does (.scrubVisit a ups) s P := ⟨_, rfl, h⟩

theorem does_ceRate {P : State → Prop} (hm : m < 8) (h : P (s.ceRate m)) : Does (.ceRate m) s P :=
  ⟨_, rfl, (Nat.mod_eq_of_lt hm).symm ▸ h⟩

/-- A visit of a tile's array: the next word's position is stored, the upsets of the visit strike, and the word is treated by
the state in which the scrubber finds it. -/
theorem scrubVisit_tile_does {k g : Nat} (ups : List Upset) (hk : k < 64) (h : s.sramScrubs k = true)
    (hg : (s.tram k).scrubAt = g) :
    let u := tileBase k + 8 * g
    let v := s.setTram k { s.tram k with scrubAt := (g + 1) % 0x40000 }
    let w := v.applyUpsets (.tsram k) [u] ups
    (w.unitState (.tsram k) u false = .clean → Does (.scrubVisit (.tile k) ups) s fun t => t = w) ∧
    (∀ b, w.unitState (.tsram k) u false = .correctable b → Does (.scrubVisit (.tile k) ups) s fun t =>
      t = (w.logEvent (.tsram k) u 0xF .ce).correctUnit (.tsram k) u b ∧ t.syndOf u = 0) ∧
    (w.unitState (.tsram k) u false = .uncorrectable → Does (.scrubVisit (.tile k) ups) s fun t =>
      t = (w.logEvent (.tsram k) u 0xF .ue).poisonUnit (.tsram k) u) := by
  intro u v w
  have hvisit : s.scrubVisit ups (.tile k) = w.scrubUnit (.tsram k) u false := by
    rw [scrubVisit_tile ups hk h, hg]
  refine ⟨fun hc => does_scrubVisit ?_, fun b hc => does_scrubVisit ?_, fun hc => does_scrubVisit ?_⟩
  · rw [hvisit, scrubUnit_of_clean hc]
  · rw [hvisit, scrubUnit_of_correctable hc]
    exact ⟨rfl, syndOf_correctUnit_tsram ..⟩
  · rw [hvisit, scrubUnit_of_uncorrectable hc]
    rfl

theorem scrubVisit_dram_does (ups : List Upset) (hm : m < 8) (ht : (s.chan m).trained = true)
    (hr : (s.chan m).selfRefresh = false) (hu : s.usable ≠ 0) :
    Does (.scrubVisit (.dram m) ups) s fun t =>
      (t.chan m).scrubAt = ((s.chan m).scrubAt + 1) % ((s.chan m).rawCh * 0x100000) ∧ t.upNs = s.upNs :=
  does_scrubVisit (Prod.mk.inj (patrol_scrubVisit_dram ups hm ht hr hu))

theorem refreshRatePoll_does (rate : Nat) (hot : Bool) (hm : m < 8) (ht : (s.chan m).trained = true)
    (hr : (s.chan m).selfRefresh = false) :
    Does (.refreshRatePoll m rate hot) s fun t =>
      t.chan m = { s.chan m with hot := hot, refreshRate := if hot then highestRate else rate } ∧
      t.safe.reports = s.safe.reports ++ (if hot && !(s.chan m).hot then [{ fault := .dramHot, gsk := 72 + m }] else []) ∧
      t.regs = s.regs ∧ t.mem = s.mem := by
  have hchan : (s.setChan m ((s.chan m).polled rate hot)).chan m = (s.chan m).polled rate hot := by
    rw [chan_setChan, if_pos rfl]
  refine ⟨_, execRefreshRatePoll_trained rate hot hm ht hr, ?_⟩
  by_cases hnew : hot = true ∧ (!(s.chan m).hot) = true
  · rw [if_pos hnew, if_pos (Bool.and_eq_true_iff.mpr hnew)]
    exact ⟨hchan, rfl, rfl, rfl⟩
  · rw [if_neg hnew, if_neg (hnew ∘ Bool.and_eq_true_iff.mp), List.append_nil]
    exact ⟨hchan, rfl, rfl, rfl⟩

theorem mcCntClr_does {who : Requester} (hm : m < 8) (hg : s.regGate who .write (Reg.mcEccCtl m) true = none)
    (hw : WSet.dss.has s.ward.st = true) :
    Does (.mcCntClr who m) s fun t =>
      t.reg (Reg.mcEccCnt m) = 0 ∧ RegsBut s t [Reg.mcEccCnt m] ∧ t.resp = .ok ∧ t.mem = s.mem := by
  refine ⟨_, execMcCntClr_admitted hm hg hw, ?_, fun k hk => ?_, rfl, rfl⟩
  · rw [reg_respond, reg_setReg_same]
  · rw [reg_respond, reg_setReg_other s 0 (List.ne_of_not_mem_cons hk)]

/-- Settles O46: the scrubber unit by unit, with its position and the clock kept by all it does to DRAM units; the reports,
polls, calibration and clear by their equations. -/
theorem arraysScrubCountAndRefresh : Obligations.ArraysScrubCountAndRefresh := by
  intro s who k g m rate hot ups
  refine ⟨scrubVisit_tile_does ups, fun hk h => ?_, fun hk h => ?_, ?_, fun hk h => ?_, scrubVisit_dram_does ups,
    fun hm => ⟨fun hn hr => ?_, fun h => ?_⟩, fun hm ht hr => ⟨?_, ?_⟩, fun hm ht => ⟨?_, ?_⟩, mcCntClr_does⟩
  · exact does_scrubVisit (scrubVisit_tile_idle ups hk h)
  · exact does_scrubVisit (scrubVisit_commons_idle ups hk h)
  · exact does_scrubVisit scrubVisit_warden_undisturbed
  · exact does_scrubVisit (scrubVisit_dram_untrained ups hk h)
  · refine does_ceRate hm ?_
    rw [ceRate_exceeded hn hr]
    exact ⟨(chan_setChan ..).trans (if_pos rfl), rfl, rfl⟩
  · exact does_ceRate hm (ceRate_quiet h)
  · exact refreshRatePoll_does rate hot hm ht hr
  · exact ⟨_, execZqCalibration_trained hm ht hr, rfl⟩
  · exact ⟨_, execRefreshRatePoll_untrained rate hot hm ht, rfl⟩
  · exact ⟨_, execZqCalibration_untrained hm ht, rfl⟩

end Sys2Proof.Machine

/-! ### A step with a command waiting

The queue of pending commands is the model's own (log 6, 15). -/

namespace Sys2Proof.Machine

/-- The equation of `step` for a queue that holds a command; the front leaves the queue before the command runs, so that
its meaning sees and answers the rest. -/
theorem step_of_pending_cons {s : State} {c : Instr} {rest : List Instr} (h : s.pending = c :: rest) :
    step s = exec c { s with pending := rest } := by
  rw [step, h]

/-- Settles O1: the equation of a waiting command, at a state whose queue is written `c :: rest`; the second update of the
queue replaces the first. -/
theorem stepRunsFront : Obligations.StepRunsFront := by
  intro c rest s
  have hfront : ({ s with pending := c :: rest } : State).pending = c :: rest := rfl
  exact step_of_pending_cons hfront

end Sys2Proof.Machine
